-- ==== Sys2Proof/Word.lean ====
section
/-!
DEFINITION. The word types of the AKW1024 and their plainest arithmetic (R11, R18).
-/
namespace Sys2Proof

/-- One byte of any memory of the part. -/
abbrev Byte := BitVec 8
/-- A 32-bit word: registers, instruction words, payload words (R181, R209). -/
abbrev Word := BitVec 32
/-- A 64-bit quantity: tick numbers, stamps, counters of signed files (R53, R70). -/
abbrev DWord := BitVec 64
/-- A pane number, y * 32 + x (R20). -/
abbrev PaneNo := BitVec 10
/-- A general register number g0 to g31 (R181). -/
abbrev RegNo := BitVec 5
/-- A 72-bit accumulator (R188). -/
abbrev Acc := BitVec 72

/-- The bit field [lo + n - 1 : lo] of a number (R11). -/
def bitsOf (v lo n : Nat) : Nat := v / 2 ^ lo % 2 ^ n

/-- The bit field [lo + n - 1 : lo] of a word, as a number. -/
def Word.fld (w : Word) (lo n : Nat) : Nat := bitsOf w.toNat lo n

/-- Bit `i` of a word. -/
def Word.bit (w : Word) (i : Nat) : Bool := w.getLsbD i

/-- `w` with the field [lo + n - 1 : lo] replaced by the low `n` bits of `v`. -/
def Word.withFld (w : Word) (lo n v : Nat) : Word :=
  BitVec.ofNat 32 (w.toNat - bitsOf w.toNat lo n * 2 ^ lo + v % 2 ^ n * 2 ^ lo)

/-- `w` with bit `i` set to `b`. -/
def Word.withBit (w : Word) (i : Nat) (b : Bool) : Word :=
  Word.withFld w i 1 (if b then 1 else 0)

/-- sext(v, n) of the pseudocode helpers: `v` as an n-bit two's-complement number, in 32 bits. -/
def sextTo32 {n : Nat} (v : BitVec n) : Word := v.signExtend 32

/-- zext(v, n) of the pseudocode helpers. -/
def zextTo32 {n : Nat} (v : BitVec n) : Word := v.zeroExtend 32

/-- The four bytes of a word, little-endian (R11). -/
def Word.bytes (w : Word) : List Byte :=
  [BitVec.ofNat 8 w.toNat, BitVec.ofNat 8 (w.toNat / 256),
   BitVec.ofNat 8 (w.toNat / 65536), BitVec.ofNat 8 (w.toNat / 16777216)]

/-- The number a little-endian byte list spells (R11). -/
def leNat : List Byte → Nat
  | [] => 0
  | b :: r => b.toNat + 256 * leNat r

/-- The low `n` bytes of a number, little-endian. -/
def leBytes : Nat → Nat → List Byte
  | 0, _ => []
  | n + 1, v => BitVec.ofNat 8 v :: leBytes n (v / 256)

/-- A big-endian spelling, for the fields whose published standard fixes that order (R11). -/
def beBytes (n v : Nat) : List Byte := (leBytes n v).reverse

/-- The number a big-endian byte list spells. -/
def beNat (l : List Byte) : Nat := leNat l.reverse

/-- Saturating increment of an n-bit counter by `k`. -/
def satAdd (n : Nat) (v k : Nat) : Nat := min (v + k) (2 ^ n - 1)

/-- Two's complement reading of a 32-bit saturated integer. -/
def satInt32 (x : Int) : Word :=
  if x > 2147483647 then 0x7FFFFFFF#32
  else if x < -2147483648 then 0x80000000#32
  else BitVec.ofInt 32 x

end Sys2Proof
end

