-- ==== Sys2Proof/Config.lean ====
section
/-!
DEFINITION. What one implementation fixes: the addresses of the register blocks, and the values the spec leaves open.
-/
namespace Sys2Proof.Config

/-! Register blocks of the device management region. -/

/-- IDENT (R504). -/
def ident : Nat := 0xF0000000
/-- START (R443). -/
def start : Nat := 0xF0002000
/-- TRANSOM (R85). -/
def transom : Nat := 0xF0004000
/-- BOLT (R390). -/
def bolt : Nat := 0xF0006000
/-- BELL of sash s (R318). -/
def bell (s : Nat) : Nat := 0xF0010000 + 0x200 * s
/-- PWR (R580). -/
def pwr : Nat := 0xF00A0000
/-- FAULT (R587). -/
def fault : Nat := 0xF00B0000
/-- CROSS (R640). -/
def cross : Nat := 0xF00D0000
/-- SIP group g (R354). -/
def sip (g : Nat) : Nat := 0xF0020000 + 0x400 * g
/-- DOP group g (R355). -/
def dop (g : Nat) : Nat := 0xF0024000 + 0x800 * g
/-- The distribution engine of bay b (R356). -/
def dist (b : Nat) : Nat := 0xF0030000 + 0x1000 * b
/-- BAY b (R415). -/
def bay (b : Nat) : Nat := 0xF0040000 + 0x1000 * b
/-- DRAM (R416). -/
def dram : Nat := 0xF0050000
/-- LOGSTORE (R506). -/
def logstore : Nat := 0xF0070000
/-- NET port q (R528). -/
def net (q : Nat) : Nat := 0xF0080000 + 0x1000 * q
/-- KNOCK (R529). -/
def knock : Nat := 0xF0082000
/-- SELFTEST (R622). -/
def selftest : Nat := 0xF00C0000
/-- WICKET link k (R554). -/
def wicket (k : Nat) : Nat := 0xF0090000 + 0x100 * k
/-- BOARD (R555). -/
def board : Nat := 0xF0090800
/-- The latch aperture of pane n (R597). -/
def aperture (n : Nat) : Nat := 0xF8000000 + 0x1000 * n

/-! Free values: nothing in the model says what they are. -/

/-- Time from the root close to the close at a pane, within the bound of R56. -/
opaque closeSkewRaw : Nat → Nat → Nat
/-- The close of pane `p` at the n-th draw comes this many ns after the root close: at most 120 (R56). -/
def closeSkew (p n : Nat) : Nat := closeSkewRaw p n % 121

/-- The image-signing public key whose SHA-256 is given (R426): OTP holds the hash, and the spec does not say where the key itself
stands (log 26). -/
opaque imageKey : List Byte → List Byte
/-- The Holidane device CA: its Name in DER, and its key in the lintel's ROM (R478, R536, R609; log 26). -/
opaque caName : List Byte
opaque caKey : List Byte
/-- The Holidane return key in the lintel's ROM (R611; log 26). -/
opaque returnKey : List Byte

/-- The IDCODE of the part (IEEE 1149.1), which the spec does not give. -/
opaque idcode : Word

/-- A free word, for the n-th value the spec leaves open. -/
opaque freeWord : Nat → Word
/-- A free number. -/
opaque freeNat : Nat → Nat
/-- CLK_OK of group g when no frame has started within the last microsecond (R354), by the counter of free values. -/
opaque clkOk : Nat → Nat → Bool
/-- WHEEL_WORST as the controller measures it (R416), by the counter. -/
opaque wheelWorst : Nat → Nat
/-- What stands for the public key in the start block of pane p when OTP holds no pane secret (R490), by the counter. -/
opaque noKey : Nat → Nat → List Byte

end Sys2Proof.Config
end

