-- ==== Sys2Proof/Machine/Crypto.lean ====
section
/-!
DEFINITION. The published algorithms the spec names: SHA-256 (FIPS 180-4), HMAC and HKDF over it (RFC 2104, RFC 5869),
and CRC-32C. The curves and the cipher stand in Curve.lean and Aes.lean.
-/
namespace Sys2Proof.Machine

/-! CRC-32C (R260, R405, R445). -/

/-- `n` steps of the reflected CRC-32C register. -/
def crcSteps : Nat → Word → Word
  | 0, c => c
  | n + 1, c => crcSteps n (if c.bit 0 then (c >>> 1) ^^^ 0x82F63B78#32 else c >>> 1)

/-- The register after one byte. -/
def crcByte (c : Word) (b : Byte) : Word := crcSteps 8 (c ^^^ b.setWidth 32)

/-- The register after some bytes (R260). -/
def crc32cReg (c : Word) (l : List Byte) : Word := l.foldl crcByte c

/-- The CRC-32C of a message: from all ones, complemented (R260). -/
def crc32c (l : List Byte) : Word := ~~~(crc32cReg 0xFFFFFFFF#32 l)

/-! SHA-256. -/

/-- The round constants. -/
def shaK : List Nat :=
  [0x428A2F98, 0x71374491, 0xB5C0FBCF, 0xE9B5DBA5, 0x3956C25B, 0x59F111F1, 0x923F82A4, 0xAB1C5ED5,
   0xD807AA98, 0x12835B01, 0x243185BE, 0x550C7DC3, 0x72BE5D74, 0x80DEB1FE, 0x9BDC06A7, 0xC19BF174,
   0xE49B69C1, 0xEFBE4786, 0x0FC19DC6, 0x240CA1CC, 0x2DE92C6F, 0x4A7484AA, 0x5CB0A9DC, 0x76F988DA,
   0x983E5152, 0xA831C66D, 0xB00327C8, 0xBF597FC7, 0xC6E00BF3, 0xD5A79147, 0x06CA6351, 0x14292967,
   0x27B70A85, 0x2E1B2138, 0x4D2C6DFC, 0x53380D13, 0x650A7354, 0x766A0ABB, 0x81C2C92E, 0x92722C85,
   0xA2BFE8A1, 0xA81A664B, 0xC24B8B70, 0xC76C51A3, 0xD192E819, 0xD6990624, 0xF40E3585, 0x106AA070,
   0x19A4C116, 0x1E376C08, 0x2748774C, 0x34B0BCB5, 0x391C0CB3, 0x4ED8AA4A, 0x5B9CCA4F, 0x682E6FF3,
   0x748F82EE, 0x78A5636F, 0x84C87814, 0x8CC70208, 0x90BEFFFA, 0xA4506CEB, 0xBEF9A3F7, 0xC67178F2]

/-- The initial hash value. -/
def shaH0 : List Word :=
  [0x6A09E667#32, 0xBB67AE85#32, 0x3C6EF372#32, 0xA54FF53A#32,
   0x510E527F#32, 0x9B05688C#32, 0x1F83D9AB#32, 0x5BE0CD19#32]

/-- The schedule: `n` further words after those given, newest first. -/
def shaExtend : Nat → List Word → List Word
  | 0, l => l
  | n + 1, l =>
    let w15 := l.getD 14 0
    let w2 := l.getD 1 0
    let s0 := w15.rotateRight 7 ^^^ w15.rotateRight 18 ^^^ (w15 >>> 3)
    let s1 := w2.rotateRight 17 ^^^ w2.rotateRight 19 ^^^ (w2 >>> 10)
    shaExtend n ((l.getD 15 0 + s0 + l.getD 6 0 + s1) :: l)

/-- One round on (a, b, c, d, e, f, g, h). -/
def shaRound (v : List Word) (kw : Word) : List Word :=
  match v with
  | [a, b, c, d, e, f, g, h] =>
    let s1 := e.rotateRight 6 ^^^ e.rotateRight 11 ^^^ e.rotateRight 25
    let t1 := h + s1 + ((e &&& f) ^^^ (~~~e &&& g)) + kw
    let s0 := a.rotateRight 2 ^^^ a.rotateRight 13 ^^^ a.rotateRight 22
    [t1 + s0 + ((a &&& b) ^^^ (a &&& c) ^^^ (b &&& c)), a, b, c, d + t1, e, f, g]
  | _ => v

/-- The words of a byte string, big-endian. -/
def beWords : Nat → List Byte → List Word
  | 0, _ => []
  | n + 1, l => BitVec.ofNat 32 (beNat (l.take 4)) :: beWords n (l.drop 4)

/-- Compress one block of 64 bytes. -/
def shaBlock (h : List Word) (blk : List Byte) : List Word :=
  let ws := (shaExtend 48 (beWords 16 blk).reverse).reverse
  let v := (List.zipWith (fun w k => w + BitVec.ofNat 32 k) ws shaK).foldl shaRound h
  List.zipWith (· + ·) h v

/-- Compress `n` blocks. -/
def shaBlocks : Nat → List Word → List Byte → List Word
  | 0, h, _ => h
  | n + 1, h, l => shaBlocks n (shaBlock h (l.take 64)) (l.drop 64)

/-- SHA-256 of a byte string, 32 bytes. -/
def sha256 (l : List Byte) : List Byte :=
  let n := l.length
  let z := (119 - n % 64) % 64
  let m := l ++ [0x80#8] ++ List.replicate z 0#8 ++ beBytes 8 (8 * n)
  (shaBlocks (m.length / 64) shaH0 m).flatMap (fun w => beBytes 4 w.toNat)

/-- HMAC-SHA-256 with a key of at most 64 bytes. -/
def hmac (key msg : List Byte) : List Byte :=
  let k := key ++ List.replicate (64 - key.length) 0#8
  sha256 (k.map (· ^^^ 0x5C#8) ++ sha256 (k.map (· ^^^ 0x36#8) ++ msg))

/-- HKDF-SHA-256 with a 32-byte output. -/
def hkdf32 (salt ikm info : List Byte) : List Byte := hmac (hmac salt ikm) (info ++ [1#8])

/-- An ASCII tag, from its character codes. -/
def ascii (l : List Nat) : List Byte := l.map (BitVec.ofNat 8)

/-- "AKWPANE1" (R484). -/
def tagPane : List Byte := ascii [65, 75, 87, 80, 65, 78, 69, 49]
/-- "AKWSEAL1" (R492). -/
def tagSeal : List Byte := ascii [65, 75, 87, 83, 69, 65, 76, 49]
/-- "AKW1024-PANE" (R480). -/
def tagKdf : List Byte := ascii [65, 75, 87, 49, 48, 50, 52, 45, 80, 65, 78, 69]
/-- "AKWRETN1" and "AKWSCRP1" (R611). -/
def tagReturn : List Byte := ascii [65, 75, 87, 82, 69, 84, 78, 49]
def tagScrap : List Byte := ascii [65, 75, 87, 83, 67, 82, 80, 49]

/-- "AKWKNOCK" (R521), "AKWKRPL1" (R525), "AKWANNC1" (R519) and "AKW1024-STREAM" (R518). -/
def tagKnock : List Byte := ascii [65, 75, 87, 75, 78, 79, 67, 75]
def tagReply : List Byte := ascii [65, 75, 87, 75, 82, 80, 76, 49]
def tagAnnounce : List Byte := ascii [65, 75, 87, 65, 78, 78, 67, 49]
def tagStream : List Byte := ascii [65, 75, 87, 49, 48, 50, 52, 45, 83, 84, 82, 69, 65, 77]

/-- The first `n` bytes, padded with zeros. -/
def fitBytes (n : Nat) (l : List Byte) : List Byte := l.take n ++ List.replicate (n - l.length) 0#8

end Sys2Proof.Machine
end

