-- ==== Sys2Proof/Machine/Map.lean ====
section
/-!
DEFINITION. Sparse maps as sorted lists of (key, value) pairs: the one representation of every memory, register
file and table of the model. A memory is kept in canonical form: keys strictly rising, and no entry equal to what
an unlisted key reads as.
-/
namespace Sys2Proof.Machine

/-- A sparse map: keys strictly rising. -/
abbrev SMap (α : Type) := List (Nat × α)

/-- The entry at a key, if listed. -/
def SMap.at? {α : Type} : SMap α → Nat → Option α
  | [], _ => none
  | (k, v) :: r, a => if k = a then some v else SMap.at? r a

/-- The value at a key; `d a` where the key is unlisted. -/
def SMap.get {α : Type} (d : Nat → α) (m : SMap α) (a : Nat) : α := (SMap.at? m a).getD (d a)

/-- Insert or replace an entry, keeping the keys rising. -/
def SMap.put {α : Type} : SMap α → Nat → α → SMap α
  | [], a, v => [(a, v)]
  | (k, x) :: r, a, v =>
    if a < k then (a, v) :: (k, x) :: r
    else if a = k then (a, v) :: r
    else (k, x) :: SMap.put r a v

/-- Remove the entry at a key, and a second one of the same key where a list that is not in order holds one. -/
def SMap.del {α : Type} : SMap α → Nat → SMap α
  | [], _ => []
  | (k, x) :: r, a => if k = a then SMap.del r a else (k, x) :: SMap.del r a

/-- Write a value, keeping the canonical form: writing what an unlisted key reads as removes the entry. -/
def SMap.set {α : Type} [DecidableEq α] (d : Nat → α) (m : SMap α) (a : Nat) (v : α) : SMap α :=
  if v = d a then SMap.del m a else SMap.put m a v

/-- Every key of the list lies above `a`. -/
def SMap.above {α : Type} (a : Nat) : SMap α → Bool
  | [] => true
  | (k, _) :: r => decide (a < k) && SMap.above a r

/-- The keys rise strictly. -/
def SMap.sorted {α : Type} : SMap α → Bool
  | [] => true
  | (k, _) :: r => SMap.above k r && SMap.sorted r

/-- No entry equals what its key reads as unlisted. -/
def SMap.proper {α : Type} [DecidableEq α] (d : Nat → α) : SMap α → Bool
  | [] => true
  | (k, v) :: r => decide (v ≠ d k) && SMap.proper d r

/-- The canonical form of a memory. -/
def SMap.wf {α : Type} [DecidableEq α] (d : Nat → α) (m : SMap α) : Bool :=
  SMap.sorted m && SMap.proper d m

/-- Keep the entries whose key satisfies `f`. -/
def SMap.keep {α : Type} (f : Nat → Bool) (m : SMap α) : SMap α := m.filter (fun e => f e.1)

/-- Apply `f` to every listed value. -/
def SMap.mapVal {α : Type} (f : Nat → α → α) : SMap α → SMap α
  | [] => []
  | (k, v) :: r => (k, f k v) :: SMap.mapVal f r

/-- The listed keys, rising. -/
def SMap.keys {α : Type} (m : SMap α) : List Nat := m.map Prod.fst

/-! Byte memories: an unlisted byte reads as 0. -/

/-- What an unlisted byte of a memory reads as. DESIGN CHOICE (log 3): the spec states no power-on contents
of the pane SRAM, the bay buffers or the DRAM. -/
def zeroByte : Nat → BitVec 8 := fun _ => 0

/-- A memory of bytes. -/
abbrev Memory := SMap (BitVec 8)

/-- Read one byte. -/
def Memory.read (m : Memory) (a : Nat) : BitVec 8 := SMap.get zeroByte m a

/-- Write one byte. -/
def Memory.write (m : Memory) (a : Nat) (v : BitVec 8) : Memory := SMap.set zeroByte m a v

/-- The canonical form. -/
def Memory.wf (m : Memory) : Bool := SMap.wf zeroByte m

/-- Read `n` bytes upward from `a`. -/
def Memory.readBytes (m : Memory) (a : Nat) : Nat → List (BitVec 8)
  | 0 => []
  | n + 1 => Memory.read m a :: Memory.readBytes m (a + 1) n

/-- Write bytes upward from `a`. -/
def Memory.writeBytes (m : Memory) (a : Nat) : List (BitVec 8) → Memory
  | [] => m
  | b :: r => Memory.writeBytes (Memory.write m a b) (a + 1) r

/-! Register files: an unlisted register reads as what `d` says. -/

/-- A file of 32-bit registers keyed by offset. -/
abbrev RegFile := SMap (BitVec 32)

/-- Read a register. -/
def RegFile.rd (d : Nat → BitVec 32) (m : RegFile) (a : Nat) : BitVec 32 := SMap.get d m a

/-- Write a register. -/
def RegFile.wr (d : Nat → BitVec 32) (m : RegFile) (a : Nat) (v : BitVec 32) : RegFile := SMap.set d m a v

end Sys2Proof.Machine
end

