-- ==== Sys2Proof/Machine/PaneState.lean ====
section
/-!
DEFINITION. The state of one pane and of the messages of the mesh (R59 to R65, R95 to R104, R148 to R157,
R181 to R202, R268 to R293, R319).
-/
namespace Sys2Proof.Machine

/-- A save frame slot (R270, R271). -/
structure Frame where
  /-- EPC: the return address. -/
  epc : Word
  /-- ESTATUS: STATUS at the entry. -/
  estatus : Word
  /-- ESP: g30 at the entry. -/
  esp : Word
  /-- ECAUSE (R272). -/
  ecause : Word
  /-- EADDR (R286). -/
  eaddr : Word
  deriving DecidableEq, Repr

/-- One store-buffer entry: an aligned access of 1, 2, 4 or 8 bytes (R152). `split` marks a part of a split store
(R153). -/
structure SbEntry where
  addr : Nat
  size : Nat
  data : Nat
  split : Bool
  /-- A window store issued before the most recent RTG (R272, DF). -/
  df : Bool := false
  deriving DecidableEq, Repr

/-- How a window read stands (R149, R150). -/
inductive WStatus where
  /-- The request is outstanding. -/
  | waiting
  /-- It returned an uncorrectable error (memory-error cause 2). -/
  | uncorrectable
  /-- The window refused it (memory-error cause 3, R402). -/
  | refused
  deriving DecidableEq, Repr

/-- A window read. -/
structure WRead where
  addr : Nat
  size : Nat
  /-- The destination; none when a younger instruction has written it since. -/
  dest : Option RegNo
  /-- The second register of a pair (LWP). -/
  dest2 : Option RegNo
  /-- Sign extension of a byte or halfword load. -/
  signed : Bool
  status : WStatus
  /-- Issued before the most recent RTG (R272, DF). -/
  df : Bool
  /-- The byte offset in the bay buffer or in DRAM (R391, R401). -/
  off : Nat
  deriving DecidableEq, Repr

/-- A window store that has left the store buffer and is neither accepted nor refused (R151, R402). -/
structure WStore where
  addr : Nat
  size : Nat
  data : Nat
  df : Bool
  /-- The store's tick tag (R406). -/
  tag : Nat
  /-- The byte offset in the bay buffer or in DRAM (R391, R401). -/
  off : Nat
  deriving DecidableEq, Repr

/-- A refused window store that no memory-error trap has reported yet (R285, R402). -/
structure Refused where
  addr : Nat
  df : Bool
  deriving DecidableEq, Repr

/-- What a pane is doing. -/
inductive Phase where
  /-- No task opened: the pane issues nothing. -/
  | idle
  /-- Issuing instructions. -/
  | run
  /-- A FENCE waits (R156). -/
  | fence
  /-- A WAITT waits for R63 and R156. -/
  | waitt
  /-- A WAITT waits for R63 and R156 that issued after the tag had advanced and before the open of that tick: in a handler of
  a WAITT stall (R250). -/
  | waittIn
  /-- Stalled in WAITT until the open (R73). -/
  | stall
  /-- An EVWAIT waits for a record (R263). -/
  | evwait
  /-- Halted (R292). -/
  | halted
  deriving DecidableEq, Repr

/-- A trap raised and not yet entered (R146, R273, R286). -/
structure Trap where
  /-- The trap number, which is its descriptor number (R267). -/
  num : Nat
  cause : Nat
  index : Nat
  eaddr : Word
  fe : Bool
  wr : Bool
  df : Bool
  /-- The trapping instruction is at lek of an active level (R288). -/
  le : Bool
  /-- The EPC to save, and whether the entry falls in a WAITT stall (R276, R281). -/
  epc : Word
  stll : Bool
  deriving DecidableEq, Repr

/-- A post or contribution sent and not acknowledged (R63): the model's message number and the tick tag. -/
structure Unacked where
  id : Nat
  tag : Nat
  deriving DecidableEq, Repr

/-- The ECC state of one 32-bit word of a SECDED memory (R168, R169). -/
inductive EccMark where
  | clean
  /-- A single-bit error: corrected on every read. -/
  | correctable
  /-- An uncorrectable error. -/
  | uncorrectable
  deriving DecidableEq, Repr

/-- One back half of a channel (R101): the posts landed for the current tick. -/
structure BackHalf where
  /-- Slot index to word. -/
  words : SMap Word
  /-- Posts landed, which COUNT takes at the commit. -/
  count : Nat
  poison : Bool
  deriving DecidableEq, Repr

/-- The running record of one incoming channel. -/
structure ChanState where
  /-- The back halves of the primary, the twin and the third copy. -/
  back : BackHalf
  backTwin : BackHalf
  backThird : BackHalf
  /-- A post was discarded as late since the previous commit (R67, LATE). -/
  late : Bool
  deriving DecidableEq, Repr

/-- The kinds of message (R96, KIND). -/
inductive MsgKind where
  | post
  | drivePost
  | reduce
  | ack
  deriving DecidableEq, Repr

/-- A message on the mesh (R96, R97). `id` and `tick` are the model's own: the number by which an acknowledgement
finds its post, and the sender's tick tag in full. -/
structure Msg where
  kind : MsgKind
  /-- SUB of an acknowledgement: 0 accepted, 1 discarded late, 2 misrouted. -/
  sub : Nat
  vn : Bool
  dev : Nat
  /-- PANE: the receiving pane, the drive slot and entry, or the group's root. -/
  dest : Nat
  /-- CHAN: the channel, or the group. -/
  chan : Nat
  /-- INDEX: the slot of the first word, or the contributor's rank. -/
  index : Nat
  srcDev : Nat
  srcPane : Nat
  /-- TAG: the low 8 bits of the tick's ordinal in the channel's class. -/
  tag : Nat
  words : List Word
  /-- A poison tag on each word (R93). -/
  poison : List Bool
  id : Nat
  tick : Nat
  /-- The message waits in a relay buffer (R127): the relay's pane. -/
  relay : Option Nat
  /-- The router at which the leg under way starts, where that is not the sending pane's: a relay, or the entry router of a
  wicket link (R126, R542). -/
  start : Option Nat := none
  deriving DecidableEq, Repr

/-- KIND (R96). -/
def MsgKind.code : MsgKind → Nat
  | .post => 0
  | .drivePost => 1
  | .reduce => 2
  | .ack => 3

/-- LEN - 1 of a message (R96): 0 for a contribution and an acknowledgement. -/
def Msg.len (m : Msg) : Nat :=
  match m.kind with
  | .post | .drivePost => m.words.length - 1
  | .reduce | .ack => 0

/-- The header flit (R96). Bit 42 is reserved and 0. -/
def Msg.header (m : Msg) : DWord :=
  BitVec.ofNat 64 ((if m.kind = .ack then m.sub % 16 else 0) + m.kind.code * 2 ^ 4 + m.vn.toNat * 2 ^ 6 + m.dev % 8 * 2 ^ 7
    + m.dest % 1024 * 2 ^ 10 + m.chan % 64 * 2 ^ 20 + m.len % 64 * 2 ^ 26 + m.index % 1024 * 2 ^ 32 + m.srcDev % 8 * 2 ^ 43
    + m.srcPane % 1024 * 2 ^ 46 + m.tag % 256 * 2 ^ 56)

/-- Payload flits: two words each, the earlier slot in the lower word (R90, R97). -/
def payloadFlits : List Word → List DWord
  | [] => []
  | [a] => [a.setWidth 64]
  | a :: b :: r => (b ++ a) :: payloadFlits r

/-- The flits of a message (R97). -/
def Msg.flits (m : Msg) : List DWord := m.header :: payloadFlits m.words

/-- The link flit errors met by a message on its way (R93). -/
inductive FlitErr where
  | none
  /-- A single-bit error, corrected and counted at a router. -/
  | corrected (router : PaneNo)
  /-- A double-bit error in the payload flit that carries words 2k and 2k + 1. -/
  | payload (router : PaneNo) (k : Nat)
  /-- A double-bit error in the header: the message is dropped. -/
  | header (router : PaneNo)
  /-- Errors on more than one link, in the order of the way. -/
  | andThen (first rest : FlitErr)
  deriving DecidableEq, Repr

/-- The lane whose frame a distribution engine writes, with the flit errors that the message of a stream meets, by stream (R93, R334). -/
structure LaneFeed where
  lane : BitVec 6
  errs : List (Nat × FlitErr)
  deriving DecidableEq, Repr

/-- Where an arriving message comes from. -/
inductive MsgFrom where
  /-- The k-th message in flight on this part's mesh. -/
  | mesh (k : Nat)
  /-- A message of another part, brought by a wicket link. -/
  | wicket (m : Msg)
  deriving DecidableEq, Repr

/-- One entry of a pane's priority stack (R308, R319): the slot of the claimed record, its priority and FDEPTH at the
claim. -/
structure StackRec where
  slot : Nat
  prio : Nat
  depth : Nat
  deriving DecidableEq, Repr

/-- A publication for a result mailbox (R602). -/
structure Pub where
  mailbox : Nat
  words : List Word
  tag : Nat
  deriving DecidableEq, Repr

/-- One Nirmon pane with its latch-side records. Registers reached through the pane control region are in `ctl`,
keyed by their offset from 0x0001_0000, except the live views STATE.STALLED, OPS, EVQ_PTR, EVQ_STATUS, STACK and
EVQ_LIVE, which are computed from the fields here. -/
structure Pane where
  phase : Phase
  /-- Address of the next instruction; during a WAITT stall, the instruction after the WAITT. -/
  pc : Word
  /-- g0 to g31; g0 is held 0 and read through `Pane.gr` (R182). -/
  g : Vector Word 32
  lr : Word
  /-- p0 to p7; bit 0 is held 1 (R185). -/
  pred : BitVec 8
  acc0 : Acc
  acc1 : Acc
  /-- lb0 to lb2, le0 to le2, lc0 to lc2 (R190). -/
  lb : Vector Word 3
  le : Vector Word 3
  lc : Vector Word 3
  status : Word
  frames : Vector Frame 4
  /-- FDEPTH, 0 to 4 (R270). -/
  fdepth : Nat
  /-- 64 KiB: local SRAM 0x0000 to 0xDFFF, front inbox 0xE000 to 0xEFFF, back inbox 0xF000 to 0xFFFF. -/
  sram : Memory
  /-- ECC state per word index (R168). -/
  ecc : SMap EccMark
  /-- Words corrected on a read, to be rewritten at the next WAITT stall (R168). -/
  rewrite : List Nat
  /-- Next word of the scrub walk (R171). -/
  scrubPos : Nat
  ctl : RegFile
  sb : List SbEntry
  wreads : List WRead
  wstores : List WStore
  /-- Refused window stores, oldest first (R402). -/
  wrefused : List Refused
  /-- A load waits in the memory stage on a partial overlap, and FWD_WAITS has counted it (R154). -/
  loadWaits : Bool
  /-- A trap or an event entry that has begun and waits for the window accesses to settle (R151, R280). -/
  entry : Option Trap
  /-- WAITT has retired and the open of the tick that the tag names has not released the pane (R73, R281): it stalls, or runs a
  handler of the stall. -/
  awaits : Bool
  /-- The tick tag: the number of the first T0 tick of the tick whose work is being done (R59, R69). -/
  tag : Nat
  /-- The tick stamp of that tick's open (R70). -/
  tks : Nat
  unacked : List Unacked
  /-- REDUCE contributions sent: group and the tag's ordinal in the group's class (R247, check 3). -/
  reduced : List (Nat × Nat)
  /-- Time of the last WAITT retirement (R75). -/
  retireT : Nat
  /-- Close of the boundary at which the pane overran, while its WAITT has not retired since (R75). -/
  overClose : Option Nat
  /-- Tick number of the boundary of the last overrun (R87). -/
  lastOver : Nat
  /-- An uncorrectable error or a halt was reported in the current tick of class k: bit k (R77, R79). -/
  faulty : BitVec 4
  /-- A descriptor of a mover it owns is late at the coming boundary (R411). -/
  mvLate : Bool
  /-- The channel records, by channel number. -/
  chan : SMap ChanState
  /-- Event queue: write index, records between CLAIM and WR, records between FREE and WR, completed slots that wait
  for an older one, SEQ, and the priority stack, top first (R305 to R310). -/
  evWr : Nat
  evUnclaimed : Nat
  evUsed : Nat
  evDone : List Nat
  evSeq : Nat
  evStack : List StackRec
  /-- Smallest slack taken since the last governor boundary (R573). -/
  minSlack : Option Int
  /-- The publications that no commit has judged: mailbox, words and tick tag, one of each tag (R602). -/
  pubs : List Pub
  /-- Corrected SRAM and flit errors since reset, as the lintel's poll of the latch counters sees them (R582). -/
  ceTotal : Nat
  /-- Uncorrectable SRAM errors since the last reset release (R584). -/
  ueTotal : Nat
  deriving DecidableEq, Repr

/-- A frame slot of zeros (R184). -/
def Frame.zero : Frame := { epc := 0, estatus := 0, esp := 0, ecause := 0, eaddr := 0 }

/-- An empty back half. -/
def BackHalf.empty : BackHalf := { words := [], count := 0, poison := false }

/-- A channel that has taken no post. -/
def ChanState.empty : ChanState :=
  { back := BackHalf.empty, backTwin := BackHalf.empty, backThird := BackHalf.empty, late := false }

/-- Reset values of the pane control registers: 0, but for WORST_SLACK (R87). "image" fields are 0 until the start
sequence loads them (log 4). -/
def ctlReset (a : Nat) : Word := if a = 0x108 then 0x7FFFFFFF#32 else 0#32

/-- A pane after reset: no task opened, every register 0, p0 reading 1. -/
def Pane.reset : Pane :=
  { phase := .idle, pc := 0, g := Vector.replicate 32 0, lr := 0, pred := 1, acc0 := 0, acc1 := 0,
    lb := Vector.replicate 3 0, le := Vector.replicate 3 0, lc := Vector.replicate 3 0, status := 0,
    frames := Vector.replicate 4 Frame.zero, fdepth := 0, sram := [], ecc := [], rewrite := [], scrubPos := 0,
    ctl := [], sb := [], wreads := [], wstores := [], wrefused := [], loadWaits := false, entry := none, awaits := false, tag := 0, tks := 0,
    unacked := [], reduced := [], retireT := 0, overClose := none, lastOver := 0, faulty := 0, mvLate := false, chan := [],
    evWr := 0, evUnclaimed := 0, evUsed := 0, evDone := [], evSeq := 0, evStack := [], minSlack := none,
    pubs := [], ceTotal := 0, ueTotal := 0 }

end Sys2Proof.Machine
end

