-- ==== Sys2Proof/Machine/UnitState.lean ====
section
/-!
DEFINITION. The state of the units around the panes: part state, tick generator, bells, and the other units.
-/
namespace Sys2Proof.Machine

/-! Part states (R35, R36). -/

/-- The eight part states (R35). -/
inductive PartState where
  | off
  | starting
  | ready
  | running
  | holding
  | aborted
  | faulted
  | shuttingDown
  deriving DecidableEq, Repr

/-- The code driven on STATE[2:0] (R35). -/
def PartState.code : PartState → Nat
  | .off => 0
  | .starting => 1
  | .ready => 2
  | .running => 3
  | .holding => 4
  | .aborted => 5
  | .faulted => 6
  | .shuttingDown => 7

/-- The knocks (R520), in the order of bell sources 40 to 46. -/
inductive Knock where
  | start
  | hold
  | resume
  | abort
  | mark
  | shutdown
  | report
  deriving DecidableEq, Repr

/-- Knock number, 0 to 6. -/
def Knock.num : Knock → Nat
  | .start => 0
  | .hold => 1
  | .resume => 2
  | .abort => 3
  | .mark => 4
  | .shutdown => 5
  | .report => 6

/-- A cause of a part-state change that is due at a boundary (R36, R40). -/
inductive Cause where
  /-- A knock decided at its boundary. -/
  | knock (k : Knock)
  /-- A trip the bolt took: its 12-bit cause (R364). -/
  | bolt (cause : Nat)
  /-- The shutdown self-test and the records are complete. -/
  | shutdownDone
  /-- A lintel lockstep mismatch (R27). -/
  | lockstep
  /-- A fault the ledger cannot contain: its ledger code (R585). -/
  | ledger (code : Nat)
  deriving DecidableEq, Repr

/-! The bolt (R357 to R390). -/

/-- The action in force, with the codes of STATUS.MODE (R390). -/
inductive BoltMode where
  | pass
  | rampHold
  | rampAbort
  | zero
  | killed
  deriving DecidableEq, Repr

/-- STATUS.MODE. The codes also rank the actions: kill over zero over ramp (R372). -/
def BoltMode.code : BoltMode → Nat
  | .pass => 0
  | .rampHold => 1
  | .rampAbort => 2
  | .zero => 3
  | .killed => 4

/-- The mode an ACTION field selects for a trip: 0 ramp, 1 zero, 2 kill (R390). -/
def BoltMode.ofAction (a : Nat) : BoltMode := if a = 0 then .rampAbort else if a = 1 then .zero else .killed

/-- One bolt entry (R360 to R362). -/
structure BoltEntry where
  /-- The evaluated values, newest first, as far as the RMS window reaches; older ones are 0. -/
  hist : List Int
  prev : Int
  run : Nat
  /-- KIND of the last exceedance. -/
  kind : Nat
  /-- The lowest kind in warning at the last evaluation. -/
  warn : Option Nat
  deriving DecidableEq, Repr

/-- An entry at the first boundary of READY: the window filled with zeros (R360). -/
def BoltEntry.reset : BoltEntry := { hist := [], prev := 0, run := 0, kind := 0, warn := none }

/-- An interlock pin and its filter (R365). -/
structure Interlock where
  /-- The level at the pin. -/
  high : Bool
  /-- Since when the pin has had it, ns. -/
  since : Nat
  /-- The filtered state. -/
  asserted : Bool
  deriving DecidableEq, Repr

/-- The bolt. -/
structure Bolt where
  /-- Entries 0 to 191, by number. -/
  ents : SMap BoltEntry
  mode : BoltMode
  /-- The 12-bit cause of the action in force; a ramp for HOLD has none (R364). -/
  cause : Option Nat
  /-- The action in force before SHUTDOWN, and its cause (R376). -/
  before : BoltMode × Option Nat
  /-- Trips latched and not yet taken: cause and ACTION (R371). -/
  trips : List (Nat × Nat)
  /-- DRIVE_KILL_N is low. -/
  kill : Bool
  /-- ABORT_OUT_N is pulled low. -/
  abortOut : Bool
  abortIn : Interlock
  door : Interlock
  /-- Live bit of bell source 12. -/
  warnLive : Bool
  /-- Every valid slot has sent 0 under the current action. -/
  rampDone : Bool
  /-- A frame has been written since the current action began. -/
  framed : Bool
  /-- Frames of the ramp under ABORTED written so far (R374). -/
  rampFrames : Nat
  /-- Tick number of the first trip (R372, R390). -/
  tripTick : Nat
  deriving DecidableEq, Repr

/-- The bolt after reset: DRIVE_KILL_N low, both inputs counted as asserted (R365, R390). The level of the pins before
any change is low (log 22). -/
def Bolt.reset : Bolt :=
  { ents := [], mode := .pass, cause := none, before := (.pass, none), trips := [], kill := true, abortOut := false,
    abortIn := { high := false, since := 0, asserted := true }, door := { high := false, since := 0, asserted := true },
    warnLive := false, rampDone := false, framed := false, rampFrames := 0, tripTick := 0 }

/-! The tick generator (R42 to R51). -/

/-- The generator. Times in units of 2^-32 ns. -/
structure Gen where
  /-- It runs: from the first boundary of READY. -/
  on : Bool
  /-- Exact time of the next edge. -/
  next : Nat
  /-- The period it issues: the nominal period, or the last one tracked from a source (R44, R45, R47). -/
  period : Nat
  /-- Steer to apply at the next edge, in ns, from the last accepted edge, -2 to 2 (R45). -/
  steer : Int
  /-- Phase error still to be removed by lengthening periods, in ns (R49). -/
  slew : Nat
  /-- Time of the last accepted source edge, ns. -/
  lastEdge : Option Nat
  /-- The row of R49: the time of its last edge, ns; the time between its last two, where a legal source can have it; and its
  consecutive good edges. -/
  seenEdge : Option Nat
  ivl : Option Nat
  good : Nat
  /-- Frame syncs of group 0 since the last one that counted (R42, FS_DIV). -/
  fs : Nat
  deriving DecidableEq, Repr

/-! Bells (R294 to R318). -/

/-- One bell. GROUP_CFG, TARGETS, SRC_EN, GPIO_SEL, CLOSED and the counters are in the register file. -/
structure Bell where
  pend : BitVec 64
  live : BitVec 64
  /-- COUNT per source. -/
  count : SMap Nat
  /-- The count went past 255 since the source's last record. -/
  sat : BitVec 64
  detail : SMap Nat
  /-- An arrival was latched while the sash was closed, since the source's last record (R304, CLOSED). -/
  closed : BitVec 64
  /-- NEXT_TGT and NEXT_SRC per group. -/
  nextTgt : Vector Nat 8
  nextSrc : Vector Nat 8
  /-- Hold-off running, per group (HELD_OFF). -/
  heldOff : BitVec 8
  /-- Group served last (R299). -/
  lastGroup : Nat
  /-- The record held back by full queues has been counted, per group (R306). -/
  waitCounted : BitVec 8
  /-- Arrival bits kept by the AON block while the sash is closed (R314). -/
  aon : BitVec 64
  deriving DecidableEq, Repr

/-- A bell after reset. -/
def Bell.reset : Bell :=
  { pend := 0, live := 0, count := [], sat := 0, detail := [], closed := 0, nextTgt := Vector.replicate 8 0,
    nextSrc := Vector.replicate 8 0, heldOff := 0, lastGroup := 0, waitCounted := 0, aon := 0 }

/-- What an event does to its source (R295). -/
inductive EventKind where
  | edge
  | rise
  | fall
  deriving DecidableEq, Repr

/-- An event on its way to the bells (R296): the bells it has not reached yet, as a mask over the sashes. -/
structure BellEvent where
  src : Nat
  kind : EventKind
  detail : Nat
  todo : BitVec 64
  deriving DecidableEq, Repr

/-! Power domains (R556 to R569). -/

/-- The states of a domain (R557). -/
inductive DomState where
  | isOpen
  | ajar
  | shut
  deriving DecidableEq, Repr

/-- STATE code of PWR.DOM (R580). -/
def DomState.code : DomState → Nat
  | .isOpen => 0
  | .ajar => 1
  | .shut => 2

/-- One power domain. -/
structure Dom where
  st : DomState
  /-- Target of the running transition (MOVING). -/
  moving : Option DomState
  /-- The pending request (PENDING). -/
  pend : Option DomState
  wasShut : Bool
  /-- A wake latched during an entry (REPLAY). -/
  replay : Bool
  /-- Memories and registers were lost by a shut since the domain was open last (R557, R567). -/
  lost : Bool
  deriving DecidableEq, Repr

/-- A domain at reset release: open, nothing running (R580). -/
def Dom.reset : Dom := { st := .isOpen, moving := none, pend := none, wasShut := false, replay := false, lost := false }

/-! Reports, the ledger and the mailboxes (R582 to R605). -/

/-- What reaches the lintel (R582, R584). -/
inductive Report where
  /-- An uncorrectable SRAM error in a pane. -/
  | sramUe (pane : Nat)
  | halt (pane : Nat)
  /-- An uncorrectable error inside a latch. -/
  | latchErr (pane : Nat)
  /-- A router that stopped handshaking, and the neighbour whose latch says so. -/
  | routerDead (pane reporter : Nat)
  /-- A copy found suspect: the pane, and the ledger's ARG (R586). -/
  | suspect (pane arg : Nat)
  /-- A copy on another part found suspect: its reference part * 1024 + pane (R456), and the ledger's ARG. -/
  | suspectFar (ref arg : Nat)
  | hingeDead (hinge : Nat)
  | bayFaulted (bay : Nat)
  /-- A redundant copy masked: 0 transom or 1 bolt, and the branch or logic number. -/
  | masked (kind num : Nat)
  /-- More than 1,000 corrected errors at a pane in 1 s, and the count. -/
  | ceRate (pane count : Nat)
  /-- A part of the board is lost (R552). -/
  | partLost (part : Nat)
  deriving DecidableEq, Repr

/-- A report under way from a latch, or held by the lintel, with the time it was made or received. -/
structure TimedReport where
  rep : Report
  at' : Nat
  deriving DecidableEq, Repr

/-- One ledger entry (R586). -/
structure LedgerEntry where
  code : Nat
  subject : Nat
  arg : Nat
  tick : Nat
  deriving DecidableEq, Repr

/-- One result mailbox (R596, R603, R604). -/
structure Mailbox where
  owner : Option Nat
  ready : Bool
  held : Bool
  twin : Bool
  seq : Nat
  tick : Nat
  words : List Word
  deriving DecidableEq, Repr

/-- A mailbox at the entry to RUNNING. -/
def Mailbox.reset : Mailbox :=
  { owner := none, ready := false, held := false, twin := false, seq := 0, tick := 0, words := [] }

/-- A window access of the sill port (R593): the device address, and the data of a write. -/
structure WinAccess where
  sillAddr : Nat
  addr : Nat
  data : Option Word
  deriving DecidableEq, Repr

/-- A running operation of the NOR bridge (R600). -/
structure BridgeOp where
  op : Nat
  addr : Nat
  len : Nat
  /-- The bridge closes once it has ended (R440, R599). -/
  closing : Bool
  /-- The xSPI crossing was severed: the device never got the command (R636). -/
  lost : Bool
  deriving DecidableEq, Repr

/-- An event of the sealed log (R491): its event code, its fields in order, its tick number and its stamp. -/
structure LogEvent where
  code : Nat
  args : List Nat
  tick : Nat
  stamp : Nat
  deriving DecidableEq, Repr

/-- One record of the clamp report (R434). -/
structure ClampRec where
  w0 : Word
  w1 : Word
  w2 : Word
  w3 : Word
  deriving DecidableEq, Repr

/-! Shutdown (R617 to R621). -/

/-- An orderly shutdown. -/
structure Shutdown where
  /-- The state before SHUTDOWN (R36). -/
  before : PartState
  /-- A RESUME can still cancel it: the self-test has not ended. -/
  cancellable : Bool
  /-- The unit the test has reached, in the order of R617: sashes, bay fabrics, strips, lane FIFOs, hinges, transom branch
  copies, bolt logic copies; and the block step within a sash or a bay (R618). -/
  step : Nat
  sub : Nat
  /-- Panes marked for retirement by the save and restore check (R619), and units that failed. -/
  failed : List Nat
  clean : Bool
  /-- A cancelled shutdown has not yet reopened its domains: the holding of R617 goes on (R620). -/
  holding : Bool
  /-- Classes whose first boundary after the reopening has not come (R620). -/
  release : List Nat
  deriving DecidableEq, Repr

/-- No shutdown. -/
def Shutdown.none : Shutdown :=
  { before := .off, cancellable := false, step := 0, sub := 0, failed := [], clean := true, holding := false, release := [] }

/-- A shutdown record of the AON block or the NOR record area (R621). -/
structure ShutRecord where
  deviceId : Nat
  /-- The AON elapsed counter, seconds. -/
  elapsed : Nat
  clean : Bool
  failed : List Nat
  deriving DecidableEq, Repr

/-- The AON block beside its registers (R422, R586, R625): the shutdown record's copy, the elapsed counter in seconds, and
the ledger entry of a lockstep mismatch. -/
structure Aon where
  record : Option ShutRecord
  elapsed : Nat
  lockEntry : Option LedgerEntry
  /-- The part has run since the record was written: a stop without an orderly shutdown is unclean (R422). -/
  ran : Bool
  deriving DecidableEq, Repr

/-- What comes back in SUPPLY_RETURN: a domain's rail, or a supply by its place in the table of R654. -/
inductive Rail where
  | domain (d : Nat)
  | supply (n : Nat)
  deriving DecidableEq, Repr

/-- The conditions of a built-in test as measured (R612): mV, mV (lowest island), REF25 counts, highest Tj in degrees. -/
structure TestCond where
  vddMv : Nat
  islandMv : Nat
  refCount : Nat
  tj : Int
  deriving DecidableEq, Repr

/-- SKIP_WHY: bit per failed condition (R612). An island of 824.5 mV reads 825 or more in whole mV. -/
def TestCond.fails (c : TestCond) : Nat :=
  (!(decide (900 ≤ c.vddMv) && decide (c.vddMv ≤ 1000))).toNat
    + 2 * (!(decide (825 ≤ c.islandMv) && decide (c.islandMv ≤ 875))).toNat
    + 4 * (!(decide (1249695 - 187 ≤ c.refCount) && decide (c.refCount ≤ 1249695 + 187))).toNat
    + 8 * (!(decide (-40 ≤ c.tj) && decide (c.tj ≤ 125))).toNat

/-- REF_PPM of a count, rounded to the nearest ppm. -/
def TestCond.ppm (c : TestCond) : Int :=
  (((c.refCount : Int) - 1249695) * 2000000 + 1249695) / (2 * 1249695)

/-- What the start sequence meets outside the state (R417): the conditions measured before the self-test, and those that
failed while it ran; the units that fail it, by kind and number; the AON counter; the devices found; the knocks that arrive
in STARTING, with their path; the time taken and the time of entry. Kinds of unit: 1 SRAM, 2 pipeline, 3 latch and 4 router of
a pane, 5 bell of a sash, 6 bay fabric, 7 sample group, 8 drive group, 9 hinge, 10 transom branch, 11 bolt logic (R613, R615). -/
structure StartEnv where
  cond : TestCond
  cut : Option TestCond
  fails : List (Nat × Nat)
  elapsed : Nat
  /-- Size of the NOR device in bytes; 0 when it has no SFDP (R423). -/
  norBytes : Nat
  /-- A slot cannot be read. -/
  readFail : Bool × Bool
  /-- LPDDR4X found, in 64 MiB units, and whether its training succeeds (R396 to R398). -/
  dramUnits : Nat
  dramTrains : Bool
  /-- Ring blocks of the eMMC devices found; 0 for none (R496). -/
  emmc : Nat × Nat
  knocks : List (Knock × Nat)
  ms : Nat
  t : Nat
  deriving DecidableEq, Repr

/-- The instruction in the TAP (R608). -/
inductive TapInstr where
  | bypass
  | idcode
  | samplePreload
  | extest
  | scanLoad
  | lowVoltage
  deriving DecidableEq, Repr

/-- The TAP: its instruction, the boundary cells preloaded, the scan patterns, and the units that failed at 0.70 V. -/
structure Tap where
  instr : TapInstr
  cells : List Bool
  scan : List Bool
  fails : List Nat
  deriving DecidableEq, Repr

/-- The TAP after its reset. -/
def Tap.reset : Tap := { instr := .bypass, cells := [], scan := [], fails := [] }

/-! Identity, keyholes and the log store (R477 to R506). -/

/-- OTP: the fuses. -/
structure Otp where
  deviceId : Nat
  /-- 1 S1, 2 S2 (R8). -/
  stepping : Nat
  /-- The life-cycle state in force, and the one fused for the next reset (R609). -/
  lc : Nat
  fused : Nat
  devSeed : Option (List Byte)
  paneSecret : Option (List Byte)
  /-- The certificate's DER. -/
  cert : List Byte
  /-- Hashes of the image-signing keys and their revocation bits (R426). -/
  signKeys : List (List Byte)
  revoked : BitVec 4
  signRequired : Bool
  deriving DecidableEq, Repr

/-- Unfused OTP of a part at stepping S1 (log 27). -/
def Otp.blank : Otp :=
  { deviceId := 0, stepping := 1, lc := 0, fused := 0, devSeed := none, paneSecret := none, cert := [], signKeys := [],
    revoked := 0, signRequired := false }

/-- A block of the log (R488). `good`: its CRC holds on the medium. -/
structure LogBlock where
  producer : Nat
  kind : Nat
  seq : Nat
  tick : Nat
  run : Nat
  prev : List Byte
  payload : List Byte
  good : Bool
  deriving DecidableEq, Repr

/-- A block on its way to the store: what its producer supplies, and the bay whose keyhole waits for it. -/
structure LogReq where
  producer : Nat
  kind : Nat
  payload : List Byte
  bay : Option Nat
  /-- Tick number of the last T0 open before service began (R488). -/
  tick : Nat
  deriving DecidableEq, Repr

/-- One producer's chain (R489, R496). -/
structure Chain where
  head : List Byte
  /-- BLOCK_SEQ of the next block. -/
  next : Nat
  /-- BLOCK_SEQ past the last sealed block, and the head then sealed. -/
  sealedTo : Nat
  sealedHead : List Byte
  /-- The run of the last block, and its ring index. -/
  run : Nat
  last : Nat
  deriving DecidableEq, Repr

/-- A checkpoint (R496, R498). -/
structure Checkpoint where
  cpSeq : Nat
  run : Nat
  /-- The ring write pointer. -/
  wp : Nat
  chains : SMap Chain
  deriving DecidableEq, Repr

/-- The medium behind one eMMC port (R496). -/
structure Emmc where
  /-- Blocks of the ring; 0 where no device is fitted. -/
  cap : Nat
  /-- The superblock: the fingerprint and the earlier ones; none where neither copy is valid. -/
  super : Option (List Byte × List (List Byte))
  ring : SMap LogBlock
  wp : Nat
  cp : Option Checkpoint
  /-- The device has had its power-off notification (R494, R495). -/
  off : Bool
  deriving DecidableEq, Repr

/-- A seal entry on its way to a seal block (R492): its producer, its first 64 bytes with the position and the head they cover, and its
signature, once the keyhole has made it. -/
structure SealEntry where
  producer : Nat
  head : List Byte
  upTo : Nat
  chainHead : List Byte
  sig : Option (List Byte)
  deriving DecidableEq, Repr

/-- The log store (R495 to R500). -/
structure LogStore where
  port0 : Emmc
  port1 : Emmc
  chains : SMap Chain
  /-- Blocks written since the last checkpoint, and a checkpoint is due (R498). -/
  since : Nat
  cpDue : Bool
  queue : List LogReq
  stopped : Bool
  /-- Code 0x0502 has been logged. -/
  fullSaid : Bool
  /-- The seal timer's next expiry, ns (R492). -/
  sealAt : Nat
  /-- Blocks of the ring, for the placement of R497. -/
  count : Nat
  /-- BLOCK_SEQ of the lintel's start record of the run (R490). -/
  startSeq : Nat
  /-- The producers that have written a block in this run (R490). -/
  started : List Nat
  /-- The entries of a seal point that wait for a signature (R485, R492). -/
  round : List SealEntry
  /-- The SHA-256 of the image header and section table, for the start record of a run (R491). -/
  imgHash : List Byte
  deriving DecidableEq, Repr

/-- No device on a port. -/
def Emmc.none : Emmc := { cap := 0, super := Option.none, ring := [], wp := 0, cp := Option.none, off := false }

/-- The store before the first start. -/
def LogStore.reset : LogStore :=
  { port0 := Emmc.none, port1 := Emmc.none, chains := [], since := 0, cpDue := false, queue := [], stopped := false,
    fullSaid := false, sealAt := 0, count := 0, startSeq := 0, started := [], round := [], imgHash := [] }

/-! Sample and drive ports (R320 to R356). -/

/-- One entry of a lane FIFO (R325, R350): the word, whether its parity holds, and the END bit. -/
structure FifoEntry where
  word : Word
  ok : Bool
  fin : Bool
  deriving DecidableEq, Repr

/-- One sample-input lane (R325 to R332). -/
structure RxLane where
  fifo : List FifoEntry
  armed : Bool
  /-- The whole frames that have arrived since the last close, oldest first, for the bolt's taps (R337). -/
  frames : List (List FifoEntry)
  /-- How many of the waiting whole frames each engine has taken, by bay (R334). -/
  taken : SMap Nat
  /-- Frames that started before this time are discarded: the lane's last re-arm (R638). -/
  rearmAt : Nat
  /-- A frame that started before this time is discarded and counted: the lane's last flush (R330). -/
  flushAt : Nat
  deriving DecidableEq, Repr

/-- A lane after reset: ARMED is 1 (R331). -/
def RxLane.reset : RxLane := { fifo := [], armed := true, frames := [], taken := [], rearmAt := 0, flushAt := 0 }

/-- A drive word with its poison tag (R343). -/
structure DriveWord where
  word : Word
  poison : Bool
  deriving DecidableEq, Repr

/-- One drive slot (R343 to R350): the back half of each copy, and the entries of the slot in its lane FIFO. -/
structure DriveSlot where
  b0 : Option DriveWord
  b1 : Option DriveWord
  b2 : Option DriveWord
  /-- The candidate of the last resolution, repeated between boundaries of a slower class (R348). -/
  cur : Option Word
  /-- RES2: the resolved value before RES1 (R381). -/
  res2 : Word
  fifo : List FifoEntry
  deriving DecidableEq, Repr

/-- A drive slot after reset. -/
def DriveSlot.reset : DriveSlot := { b0 := none, b1 := none, b2 := none, cur := none, res2 := 0, fifo := [] }

/-! Bulk movers (R403 to R413). -/

/-- A submitted descriptor that is not written back. -/
structure MvSub where
  slot : Nat
  /-- The boundary that ends the submission tick, and the due boundary, by the ticks they start (R406). -/
  subEnd : Nat
  due : Nat
  /-- The checks of R407 have passed and bytes are moving. -/
  begun : Bool
  /-- A pane-memory source has been read into staging (R408). -/
  read : Bool
  /-- Bytes moved. -/
  moved : Nat
  crc : Word
  /-- The status with which it ended. -/
  status : Option Nat
  /-- It was found incomplete at its due boundary (R411). -/
  late : Bool
  deriving DecidableEq, Repr

/-- Staged data for a pane destination (STAGED). -/
structure Staged where
  slot : Nat
  pane : Nat
  /-- First byte and length of each row. -/
  rows : List (Nat × Nat)
  /-- The boundary of its write-back has closed. -/
  ready : Bool
  deriving DecidableEq, Repr

/-- One bulk mover. -/
structure Mover where
  next : Nat
  subs : List MvSub
  staging : List Byte
  staged : Option Staged
  deriving DecidableEq, Repr

/-- A mover after reset. -/
def Mover.reset : Mover := { next := 0, subs := [], staging := [], staged := none }

/-! Ethernet and knocks (R507 to R530). -/

/-- What a port sends: KIND as in the record header for records, announcements and replies; 0x20 an ARP, neighbour or
echo answer, 0x21 a resolution request, 0x30 a PTP message (the model's own numbers). -/
structure NetOut where
  port : Nat
  kind : Nat
  bytes : List Byte
  deriving DecidableEq, Repr

/-- A received frame that is no knock datagram and no PTP message (R508). -/
inductive EthKind where
  /-- An ARP request for an address, or an ICMP echo to one. -/
  | arp (target : Nat)
  | echo4 (dst : Nat) (data : List Byte)
  /-- A neighbour solicitation or an ICMPv6 echo; `own`: for an address of the port. -/
  | solicit (own : Bool)
  | echo6 (own : Bool) (data : List Byte)
  | other
  deriving DecidableEq, Repr

/-- A received frame: its VLAN tag, whether its data fits 1,500 bytes and its checks hold, and what it is. -/
structure EthFrame where
  vlan : Option Nat
  fits : Bool
  intact : Bool
  kind : EthKind
  deriving DecidableEq, Repr

/-- A received 802.1AS message (R510, R511). -/
inductive PtpMsg where
  /-- A sync (with its follow-up): the offset of this part's time from the grandmaster's, ns. -/
  | sync (offset : Int)
  /-- An announce: the best master by the BMCA, and whether that is this part. -/
  | announce (gm : DWord) (self : Bool)
  /-- A peer delay exchange: the mean link delay, ns. -/
  | pdelay (ns : Nat)
  deriving DecidableEq, Repr

/-- A stream request (R514, R515). -/
structure StreamReq where
  pane : Nat
  stream : Nat
  off : Nat
  len : Nat
  unit : Nat
  tick : Nat
  stamp : Nat
  /-- Records done, and the ERR of a dropped one. -/
  sent : Nat
  err : Nat
  deriving DecidableEq, Repr

/-- Who asks a keyhole (R485): a pane by KH_GO; a pane's latch, for the signature of a seal entry; or a port, for the encryption of a
stream record, with its header, nonce and payload. -/
inductive KhClient where
  | pane
  | latch (head : List Byte)
  | port (q : Nat) (kind : Nat) (stream : Nat) (header nonce payload : List Byte)
  deriving DecidableEq, Repr

/-- The start of service of a request (R486, R488): the tick number of the last T0 open before it, and the keyhole's copy of the operand
range, none where a word of it is uncorrectable. -/
structure KhStart where
  tick : Nat
  copy : Option (List Byte)
  deriving DecidableEq, Repr

/-- A request at a bay's keyhole (R484, R485). -/
structure KhReq where
  client : KhClient
  pane : Nat
  op : Nat
  src : Nat
  dst : Nat
  len : Nat
  begun : Option KhStart
  /-- A LOG request's blocks are with the log store; the ERR code and the block once it has answered. -/
  sent : Bool
  answer : Option (Nat × List Byte)
  deriving DecidableEq, Repr

/-- A knock in the pending set (R523), with its due tick where the master set one (R548), its path, and the port, key
slot and COUNTER a second reply goes to (R525). -/
structure PendKnock where
  knock : Knock
  arg : DWord
  due : Option Nat
  path : Nat
  reply : Option (Nat × Nat × Nat)
  deriving DecidableEq, Repr

/-- A knock accepted on a board of several parts, on its way to the master or at it (R548). -/
structure BoardKnock where
  knock : Knock
  arg : DWord
  path : Nat
  /-- Port, key slot and COUNTER of a network knock. -/
  reply : Option (Nat × Nat × Nat)
  at' : Nat
  deriving DecidableEq, Repr

/-- The network side. -/
structure NetState where
  out : List NetOut
  /-- 802.1AS time less the count of ns since reset, and the time of the last adjustment. -/
  toff : Int
  adjusted : Nat
  /-- The gate list entry in force, by port (R513). -/
  gate : SMap Nat
  /-- When it came into force, by port. -/
  gateAt : SMap Nat
  /-- Frames that wait for their gates, oldest first, with queue and length in ns (R513). -/
  waiting : List (Nat × Nat × NetOut)
  /-- Streams whose destination is resolved (R509). -/
  resolved : List Nat
  reqs : List StreamReq
  /-- SEQ per stream (R515). -/
  seq : SMap Nat
  /-- The ephemeral X25519 secret of this run (R518). -/
  eph : Option (List Byte)
  /-- Times of the knock datagrams verified within the last second, by port (R522). -/
  verified : SMap (List Nat)
  /-- The pending set (R523), knocks for the master (R548), and network knocks it has counted. -/
  knocks : List PendKnock
  board : List BoardKnock
  counted : List (Nat × Nat)
  /-- Tick of the most recent MARK (R526). -/
  markTick : Nat
  deriving DecidableEq, Repr

/-- The network side after reset. -/
def NetState.reset : NetState :=
  { out := [], toff := 0, adjusted := 0, gate := [], gateAt := [], waiting := [], resolved := [], reqs := [], seq := [], eph := none, verified := [],
    knocks := [], board := [], counted := [], markTick := 0 }

/-! Wicket links (R531 to R555). -/

/-- One wicket link, beside its registers. -/
structure Link where
  /-- Training steps done, 0 to 5 (R535). -/
  steps : Nat
  /-- Time of the last control block received, and of the last one sent. -/
  lastIn : Nat
  lastOut : Nat
  /-- Times of the control blocks that failed their CRC within the last microsecond (R550). -/
  crcFails : List Nat
  /-- Time at which it came UP again; traffic follows 1 us later (R551). -/
  upAt : Nat
  /-- This end's random challenge (R536). -/
  challenge : List Byte
  deriving DecidableEq, Repr

/-- A link after reset. -/
def Link.reset : Link := { steps := 0, lastIn := 0, lastOut := 0, crcFails := [], upAt := 0, challenge := [] }

/-- An agreement token (R545). Lists are indexed by the board's cross-part group number. -/
structure Token where
  tick : Nat
  /-- START refusal codes 1 to 5 that hold at the sender. -/
  readyFlags : Nat
  event : Nat
  held : Nat
  twin : Nat
  poison : Nat
  missing : Nat
  v : Nat
  nv : Nat
  /-- DONE bit per cross-part sending pane of the sender, in pane-number order. -/
  done : BitVec 64
  partials : List Word
  counts : List Nat
  deriving DecidableEq, Repr

/-- The fields of a token by flit (R545). -/
def Token.flits (t : Token) : List (BitVec 64) :=
  let one := fun (l : List Nat) (w : Nat) => (List.range l.length).foldl (fun a k => a + l.getD k 0 % 2 ^ w * 2 ^ (w * k)) 0
  let words := (List.range 8).map (fun g => t.partials.getD g 0#32)
  [BitVec.ofNat 64 (t.tick % 16 + t.readyFlags % 32 * 2 ^ 4 + t.event % 4096 * 2 ^ 9 + t.held % 256 * 2 ^ 21 + t.twin % 256 * 2 ^ 29
     + t.poison % 256 * 2 ^ 37 + t.missing % 256 * 2 ^ 45 + t.v % 256 * 2 ^ 53), t.done] ++
  (List.range 4).map (fun f => words.getD (2 * f + 1) 0#32 ++ words.getD (2 * f) 0#32) ++
  [BitVec.ofNat 64 (one (t.counts.take 8) 7 + t.nv % 256 * 2 ^ 56)]

/-- What the other end of a link shows in training (R535 to R537): the mean one-way latency in 1/16 ns, its device, its
certificate, challenge and signature, and its configuration. -/
structure PeerInfo where
  latency : Nat
  deviceId : Nat
  cert : List Byte
  challenge : List Byte
  signature : List Byte
  boardId : Nat
  parts : Nat
  topology : Nat
  master : Nat
  period : Nat
  n1 : Nat
  n2 : Nat
  n3 : Nat
  part : Nat
  link : Nat
  deriving DecidableEq, Repr

/-- An error of a message on a wicket link (R93, R532). -/
inductive LinkErr where
  | none
  | corrected
  /-- In the payload flit that carries words 2k and 2k + 1. -/
  | payload (k : Nat)
  | header
  deriving DecidableEq, Repr

/-- A control block (R532). -/
inductive CtlBlock where
  | idle
  /-- A tick marker: LEAD in 1/16 ns and the low 16 bits of the tick number (R539). -/
  | marker (lead tick : Nat)
  /-- The seven flits of an agreement token (R545). -/
  | token (flits : List (BitVec 64))
  /-- Training words of R536: the certificate with a challenge, and the signature. -/
  | hello (cert challenge : List Byte)
  | proof (signature : List Byte)
  /-- A board digest for part `part` (R538). -/
  | digest (part : Nat) (d : List Byte)
  /-- A knock forwarded to the master (R548). -/
  | knock (k : Knock) (arg : DWord) (path : Nat) (reply : Option (Nat × Nat × Nat))
  /-- A knock broadcast by the master with its due tick (R548). -/
  | broadcast (k : Knock) (arg : DWord) (due : Nat)
  deriving DecidableEq, Repr

/-! Reductions, routing and takeovers (R111 to R138). -/

/-- One stored contribution of a rank's copy (R116). -/
structure Contribution where
  word : Word
  poison : Bool
  deriving DecidableEq, Repr

/-- A word the twin wrote to its state region during a tick of a takeover (R135). -/
structure LoggedWrite where
  tick : Nat
  addr : Nat
  word : Word
  deriving DecidableEq, Repr

/-- A spare takeover under way (R135). -/
structure Takeover where
  retired : Nat
  /-- The copy that serves meanwhile: the twin of a duplex task. -/
  twin : Nat
  spare : Nat
  /-- The tick of the task's class at whose boundary the pane was retired. -/
  base : Nat
  /-- 0: bulk copy due; 1: replay of the first log due; 2: redirected, replay of the second log due; 3: last replay
  done, completion due. -/
  stage : Nat
  log : List LoggedWrite
  deriving DecidableEq, Repr

end Sys2Proof.Machine
end

