-- ==== Sys2Proof/Syntax.lean ====
section
/-!
DEFINITION. The commands of the AKW1024 model: one constructor per row of the operation table, with the row's
operands. A Nirmon instruction carries the pane `p` that issues it, its guard `gd` (R186) and its encoded fields
(R210, R211). A time operand `t` is in whole ns since the release of reset (R70). A block instruction's `k` is how
many of its steps run before its next sampling point (R255, R279); WAITT's `k` is the time at which it issues.
-/
namespace Sys2Proof

open Sys2Proof.Machine

/-- The commands, in the order of the operation table. -/
inductive Instr where
  /-- ADD (R222). Adds two registers modulo 2^32; ADD g0,g0,g0 is the canonical no-operation. -/
  | add (p : PaneNo) (gd : BitVec 4) (rd ra rb : RegNo)
  /-- SUB (R222). Subtracts register RB from RA modulo 2^32. -/
  | sub (p : PaneNo) (gd : BitVec 4) (rd ra rb : RegNo)
  /-- AND (R222). Bitwise AND of two registers. -/
  | and (p : PaneNo) (gd : BitVec 4) (rd ra rb : RegNo)
  /-- OR (R222). Bitwise OR of two registers. -/
  | or (p : PaneNo) (gd : BitVec 4) (rd ra rb : RegNo)
  /-- XOR (R222). Bitwise XOR of two registers. -/
  | xor (p : PaneNo) (gd : BitVec 4) (rd ra rb : RegNo)
  /-- ANDN (R222). AND of RA with the complement of RB. -/
  | andn (p : PaneNo) (gd : BitVec 4) (rd ra rb : RegNo)
  /-- MIN (R222). Signed minimum of two registers. -/
  | min (p : PaneNo) (gd : BitVec 4) (rd ra rb : RegNo)
  /-- MAX (R222). Signed maximum of two registers. -/
  | max (p : PaneNo) (gd : BitVec 4) (rd ra rb : RegNo)
  /-- MINU (R222). Unsigned minimum of two registers. -/
  | minu (p : PaneNo) (gd : BitVec 4) (rd ra rb : RegNo)
  /-- MAXU (R222). Unsigned maximum of two registers. -/
  | maxu (p : PaneNo) (gd : BitVec 4) (rd ra rb : RegNo)
  /-- ADDS (R222). Saturating signed add; sets V when it saturates. -/
  | adds (p : PaneNo) (gd : BitVec 4) (rd ra rb : RegNo)
  /-- SUBS (R222). Saturating signed subtract; sets V when it saturates. -/
  | subs (p : PaneNo) (gd : BitVec 4) (rd ra rb : RegNo)
  /-- NEG (R222). Two's-complement negate; sets V for 0x8000_0000. -/
  | neg (p : PaneNo) (gd : BitVec 4) (rd ra : RegNo)
  /-- NEGS (R222). Saturating negate; sets V when it saturates. -/
  | negs (p : PaneNo) (gd : BitVec 4) (rd ra : RegNo)
  /-- ABS (R222). Magnitude; sets V for 0x8000_0000. -/
  | abs (p : PaneNo) (gd : BitVec 4) (rd ra : RegNo)
  /-- SHL (R223). Shift left by a register amount; 32 or more gives 0. -/
  | shl (p : PaneNo) (gd : BitVec 4) (rd ra rb : RegNo)
  /-- SHR (R223). Logical shift right by a register amount. -/
  | shr (p : PaneNo) (gd : BitVec 4) (rd ra rb : RegNo)
  /-- SAR (R223). Arithmetic shift right by a register amount, capped at 31. -/
  | sar (p : PaneNo) (gd : BitVec 4) (rd ra rb : RegNo)
  /-- ROR (R223). Rotate right by a register amount modulo 32. -/
  | ror (p : PaneNo) (gd : BitVec 4) (rd ra rb : RegNo)
  /-- CLZ (R222). Counts leading zero bits; 32 for zero. -/
  | clz (p : PaneNo) (gd : BitVec 4) (rd ra : RegNo)
  /-- POPC (R222). Counts one bits. -/
  | popc (p : PaneNo) (gd : BitVec 4) (rd ra : RegNo)
  /-- SEXTB (R222). Sign-extends the low byte. -/
  | sextb (p : PaneNo) (gd : BitVec 4) (rd ra : RegNo)
  /-- SEXTH (R222). Sign-extends the low halfword. -/
  | sexth (p : PaneNo) (gd : BitVec 4) (rd ra : RegNo)
  /-- ZEXTH (R222). Zero-extends the low halfword. -/
  | zexth (p : PaneNo) (gd : BitVec 4) (rd ra : RegNo)
  /-- MUL (R225). Low 32 bits of the product of two registers. -/
  | mul (p : PaneNo) (gd : BitVec 4) (rd ra rb : RegNo)
  /-- MULH (R225). High 32 bits of the signed 64-bit product. -/
  | mulh (p : PaneNo) (gd : BitVec 4) (rd ra rb : RegNo)
  /-- MULHU (R225). High 32 bits of the unsigned 64-bit product. -/
  | mulhu (p : PaneNo) (gd : BitVec 4) (rd ra rb : RegNo)
  /-- DIV (R226). Signed divide truncating toward zero, with defined results or a trap for division by zero. -/
  | div (p : PaneNo) (gd : BitVec 4) (rd ra rb : RegNo)
  /-- DIVU (R226). Unsigned divide, with a defined result or a trap for division by zero. -/
  | divu (p : PaneNo) (gd : BitVec 4) (rd ra rb : RegNo)
  /-- REM (R226). Signed remainder with the sign of the dividend. -/
  | rem (p : PaneNo) (gd : BitVec 4) (rd ra rb : RegNo)
  /-- REMU (R226). Unsigned remainder. -/
  | remu (p : PaneNo) (gd : BitVec 4) (rd ra rb : RegNo)
  /-- MAC (R229). Adds a signed 32x32 product into a 72-bit accumulator; sets AV on wrap. -/
  | mac (p : PaneNo) (gd : BitVec 4) (acc ra rb : RegNo)
  /-- MSU (R229). Subtracts a signed 32x32 product from an accumulator. -/
  | msu (p : PaneNo) (gd : BitVec 4) (acc ra rb : RegNo)
  /-- MAC2H (R229). Adds two signed 16-bit products into an accumulator. -/
  | mac2h (p : PaneNo) (gd : BitVec 4) (acc ra rb : RegNo)
  /-- MSU2H (R229). Subtracts two signed 16-bit products from an accumulator. -/
  | msu2h (p : PaneNo) (gd : BitVec 4) (acc ra rb : RegNo)
  /-- MACU (R229). Adds an unsigned 32x32 product into an accumulator. -/
  | macu (p : PaneNo) (gd : BitVec 4) (acc ra rb : RegNo)
  /-- ACLR (R229). Clears an accumulator. -/
  | aclr (p : PaneNo) (gd : BitVec 4) (acc : RegNo)
  /-- AEXT (R231). Rounded, saturated extract of an accumulator shifted right. -/
  | aext (p : PaneNo) (gd : BitVec 4) (rd acc rb : RegNo)
  /-- FADD (R236). binary32 add with round to nearest even and sticky flags. -/
  | fadd (p : PaneNo) (gd : BitVec 4) (rd ra rb : RegNo)
  /-- FSUB (R236). binary32 subtract. -/
  | fsub (p : PaneNo) (gd : BitVec 4) (rd ra rb : RegNo)
  /-- FMUL (R236). binary32 multiply. -/
  | fmul (p : PaneNo) (gd : BitVec 4) (rd ra rb : RegNo)
  /-- FMA (R236). binary32 fused multiply-add into RD, rounded once. -/
  | fma (p : PaneNo) (gd : BitVec 4) (rd ra rb : RegNo)
  /-- FMS (R236). binary32 fused multiply-subtract from RD. -/
  | fms (p : PaneNo) (gd : BitVec 4) (rd ra rb : RegNo)
  /-- FDIV (R236). binary32 divide. -/
  | fdiv (p : PaneNo) (gd : BitVec 4) (rd ra rb : RegNo)
  /-- FSQRT (R236). binary32 square root. -/
  | fsqrt (p : PaneNo) (gd : BitVec 4) (rd ra : RegNo)
  /-- FMIN (R238). binary32 minimum with -0.0 below +0.0 and canonical NaN. -/
  | fmin (p : PaneNo) (gd : BitVec 4) (rd ra rb : RegNo)
  /-- FMAX (R238). binary32 maximum with -0.0 below +0.0 and canonical NaN. -/
  | fmax (p : PaneNo) (gd : BitVec 4) (rd ra rb : RegNo)
  /-- FABS (R236). Clears the sign bit. -/
  | fabs (p : PaneNo) (gd : BitVec 4) (rd ra : RegNo)
  /-- FNEG (R236). Inverts the sign bit. -/
  | fneg (p : PaneNo) (gd : BitVec 4) (rd ra : RegNo)
  /-- FCVT_S_W (R239). Converts a signed integer to binary32. -/
  | fcvtSW (p : PaneNo) (gd : BitVec 4) (rd ra : RegNo)
  /-- FCVT_W_S (R239). Converts binary32 to a signed integer with saturation. -/
  | fcvtWS (p : PaneNo) (gd : BitVec 4) (rd ra : RegNo)
  /-- FCVT_S_WU (R239). Converts an unsigned integer to binary32. -/
  | fcvtSWu (p : PaneNo) (gd : BitVec 4) (rd ra : RegNo)
  /-- FCVT_WU_S (R239). Converts binary32 to an unsigned integer with saturation. -/
  | fcvtWuS (p : PaneNo) (gd : BitVec 4) (rd ra : RegNo)
  /-- ADDI (R224). Adds a sign-extended 11-bit immediate. -/
  | addi (p : PaneNo) (gd : BitVec 4) (rd ra : RegNo) (imm : BitVec 11)
  /-- ANDI (R224). ANDs a zero-extended immediate. -/
  | andi (p : PaneNo) (gd : BitVec 4) (rd ra : RegNo) (imm : BitVec 11)
  /-- ORI (R224). ORs a zero-extended immediate. -/
  | ori (p : PaneNo) (gd : BitVec 4) (rd ra : RegNo) (imm : BitVec 11)
  /-- XORI (R224). XORs a zero-extended immediate. -/
  | xori (p : PaneNo) (gd : BitVec 4) (rd ra : RegNo) (imm : BitVec 11)
  /-- SHIFTI_SHL (R224). Shift left by an immediate amount. -/
  | shiftiShl (p : PaneNo) (gd : BitVec 4) (rd ra : RegNo) (amt : BitVec 6)
  /-- SHIFTI_SHR (R224). Logical shift right by an immediate amount. -/
  | shiftiShr (p : PaneNo) (gd : BitVec 4) (rd ra : RegNo) (amt : BitVec 6)
  /-- SHIFTI_SAR (R224). Arithmetic shift right by an immediate amount. -/
  | shiftiSar (p : PaneNo) (gd : BitVec 4) (rd ra : RegNo) (amt : BitVec 6)
  /-- SHIFTI_ROR (R224). Rotate right by an immediate amount. -/
  | shiftiRor (p : PaneNo) (gd : BitVec 4) (rd ra : RegNo) (amt : BitVec 6)
  /-- MULI (R224). Multiplies by a sign-extended immediate. -/
  | muli (p : PaneNo) (gd : BitVec 4) (rd ra : RegNo) (imm : BitVec 11)
  /-- MOVI (R224). Loads a sign-extended 16-bit constant. -/
  | movi (p : PaneNo) (gd : BitVec 4) (rd : RegNo) (imm : BitVec 16)
  /-- MOVHI (R224). Loads a 16-bit constant into the high half. -/
  | movhi (p : PaneNo) (gd : BitVec 4) (rd : RegNo) (imm : BitVec 16)
  /-- ORLO (R224). ORs a 16-bit constant into the low half of RD. -/
  | orlo (p : PaneNo) (gd : BitVec 4) (rd : RegNo) (imm : BitVec 16)
  /-- B (R245). Branches to a PC-relative target. -/
  | b (p : PaneNo) (gd : BitVec 4) (off : BitVec 21)
  /-- BL (R245). Branches and writes the return address to lr. -/
  | bl (p : PaneNo) (gd : BitVec 4) (off : BitVec 21)
  /-- BR (R245). Branches to a register target, trapping on misalignment. -/
  | br (p : PaneNo) (gd : BitVec 4) (reg : RegNo)
  /-- RET (R245). Branches to lr, trapping on misalignment. -/
  | ret (p : PaneNo) (gd : BitVec 4)
  /-- LOOP (R191). Sets up a zero-overhead loop level, or traps on a bad nesting. -/
  | loop (p : PaneNo) (gd : BitVec 4) (l : BitVec 2) (r : Bool) (body : BitVec 8) (cnt : BitVec 10)
  /-- LB (R243). Loads a sign-extended byte. -/
  | lb (p : PaneNo) (gd : BitVec 4) (rt ra : RegNo) (m : Bool) (off : BitVec 10)
  /-- LBU (R243). Loads a zero-extended byte. -/
  | lbu (p : PaneNo) (gd : BitVec 4) (rt ra : RegNo) (m : Bool) (off : BitVec 10)
  /-- LH (R243). Loads a sign-extended halfword. -/
  | lh (p : PaneNo) (gd : BitVec 4) (rt ra : RegNo) (m : Bool) (off : BitVec 10)
  /-- LHU (R243). Loads a zero-extended halfword. -/
  | lhu (p : PaneNo) (gd : BitVec 4) (rt ra : RegNo) (m : Bool) (off : BitVec 10)
  /-- LW (R243). Loads a word, from SRAM, inbox, control region or a window. -/
  | lw (p : PaneNo) (gd : BitVec 4) (rt ra : RegNo) (m : Bool) (off : BitVec 10)
  /-- LWP (R243). Loads a register pair as one 8-byte access. -/
  | lwp (p : PaneNo) (gd : BitVec 4) (rt ra : RegNo) (m : Bool) (off : BitVec 10)
  /-- SB (R243). Stores a byte into the store buffer. -/
  | sb (p : PaneNo) (gd : BitVec 4) (rt ra : RegNo) (m : Bool) (off : BitVec 10)
  /-- SH (R243). Stores a halfword into the store buffer. -/
  | sh (p : PaneNo) (gd : BitVec 4) (rt ra : RegNo) (m : Bool) (off : BitVec 10)
  /-- SW (R243). Stores a word into the store buffer. -/
  | sw (p : PaneNo) (gd : BitVec 4) (rt ra : RegNo) (m : Bool) (off : BitVec 10)
  /-- SWP (R243). Stores a register pair as one 8-byte access. -/
  | swp (p : PaneNo) (gd : BitVec 4) (rt ra : RegNo) (m : Bool) (off : BitVec 10)
  /-- STORE_DRAIN (R152). A buffered store drains into memory in program order. -/
  | storeDrain (p : PaneNo) (t : Nat)
  /-- WINDOW_READ_RETURN (R149). An outstanding bay-buffer or DRAM window read returns its data or an error. -/
  | windowReadReturn (p : PaneNo) (k : Nat) (t : Nat)
  /-- WINDOW_STORE_RESULT (R402). A window accepts a store, or refuses it and leaves a pending memory-error trap. -/
  | windowStoreResult (p : PaneNo) (t : Nat)
  /-- CMP (R240). Integer compare writing a predicate. -/
  | cmp (p : PaneNo) (gd : BitVec 4) (pd : BitVec 3) (ra : RegNo) (i : Bool) (cond : BitVec 4) (b : BitVec 8)
  /-- FCMP (R241). binary32 compare writing a predicate. -/
  | fcmp (p : PaneNo) (gd : BitVec 4) (pd : BitVec 3) (ra : RegNo) (i : Bool) (cond : BitVec 4) (b : BitVec 8)
  /-- PLOG (R242). Combines two predicates into a third. -/
  | plog (p : PaneNo) (gd : BitVec 4) (pd pa : BitVec 3) (na : Bool) (pb : BitVec 3) (nb : Bool) (op : BitVec 2)
  /-- POST (R248). Sends one word on a credited channel, after the credit checks. -/
  | post (p : PaneNo) (gd : BitVec 4) (ra rb : RegNo)
  /-- POSTM (R248). Sends n words from memory on a credited channel in messages of up to 64 words. -/
  | postm (p : PaneNo) (gd : BitVec 4) (rd ra rb : RegNo)
  /-- REDUCE (R249). Sends the pane's contribution to a reduction group. -/
  | reduce (p : PaneNo) (gd : BitVec 4) (ra rb : RegNo)
  /-- VDOT_H (R258). Interruptible dot product of 16-bit vectors into an accumulator. -/
  | vdotH (p : PaneNo) (gd : BitVec 4) (acc ra rb : RegNo) (k : Nat)
  /-- VDOT_F (R258). Interruptible binary32 dot product into a register. -/
  | vdotF (p : PaneNo) (gd : BitVec 4) (rd ra rb : RegNo) (k : Nat)
  /-- VMAC_H (R258). Interruptible saturating scaled 16-bit vector accumulate into y. -/
  | vmacH (p : PaneNo) (gd : BitVec 4) (rd ra rb : RegNo) (k : Nat)
  /-- VMAC_F (R258). Interruptible binary32 scaled vector accumulate into y. -/
  | vmacF (p : PaneNo) (gd : BitVec 4) (rd ra rb : RegNo) (k : Nat)
  /-- BMOV (R259). Interruptible overlap-safe block copy. -/
  | bmov (p : PaneNo) (gd : BitVec 4) (rd ra rb : RegNo) (k : Nat)
  /-- BFILL (R258). Interruptible block fill with an address-placed pattern. -/
  | bfill (p : PaneNo) (gd : BitVec 4) (rd ra rb : RegNo) (k : Nat)
  /-- BCRC (R260). Interruptible CRC-32C register update over a block. -/
  | bcrc (p : PaneNo) (gd : BitVec 4) (rd ra rb : RegNo) (k : Nat)
  /-- FENCE (R156). Retires once the store buffer is empty and no window read is outstanding. -/
  | fence (p : PaneNo) (gd : BitVec 4)
  /-- WAITT (R250). Ends the tick's work, waits for acknowledgements, advances the tag and stalls until the open. -/
  | waitt (p : PaneNo) (gd : BitVec 4) (k : Nat)
  /-- MFS (R261). Reads a special register. -/
  | mfs (p : PaneNo) (gd : BitVec 4) (reg : RegNo) (n : BitVec 8)
  /-- MTS (R261). Writes a special register by field access. -/
  | mts (p : PaneNo) (gd : BitVec 4) (reg : RegNo) (n : BitVec 8)
  /-- GATE (R273). Checks a gate descriptor and enters it, pushing a save frame. -/
  | gate (p : PaneNo) (gd : BitVec 4) (n : BitVec 8)
  /-- RTG (R283). Restores a save frame and returns, or launches at depth 0. -/
  | rtg (p : PaneNo) (gd : BitVec 4)
  /-- EVPOP (R308). Claims the oldest unclaimed event record and pushes the priority stack. -/
  | evpop (p : PaneNo) (gd : BitVec 4) (reg : RegNo)
  /-- EVDONE (R309). Completes the record on top of the priority stack and pops it. -/
  | evdone (p : PaneNo) (gd : BitVec 4)
  /-- EVWAIT (R263). Stalls until the event queue holds an unclaimed record. -/
  | evwait (p : PaneNo) (gd : BitVec 4)
  /-- TRAP_ENTRY (R273). Enters the trap descriptor of a trapping instruction once window accesses settle. -/
  | trapEntry (p : PaneNo)
  /-- EVENT_ENTRY (R279). At a sampling point with the interrupt asserted and EM 0, enters descriptor 16. -/
  | eventEntry (p : PaneNo)
  /-- BOUNDARY (R56). The root close of a tick boundary runs close, gather, commit and open. -/
  | boundary
  /-- SOURCE_EDGE (R45). An external tick source edge is accepted, steering the generator, or counted as stray.
  an edge at the ball at time `t`: of TICK_IN, of the frame syncs that FS_DIV selects, or of 802.1AS time. -/
  | sourceEdge (t : Nat)
  /-- TICK_SOURCE_LOSS (R47). No edge for 1.5 periods declares loss and starts holdover. -/
  | tickSourceLoss (t : Nat)
  /-- TICK_RELOCK (R49). After 16 consistent edges the generator relocks. -/
  | tickRelock
  /-- POST_ARRIVAL (R98). A post reaches its receiver and is stored, held, discarded late or misrouted, then acknowledged. -/
  | postArrival (src : MsgFrom) (e : FlitErr)
  /-- HELD_POST_DELIVERY (R64). A post held for an unopened back half is delivered after the commit window. -/
  | heldPostDelivery (k : Nat)
  /-- ACKNOWLEDGEMENT (R97). An acknowledgement returns to the sender for its WAITT. -/
  | acknowledgement (src : MsgFrom) (e : FlitErr) (t : Nat)
  /-- REDUCE_CONTRIBUTION (R116). A contribution reaches the root and is stored in its rank's slot. -/
  | reduceContribution (src : MsgFrom) (e : FlitErr)
  /-- DRIVE_POST (R343). A drive post reaches its drive entry and is stored in the copy's back half. -/
  | drivePost (src : MsgFrom) (e : FlitErr)
  /-- RELAY_FORWARD (R127). A relay latch re-injects a message on VN1 toward its destination. -/
  | relayForward (k : Nat)
  /-- ROUTER_DEAD (R124). A router silent for 2 us is declared dead and reported. -/
  | routerDead (router reporter : PaneNo) (t : Nat)
  /-- ROUTE_INSTALL (R125). New routes are installed at the first boundary 1 us after the report. -/
  | routeInstall
  /-- PANE_RETIREMENT (R131). A pane is retired at a T0 boundary, with discard marks, queue discard and root move. -/
  | paneRetirement (p : PaneNo)
  /-- TAKEOVER_STATE_COPY (R135). The twin's latch copies the state region to the spare.
  `k` is the takeover, in the order in which they began. -/
  | takeoverStateCopy (k : Nat)
  /-- TAKEOVER_LOG_REPLAY (R135). A tick's write log is replayed into the spare. -/
  | takeoverLogReplay (k : Nat)
  /-- TAKEOVER_REDIRECT (R135). Outgoing entries naming the retired pane are rewritten to the spare. -/
  | takeoverRedirect (k : Nat)
  /-- TAKEOVER_COMPLETE (R135). The spare opens as the new twin after the final replay. -/
  | takeoverComplete (k : Nat)
  /-- SCRUB_WORD (R171). The latch scrubs one SRAM word every 100 ns while the pane stalls. -/
  | scrubWord (p : PaneNo)
  /-- ECC_REWRITE (R168). The latch rewrites a corrected word at the next WAITT stall. -/
  | eccRewrite (p : PaneNo)
  /-- BELL_ARRIVAL (R298). An arrival at a bell source counts and sets PENDING. -/
  | bellArrival (k : Nat) (sash : BitVec 6)
  /-- BELL_RECORD_WRITE (R302). The bell writes one record of a ready group to a target's queue. -/
  | bellRecordWrite (sash : BitVec 6)
  /-- HOLDOFF_EXPIRY (R301). A group's hold-off time expires. -/
  | holdoffExpiry (sash : BitVec 6) (group : BitVec 3)
  /-- AON_ARRIVAL_LATCH (R314). While a sash is closed the AON block latches an arrival bit. -/
  | aonArrivalLatch (k : Nat) (sash : BitVec 6)
  /-- SAMPLE_FRAME (R321). A frame arrives on a sample-input group and its words enter the lane FIFOs.
  `bits` holds the eight data lanes as sampled at each bit clock edge, from the frame start at `t0` up to the next one, the last at `t`; `bad` names (lane, slot) entries whose stored parity is wrong. -/
  | sampleFrame (g : BitVec 3) (bits : List (BitVec 8)) (bad : List (Nat × Nat)) (t0 t : Nat)
  /-- DISTRIBUTION_WRITE (R334). The distribution engine writes a counted frame's slots into subscribing channels.
  `feed` names the lane, with the flit errors that its messages meet. -/
  | distributionWrite (bay : BitVec 3) (feed : LaneFeed)
  /-- RXDATA_READ (R329). A direct-mode read removes the oldest FIFO entry. -/
  | rxdataRead (g lane : BitVec 3)
  /-- FLUSH (R330). Writing FLUSH discards a direct-mode lane's frames. -/
  | flush (g : BitVec 3) (mask : BitVec 8)
  /-- DRIVE_FRAME_RELEASE (R340). At release point P the serialiser sends the frame, with LAST for missing or bad entries.
  `missing` and `bad` name the slots of group `g` whose FIFO entry the serialiser finds absent or with wrong parity. -/
  | driveFrameRelease (g : Bool) (missing bad : List Nat)
  /-- INTERLOCK_PIN_CHANGE (R365). ABORT_IN_N or DOOR_IN_N changes level at the crossing sampler.
  The pin is DOOR_IN_N when `door`, else ABORT_IN_N; `high` is its new level. -/
  | interlockPinChange (door : Bool) (high : Bool) (t : Nat)
  /-- INTERLOCK_FILTER_EXPIRY (R365). A pin held for PIN_FILTER counts as asserted or released; a kill acts at once. -/
  | interlockFilterExpiry (door : Bool) (t : Nat)
  /-- RAMP_LIMIT_EXPIRY (R374). A ramp not finished within RAMP_LIMIT trips a kill. -/
  | rampLimitExpiry
  /-- MOVER_EXECUTE (R406). A mover checks its next descriptor and moves its rows.
  `n` is how many bytes the mover moves in this step. -/
  | moverExecute (bay : BitVec 3) (m : BitVec 2) (n : Nat)
  /-- MOVER_STAGE_READ (R408). A latch reads a pane-memory source into staging during WAITT. -/
  | moverStageRead (bay : BitVec 3) (m : BitVec 2)
  /-- MOVER_PANE_WRITE (R408). A latch writes a pane-memory destination from staging at the due boundary. -/
  | moverPaneWrite (bay : BitVec 3) (m : BitVec 2)
  /-- MOVER_WRITE_BACK (R410). A completed descriptor is written back during Commit. -/
  | moverWriteBack (bay : BitVec 3) (m : BitVec 2)
  /-- MOVER_LATE (R411). An incomplete descriptor at its due boundary counts as an owner overrun. -/
  | moverLate (bay : BitVec 3) (m : BitVec 2)
  /-- DRAM_REFRESH (R396). Per-bank refresh at the MR4 rate.
  `hot` is what MR4 reports: above 85 degrees. -/
  | dramRefresh (hot : Bool)
  /-- ZQ_CALIBRATION (R396). ZQ calibration every 128 ms. -/
  | zqCalibration
  /-- DRAM_SCRUB_READ (R416). A patrol read every RATE us.
  `unit` is the number of the 64-byte unit the patrol reads. -/
  | dramScrubRead (unit : Nat)
  /-- KEYHOLE_HASH (R484). KH_GO OP 1 submits a SHA-256 request. -/
  | keyholeHash (p : PaneNo)
  /-- KEYHOLE_SIGN (R484). KH_GO OP 2 submits a pane-key signature request. -/
  | keyholeSign (p : PaneNo)
  /-- KEYHOLE_PUBKEY (R484). KH_GO OP 3 requests the pane public key and proof. -/
  | keyholePubkey (p : PaneNo)
  /-- KEYHOLE_LOG (R484). KH_GO OP 4 requests a chained log block. -/
  | keyholeLog (p : PaneNo)
  /-- KEYHOLE_COMPLETION (R487). The keyhole completes a request, sets DONE and makes a bell arrival. -/
  | keyholeCompletion (bay : BitVec 3)
  /-- LOG_BLOCK_ACCEPT (R489). The log store accepts a block and the producer's head advances. -/
  | logBlockAccept
  /-- SEAL_POINT (R492). At each SEAL_MS every producer's head is captured, signed and written. -/
  | sealPoint (t : Nat)
  /-- CHECKPOINT (R498). A checkpoint is written after seals or every 8,192 blocks. -/
  | checkpoint
  /-- EMMC_PORT_FAIL (R497). A failed eMMC port's blocks move to the surviving port.
  `lost` is how many blocks on their way to the port are lost with it. -/
  | emmcPortFail (port : Bool) (lost : Nat)
  /-- EMMC_REQUEST_COMPLETE (R498). An eMMC request completes with a bell arrival. -/
  | emmcRequestComplete (port : Bool)
  /-- STREAM_REQUEST (R514). A write to ST_GO submits a stream request after checks. -/
  | streamRequest (p : PaneNo) (stream : BitVec 6)
  /-- STREAM_RECORD_SEND (R515). The port sends one stream record of a request. -/
  | streamRecordSend (port : Bool)
  /-- ETH_FRAME_RECEIVE (R508). A received frame is accepted, answered or dropped. -/
  | ethFrameReceive (port : Bool) (f : EthFrame)
  /-- ETH_LINK_CHANGE (R512). An Ethernet link goes up or down. -/
  | ethLinkChange (port up : Bool)
  /-- ADDRESS_RESOLUTION (R509). Stream destinations are resolved every 60 s.
  `answered` names the streams whose destination answers. -/
  | addressResolution (port : Bool) (answered : List Nat)
  /-- PTP_MESSAGE_RECEIVE (R511). A received 802.1AS message updates time, stepping or slewing it. -/
  | ptpMessageReceive (port : Bool) (m : PtpMsg) (t : Nat)
  /-- PTP_MESSAGE_SEND (R510). An 802.1AS sync, announce or Pdelay message is sent on its interval.
  `kind` is 0 sync, 1 announce, 2 peer delay request. -/
  | ptpMessageSend (port : Bool) (kind : BitVec 2)
  /-- PTP_RECEIPT_TIMEOUT (R510). A sync or announce receipt timeout loses time. -/
  | ptpReceiptTimeout (port announce : Bool)
  /-- GATE_CONTROL_ENTRY (R513). The 802.1Qbv list moves to its next gate entry. -/
  | gateControlEntry (port : Bool)
  /-- ANNOUNCEMENT (R519). The lintel sends a signed announcement every 10 s and on events. -/
  | announcement
  /-- NETWORK_KNOCK (R522). A knock datagram is checked and accepted, refused or dropped. -/
  | networkKnock (port : Bool) (dgram : List Byte) (t : Nat)
  /-- SILL_KNOCK (R598). A write to the sill KNOCK register raises a knock. -/
  | sillKnock (v : Word)
  /-- PIN_KNOCK (R520). A knock pin held high for 10 us raises a knock. -/
  | pinKnock (line : Nat) (t : Nat)
  /-- KNOCK_FORWARD (R548). A follower forwards an accepted knock to the master.
  `inn` is a knock block that reaches the master; none where this part forwards. -/
  | knockForward (inn : Option CtlBlock)
  /-- KNOCK_BROADCAST (R548). The master broadcasts a knock and its due tick.
  `inn` is a broadcast that reaches a follower; none where the master sends. -/
  | knockBroadcast (inn : Option CtlBlock)
  /-- START (R441). A due START is decided, entering RUNNING or refused. -/
  | start
  /-- HOLD (R376). A due HOLD enters HOLDING and starts the ramp. -/
  | hold
  /-- RESUME (R376). A due RESUME releases the override or cancels a shutdown. -/
  | resume
  /-- ABORT (R526). A due ABORT trips the bolt with cause 770. -/
  | abort
  /-- MARK (R526). A due MARK counts and logs its ARG. -/
  | mark
  /-- SHUTDOWN (R36). A due SHUTDOWN enters SHUTTING-DOWN. -/
  | shutdown
  /-- REPORT (R526). A due REPORT sends an announcement and logs counters. -/
  | report
  /-- SHUTDOWN_TEST (R617). The lintel tests each unit with save and restore.
  the next step: `failed` names the elements of the unit that fail: pane positions of a sash (16: its bell), pane numbers of a strip, hinges; anything for another unit. -/
  | shutdownTest (cond : TestCond) (failed : List Nat)
  /-- SHUTDOWN_TEST_END (R621). The test ends, the shutdown record and final seal are written, and the part enters OFF.
  `norOk`: the write of the NOR record succeeds; `elapsed`: the AON elapsed counter, s. -/
  | shutdownTestEnd (norOk : Bool) (elapsed : Nat)
  /-- SHUTDOWN_CANCEL_REOPEN (R620). After a cancelling RESUME the domains reopen and tasks are released. -/
  | shutdownCancelReopen
  /-- LINK_TRAINING (R535). A wicket link trains, authenticates and exchanges configuration.
  the next step of training ends at time `t`. -/
  | linkTraining (link : BitVec 3) (peer : PeerInfo) (t : Nat)
  /-- LINK_DOWN (R550). A wicket link is declared DOWN and traffic moves to its twin. -/
  | linkDown (link : BitVec 3) (lockLost : Bool) (t : Nat)
  /-- LINK_RESTORE (R551). A retrained link carries traffic again from a later boundary. -/
  | linkRestore (link : BitVec 3)
  /-- IDLE_CONTROL_BLOCK (R532). An idle control block is sent after 100 ns without one.
  `received`: an idle block arrives, with its CRC good or not; else one is sent. -/
  | idleControlBlock (link : BitVec 3) (received : Option Bool) (t : Nat)
  /-- BOARD_DIGEST_EXCHANGE (R538). Parts exchange and compare board digests. -/
  | boardDigestExchange (part : BitVec 3) (digest : List Byte)
  /-- TICK_MARKER_SEND (R539). The master sends a marker 1,000 ns before each edge. -/
  | tickMarkerSend (t : Nat)
  /-- TICK_MARKER_ARRIVAL (R539). A marker arrives, is forwarded and sets the follower's root close.
  `lead` and `residence` in 1/16 ns. -/
  | tickMarkerArrival (link : BitVec 3) (lead tick residence t : Nat)
  /-- AGREEMENT_TOKEN (R545). An agreement token from another part arrives. -/
  | agreementToken (part : BitVec 3) (token : Token) (t : Nat)
  /-- TOKEN_LATE (R547). A token not in by C+580 ns is late; two in a row lose the part. -/
  | tokenLate (part : BitVec 3)
  /-- WICKET_FORWARD (R542). A crossed part forwards a cross-part message between links.
  `link` and `e` of a message that a link brings. -/
  | wicketForward (src : MsgFrom) (link : BitVec 3) (e : LinkErr)
  /-- POWER_REQ_OPEN (R561). PWR.REQ target open requests a domain wake. -/
  | powerReqOpen (domain : BitVec 8)
  /-- POWER_REQ_AJAR (R561). PWR.REQ target ajar requests entry to ajar. -/
  | powerReqAjar (domain : BitVec 8)
  /-- POWER_REQ_SHUT (R561). PWR.REQ target shut requests entry to shut. -/
  | powerReqShut (domain : BitVec 8)
  /-- DOMAIN_ENTRY (R563). A domain stops its units, isolates and moves to ajar or shut.
  `busy`: a unit whose work the model does not place in time (a router buffer with a message on its way through the strip, a DRAM wheel slot, an eMMC or xSPI command) was busy when asked (R564). -/
  | domainEntry (domain : BitVec 7) (busy : Bool)
  /-- DOMAIN_WAKE (R566). A domain wakes from ajar or shut, restoring or reloading state. -/
  | domainWake (domain : BitVec 7)
  /-- WAKE_ON_ACCESS (R568). An access to a closed domain stalls and requests a wake. -/
  | wakeOnAccess (domain : BitVec 7)
  /-- WAKE_REPLAY (R569). A wake latched during entry is replayed. -/
  | wakeReplay (domain : BitVec 7)
  /-- LATCH_REPORT (R582). A latch reports a fault to its hinge, which forwards it to the lintel.
  the k-th report under way from a latch arrives; `internal`: a latch finds an uncorrectable error inside itself, and reports it. -/
  | latchReport (internal : Option PaneNo) (k : Nat) (t : Nat)
  /-- LEDGER_ACTION (R584). The lintel records a fault, acts and tests containment.
  `masked`: a copy of a transom branch (false) or of a bolt logic unit (true) has been masked, with the number of the unit. -/
  | ledgerAction (masked : Option (Bool × Nat)) (t : Nat)
  /-- LATCH_COUNTER_POLL (R582). The lintel reads latch counters every 1 ms. -/
  | latchCounterPoll (t : Nat)
  /-- HINGE_HEARTBEAT (R583). The lintel exchanges a heartbeat with each hinge every 2 us. -/
  | hingeHeartbeat (hinge : BitVec 5) (answered : Bool)
  /-- HINGE_DEAD (R583). Three missed heartbeats declare a hinge dead. -/
  | hingeDead (hinge : BitVec 5) (t : Nat)
  /-- LOCKSTEP_MISMATCH (R27). A lintel lockstep mismatch puts the part in FAULTED. -/
  | lockstepMismatch (t : Nat)
  /-- SILL_READ (R591). Sill command 0x0B reads words of the sill block or window.
  A read frame of `n` words; `done`: a window access ends within its turnaround. -/
  | sillRead (addr : BitVec 16) (crc : Byte) (n : Nat) (done : Bool)
  /-- SILL_WRITE (R593). Sill command 0x02 writes words.
  Each word with the CRC byte received after it. -/
  | sillWrite (addr : BitVec 16) (words : List (Word × Byte)) (done : Bool)
  /-- SILL_STATUS (R589). Sill command 0x05 returns whether a window access is outstanding. -/
  | sillStatus
  /-- SILL_BAD_COMMAND (R589). Any other command byte ends the frame with ERR. -/
  | sillBadCommand (cmd : Byte)
  /-- SILL_WINDOW_ACCESS (R593). A window access completes and its result is held. -/
  | sillWindowAccess
  /-- MB_STATUS_READ (R605). A sill read of MB_STATUS latches the mailbox snapshot. -/
  | mbStatusRead (m : BitVec 5)
  /-- MAILBOX_PUBLISH (R602). A write to MB_PUB stages a tagged publication. -/
  | mailboxPublish (p : PaneNo) (v : Word)
  /-- BRIDGE_OPEN (R599). BR_CTL open opens the NOR bridge in READY. -/
  | bridgeOpen
  /-- BRIDGE_CLOSE (R599). BR_CTL close closes the NOR bridge. -/
  | bridgeClose
  /-- BRIDGE_READ (R600). BR_OP 1 reads NOR into BR_BUF. -/
  | bridgeRead
  /-- BRIDGE_PROGRAM (R600). BR_OP 2 programs a NOR page from BR_BUF. -/
  | bridgeProgram
  /-- BRIDGE_ERASE (R600). BR_OP 3 erases 64 KiB of NOR. -/
  | bridgeErase
  /-- BRIDGE_OP_COMPLETE (R600). A bridge operation ends or times out. -/
  | bridgeOpComplete (failed late : Bool)
  /-- LC_RETURN (R611). LC_CMD 1 checks a return token and fuses RETURNED. -/
  | lcReturn
  /-- LC_SCRAP (R611). LC_CMD 2 checks a scrap token and fuses SCRAPPED. -/
  | lcScrap
  /-- SLACK_RESET (R87). Writing 1 sets WORST_SLACK to its maximum. -/
  | slackReset (p : PaneNo)
  /-- TICKNO_LO_READ (R85). A read of TICKNO_LO latches TICKNO_HI. -/
  | ticknoLoRead
  /-- STAMP_LO_READ (R85). A read of STAMP_LO latches STAMP_HI. -/
  | stampLoRead
  /-- LAST_OVERRUN_LO_READ (R87). A read of LAST_OVERRUN_LO latches the high word. -/
  | lastOverrunLoRead (p : PaneNo)
  /-- TRIP_TICK_LO_READ (R390). A read of TRIP_TICK_LO latches the high word. -/
  | tripTickLoRead
  /-- TICK_LO_READ (R596). A sill read of TICK_LO latches TICK_HI. -/
  | tickLoRead
  /-- READ_CLEAR (R14). A read of an RC field returns and clears it, keeping a coincident increment.
  `inc`: an increment that coincides with the read. -/
  | readClear (a inc : Word)
  /-- REGISTER_WRITE (R12). A write to a register with no row of its own, by access type.
  `hw`: bits that hardware sets in the same access. -/
  | registerWrite (a v hw : Word)
  /-- GPIO_EDGE (R294). An edge on a selected GPIO line makes a bell arrival.
  The line is sampled at its new level. -/
  | gpioEdge (line : BitVec 6) (level : Bool) (t : Nat)
  /-- START_SEQUENCE (R417). After reset release the lintel runs the start stages to READY.
  What the sequence meets outside the state. -/
  | startSequence (env : StartEnv)
  /-- POWER_ON_RESET (R623). POR_N or low VDD_AON resets the part. -/
  | powerOnReset
  /-- RESET_PIN (R623). RESET_N low resets the part.
  A low pulse of `ns` so far; `takes`: one between 100 ns and 1 us resets the part; `stillLow`: the pin is low yet. -/
  | resetPin (ns : Nat) (takes stillLow : Bool)
  /-- AON_BROWNOUT (R577). AON regulator overdraw browns out the part.
  `draw` of the AON regulator, in uA. -/
  | aonBrownout (draw : Nat)
  /-- CORE_BROWNOUT (R623). VDD_CORE below 0.89 V for 2 us resets the part.
  VDD_CORE has been below 0.89 V for `ns`. -/
  | coreBrownout (ns : Nat)
  /-- SUPPLY_LOSS (R654). A supply falling below 90 % resets or severs its domains.
  Supplies 0 to 11: VDD_AON, VDD_CORE, VDD_PLL, VDD_SERDES, VDDA_SERDES, VDDIO_18, VDD_LVDS, VDDIO_G0 to G3, VDDQ_DDR. -/
  | supplyLoss (supply : BitVec 4) (t : Nat)
  /-- DOMAIN_RAIL_RESET (R627). A rail supervisor resets an open domain. -/
  | domainRailReset (domain : BitVec 7) (t : Nat)
  /-- CROSSING_SEVER (R635). An epoch or parity mismatch severs a crossing.
  `parity`: a pointer or counter parity failure. -/
  | crossingSever (crossing : BitVec 7) (parity : Bool) (t : Nat)
  /-- CROSSING_REARM (R637). The lintel re-arms a severed crossing at a boundary. -/
  | crossingRearm (crossing : BitVec 7) (t : Nat)
  /-- TAP_BYPASS (R608). JTAG BYPASS instruction. -/
  | tapBypass
  /-- TAP_IDCODE (R608). JTAG IDCODE instruction. -/
  | tapIdcode
  /-- TAP_SAMPLE_PRELOAD (R608). JTAG SAMPLE/PRELOAD instruction. -/
  | tapSamplePreload (cells : List Bool)
  /-- TAP_EXTEST (R608). JTAG EXTEST instruction. -/
  | tapExtest
  /-- TAP_SCAN_LOAD (R608). Private instruction loading scan patterns. -/
  | tapScanLoad (pattern : List Bool)
  /-- TAP_LOW_VOLTAGE_TEST (R608). Private instruction running tests at 0.70 V. -/
  | tapLowVoltageTest (fails : List Nat)
  /-- TAP_PROVISION (R609). Private instruction advancing MANUFACTURE to PROVISIONED.
  The secrets drawn from the part's entropy, none where the source fails its tests at the draw (R477). -/
  | tapProvision (devSeed paneSecret : Option (List Byte))
  /-- TAP_SCRAP (R609). Private instruction scrapping the part. -/
  | tapScrap
  /-- REFERENCE_FAILURE (R629). The 25 MHz reference on REF25_P/N fails and the crossing-sampler PLL runs free within 2 percent. -/
  | referenceFailure (t : Nat)
  /-- CERTIFICATE_FUSE (R478). In PROVISIONED the vendor returns the X.509 certificate, the lintel fuses it, verifies it and enters FIELD automatically. -/
  | certificateFuse (der : List Byte)
  /-- LOG_STORE_FORMAT (R499). A sill-port command in READY formats the log store, setting RUN to 1 and logging code 0x0504. -/
  | logStoreFormat
  /-- SUPPLY_RETURN (R627). A domain rail back within 90 percent of its setting releases the domain reset that the rail supervisor held. -/
  | supplyReturn (rail : Rail) (t : Nat)
  deriving DecidableEq, Repr

end Sys2Proof
end

