-- ==== Sys2Proof/Decode.lean ====
section
/-!
DEFINITION. The Nirmon instruction word (R209 to R218): the encoder, the encoding checks of R216 and the decoder,
and the table-word interface. The operation table gives no row any bits, so no table word spells a command.
-/
namespace Sys2Proof

/-! The encoder: one word per format of R210, as a number below 2^32. -/

/-- The guard and the major opcode, common to every format (R209). -/
def wordHead (gd : BitVec 4) (major : Nat) : Nat := gd.toNat * 2 ^ 28 + major * 2 ^ 21

/-- Format A (R210). -/
def wordA (gd : BitVec 4) (major rd ra rb func : Nat) : Nat :=
  wordHead gd major + rd * 2 ^ 16 + ra * 2 ^ 11 + rb * 2 ^ 6 + func

/-- Format B (R210). -/
def wordB (gd : BitVec 4) (major rd ra imm : Nat) : Nat :=
  wordHead gd major + rd * 2 ^ 16 + ra * 2 ^ 11 + imm

/-- Format C (R210). -/
def wordC (gd : BitVec 4) (major rd imm : Nat) : Nat := wordHead gd major + rd * 2 ^ 16 + imm

/-- Format D (R210). -/
def wordD (gd : BitVec 4) (major off : Nat) : Nat := wordHead gd major + off

/-- Format E (R210). -/
def wordE (gd : BitVec 4) (major rt ra : Nat) (m : Bool) (off : Nat) : Nat :=
  wordHead gd major + rt * 2 ^ 16 + ra * 2 ^ 11 + m.toNat * 2 ^ 10 + off

/-- Format F, compares (R210). -/
def wordF (gd : BitVec 4) (major pd ra : Nat) (i : Bool) (cond b : Nat) : Nat :=
  wordHead gd major + pd * 2 ^ 18 + ra * 2 ^ 13 + i.toNat * 2 ^ 12 + cond * 2 ^ 8 + b

/-- Format F, predicate logic (R210). -/
def wordL (gd : BitVec 4) (major pd pa : Nat) (na : Bool) (pb : Nat) (nb : Bool) (op : Nat) : Nat :=
  wordHead gd major + pd * 2 ^ 18 + pa * 2 ^ 15 + na.toNat * 2 ^ 14 + pb * 2 ^ 11 + nb.toNat * 2 ^ 10 + op * 2 ^ 8

/-- Format G (R210). -/
def wordG (gd : BitVec 4) (major l : Nat) (r : Bool) (body cnt : Nat) : Nat :=
  wordHead gd major + l * 2 ^ 19 + r.toNat * 2 ^ 18 + body * 2 ^ 10 + cnt

/-- Format H under major 0x40 (R210, R261). -/
def wordH (gd : BitVec 4) (reg n sub : Nat) : Nat := wordHead gd 64 + reg * 2 ^ 16 + n * 2 ^ 8 + sub

/-- The instruction word of a Nirmon instruction; none for a command that is not one. -/
def encodeNat : Instr → Option Nat
  | .add _ gd rd ra rb => some (wordA gd 1 rd.toNat ra.toNat rb.toNat 0)
  | .sub _ gd rd ra rb => some (wordA gd 1 rd.toNat ra.toNat rb.toNat 1)
  | .and _ gd rd ra rb => some (wordA gd 1 rd.toNat ra.toNat rb.toNat 2)
  | .or _ gd rd ra rb => some (wordA gd 1 rd.toNat ra.toNat rb.toNat 3)
  | .xor _ gd rd ra rb => some (wordA gd 1 rd.toNat ra.toNat rb.toNat 4)
  | .andn _ gd rd ra rb => some (wordA gd 1 rd.toNat ra.toNat rb.toNat 5)
  | .min _ gd rd ra rb => some (wordA gd 1 rd.toNat ra.toNat rb.toNat 6)
  | .max _ gd rd ra rb => some (wordA gd 1 rd.toNat ra.toNat rb.toNat 7)
  | .minu _ gd rd ra rb => some (wordA gd 1 rd.toNat ra.toNat rb.toNat 8)
  | .maxu _ gd rd ra rb => some (wordA gd 1 rd.toNat ra.toNat rb.toNat 9)
  | .adds _ gd rd ra rb => some (wordA gd 1 rd.toNat ra.toNat rb.toNat 10)
  | .subs _ gd rd ra rb => some (wordA gd 1 rd.toNat ra.toNat rb.toNat 11)
  | .shl _ gd rd ra rb => some (wordA gd 1 rd.toNat ra.toNat rb.toNat 16)
  | .shr _ gd rd ra rb => some (wordA gd 1 rd.toNat ra.toNat rb.toNat 17)
  | .sar _ gd rd ra rb => some (wordA gd 1 rd.toNat ra.toNat rb.toNat 18)
  | .ror _ gd rd ra rb => some (wordA gd 1 rd.toNat ra.toNat rb.toNat 19)
  | .mul _ gd rd ra rb => some (wordA gd 2 rd.toNat ra.toNat rb.toNat 0)
  | .mulh _ gd rd ra rb => some (wordA gd 2 rd.toNat ra.toNat rb.toNat 1)
  | .mulhu _ gd rd ra rb => some (wordA gd 2 rd.toNat ra.toNat rb.toNat 2)
  | .div _ gd rd ra rb => some (wordA gd 2 rd.toNat ra.toNat rb.toNat 8)
  | .divu _ gd rd ra rb => some (wordA gd 2 rd.toNat ra.toNat rb.toNat 9)
  | .rem _ gd rd ra rb => some (wordA gd 2 rd.toNat ra.toNat rb.toNat 10)
  | .remu _ gd rd ra rb => some (wordA gd 2 rd.toNat ra.toNat rb.toNat 11)
  | .mac _ gd rd ra rb => some (wordA gd 3 rd.toNat ra.toNat rb.toNat 0)
  | .msu _ gd rd ra rb => some (wordA gd 3 rd.toNat ra.toNat rb.toNat 1)
  | .mac2h _ gd rd ra rb => some (wordA gd 3 rd.toNat ra.toNat rb.toNat 2)
  | .msu2h _ gd rd ra rb => some (wordA gd 3 rd.toNat ra.toNat rb.toNat 3)
  | .macu _ gd rd ra rb => some (wordA gd 3 rd.toNat ra.toNat rb.toNat 4)
  | .aext _ gd rd ra rb => some (wordA gd 3 rd.toNat ra.toNat rb.toNat 16)
  | .fadd _ gd rd ra rb => some (wordA gd 4 rd.toNat ra.toNat rb.toNat 0)
  | .fsub _ gd rd ra rb => some (wordA gd 4 rd.toNat ra.toNat rb.toNat 1)
  | .fmul _ gd rd ra rb => some (wordA gd 4 rd.toNat ra.toNat rb.toNat 2)
  | .fma _ gd rd ra rb => some (wordA gd 4 rd.toNat ra.toNat rb.toNat 3)
  | .fms _ gd rd ra rb => some (wordA gd 4 rd.toNat ra.toNat rb.toNat 4)
  | .fdiv _ gd rd ra rb => some (wordA gd 4 rd.toNat ra.toNat rb.toNat 5)
  | .fmin _ gd rd ra rb => some (wordA gd 4 rd.toNat ra.toNat rb.toNat 7)
  | .fmax _ gd rd ra rb => some (wordA gd 4 rd.toNat ra.toNat rb.toNat 8)
  | .postm _ gd rd ra rb => some (wordA gd 5 rd.toNat ra.toNat rb.toNat 1)
  | .neg _ gd rd ra => some (wordA gd 1 rd.toNat ra.toNat 0 12)
  | .negs _ gd rd ra => some (wordA gd 1 rd.toNat ra.toNat 0 13)
  | .abs _ gd rd ra => some (wordA gd 1 rd.toNat ra.toNat 0 14)
  | .clz _ gd rd ra => some (wordA gd 1 rd.toNat ra.toNat 0 20)
  | .popc _ gd rd ra => some (wordA gd 1 rd.toNat ra.toNat 0 21)
  | .sextb _ gd rd ra => some (wordA gd 1 rd.toNat ra.toNat 0 22)
  | .sexth _ gd rd ra => some (wordA gd 1 rd.toNat ra.toNat 0 23)
  | .zexth _ gd rd ra => some (wordA gd 1 rd.toNat ra.toNat 0 24)
  | .fsqrt _ gd rd ra => some (wordA gd 4 rd.toNat ra.toNat 0 6)
  | .fabs _ gd rd ra => some (wordA gd 4 rd.toNat ra.toNat 0 9)
  | .fneg _ gd rd ra => some (wordA gd 4 rd.toNat ra.toNat 0 10)
  | .fcvtSW _ gd rd ra => some (wordA gd 4 rd.toNat ra.toNat 0 16)
  | .fcvtWS _ gd rd ra => some (wordA gd 4 rd.toNat ra.toNat 0 17)
  | .fcvtSWu _ gd rd ra => some (wordA gd 4 rd.toNat ra.toNat 0 18)
  | .fcvtWuS _ gd rd ra => some (wordA gd 4 rd.toNat ra.toNat 0 19)
  | .aclr _ gd acc => some (wordA gd 3 acc.toNat 0 0 8)
  | .post _ gd ra rb => some (wordA gd 5 0 ra.toNat rb.toNat 0)
  | .reduce _ gd ra rb => some (wordA gd 5 0 ra.toNat rb.toNat 2)
  | .vdotH _ gd rd ra rb _ => some (wordA gd 6 rd.toNat ra.toNat rb.toNat 0)
  | .vdotF _ gd rd ra rb _ => some (wordA gd 6 rd.toNat ra.toNat rb.toNat 1)
  | .vmacH _ gd rd ra rb _ => some (wordA gd 6 rd.toNat ra.toNat rb.toNat 2)
  | .vmacF _ gd rd ra rb _ => some (wordA gd 6 rd.toNat ra.toNat rb.toNat 3)
  | .bmov _ gd rd ra rb _ => some (wordA gd 6 rd.toNat ra.toNat rb.toNat 8)
  | .bfill _ gd rd ra rb _ => some (wordA gd 6 rd.toNat ra.toNat rb.toNat 9)
  | .bcrc _ gd rd ra rb _ => some (wordA gd 6 rd.toNat ra.toNat rb.toNat 10)
  | .addi _ gd rd ra imm => some (wordB gd 8 rd.toNat ra.toNat imm.toNat)
  | .andi _ gd rd ra imm => some (wordB gd 9 rd.toNat ra.toNat imm.toNat)
  | .ori _ gd rd ra imm => some (wordB gd 10 rd.toNat ra.toNat imm.toNat)
  | .xori _ gd rd ra imm => some (wordB gd 11 rd.toNat ra.toNat imm.toNat)
  | .muli _ gd rd ra imm => some (wordB gd 13 rd.toNat ra.toNat imm.toNat)
  | .shiftiShl _ gd rd ra amt => some (wordB gd 12 rd.toNat ra.toNat (0 * 2 ^ 9 + amt.toNat))
  | .shiftiShr _ gd rd ra amt => some (wordB gd 12 rd.toNat ra.toNat (1 * 2 ^ 9 + amt.toNat))
  | .shiftiSar _ gd rd ra amt => some (wordB gd 12 rd.toNat ra.toNat (2 * 2 ^ 9 + amt.toNat))
  | .shiftiRor _ gd rd ra amt => some (wordB gd 12 rd.toNat ra.toNat (3 * 2 ^ 9 + amt.toNat))
  | .movi _ gd rd imm => some (wordC gd 16 rd.toNat imm.toNat)
  | .movhi _ gd rd imm => some (wordC gd 17 rd.toNat imm.toNat)
  | .orlo _ gd rd imm => some (wordC gd 18 rd.toNat imm.toNat)
  | .b _ gd off => some (wordD gd 24 off.toNat)
  | .bl _ gd off => some (wordD gd 25 off.toNat)
  | .lb _ gd rt ra m off => some (wordE gd 32 rt.toNat ra.toNat m off.toNat)
  | .lbu _ gd rt ra m off => some (wordE gd 33 rt.toNat ra.toNat m off.toNat)
  | .lh _ gd rt ra m off => some (wordE gd 34 rt.toNat ra.toNat m off.toNat)
  | .lhu _ gd rt ra m off => some (wordE gd 35 rt.toNat ra.toNat m off.toNat)
  | .lw _ gd rt ra m off => some (wordE gd 36 rt.toNat ra.toNat m off.toNat)
  | .lwp _ gd rt ra m off => some (wordE gd 37 rt.toNat ra.toNat m off.toNat)
  | .sb _ gd rt ra m off => some (wordE gd 40 rt.toNat ra.toNat m off.toNat)
  | .sh _ gd rt ra m off => some (wordE gd 41 rt.toNat ra.toNat m off.toNat)
  | .sw _ gd rt ra m off => some (wordE gd 42 rt.toNat ra.toNat m off.toNat)
  | .swp _ gd rt ra m off => some (wordE gd 43 rt.toNat ra.toNat m off.toNat)
  | .cmp _ gd pd ra i cond b => some (wordF gd 48 pd.toNat ra.toNat i cond.toNat b.toNat)
  | .fcmp _ gd pd ra i cond b => some (wordF gd 49 pd.toNat ra.toNat i cond.toNat b.toNat)
  | .plog _ gd pd pa na pb nb op => some (wordL gd 50 pd.toNat pa.toNat na pb.toNat nb op.toNat)
  | .loop _ gd l r body cnt => some (wordG gd 56 l.toNat r body.toNat cnt.toNat)
  | .fence _ gd => some (wordH gd 0 0 0)
  | .ret _ gd => some (wordH gd 0 0 5)
  | .rtg _ gd => some (wordH gd 0 0 7)
  | .evdone _ gd => some (wordH gd 0 0 9)
  | .evwait _ gd => some (wordH gd 0 0 10)
  | .waitt _ gd _ => some (wordH gd 0 0 1)
  | .mfs _ gd reg n => some (wordH gd reg.toNat n.toNat 2)
  | .mts _ gd reg n => some (wordH gd reg.toNat n.toNat 3)
  | .br _ gd reg => some (wordH gd reg.toNat 0 4)
  | .gate _ gd n => some (wordH gd 0 n.toNat 6)
  | .evpop _ gd reg => some (wordH gd reg.toNat 0 8)
  | .storeDrain .. => none
  | .windowReadReturn .. => none
  | .windowStoreResult .. => none
  | .trapEntry .. => none
  | .eventEntry .. => none
  | .boundary .. => none
  | .sourceEdge .. => none
  | .tickSourceLoss .. => none
  | .tickRelock .. => none
  | .postArrival .. => none
  | .heldPostDelivery .. => none
  | .acknowledgement .. => none
  | .reduceContribution .. => none
  | .drivePost .. => none
  | .relayForward .. => none
  | .routerDead .. => none
  | .routeInstall .. => none
  | .paneRetirement .. => none
  | .takeoverStateCopy .. => none
  | .takeoverLogReplay .. => none
  | .takeoverRedirect .. => none
  | .takeoverComplete .. => none
  | .scrubWord .. => none
  | .eccRewrite .. => none
  | .bellArrival .. => none
  | .bellRecordWrite .. => none
  | .holdoffExpiry .. => none
  | .aonArrivalLatch .. => none
  | .sampleFrame .. => none
  | .distributionWrite .. => none
  | .rxdataRead .. => none
  | .flush .. => none
  | .driveFrameRelease .. => none
  | .interlockPinChange .. => none
  | .interlockFilterExpiry .. => none
  | .rampLimitExpiry .. => none
  | .moverExecute .. => none
  | .moverStageRead .. => none
  | .moverPaneWrite .. => none
  | .moverWriteBack .. => none
  | .moverLate .. => none
  | .dramRefresh .. => none
  | .zqCalibration .. => none
  | .dramScrubRead .. => none
  | .keyholeHash .. => none
  | .keyholeSign .. => none
  | .keyholePubkey .. => none
  | .keyholeLog .. => none
  | .keyholeCompletion .. => none
  | .logBlockAccept .. => none
  | .sealPoint .. => none
  | .checkpoint .. => none
  | .emmcPortFail .. => none
  | .emmcRequestComplete .. => none
  | .streamRequest .. => none
  | .streamRecordSend .. => none
  | .ethFrameReceive .. => none
  | .ethLinkChange .. => none
  | .addressResolution .. => none
  | .ptpMessageReceive .. => none
  | .ptpMessageSend .. => none
  | .ptpReceiptTimeout .. => none
  | .gateControlEntry .. => none
  | .announcement .. => none
  | .networkKnock .. => none
  | .sillKnock .. => none
  | .pinKnock .. => none
  | .knockForward .. => none
  | .knockBroadcast .. => none
  | .start .. => none
  | .hold .. => none
  | .resume .. => none
  | .abort .. => none
  | .mark .. => none
  | .shutdown .. => none
  | .report .. => none
  | .shutdownTest .. => none
  | .shutdownTestEnd .. => none
  | .shutdownCancelReopen .. => none
  | .linkTraining .. => none
  | .linkDown .. => none
  | .linkRestore .. => none
  | .idleControlBlock .. => none
  | .boardDigestExchange .. => none
  | .tickMarkerSend .. => none
  | .tickMarkerArrival .. => none
  | .agreementToken .. => none
  | .tokenLate .. => none
  | .wicketForward .. => none
  | .powerReqOpen .. => none
  | .powerReqAjar .. => none
  | .powerReqShut .. => none
  | .domainEntry .. => none
  | .domainWake .. => none
  | .wakeOnAccess .. => none
  | .wakeReplay .. => none
  | .latchReport .. => none
  | .ledgerAction .. => none
  | .latchCounterPoll .. => none
  | .hingeHeartbeat .. => none
  | .hingeDead .. => none
  | .lockstepMismatch .. => none
  | .sillRead .. => none
  | .sillWrite .. => none
  | .sillStatus .. => none
  | .sillBadCommand .. => none
  | .sillWindowAccess .. => none
  | .mbStatusRead .. => none
  | .mailboxPublish .. => none
  | .bridgeOpen .. => none
  | .bridgeClose .. => none
  | .bridgeRead .. => none
  | .bridgeProgram .. => none
  | .bridgeErase .. => none
  | .bridgeOpComplete .. => none
  | .lcReturn .. => none
  | .lcScrap .. => none
  | .slackReset .. => none
  | .ticknoLoRead .. => none
  | .stampLoRead .. => none
  | .lastOverrunLoRead .. => none
  | .tripTickLoRead .. => none
  | .tickLoRead .. => none
  | .readClear .. => none
  | .registerWrite .. => none
  | .gpioEdge .. => none
  | .startSequence .. => none
  | .powerOnReset .. => none
  | .resetPin .. => none
  | .aonBrownout .. => none
  | .coreBrownout .. => none
  | .supplyLoss .. => none
  | .domainRailReset .. => none
  | .crossingSever .. => none
  | .crossingRearm .. => none
  | .tapBypass .. => none
  | .tapIdcode .. => none
  | .tapSamplePreload .. => none
  | .tapExtest .. => none
  | .tapScanLoad .. => none
  | .tapLowVoltageTest .. => none
  | .tapProvision .. => none
  | .tapScrap .. => none
  | .referenceFailure .. => none
  | .certificateFuse .. => none
  | .logStoreFormat .. => none
  | .supplyReturn .. => none

/-- The instruction word as a 32-bit value. -/
def encode (i : Instr) : Option Word := (encodeNat i).map (BitVec.ofNat 32)

/-! The checks of R216, on a word given as a number. -/

/-- Majors 0x01 to 0x06: the FUNC values assigned by R214. -/
def funcAssigned (major func : Nat) : Bool :=
  match major with
  | 1 => func ≤ 14 || (16 ≤ func && func ≤ 24)
  | 2 => func ≤ 2 || (8 ≤ func && func ≤ 11)
  | 3 => func ≤ 4 || func == 8 || func == 16
  | 4 => func ≤ 10 || (16 ≤ func && func ≤ 19)
  | 5 => func ≤ 2
  | 6 => func ≤ 3 || (8 ≤ func && func ≤ 10)
  | _ => true

/-- The major opcodes assigned by R214. -/
def majorAssigned (major : Nat) : Bool :=
  (1 ≤ major && major ≤ 6) || (8 ≤ major && major ≤ 13) || (16 ≤ major && major ≤ 18) || major == 24 || major == 25
    || (32 ≤ major && major ≤ 37) || (40 ≤ major && major ≤ 43) || (48 ≤ major && major ≤ 50) || major == 56
    || major == 64

/-- The special register numbers of R202 and R271. -/
def sregListed (n : Nat) : Bool :=
  n ≤ 2 || (4 ≤ n && n ≤ 6) || (8 ≤ n && n ≤ 10) || (12 ≤ n && n ≤ 14) || (16 ≤ n && n ≤ 18) || (20 ≤ n && n ≤ 22)
    || (32 ≤ n && n ≤ 36) || (64 ≤ n && n ≤ 69)

/-- The special registers whose every field is read-only (R204, R271). -/
def sregReadOnly (n : Nat) : Bool := (32 ≤ n && n ≤ 36) || (67 ≤ n && n ≤ 69)

/-- Check 2 of R216: an unassigned value in FUNC, SUB, COND, OP, L, the SHIFTI kind or a special register number,
or FCMP with I = 1. -/
def unassignedValue (w : Nat) : Bool :=
  let major := bitsOf w 21 7
  if major ≤ 6 then !funcAssigned major (bitsOf w 0 6)
  else if major = 48 then bitsOf w 8 4 ≥ 8
  else if major = 49 then bitsOf w 8 4 ≥ 5 || bitsOf w 12 1 == 1
  else if major = 50 then bitsOf w 8 2 == 3
  else if major = 56 then bitsOf w 19 2 == 3
  else if major = 64 then
    let sub := bitsOf w 0 5
    if sub > 10 then true
    else if sub = 2 then !sregListed (bitsOf w 8 8)
    else if sub = 3 then !sregListed (bitsOf w 8 8) || sregReadOnly (bitsOf w 8 8)
    else false
  else false

/-- Check 3 of R216: PD = 0, an accumulator number above 1, a pair at an odd RT, M = 1 with RA = g0, or a load with
M = 1 that loads its own base. -/
def registerRestriction (w : Nat) : Bool :=
  let major := bitsOf w 21 7
  let func := bitsOf w 0 6
  let rd := bitsOf w 16 5
  let ra := bitsOf w 11 5
  if major = 48 ∨ major = 49 ∨ major = 50 then bitsOf w 18 3 == 0
  else if major = 3 then if func = 16 then ra > 1 else rd > 1
  else if major = 6 then func == 0 && decide (rd > 1)
  else if (32 ≤ major ∧ major ≤ 37) ∨ (40 ≤ major ∧ major ≤ 43) then
    let m := bitsOf w 10 1
    ((major == 37 || major == 43) && rd % 2 == 1) || (m == 1 && ra == 0)
      || (m == 1 && decide (major ≤ 37) && (rd == ra || (major == 37 && rd + 1 == ra)))
  else false

/-- Check 4 of R216: a nonzero bit in a field reserved by R212, with the used fields of R215. -/
def reservedBits (w : Nat) : Bool :=
  let major := bitsOf w 21 7
  let func := bitsOf w 0 6
  let rd := bitsOf w 16 5
  let ra := bitsOf w 11 5
  let rb := bitsOf w 6 5
  if major = 1 then
    ((decide (12 ≤ func) && decide (func ≤ 14)) || decide (20 ≤ func)) && rb != 0
  else if major = 3 then func == 8 && (ra != 0 || rb != 0)
  else if major = 4 then (func == 6 || func == 9 || func == 10 || decide (16 ≤ func)) && rb != 0
  else if major = 5 then (func == 0 || func == 2) && rd != 0
  else if major = 12 then bitsOf w 6 3 != 0
  else if major = 48 ∨ major = 49 then bitsOf w 12 1 == 0 && bitsOf w 0 3 != 0
  else if major = 50 then bitsOf w 0 8 != 0
  else if major = 56 then bitsOf w 18 1 == 1 && bitsOf w 0 5 != 0
  else if major = 64 then
    let sub := bitsOf w 0 5
    let reg := bitsOf w 16 5
    let n := bitsOf w 8 8
    bitsOf w 5 3 != 0 ||
      (if sub = 2 ∨ sub = 3 then false
       else if sub = 4 ∨ sub = 8 then n != 0
       else if sub = 6 then reg != 0
       else reg != 0 || n != 0)
  else false

/-- The cause of the undefined-instruction trap a word raises; none when every check passes (R216). -/
def checkWord (w : Nat) : Option Nat :=
  if bitsOf w 28 4 = 8 then some 0
  else if !majorAssigned (bitsOf w 21 7) then some 1
  else if unassignedValue w then some 2
  else if registerRestriction w then some 3
  else if reservedBits w then some 4
  else none

/-! The decoder. -/

/-- A register field. -/
def reg5 (w lo : Nat) : RegNo := BitVec.ofNat 5 (bitsOf w lo 5)

/-- The guard field. -/
def grd (w : Nat) : BitVec 4 := BitVec.ofNat 4 (bitsOf w 28 4)

/-- A flag bit. -/
def flagAt (w i : Nat) : Bool := bitsOf w i 1 == 1

/-- Major 0x01, integer (R214, R215). -/
def decodeInteger (p : PaneNo) (w : Nat) : Option Instr :=
  match bitsOf w 0 6 with
  | 0 => some (.add p (grd w) (reg5 w 16) (reg5 w 11) (reg5 w 6))
  | 1 => some (.sub p (grd w) (reg5 w 16) (reg5 w 11) (reg5 w 6))
  | 2 => some (.and p (grd w) (reg5 w 16) (reg5 w 11) (reg5 w 6))
  | 3 => some (.or p (grd w) (reg5 w 16) (reg5 w 11) (reg5 w 6))
  | 4 => some (.xor p (grd w) (reg5 w 16) (reg5 w 11) (reg5 w 6))
  | 5 => some (.andn p (grd w) (reg5 w 16) (reg5 w 11) (reg5 w 6))
  | 6 => some (.min p (grd w) (reg5 w 16) (reg5 w 11) (reg5 w 6))
  | 7 => some (.max p (grd w) (reg5 w 16) (reg5 w 11) (reg5 w 6))
  | 8 => some (.minu p (grd w) (reg5 w 16) (reg5 w 11) (reg5 w 6))
  | 9 => some (.maxu p (grd w) (reg5 w 16) (reg5 w 11) (reg5 w 6))
  | 10 => some (.adds p (grd w) (reg5 w 16) (reg5 w 11) (reg5 w 6))
  | 11 => some (.subs p (grd w) (reg5 w 16) (reg5 w 11) (reg5 w 6))
  | 12 => some (.neg p (grd w) (reg5 w 16) (reg5 w 11))
  | 13 => some (.negs p (grd w) (reg5 w 16) (reg5 w 11))
  | 14 => some (.abs p (grd w) (reg5 w 16) (reg5 w 11))
  | 16 => some (.shl p (grd w) (reg5 w 16) (reg5 w 11) (reg5 w 6))
  | 17 => some (.shr p (grd w) (reg5 w 16) (reg5 w 11) (reg5 w 6))
  | 18 => some (.sar p (grd w) (reg5 w 16) (reg5 w 11) (reg5 w 6))
  | 19 => some (.ror p (grd w) (reg5 w 16) (reg5 w 11) (reg5 w 6))
  | 20 => some (.clz p (grd w) (reg5 w 16) (reg5 w 11))
  | 21 => some (.popc p (grd w) (reg5 w 16) (reg5 w 11))
  | 22 => some (.sextb p (grd w) (reg5 w 16) (reg5 w 11))
  | 23 => some (.sexth p (grd w) (reg5 w 16) (reg5 w 11))
  | 24 => some (.zexth p (grd w) (reg5 w 16) (reg5 w 11))
  | _ => none

/-- Major 0x02, multiply and divide (R214, R215). -/
def decodeMulDiv (p : PaneNo) (w : Nat) : Option Instr :=
  match bitsOf w 0 6 with
  | 0 => some (.mul p (grd w) (reg5 w 16) (reg5 w 11) (reg5 w 6))
  | 1 => some (.mulh p (grd w) (reg5 w 16) (reg5 w 11) (reg5 w 6))
  | 2 => some (.mulhu p (grd w) (reg5 w 16) (reg5 w 11) (reg5 w 6))
  | 8 => some (.div p (grd w) (reg5 w 16) (reg5 w 11) (reg5 w 6))
  | 9 => some (.divu p (grd w) (reg5 w 16) (reg5 w 11) (reg5 w 6))
  | 10 => some (.rem p (grd w) (reg5 w 16) (reg5 w 11) (reg5 w 6))
  | 11 => some (.remu p (grd w) (reg5 w 16) (reg5 w 11) (reg5 w 6))
  | _ => none

/-- Major 0x03, accumulators (R214, R215). -/
def decodeAccum (p : PaneNo) (w : Nat) : Option Instr :=
  match bitsOf w 0 6 with
  | 0 => some (.mac p (grd w) (reg5 w 16) (reg5 w 11) (reg5 w 6))
  | 1 => some (.msu p (grd w) (reg5 w 16) (reg5 w 11) (reg5 w 6))
  | 2 => some (.mac2h p (grd w) (reg5 w 16) (reg5 w 11) (reg5 w 6))
  | 3 => some (.msu2h p (grd w) (reg5 w 16) (reg5 w 11) (reg5 w 6))
  | 4 => some (.macu p (grd w) (reg5 w 16) (reg5 w 11) (reg5 w 6))
  | 8 => some (.aclr p (grd w) (reg5 w 16))
  | 16 => some (.aext p (grd w) (reg5 w 16) (reg5 w 11) (reg5 w 6))
  | _ => none

/-- Major 0x04, binary32 (R214, R215). -/
def decodeFloat (p : PaneNo) (w : Nat) : Option Instr :=
  match bitsOf w 0 6 with
  | 0 => some (.fadd p (grd w) (reg5 w 16) (reg5 w 11) (reg5 w 6))
  | 1 => some (.fsub p (grd w) (reg5 w 16) (reg5 w 11) (reg5 w 6))
  | 2 => some (.fmul p (grd w) (reg5 w 16) (reg5 w 11) (reg5 w 6))
  | 3 => some (.fma p (grd w) (reg5 w 16) (reg5 w 11) (reg5 w 6))
  | 4 => some (.fms p (grd w) (reg5 w 16) (reg5 w 11) (reg5 w 6))
  | 5 => some (.fdiv p (grd w) (reg5 w 16) (reg5 w 11) (reg5 w 6))
  | 6 => some (.fsqrt p (grd w) (reg5 w 16) (reg5 w 11))
  | 7 => some (.fmin p (grd w) (reg5 w 16) (reg5 w 11) (reg5 w 6))
  | 8 => some (.fmax p (grd w) (reg5 w 16) (reg5 w 11) (reg5 w 6))
  | 9 => some (.fabs p (grd w) (reg5 w 16) (reg5 w 11))
  | 10 => some (.fneg p (grd w) (reg5 w 16) (reg5 w 11))
  | 16 => some (.fcvtSW p (grd w) (reg5 w 16) (reg5 w 11))
  | 17 => some (.fcvtWS p (grd w) (reg5 w 16) (reg5 w 11))
  | 18 => some (.fcvtSWu p (grd w) (reg5 w 16) (reg5 w 11))
  | 19 => some (.fcvtWuS p (grd w) (reg5 w 16) (reg5 w 11))
  | _ => none

/-- Major 0x05, communication (R214, R215). -/
def decodeComm (p : PaneNo) (w : Nat) : Option Instr :=
  match bitsOf w 0 6 with
  | 0 => some (.post p (grd w) (reg5 w 11) (reg5 w 6))
  | 1 => some (.postm p (grd w) (reg5 w 16) (reg5 w 11) (reg5 w 6))
  | 2 => some (.reduce p (grd w) (reg5 w 11) (reg5 w 6))
  | _ => none

/-- Major 0x06, block (R214, R215). -/
def decodeBlock (p : PaneNo) (k : Nat) (w : Nat) : Option Instr :=
  match bitsOf w 0 6 with
  | 0 => some (.vdotH p (grd w) (reg5 w 16) (reg5 w 11) (reg5 w 6) k)
  | 1 => some (.vdotF p (grd w) (reg5 w 16) (reg5 w 11) (reg5 w 6) k)
  | 2 => some (.vmacH p (grd w) (reg5 w 16) (reg5 w 11) (reg5 w 6) k)
  | 3 => some (.vmacF p (grd w) (reg5 w 16) (reg5 w 11) (reg5 w 6) k)
  | 8 => some (.bmov p (grd w) (reg5 w 16) (reg5 w 11) (reg5 w 6) k)
  | 9 => some (.bfill p (grd w) (reg5 w 16) (reg5 w 11) (reg5 w 6) k)
  | 10 => some (.bcrc p (grd w) (reg5 w 16) (reg5 w 11) (reg5 w 6) k)
  | _ => none

/-- Major 0x0C, SHIFTI (R211). -/
def decodeShifti (p : PaneNo) (w : Nat) : Option Instr :=
  let amt := BitVec.ofNat 6 (bitsOf w 0 6)
  match bitsOf w 9 2 with
  | 0 => some (.shiftiShl p (grd w) (reg5 w 16) (reg5 w 11) amt)
  | 1 => some (.shiftiShr p (grd w) (reg5 w 16) (reg5 w 11) amt)
  | 2 => some (.shiftiSar p (grd w) (reg5 w 16) (reg5 w 11) amt)
  | _ => some (.shiftiRor p (grd w) (reg5 w 16) (reg5 w 11) amt)

/-- Major 0x40, system (R261). -/
def decodeSystem (p : PaneNo) (k : Nat) (w : Nat) : Option Instr :=
  let reg := reg5 w 16
  let n := BitVec.ofNat 8 (bitsOf w 8 8)
  match bitsOf w 0 5 with
  | 0 => some (.fence p (grd w))
  | 1 => some (.waitt p (grd w) k)
  | 2 => some (.mfs p (grd w) reg n)
  | 3 => some (.mts p (grd w) reg n)
  | 4 => some (.br p (grd w) reg)
  | 5 => some (.ret p (grd w))
  | 6 => some (.gate p (grd w) n)
  | 7 => some (.rtg p (grd w))
  | 8 => some (.evpop p (grd w) reg)
  | 9 => some (.evdone p (grd w))
  | 10 => some (.evwait p (grd w))
  | _ => none

/-- The instruction the major opcode of a word selects, its fields read as R210 and R211 lay them out. -/
def decodeMajor (p : PaneNo) (k : Nat) (w : Nat) : Option Instr :=
  let imm11 := BitVec.ofNat 11 (bitsOf w 0 11)
  let imm16 := BitVec.ofNat 16 (bitsOf w 0 16)
  let off21 := BitVec.ofNat 21 (bitsOf w 0 21)
  let off10 := BitVec.ofNat 10 (bitsOf w 0 10)
  let m := flagAt w 10
  match bitsOf w 21 7 with
  | 1 => decodeInteger p w
  | 2 => decodeMulDiv p w
  | 3 => decodeAccum p w
  | 4 => decodeFloat p w
  | 5 => decodeComm p w
  | 6 => decodeBlock p k w
  | 8 => some (.addi p (grd w) (reg5 w 16) (reg5 w 11) imm11)
  | 9 => some (.andi p (grd w) (reg5 w 16) (reg5 w 11) imm11)
  | 10 => some (.ori p (grd w) (reg5 w 16) (reg5 w 11) imm11)
  | 11 => some (.xori p (grd w) (reg5 w 16) (reg5 w 11) imm11)
  | 12 => decodeShifti p w
  | 13 => some (.muli p (grd w) (reg5 w 16) (reg5 w 11) imm11)
  | 16 => some (.movi p (grd w) (reg5 w 16) imm16)
  | 17 => some (.movhi p (grd w) (reg5 w 16) imm16)
  | 18 => some (.orlo p (grd w) (reg5 w 16) imm16)
  | 24 => some (.b p (grd w) off21)
  | 25 => some (.bl p (grd w) off21)
  | 32 => some (.lb p (grd w) (reg5 w 16) (reg5 w 11) m off10)
  | 33 => some (.lbu p (grd w) (reg5 w 16) (reg5 w 11) m off10)
  | 34 => some (.lh p (grd w) (reg5 w 16) (reg5 w 11) m off10)
  | 35 => some (.lhu p (grd w) (reg5 w 16) (reg5 w 11) m off10)
  | 36 => some (.lw p (grd w) (reg5 w 16) (reg5 w 11) m off10)
  | 37 => some (.lwp p (grd w) (reg5 w 16) (reg5 w 11) m off10)
  | 40 => some (.sb p (grd w) (reg5 w 16) (reg5 w 11) m off10)
  | 41 => some (.sh p (grd w) (reg5 w 16) (reg5 w 11) m off10)
  | 42 => some (.sw p (grd w) (reg5 w 16) (reg5 w 11) m off10)
  | 43 => some (.swp p (grd w) (reg5 w 16) (reg5 w 11) m off10)
  | 48 => some (.cmp p (grd w) (BitVec.ofNat 3 (bitsOf w 18 3)) (reg5 w 13) (flagAt w 12)
      (BitVec.ofNat 4 (bitsOf w 8 4)) (BitVec.ofNat 8 (bitsOf w 0 8)))
  | 49 => some (.fcmp p (grd w) (BitVec.ofNat 3 (bitsOf w 18 3)) (reg5 w 13) (flagAt w 12)
      (BitVec.ofNat 4 (bitsOf w 8 4)) (BitVec.ofNat 8 (bitsOf w 0 8)))
  | 50 => some (.plog p (grd w) (BitVec.ofNat 3 (bitsOf w 18 3)) (BitVec.ofNat 3 (bitsOf w 15 3)) (flagAt w 14)
      (BitVec.ofNat 3 (bitsOf w 11 3)) (flagAt w 10) (BitVec.ofNat 2 (bitsOf w 8 2)))
  | 56 => some (.loop p (grd w) (BitVec.ofNat 2 (bitsOf w 19 2)) (flagAt w 18) (BitVec.ofNat 8 (bitsOf w 10 8)) off10)
  | 64 => decodeSystem p k w
  | _ => none

/-- The Nirmon instruction a word spells on pane `p`, or the cause of its undefined-instruction trap (R216).
`k` fills the operand of a block instruction or of WAITT that the word does not hold. -/
def decodeWord (p : PaneNo) (k : Nat) (w : Nat) : Except Nat Instr :=
  match checkWord w with
  | some c => .error c
  | none =>
    match decodeMajor p k w with
    | some i => .ok i
    | none => .error 1

/-- The command a word of the operation table spells. The table gives no row any bits, so there is none. -/
def decodeTableWord (_nbits _w : Nat) : Option Instr := none

end Sys2Proof
end

