-- ==== Sys2Proof/Machine/Flags.lean ====
section
/-!
DEFINITION. The flags: STATUS fields (R197), the sticky integer flags, and the binary32 arithmetic with its flag
conditions (R232 to R241).
-/
namespace Sys2Proof.Machine

/-! STATUS (R197). -/

/-- STATUS.RING. -/
def Pane.ring (q : Pane) : Nat := q.status.fld 12 2
/-- STATUS.EM. -/
def Pane.em (q : Pane) : Bool := q.status.bit 14
/-- STATUS.DZE. -/
def Pane.dze (q : Pane) : Bool := q.status.bit 9
/-- STATUS.RC. -/
def Pane.rc (q : Pane) : Nat := q.status.fld 16 16
/-- Write STATUS.RC. -/
def Pane.setRc (q : Pane) (n : Nat) : Pane := { q with status := q.status.withFld 16 16 n }

/-- Sticky flags: set bit `i` of STATUS when `b`; never clear it (R198). -/
def Pane.stick (q : Pane) (i : Nat) (b : Bool) : Pane :=
  if b then { q with status := q.status ||| (1#32 <<< i) } else q

/-- Bits of STATUS that an MTS writes: the sticky flags, DZE and RC, and EM at rings 0 and 1 (R197, R199). -/
def statusMask (ring : Nat) : Word := if ring ≤ 1 then 0xFFFF43F7#32 else 0xFFFF03F7#32

/-- STATUS after an MTS of `v` (R199). -/
def mtsStatus (q : Pane) (v : Word) : Word :=
  (q.status &&& ~~~ statusMask q.ring) ||| (v &&& statusMask q.ring)

/-! Rounding. -/

/-- `m / 2^sh` rounded to nearest, ties to even. -/
def rne (m sh : Nat) : Nat :=
  let r := m / 2 ^ sh
  let rem := m % 2 ^ sh
  if 2 * rem > 2 ^ sh ∨ (2 * rem = 2 ^ sh ∧ r % 2 = 1) then r + 1 else r

/-- The number of significant bits of `m`. -/
def bitLen (m : Nat) : Nat := if m = 0 then 0 else m.log2 + 1

/-- A binary32 result and the flags it raises (R235). -/
structure FRes where
  bits : Word
  nv : Bool
  dz : Bool
  ovf : Bool
  under : Bool
  nx : Bool
  deriving DecidableEq, Repr

/-- The canonical NaN (R233). -/
def canonNaN : Word := 0x7FC00000#32

/-- A result that raises no flag. -/
def FRes.ok (b : Word) : FRes := { bits := b, nv := false, dz := false, ovf := false, under := false, nx := false }

/-- An invalid operation. -/
def FRes.invalid : FRes := { FRes.ok canonNaN with nv := true }

/-- The canonical NaN from NaN operands, invalid when one is signalling. -/
def FRes.nan (nv : Bool) : FRes := { FRes.ok canonNaN with nv := nv }

/-- The sign bit in place. -/
def signBit (neg : Bool) : Word := if neg then 0x80000000#32 else 0#32

/-- Round the exact value (-1)^neg * m * 2^e to binary32 (R232), with its flags (R235): the delivered result is
rounded at the exponent floor -149; tininess is judged on the value rounded to 24 bits with no floor. -/
def roundF (neg : Bool) (m : Nat) (e : Int) : FRes :=
  if m = 0 then FRes.ok (signBit neg)
  else
    let n : Int := bitLen m
    let q24 : Int := n + e - 24
    let q : Int := max q24 (-149)
    let r : Nat := if q ≤ e then m * 2 ^ (e - q).toNat else rne m (q - e).toNat
    let inexact : Bool := decide (q > e) && decide (m % 2 ^ (q - e).toNat ≠ 0)
    let r24 : Nat := if q24 ≤ e then m * 2 ^ (e - q24).toNat else rne m (q24 - e).toNat
    let tiny : Bool := decide ((bitLen r24 : Int) + q24 ≤ -126)
    let code : Nat := (q + 149).toNat * 2 ^ 23 + r
    if code ≥ 255 * 2 ^ 23 then
      { FRes.ok (signBit neg ||| 0x7F800000#32) with ovf := true, nx := true }
    else
      { FRes.ok (signBit neg ||| BitVec.ofNat 32 code) with under := inexact && tiny, nx := inexact }

/-! Unpacking. -/

/-- A NaN. -/
def isNaN (w : Word) : Bool := w.fld 23 8 == 255 && w.fld 0 23 != 0
/-- A signalling NaN (R233). -/
def isSNaN (w : Word) : Bool := isNaN w && !w.bit 22
/-- An infinity. -/
def isInf (w : Word) : Bool := w.fld 23 8 == 255 && w.fld 0 23 == 0
/-- A zero of either sign. -/
def isZero (w : Word) : Bool := w.fld 0 31 == 0
/-- The sign. -/
def isNeg (w : Word) : Bool := w.bit 31
/-- The integer significand of a finite value. -/
def mant (w : Word) : Nat := if w.fld 23 8 = 0 then w.fld 0 23 else w.fld 0 23 + 2 ^ 23
/-- The exponent of a finite value: the value is mant * 2^expo. -/
def expo (w : Word) : Int := if w.fld 23 8 = 0 then -149 else (w.fld 23 8 : Int) - 150

/-- (-1)^neg * m. -/
def signed (neg : Bool) (m : Nat) : Int := if neg then -(m : Int) else m

/-- The rounded sum of two exact values; an exact zero of two operands of one sign keeps it, otherwise it is +0.0
(R234). -/
def sumF (n1 : Bool) (m1 : Nat) (e1 : Int) (n2 : Bool) (m2 : Nat) (e2 : Int) : FRes :=
  let e := min e1 e2
  let s : Int := signed n1 (m1 * 2 ^ (e1 - e).toNat) + signed n2 (m2 * 2 ^ (e2 - e).toNat)
  if s = 0 then
    FRes.ok (signBit (n1 && n2 && decide (m1 = 0) && decide (m2 = 0)))
  else roundF (decide (s < 0)) s.natAbs e

/-- FADD (R236). -/
def fAdd (a b : Word) : FRes :=
  if isNaN a || isNaN b then FRes.nan (isSNaN a || isSNaN b)
  else if isInf a then
    if isInf b && isNeg a != isNeg b then FRes.invalid else FRes.ok a
  else if isInf b then FRes.ok b
  else sumF (isNeg a) (mant a) (expo a) (isNeg b) (mant b) (expo b)

/-- Flip the sign bit. -/
def fNegBits (a : Word) : Word := a ^^^ 0x80000000#32

/-- FSUB (R236); a NaN operand keeps its kind. -/
def fSub (a b : Word) : FRes := fAdd a (fNegBits b)

/-- FMUL (R236). -/
def fMul (a b : Word) : FRes :=
  let neg := isNeg a != isNeg b
  if isNaN a || isNaN b then
    FRes.nan (isSNaN a || isSNaN b)
  else if isInf a || isInf b then
    if isZero a || isZero b then FRes.invalid else FRes.ok (signBit neg ||| 0x7F800000#32)
  else roundF neg (mant a * mant b) (expo a + expo b)

/-- fma(a, b, c) = a * b + c, rounded once; 0 * infinity is invalid whatever the addend (R235). -/
def fFma (a b c : Word) : FRes :=
  let neg := isNeg a != isNeg b
  let zinf := (isZero a && isInf b) || (isInf a && isZero b)
  if isNaN a || isNaN b || isNaN c || zinf then
    FRes.nan (isSNaN a || isSNaN b || isSNaN c || zinf)
  else if isInf a || isInf b then
    if isInf c && isNeg c != neg then FRes.invalid else FRes.ok (signBit neg ||| 0x7F800000#32)
  else if isInf c then FRes.ok c
  else sumF neg (mant a * mant b) (expo a + expo b) (isNeg c) (mant c) (expo c)

/-- FDIV (R235, R236). The quotient is taken to 50 further bits with a sticky bit below it. -/
def fDiv (a b : Word) : FRes :=
  let neg := isNeg a != isNeg b
  if isNaN a || isNaN b then FRes.nan (isSNaN a || isSNaN b)
  else if isInf a then
    if isInf b then FRes.invalid else FRes.ok (signBit neg ||| 0x7F800000#32)
  else if isInf b then FRes.ok (signBit neg)
  else if isZero b then
    if isZero a then FRes.invalid else { FRes.ok (signBit neg ||| 0x7F800000#32) with dz := true }
  else
    let num := mant a * 2 ^ 50
    let q := num / mant b
    let s := if num % mant b = 0 then 0 else 1
    roundF neg (2 * q + s) (expo a - expo b - 51)

/-- Integer square root: the bits from 2^k down, greedily. -/
def isqrtFrom : Nat → Nat → Nat → Nat
  | 0, m, r => if (r + 1) * (r + 1) ≤ m then r + 1 else r
  | k + 1, m, r =>
    let c := r + 2 ^ (k + 1)
    isqrtFrom k m (if c * c ≤ m then c else r)

/-- Integer square root of a number below 2^80. -/
def isqrt (m : Nat) : Nat := isqrtFrom 39 m 0

/-- FSQRT (R234, R235). -/
def fSqrt (a : Word) : FRes :=
  if isNaN a then FRes.nan (isSNaN a)
  else if isZero a then FRes.ok a
  else if isNeg a then FRes.invalid
  else if isInf a then FRes.ok a
  else
    let e := expo a
    let sh : Nat := if e % 2 = 0 then 54 else 53
    let m := mant a * 2 ^ sh
    let r := isqrt m
    let s := if r * r = m then 0 else 1
    roundF false (2 * r + s) ((e - sh) / 2 - 1)

/-- The order of R238: -infinity, finite values, +infinity, with -0.0 below +0.0. -/
def fKey (a : Word) : Int := if isNeg a then -(a.fld 0 31 : Int) - 1 else a.fld 0 31

/-- FMIN (R238). -/
def fMin (a b : Word) : FRes :=
  if isNaN a || isNaN b then FRes.invalid else FRes.ok (if fKey a ≤ fKey b then a else b)

/-- FMAX (R238). -/
def fMax (a b : Word) : FRes :=
  if isNaN a || isNaN b then FRes.invalid else FRes.ok (if fKey a ≥ fKey b then a else b)

/-- FCVT.S.W (R239). -/
def fFromInt (w : Word) : FRes := roundF w.msb w.toInt.natAbs 0

/-- FCVT.S.WU (R239). -/
def fFromUInt (w : Word) : FRes := roundF false w.toNat 0

/-- A finite value rounded to the nearest integer, ties to even, and whether that was inexact. -/
def roundInt (a : Word) : Int × Bool :=
  let e := expo a
  if e ≥ 0 then (signed (isNeg a) (mant a * 2 ^ e.toNat), false)
  else (signed (isNeg a) (rne (mant a) (-e).toNat), decide (mant a % 2 ^ (-e).toNat ≠ 0))

/-- The converts from binary32 to an integer between `lo` and `hi` (R239). -/
def fToInt (lo hi : Int) (a : Word) : FRes :=
  if isNaN a then { FRes.ok (BitVec.ofInt 32 hi) with nv := true }
  else if isInf a then { FRes.ok (BitVec.ofInt 32 (if isNeg a then lo else hi)) with nv := true }
  else
    let r := roundInt a
    if r.1 > hi then { FRes.ok (BitVec.ofInt 32 hi) with nv := true }
    else if r.1 < lo then { FRes.ok (BitVec.ofInt 32 lo) with nv := true }
    else { FRes.ok (BitVec.ofInt 32 r.1) with nx := r.2 }

/-- FCVT.W.S (R239). -/
def fToW (a : Word) : FRes := fToInt (-2147483648) 2147483647 a
/-- FCVT.WU.S (R239). -/
def fToWU (a : Word) : FRes := fToInt 0 4294967295 a

/-- The binary32 comparison value: equal zeros compare equal. -/
def fCmpKey (a : Word) : Int := signed (isNeg a) (a.fld 0 31)

/-- FCMP (R241): the predicate and FNV. -/
def fCmp (cond : Nat) (a b : Word) : Bool × Bool :=
  let un := isNaN a || isNaN b
  let snan := isSNaN a || isSNaN b
  match cond with
  | 0 => (!un && fCmpKey a == fCmpKey b, snan)
  | 1 => (!un && decide (fCmpKey a < fCmpKey b), un)
  | 2 => (!un && decide (fCmpKey a ≤ fCmpKey b), un)
  | 3 => (un, snan)
  | _ => (un || fCmpKey a != fCmpKey b, snan)

/-- CMP (R240). -/
def intCmp (cond : Nat) (a b : Word) : Bool :=
  match cond with
  | 0 => a == b
  | 1 => a != b
  | 2 => a.slt b
  | 3 => !a.slt b
  | 4 => a.ult b
  | 5 => !a.ult b
  | 6 => (a &&& b) != 0
  | _ => (a &&& b) == 0

/-- Raise the sticky binary32 flags of a result (R197, R235). -/
def Pane.stickF (q : Pane) (r : FRes) : Pane :=
  ((((q.stick 4 r.nv).stick 5 r.dz).stick 6 r.ovf).stick 7 r.under).stick 8 r.nx

end Sys2Proof.Machine
end

