-- ==== Sys2Proof/Machine/State.lean ====
section
/-!
DEFINITION. The state of the part, its reset, and the reasons for which a step stops.
-/
namespace Sys2Proof.Machine

/-- The faults of the model. -/
inductive Fault where
  /-- Raised by any command whose operands name a unit, line or link the part does not have (R20, R32): no sender the
  spec describes can address it. Safe: the machine stops. -/
  | noSuchUnit
  deriving DecidableEq, Repr

/-- The refusals of the model. -/
inductive Refusal where
  /-- Raised by an arm of the dispatch whose command has no meaning yet. Safe: the machine stops. -/
  | notModelled (mnemonic : String)
  deriving DecidableEq, Repr

/-- KIND of a crossing, in place in its register (R633, R634): the first kind of the crossing. -/
def crossKind (c : Nat) : Word :=
  if c < 80 then 0#32 else if c < 88 then 0x30#32 else if c < 90 then 0x40#32
  else if c < 102 then 0#32 else if c < 106 then 0x10#32 else if c = 106 then 0#32 else 0x30#32

/-- Reset values of the device registers that are not 0 (R85 to R640), by absolute address. -/
def devReset (a : Nat) : Word :=
  if 0xF00A0400 ≤ a ∧ a < 0xF00A0500 then 70#32
  else if 0xF00D0100 ≤ a ∧ a < 0xF00D02B4 then crossKind ((a - 0xF00D0100) / 4)
  else 0#32

/-- Reset values of the sill block registers that are not 0 (R596): MAGIC, and CFG.TURN at 2. -/
def sillReset (a : Nat) : Word := if a = 0 then 0x53574B41#32 else if a = 4 then 4#32 else 0#32

/-- The state of the part. -/
structure State where
  /-- Time in whole ns since the release of reset, as the commands carry it. -/
  now : Nat
  part : PartState
  /-- Causes due at the coming T0 boundary (R39, R40). -/
  causes : List Cause
  /-- Tick number (R53). -/
  tick : Nat
  /-- The steps of a boundary are being run, so `tick` is the number it starts (R56). -/
  inBnd : Bool
  /-- Boundaries since the first one of READY: the divider phase of READY (R54). -/
  readyBnd : Nat
  /-- The last TICK_OUT pulse: its rise and its fall, ns (R86). -/
  tickOut : Option (Nat × Nat)
  /-- Stamp of the last boundary of each class (R70). -/
  stamps : Vector Nat 4
  gen : Gen
  /-- The lock point of RWL fields has passed (R15). -/
  locked : Bool
  /-- The loaded fields of the image, by section, field, INDEX and SUB (R450, R451). -/
  img : SMap Nat
  /-- The values read from flash of the fields that were loaded with another value (R430, R434). -/
  imgRaw : SMap Nat
  /-- The device registers, by absolute address. -/
  reg : RegFile
  panes : SMap Pane
  mesh : List Msg
  held : List Msg
  nextId : Nat
  /-- Routers declared dead, and those the installed routes avoid (R124 to R126). -/
  deadRouters : List Nat
  routedAround : List Nat
  /-- Channels sent through a relay: pane * 64 + outgoing entry, to the relay's pane; 1,024 for a lost channel
  (R127). -/
  relays : SMap Nat
  takeovers : List Takeover
  /-- Root close C of the last boundary, ns (R42). -/
  lastC : Nat
  /-- New routes due for a dead router, with the time of the report (R125). -/
  routesDue : List (Nat × Nat)
  /-- Retirements due: pane, ledger code of the cause, and the earliest root close (R131, R584). -/
  retireDue : List (Nat × Nat × Nat)
  /-- Class of each reduction group, REDUCE.CLASS (R111), which no register shows. -/
  groupCls : SMap Nat
  /-- Contributions stored at the roots: group * 256 + rank * 4 + copy (R116). -/
  red : SMap Contribution
  /-- Groups whose root was moved at the coming boundary, so that its result is held (R128). -/
  redHeld : List Nat
  /-- Messages and acknowledgements that have left by a wicket link, with the link (R542). -/
  wicketOut : List (Nat × Msg)
  links : SMap Link
  /-- Agreement tokens held from the other parts, by part (R546). -/
  tokens : SMap Token
  /-- The ready flags that any part reported in its token of the last boundary (R545, R548). -/
  readySeen : Nat
  /-- Late tokens in a row, by part (R547). -/
  tokenLate : SMap Nat
  /-- Parts whose token is late at the coming boundary (R547). -/
  lateNow : List Nat
  /-- Arrivals at bell sources 25, 13 and 28 since the last token (R549). -/
  tokenEvents : Nat × Nat × Nat
  /-- Control blocks sent: link and content (R532). -/
  ctlOut : List (Nat × CtlBlock)
  /-- Parts whose board digest this part has checked (R538). -/
  digestOk : List Nat
  /-- Result and status word of each group, as delivered last (R117). -/
  redRes : SMap (Word × Word)
  /-- Sample-input lanes 0 to 63, and the time of each group's last frame start (R354). -/
  lanes : SMap RxLane
  sipSeen : SMap (Nat × Nat)
  /-- Frames each distribution stream has taken in this tick of its class: bay * 256 + stream (R335). -/
  streamF : SMap Nat
  drv : SMap DriveSlot
  /-- Drive groups whose frame of the last boundary has not reached its release point (R83, R340). -/
  drvDue : List Nat
  /-- The last frame at the pins of each drive group, bit clock by bit clock from P: DOPg_FS in bit 8, the data lanes in bits 0 to 7,
  all low before the first and after the last bit (R340). -/
  drvOut : SMap (List (BitVec 9))
  bolt : Bolt
  /-- The bay buffers, 2 MiB each, by bay, and the ECC state of their 64-bit words (R391). -/
  bufs : SMap Memory
  bufEcc : SMap (SMap EccMark)
  /-- The usable DRAM by offset, and the ECC state of its 64-bit words (R397). -/
  dram : Memory
  dramEcc : SMap EccMark
  /-- Movers, by bay * 4 + mover. -/
  movers : SMap Mover
  /-- The value the last read command returned (the model's own, log 6). -/
  rdata : DWord
  bells : SMap Bell
  arrivals : List BellEvent
  doms : SMap Dom
  /-- Reports under way from the latches, and those the lintel holds (R582). -/
  latchReps : List TimedReport
  lintelReps : List TimedReport
  ledger : List LedgerEntry
  /-- Transom branches with a masked copy (R585). -/
  branchMasked : List Nat
  /-- Heartbeats missed in a row, per hinge (R583). -/
  missed : SMap Nat
  /-- Latch counter readings of the last second: pane to (time, count) pairs; and panes already recorded (R584). -/
  ceSeen : SMap Nat
  ceWin : SMap (List (Nat × Nat))
  ceRecorded : List Nat
  mbs : SMap Mailbox
  /-- Mailbox snapshots latched for the sill (R605). -/
  mbLatch : SMap Mailbox
  /-- The sill block registers, by sill address. -/
  sill : RegFile
  /-- The bytes the sill port returned in the last frame (the model's own, log 28). -/
  miso : List Byte
  winBusy : Option WinAccess
  /-- Results of window reads held for their next read, by sill address (R593). -/
  winHeld : SMap Word
  bridge : Option BridgeOp
  nor : Memory
  /-- Severed crossings whose report the lintel holds, with the time of the report (R635). -/
  severRep : SMap Nat
  /-- Events of the sealed log made by the lintel and not yet in a block (R491). -/
  logq : List LogEvent
  /-- The clamp report, in the order of its records (R434, R436). -/
  clamps : List ClampRec
  net : NetState
  shut : Shutdown
  /-- GPIO lines sampled high after low, with the time, for the pin knocks (R520). -/
  gpioHigh : SMap Nat
  otp : Otp
  /-- Keyhole queues, by bay. -/
  keyholes : SMap (List KhReq)
  /-- The seeds of the panes' keys in their latches (R482, R483), and the leaves of the roster that the keyholes keep (R482). -/
  latchKeys : SMap (List Byte)
  roster : List (List Byte)
  logs : LogStore
  aon : Aon
  /-- The shutdown record in the NOR record area, and the size of the NOR device in bytes (R423, R621). -/
  norRec : Option ShutRecord
  norSize : Nat
  /-- Reset is held, and RESET_N is low (R608, R624, R625). -/
  inReset : Bool
  resetLow : Bool
  tap : Tap
  /-- Supplies lost (R654), domains that their rail supervisor holds in reset (R627), and a reference failure or the loss of
  VDD_PLL (R629). -/
  lostSupplies : List Nat
  railLow : List Nat
  refLost : Bool
  /-- Levels of the GPIO lines (R71). -/
  gpio : BitVec 48
  /-- The levels last sampled, which FEED 1 channels take (R71, R631). -/
  gpioIn : BitVec 48
  /-- Counter of the free values drawn (the model's own, log 2). -/
  free : Nat
  /-- The commands waiting, first in, first out. -/
  pending : List Instr
  deriving DecidableEq, Repr

def State.reset : State :=
  { now := 0, part := .off, causes := [], tick := 0, inBnd := false, readyBnd := 0, tickOut := none, stamps := Vector.replicate 4 0,
    gen := { on := false, next := 0, period := 0, steer := 0, slew := 0, lastEdge := none, seenEdge := none, ivl := none, good := 0, fs := 0 },
    locked := false, img := [], imgRaw := [], reg := [], panes := [], mesh := [], held := [], nextId := 0,
    deadRouters := [], routedAround := [], relays := [], takeovers := [], lastC := 0, routesDue := [], retireDue := [],
    groupCls := [], red := [], redHeld := [], wicketOut := [], links := [], tokens := [], readySeen := 0, tokenLate := [], lateNow := [],
    tokenEvents := (0, 0, 0), ctlOut := [], digestOk := [], redRes := [], lanes := [], sipSeen := [],
    streamF := [], drv := [], drvDue := [], drvOut := [], bolt := Bolt.reset, bufs := [], bufEcc := [], dram := [],
    dramEcc := [], movers := [], rdata := 0, bells := [], arrivals := [], doms := [], latchReps := [], lintelReps := [], ledger := [], branchMasked := [], missed := [], ceSeen := [],
    ceWin := [], ceRecorded := [], mbs := [], mbLatch := [], sill := [], miso := [], winBusy := none, winHeld := [],
    bridge := none, nor := [], severRep := [], logq := [], clamps := [], net := NetState.reset, shut := Shutdown.none, gpioHigh := [], otp := Otp.blank, keyholes := [], latchKeys := [], roster := [], logs := LogStore.reset,
    aon := { record := none, elapsed := 0, lockEntry := none, ran := false }, norRec := none, norSize := 0, inReset := true,
    resetLow := false, tap := Tap.reset, lostSupplies := [], railLow := [], refLost := false, gpio := 0, gpioIn := 0,
    free := 0, pending := [] }

end Sys2Proof.Machine
end

