-- ==== Sys2Proof/Machine/Ops.lean ====
section
/-!
DEFINITION. The named operations: registers of the panes and of the units, pane memory with its ECC, permissions,
retirement with loop-back, traps and entries, events, reports, the log, and the sending of messages.
-/
namespace Sys2Proof.Machine

open Sys2Proof (Instr)

/-! Geometry (R20). -/

/-- The row of a pane. -/
def rowOf (p : Nat) : Nat := p / 32
/-- The column of a pane, which is its hinge. -/
def colOf (p : Nat) : Nat := p % 32
/-- The sash of a pane. -/
def sashOf (p : Nat) : Nat := p / 32 / 4 * 8 + p % 32 / 4
/-- The bay of a pane. -/
def bayOf (p : Nat) : Nat := p / 32 / 4
/-- The pane's number within its sash. -/
def posInSash (p : Nat) : Nat := p / 32 % 4 * 4 + p % 32 % 4
/-- The pane at position `n` of sash `s`. -/
def paneOfSash (s n : Nat) : Nat := (s / 8 * 4 + n / 4) * 32 + s % 8 * 4 + n % 4

/-! Panes. -/

/-- The state of pane `p`. -/
def State.pane (s : State) (p : Nat) : Pane := SMap.get (fun _ => Pane.reset) s.panes p
/-- Replace the state of pane `p`. -/
def State.setPane (s : State) (p : Nat) (q : Pane) : State := { s with panes := SMap.put s.panes p q }
/-- Apply `f` to pane `p`. -/
def State.modPane (s : State) (p : Nat) (f : Pane → Pane) : State := s.setPane p (f (s.pane p))

/-- g[r] as a source: g0 reads 0 (R182). -/
def Pane.gr (q : Pane) (r : RegNo) : Word := if r = 0 then 0 else q.g[r.toNat]'(by omega)

/-- A window read whose destination a younger instruction writes no longer writes that register (log 12). -/
def WRead.detach (r : RegNo) (x : WRead) : WRead :=
  { x with dest := if x.dest = some r then none else x.dest, dest2 := if x.dest2 = some r then none else x.dest2 }

/-- Write g[r]; a result for g0 is discarded (R182). -/
def Pane.setGr (q : Pane) (r : RegNo) (v : Word) : Pane :=
  if r = 0 then q
  else { q with g := q.g.set r.toNat v (by omega), wreads := q.wreads.map (WRead.detach r) }

/-- Predicate `k`; p0 reads 1 (R185). -/
def Pane.pr (q : Pane) (k : BitVec 3) : Bool := k == 0 || q.pred.getLsbD k.toNat

/-- Write predicate `k`; p0 is never written. -/
def Pane.setPr (q : Pane) (k : BitVec 3) (b : Bool) : Pane :=
  if k = 0 then q
  else { q with pred := if b then q.pred ||| (1#8 <<< k.toNat) else q.pred &&& ~~~(1#8 <<< k.toNat) }

/-- The guard of R186. -/
def Pane.guard (q : Pane) (gd : BitVec 4) : Bool :=
  q.pr (gd.setWidth 3) != gd.getLsbD 3

/-- Accumulator `n`. -/
def Pane.acc (q : Pane) (n : Nat) : Acc := if n = 0 then q.acc0 else q.acc1
/-- Write accumulator `n`. -/
def Pane.setAcc (q : Pane) (n : Nat) (v : Acc) : Pane := if n = 0 then { q with acc0 := v } else { q with acc1 := v }

/-- A pane control register, by offset. -/
def Pane.cr (q : Pane) (a : Nat) : Word := RegFile.rd ctlReset q.ctl a
/-- Write a pane control register. -/
def Pane.setCr (q : Pane) (a : Nat) (v : Word) : Pane := { q with ctl := RegFile.wr ctlReset q.ctl a v }
/-- Count into an n-bit saturating counter register. -/
def Pane.bump (q : Pane) (a n k : Nat) : Pane := q.setCr a (BitVec.ofNat 32 (satAdd n (q.cr a).toNat k))

/-- The pane runs a task (R87). -/
def Pane.hasTask (q : Pane) : Bool := (q.cr 0x100).bit 8
/-- The class of the pane's task; a pane with no task follows T0 (R55). -/
def Pane.cls (q : Pane) : Nat := if q.hasTask then (q.cr 0x100).fld 4 2 else 0
/-- TASK.ROLE (R173). -/
def Pane.role (q : Pane) : Nat := (q.cr 0).fld 0 2
/-- Retired (R131). -/
def Pane.retired (q : Pane) : Bool := (q.cr 0).bit 2

/-! Device registers. -/

/-- A device register, by address. -/
def State.rd (s : State) (a : Nat) : Word := RegFile.rd devReset s.reg a
/-- Write a device register. -/
def State.wr (s : State) (a : Nat) (v : Word) : State := { s with reg := RegFile.wr devReset s.reg a v }
/-- Count into an n-bit saturating counter register. -/
def State.bump (s : State) (a n k : Nat) : State := s.wr a (BitVec.ofNat 32 (satAdd n (s.rd a).toNat k))
/-- Set the bits of `m` in a register. -/
def State.setBits (s : State) (a : Nat) (m : Word) : State := s.wr a (s.rd a ||| m)
/-- Clear the bits of `m` in a register. -/
def State.clrBits (s : State) (a : Nat) (m : Word) : State := s.wr a (s.rd a &&& ~~~m)
/-- Replace a field of a register. -/
def State.wrFld (s : State) (a lo n v : Nat) : State := s.wr a ((s.rd a).withFld lo n v)
/-- A sill block register. -/
def State.srd (s : State) (a : Nat) : Word := RegFile.rd sillReset s.sill a
/-- Write a sill block register. -/
def State.swr (s : State) (a : Nat) (v : Word) : State := { s with sill := RegFile.wr sillReset s.sill a v }

/-- Draw a free number: the counter moves on, so no two draws are the same one (log 2). -/
def State.draw (s : State) : Nat × State := (Config.freeNat s.free, { s with free := s.free + 1 })

/-- The key of an image field: section, field, INDEX and SUB (R451). -/
def imgKey (sec fld idx sub : Nat) : Nat := ((sec * 65536 + fld) * 65536 + idx) * 256 + sub

/-! Tick classes (R52). -/

/-- N_k of divider k = 1, 2, 3: the register holds N - 1, and 0 counts as 1 (R85). -/
def State.divider (s : State) (k : Nat) : Nat := max ((s.rd (Config.transom + 8 + 4 * k)).fld 0 16) 1 + 1

/-- M_k (R52). -/
def State.mult (s : State) : Nat → Nat
  | 0 => 1
  | k + 1 => State.mult s k * s.divider (k + 1)

/-- The number of the class-k tick that T0 tick `n` lies in, by its first T0 tick (R52). -/
def State.tickStart (s : State) (k n : Nat) : Nat := n / s.mult k * s.mult k

/-- The part states in which the tick counter runs, once RUNNING has been entered (R53). -/
def PartState.ticking : PartState → Bool
  | .running => true
  | .holding => true
  | .aborted => true
  | .shuttingDown => true
  | .faulted => true
  | _ => false

/-- The tick counter is running: RUNNING has been entered since the reset (R15, R53). -/
def State.ticking (s : State) : Bool := s.locked && s.part.ticking

/-- The number the coming boundary starts with: 0 before RUNNING (R53). While a boundary runs, TICKNO has it already. -/
def State.nextTick (s : State) : Nat := if s.ticking then (if s.inBnd then s.tick else s.tick + 1) else 0

/-- The exact time of the next edge, in whole ns (R44). -/
def Gen.nextNs (g : Gen) : Nat := (g.next + 2 ^ 31) / 2 ^ 32

/-! Domains (R556). -/

/-- Power domain `d`. -/
def State.dom (s : State) (d : Nat) : Dom := SMap.get (fun _ => Dom.reset) s.doms d
/-- Replace a domain's record. -/
def State.setDom (s : State) (d : Nat) (x : Dom) : State := { s with doms := SMap.put s.doms d x }
/-- The domain is open. -/
def State.domOpen (s : State) (d : Nat) : Bool := (s.dom d).st == .isOpen

/-! 802.1AS time (R51, R70, R510, R511). -/

/-- Registers of an Ethernet port q: CFG.EN, STATUS.LINK, TIME_ROLE, STATUS.TIME_STATE. A port whose domain is not open ignores its pins
and sends nothing (R557). -/
def State.netEn (s : State) (q : Nat) : Bool := (s.rd (Config.net q)).bit 2
def State.netUp (s : State) (q : Nat) : Bool := s.netEn q && (s.rd (Config.net q + 0x24)).bit 0 && s.domOpen (90 + q)
def State.netRole (s : State) (q : Nat) : Nat := (s.rd (Config.net q)).fld 19 2
def State.timeState (s : State) (q : Nat) : Nat := (s.rd (Config.net q + 0x24)).fld 2 2
/-- The time port: the lowest with a TIME_ROLE and its link up (R510). -/
def State.timePort (s : State) : Option Nat := [0, 1].find? (fun q => s.netUp q && s.netRole q != 0)
/-- The part has 802.1AS time: it follows a grandmaster or is one (TIME_STATE 2 or 3). -/
def State.hasTime (s : State) : Bool := (s.timePort.map (fun q => decide (2 ≤ s.timeState q))).getD false
/-- The part's time less the count of ns since reset: a follower's offset; a grandmaster, and a part without 802.1AS time, count ns
since reset (R70, R511). -/
def State.timeOff (s : State) : Int := if s.timePort.map s.timeState = some 2 then s.net.toff else 0
/-- The 802.1AS time, or the count of ns since reset (R70, R511). -/
def State.clock (s : State) : Nat := ((s.now : Int) + s.timeOff).toNat
/-- The tick stamp of the coming boundary (R70). -/
def State.nextStamp (s : State) : Nat := ((s.gen.nextNs : Int) + s.timeOff).toNat

/-- A step of the coming boundary, run before BOUNDARY itself: it sees the tick number and the stamp of that boundary
(log 25). -/
def State.early (s : State) (f : State → State) : State :=
  let r := f { s with tick := s.nextTick, inBnd := true, stamps := s.stamps.set 0 s.nextStamp }
  { r with tick := s.tick, inBnd := false, stamps := s.stamps }

/-- The channel class of outgoing entry n: its CLASS field (R139). -/
def Pane.outClass (q : Pane) (n : Nat) : Nat := (q.cr (0x200 + 8 * n)).fld 20 2

/-- The pane's sash is open. -/
def State.paneUp (s : State) (p : Nat) : Bool := s.domOpen (sashOf p)

/-! Events, reports and the log. -/

/-- The panes of a mullion strip. -/
def stripPanes (b : Nat) : List Nat := (List.range 128).map (fun k => 128 * b + k)

/-- The mask of every bell. -/
def allBells : BitVec 64 := BitVec.allOnes 64
/-- The bell of one sash. -/
def oneBell (sash : Nat) : BitVec 64 := 1#64 <<< sash
/-- The bells of one bay. -/
def bayBells (bay : Nat) : BitVec 64 := 0xFF#64 <<< (8 * bay)

/-- An event of a source sets out for the bells of `m` (R294 to R296). -/
def State.raise (s : State) (m : BitVec 64) (src : Nat) (k : EventKind) (detail : Nat) : State :=
  { s with arrivals := s.arrivals ++ [{ src := src, kind := k, detail := detail % 65536, todo := m }] }

/-- An edge event. -/
def State.edge (s : State) (m : BitVec 64) (src detail : Nat) : State := s.raise m src .edge detail

/-- An edge event of a pane, in its sash's bell, with the pane within the sash as DETAIL. -/
def State.paneEdge (s : State) (p src : Nat) : State := s.edge (oneBell (sashOf p)) src (posInSash p)

/-- The fields of an event as the entries of an event block hold them: the subject with up to three words of argument, and a
further entry with the same subject for each three words more (R491; log 23). -/
def logRows : Nat → Nat → List Nat → List (List Nat)
  | 0, x, l => [x :: l]
  | n + 1, x, l => if l.length ≤ 3 then [x :: l] else (x :: l.take 3) :: logRows n x (l.drop 3)

/-- The rows of an event's fields. -/
def rowsOf : List Nat → List (List Nat)
  | [] => [[]]
  | x :: l => logRows l.length x l

/-- An event for the sealed log, with the tick number (R41, R491). A store that has stopped takes none (R494). -/
def State.logAt (s : State) (tick code : Nat) (args : List Nat) : State :=
  if s.logs.stopped then s
  else { s with logq := s.logq ++ (rowsOf args).map (fun r =>
    { code := code, args := r, tick := tick, stamp := s.stamps.getD 0 0 }) }

/-- An event of the present tick. -/
def State.logEv (s : State) (code : Nat) (args : List Nat) : State := s.logAt s.tick code args

/-- A cause in the model's log (log 23). -/
def Cause.logCode : Cause → Nat
  | .knock k => k.num
  | .bolt c => 0x1000 + c
  | .shutdownDone => 0x2000
  | .lockstep => 0x2001
  | .ledger c => 0x10000 + c

/-- A change to state t takes effect, with every cause that led to it (R41): their number and their codes. -/
def State.logState (s : State) (tick : Nat) (t : PartState) (codes : List Nat) : State :=
  s.logAt tick (0x0100 + t.code) (codes.length :: codes)

/-- A latch makes a report (R582). -/
def State.report (s : State) (r : Report) : State :=
  { s with latchReps := s.latchReps ++ [{ rep := r, at' := s.now }] }

/-- A report reaches the lintel directly. -/
def State.reportLintel (s : State) (r : Report) : State :=
  { s with lintelReps := s.lintelReps ++ [{ rep := r, at' := s.now }] }

/-- The level of STATE[2:0], driven from the AON domain (R606): 0 while reset is asserted and in OFF, else the code of the state. -/
def State.statePins (s : State) : Nat := if s.inReset then 0 else s.part.code

/-! Crossings (R635, R636). -/

/-- Crossing `c` is severed (R635). -/
def State.severed (s : State) (c : Nat) : Bool := (s.rd (Config.cross + 0x100 + 4 * c)).bit 0
/-- Count what a severed crossing discards (R636). -/
def State.discards (s : State) (c n : Nat) : State := s.bump (Config.cross + 0x400 + 4 * c) 16 n

/-! Pane SRAM (R161, R168 to R172). -/

/-- Bytes of pane memory, upward. -/
def Pane.bytes (q : Pane) (a n : Nat) : List Byte := Memory.readBytes q.sram a n
/-- A little-endian read of `n` bytes. -/
def Pane.peek (q : Pane) (a n : Nat) : Nat := leNat (q.bytes a n)
/-- A word of pane memory. -/
def Pane.peekW (q : Pane) (a : Nat) : Word := BitVec.ofNat 32 (q.peek a 4)
/-- A little-endian write of `n` bytes. -/
def Pane.poke (q : Pane) (a n v : Nat) : Pane := { q with sram := Memory.writeBytes q.sram a (leBytes n v) }
/-- Write one word. -/
def Pane.pokeW (q : Pane) (a : Nat) (v : Word) : Pane := q.poke a 4 v.toNat

/-- The ECC state of the word that holds byte `a`. -/
def Pane.eccAt (q : Pane) (a : Nat) : EccMark := SMap.get (fun _ => EccMark.clean) q.ecc (a / 4)
/-- Set the ECC state of a word. -/
def Pane.setEcc (q : Pane) (a : Nat) (m : EccMark) : Pane :=
  { q with ecc := SMap.set (fun _ => EccMark.clean) q.ecc (a / 4) m }

/-- Addresses of the words that `n` bytes from `a` touch, rising. -/
def wordsOf (a n : Nat) : List Nat :=
  if n = 0 then [] else (List.range ((a + n - 1) / 4 - a / 4 + 1)).map (fun k => (a / 4 + k) * 4)

/-- The first word of a range with an uncorrectable error. -/
def Pane.firstUe (q : Pane) (a n : Nat) : Option Nat :=
  (wordsOf a n).find? (fun w => q.eccAt w == .uncorrectable)

/-- A single-bit error is corrected (R168): ECC_CE and bell source 21. -/
def State.corrected (s : State) (p : Nat) : State :=
  (s.modPane p (fun q => { q.bump 0x40 16 1 with ceTotal := q.ceTotal + 1 })).paneEdge p 21

/-- Single-bit errors of a read are corrected and counted, and the words are left for the latch to rewrite
(R168). -/
def State.correctRead (s : State) (p a n : Nat) : State :=
  (wordsOf a n).foldl (fun s w =>
    if (s.pane p).eccAt w == .correctable then
      (s.corrected p).modPane p (fun q => { q with rewrite := if q.rewrite.contains w then q.rewrite else q.rewrite ++ [w] })
    else s) s

/-- The words with a single-bit error that a write of `n` bytes at `a` merges into (R168, R170). -/
def Pane.merges (q : Pane) (a n : Nat) : List Nat :=
  (wordsOf a n).filter (fun w => !(decide (a ≤ w) && decide (w + 4 ≤ a + n)) && q.eccAt w == .correctable)

/-- A merge reads the rest of its word, and corrects it (R168). -/
def State.mergeReads (s : State) (p : Nat) (ws : List Nat) : State := ws.foldl (fun s _ => s.corrected p) s

/-- What the latch does on an uncorrectable error (R169, R582): ECC_ADDR, ECC_UE, the fault flag of the tick, the
report, and bell source 22. -/
def State.foundUe (s : State) (p a : Nat) (fetch : Bool) : State :=
  ((s.modPane p (fun q =>
    { (q.bump 0x44 16 1).setCr 0x48
        (BitVec.ofNat 32 (a / 4 * 4 % 65536 + (if fetch then 65536 else 0) + 2 ^ 31)) with
      faulty := 15, ueTotal := q.ueTotal + 1 })).report (.sramUe p)).paneEdge p 22

/-- A store part drains (R170): a word it covers whole gets fresh check bits; a part of a word merges, and leaves an
uncorrectable word uncorrectable. -/
def Pane.drainPart (q : Pane) (a n v : Nat) : Pane :=
  (wordsOf a n).foldl (fun q w =>
    if (a ≤ w ∧ w + 4 ≤ a + n) ∨ q.eccAt w = .correctable then q.setEcc w .clean else q) (q.poke a n v)

/-! Local regions (R162, R163). -/

/-- The attribute word of the valid local region that holds byte `a`, if any. -/
def Pane.regionOf (q : Pane) (a : Nat) : Option Word :=
  ((List.range 8).map (fun n => q.cr (0x10 + 4 * n))).find?
    (fun d => d.bit 31 && decide (d.fld 0 8 ≤ a / 256) && decide (a / 256 ≤ d.fld 8 8))

/-- An attribute bit of the region that holds `a`. -/
def Pane.attr (q : Pane) (a bit : Nat) : Bool := ((q.regionOf a).map (fun d => d.bit bit)).getD false

/-- The ring may read this byte of local SRAM or the front inbox (R161, R163). R101 makes the second and third regions of a
channel "never readable" and gives no trap for it: a load there completes and reads 0 (DESIGN CHOICE, log 129). -/
def Pane.canRead (q : Pane) (ring a : Nat) : Bool :=
  if a < 0xE000 then decide (ring ≤ 1) || (if ring = 2 then q.attr a 17 else q.attr a 19)
  else decide (a < 0xF000)

/-- The ring may write this byte of local SRAM (R161, R163). -/
def Pane.canWrite (q : Pane) (ring a : Nat) : Bool :=
  decide (a < 0xE000) && (decide (ring ≤ 1) || (if ring = 2 then q.attr a 18 else q.attr a 20))

/-- Instructions may be fetched from this address (R162, R163). -/
def Pane.canFetch (q : Pane) (a : Nat) : Bool := decide (a < 0xE000) && q.attr a 16

/-! Retirement and loop-back (R192). -/

/-- An address lies at lek of an active level. -/
def Pane.atLek (q : Pane) (a : Word) : Bool :=
  (q.lc[0] != 0 && q.le[0] == a) || (q.lc[1] != 0 && q.le[1] == a) || (q.lc[2] != 0 && q.le[2] == a)

/-- Loop-back from level `k` - 1 down (R192): the next address and the loop counters. -/
def loopBack (q : Pane) (a : Word) : Nat → Word × Vector Word 3
  | 0 => (a + 4, q.lc)
  | k + 1 =>
    if h : k < 3 then
      if q.lc[k] ≠ 0 ∧ q.le[k] = a then
        if q.lc[k].toNat > 1 then (q.lb[k], q.lc.set k (q.lc[k] - 1))
        else loopBack { q with lc := q.lc.set k 0 } a k
      else loopBack q a k
    else loopBack q a k

/-- Where control goes when the instruction at `a` retires in sequence. -/
def Pane.nextOf (q : Pane) (a : Word) : Word := (loopBack q a 3).1

/-- Retire the instruction at pc in sequence: loop-back by R192. -/
def Pane.retire (q : Pane) : Pane := { q with pc := (loopBack q q.pc 3).1, lc := (loopBack q q.pc 3).2 }

/-! Traps and entries (R270 to R292). -/

/-- A trap of the instruction at pc, with no flag set. -/
def Pane.mkTrap (q : Pane) (num cause : Nat) (eaddr : Word) : Trap :=
  { num := num, cause := cause, index := 0, eaddr := eaddr, fe := false, wr := false, df := false,
    le := q.atLek q.pc, epc := q.pc, stll := false }

/-- ECAUSE (R272). -/
def ecauseOf (t : Trap) : Word :=
  BitVec.ofNat 32 (t.num % 256 + t.cause % 16 * 2 ^ 8 + t.index % 64 * 2 ^ 12 + t.le.toNat * 2 ^ 18
    + t.df.toNat * 2 ^ 19 + t.fe.toNat * 2 ^ 20 + t.wr.toNat * 2 ^ 21 + t.stll.toNat * 2 ^ 22)

/-- Every outstanding window read has completed, and every window store sent has been answered (R151). -/
def Pane.settled (q : Pane) : Bool := q.wreads.all (fun r => r.status != .waiting) && q.wstores.isEmpty

/-- The memory-error trap of a failed window read (R150, R285). -/
def Pane.readTrap (q : Pane) (r : WRead) : Trap :=
  { q.mkTrap 4 (if r.status == .uncorrectable then 2 else 3) (BitVec.ofNat 32 r.addr) with df := r.df }

/-- The oldest failed window read, or else the refused window store, that an entry must take instead of itself, and
the pane without it (R151). Only `State.takeTrap` takes one out: the points of R150 raise the trap and leave the failure in
its place, so that each is reported. -/
def Pane.failure (q : Pane) : Option (Trap × Pane) :=
  match q.wreads.find? (fun r => r.status != .waiting) with
  | some r => some (q.readTrap r, { q with wreads := q.wreads.erase r })
  | none =>
    match q.wrefused with
    | w :: rest => some ({ q.mkTrap 4 3 (BitVec.ofNat 32 w.addr) with wr := true, df := w.df }, { q with wrefused := rest })
    | [] => none

/-- The descriptor is valid (R268). -/
def Pane.descValid (q : Pane) (n : Nat) : Bool := (q.cr (0xA08 + 16 * n)).bit 31

/-- The registers after an entry through descriptor `n` that saves `f` (R273 to R277). -/
def Pane.push (q : Pane) (n : Nat) (f : Frame) : Pane :=
  let attr := q.cr (0xA08 + 16 * n)
  let new := min q.ring (attr.fld 0 2)
  let sp := (q.cr (0xA04 + 16 * n)) &&& 0xFFFFFFF8#32
  let st := ((q.status.withFld 12 2 new).withBit 14 (attr.bit 2)).withFld 16 16 0
  let q1 := { q with frames := q.frames.setIfInBounds q.fdepth f, fdepth := q.fdepth + 1, status := st,
                     pc := (q.cr (0xA00 + 16 * n)) &&& 0xFFFFFFFC#32, phase := .run, loadWaits := false }
  if new < q.ring ∧ sp ≠ 0 then q1.setGr 30 sp else q1

/-- The frame an entry saves. -/
def Pane.frameFor (q : Pane) (epc ecause eaddr : Word) : Frame :=
  { epc := epc, estatus := q.status, esp := q.gr 30, ecause := ecause, eaddr := eaddr }

/-- Halt the pane (R290 to R292): TRAP_STATUS and HALT_EPC, the fault flag, the report and bell source 23. -/
def State.haltPane (s : State) (p n : Nat) (epc : Word) : State :=
  ((s.modPane p (fun q =>
    { (q.setCr 0xE00 (BitVec.ofNat 32 (1 + n % 256 * 256))).setCr 0xE04 epc with
      phase := .halted, faulty := 15 })).report (.halt p)).paneEdge p 23

/-- Enter through descriptor `n`, or halt the pane (R273, R290, R291). -/
def State.enter (s : State) (p n : Nat) (epc ecause eaddr : Word) : State :=
  let q := s.pane p
  if q.fdepth ≥ 4 || !q.descValid n then s.haltPane p n epc
  else
    let q1 := q.push n (q.frameFor epc ecause eaddr)
    s.setPane p (if n ≤ 8 then q1.bump 0xE08 16 1 else if n = 16 then q1.bump 0xE0C 16 1 else q1)

/-- Take a trap, or an event entry, which is descriptor 16 (R273): wait while window accesses are unsettled; a failed one takes
the entry's place. -/
def State.takeTrap (s : State) (p : Nat) (t : Trap) : State :=
  let q := s.pane p
  if !q.settled then s.setPane p { q with entry := some t, phase := .run }
  else
    let r := match q.failure with
      | some (m, q') => ({ m with epc := t.epc, stll := t.stll, le := t.le }, q')
      | none => (t, q)
    let q1 := if r.1.num = 5 then r.2.bump 0x82C 16 1 else r.2
    (s.setPane p { q1 with entry := none }).enter p r.1.num r.1.epc (ecauseOf r.1) r.1.eaddr

/-! The event queue's interrupt input (R305, R310). -/

/-- Slots of the event queue, 0 for none. -/
def Pane.evSlots (q : Pane) : Nat := let l := (q.cr 0xF00).fld 0 4; if l = 0 then 0 else 2 ^ l
/-- Byte address of slot `k`. -/
def Pane.evAddr (q : Pane) (k : Nat) : Nat := 16 * (q.cr 0xF00).fld 4 12 + 16 * k
/-- The slot of the oldest unclaimed record (CLAIM). -/
def Pane.evClaim (q : Pane) : Nat := if q.evSlots = 0 then 0 else (q.evWr + q.evSlots - q.evUnclaimed % q.evSlots) % q.evSlots
/-- The oldest slot not free (FREE). -/
def Pane.evFree (q : Pane) : Nat := if q.evSlots = 0 then 0 else (q.evWr + q.evSlots - q.evUsed % q.evSlots) % q.evSlots
/-- The queue has a free slot. -/
def Pane.evRoom (q : Pane) : Bool := decide (q.evUsed < q.evSlots)

/-- The interrupt input is asserted (R310). -/
def Pane.interrupt (q : Pane) : Bool :=
  decide (q.evUnclaimed > 0) && decide (q.evStack.length < 8) &&
    match q.evStack with
    | [] => true
    | t :: _ => decide ((q.peekW (q.evAddr q.evClaim)).fld 11 3 > t.prio)

/-- An event entry begins at this sampling point (R279). -/
def Pane.eventDue (q : Pane) : Bool := q.interrupt && !q.em && decide (q.fdepth < 4) && q.entry.isNone

/-! Issuing an instruction. -/

/-- What an instruction does once it executes. -/
inductive Effect where
  /-- It retires in sequence, after the effect on the state. -/
  | done (s : State)
  /-- It retires and transfers control, with no loop-back. -/
  | goto (s : State) (next : Word)
  /-- It has not retired; the state stands as given. -/
  | stay (s : State)
  /-- It traps. -/
  | trap (s : State) (t : Trap)

/-- Complete an instruction. -/
def Effect.finish (p : Nat) : Effect → State
  | .done s => s.modPane p Pane.retire
  | .goto s next => s.modPane p (fun q => { q with pc := next })
  | .stay s => s
  | .trap s t => s.takeTrap p t

/-- The pane can issue: it runs, no entry waits, no event entry is due (R279), and its sash is open. -/
def State.canIssue (s : State) (p : Nat) : Bool :=
  let q := s.pane p
  q.phase == .run && q.entry.isNone && !q.eventDue && s.paneUp p

/-- The cause of the undefined-instruction trap an instruction raises (R216). -/
def undefCause (i : Instr) : Option Nat := (encodeNat i).bind checkWord

/-- The instruction word, for EADDR (R286). -/
def wordOf (i : Instr) : Word := BitVec.ofNat 32 ((encodeNat i).getD 0)

/-- A window read that writes register `r`. -/
def WRead.writes (x : WRead) (r : RegNo) : Bool := r != 0 && (x.dest == some r || x.dest2 == some r)

/-- Issue instruction `i` of pane `p` (R216, R187, R287, R149, R150): the encoding checks, the guard, the privilege
check, the wait for window reads of its sources `srcs`, and then its own effect. An instruction that cannot issue now
leaves the state as it is (log 5). -/
def State.issue (s : State) (i : Instr) (p : PaneNo) (gd : BitVec 4) (priv : Pane → Option Nat) (srcs : List RegNo)
    (body : State → Pane → Effect) : State :=
  let q := s.pane p.toNat
  if !s.canIssue p.toNat then s
  else match undefCause i with
    | some c => s.takeTrap p.toNat (q.mkTrap 0 c (wordOf i))
    | none =>
      if !q.guard gd then s.modPane p.toNat Pane.retire
      else match priv q with
        | some c => s.takeTrap p.toNat (q.mkTrap 1 c q.pc)
        | none =>
          match q.wreads.find? (fun x => srcs.any x.writes) with
          | some x =>
            if x.status == .waiting then s
            else s.takeTrap p.toNat (q.readTrap x)
          | none => (body s q).finish p.toNat

/-- No privilege check. -/
def anyRing : Pane → Option Nat := fun _ => none
/-- Rings 0 and 1 only, with the privilege cause otherwise (R203, R286). -/
def rings01 (cause : Nat) : Pane → Option Nat := fun q => if q.ring ≤ 1 then none else some cause

/-- An effect on the pane alone. -/
def onPane (p : PaneNo) (f : Pane → Pane) : State → Pane → Effect := fun s q => .done (s.setPane p.toNat (f q))

/-! Messages (R91, R96, R126). -/

/-- `a` lies between `b` and `c`. -/
def between (a b c : Nat) : Bool := decide (min b c ≤ a) && decide (a ≤ max b c)

/-- Router `r` lies on the VN0 route, X first (R91). -/
def onVn0 (src dst r : Nat) : Bool :=
  (rowOf r == rowOf src && between (colOf r) (colOf src) (colOf dst)) ||
  (colOf r == colOf dst && between (rowOf r) (rowOf src) (rowOf dst))

/-- Router `r` lies on the VN1 route, Y first (R91). -/
def onVn1 (src dst r : Nat) : Bool :=
  (colOf r == colOf src && between (rowOf r) (rowOf src) (rowOf dst)) ||
  (rowOf r == rowOf dst && between (colOf r) (colOf src) (colOf dst))

/-- The router at which a drive entry leaves the grid (R130): group 0 or 1, entry A or B. -/
def driveRouter (group entry : Nat) : Nat :=
  match group % 2, entry % 2 with
  | 0, 0 => 15 * 32 + 31
  | 0, _ => 16
  | _, 0 => 16 * 32 + 31
  | _, _ => 31 * 32 + 15

/-- Router `r` lies on the route of a virtual network. -/
def onVn (vn1 : Bool) (src dst r : Nat) : Bool := if vn1 then onVn1 src dst r else onVn0 src dst r

/-- The relay candidates of R126, in order. R126 gives them for a source and destination that share a row or a column. Where they
share neither and several dead routers block both routes, it lists none: the model takes those of a shared column (DESIGN
CHOICE, log 122). -/
def relayCandidates (src dst : Nat) : List Nat :=
  if rowOf src = rowOf dst then
    (if rowOf src < 31 then [(rowOf src + 1) * 32 + colOf dst] else []) ++
    (if rowOf src > 0 then [(rowOf src - 1) * 32 + colOf dst] else [])
  else
    (if colOf src < 31 then [rowOf src * 32 + colOf src + 1] else []) ++
    (if colOf src > 0 then [rowOf src * 32 + colOf src - 1] else [])

/-- The first relay that is not dead and lies on no dead router's row or column (R126). -/
def State.relayFor (s : State) (src dst : Nat) : Option Nat :=
  (relayCandidates src dst).find? (fun r =>
    s.routedAround.all (fun d => r != d && (rowOf r != rowOf d) && (colOf r != colOf d)))

/-- The route of a virtual network crosses no router that the installed routes go round. -/
def State.clear (s : State) (vn1 : Bool) (src dst : Nat) : Bool := s.routedAround.all (fun d => !onVn vn1 src dst d)

/-- A message gets through: its route crosses no dead router (R125, R126). -/
def State.routeLives (s : State) (vn1 : Bool) (src dst : Nat) : Bool := s.deadRouters.all (fun d => !onVn vn1 src dst d)

/-- The way of a message from router `src` to router `dst` under the installed routes (R126): its network and its relay. It takes
network `vn1` when that route is clear, else the other, else a relay; none where it is lost at a dead router (R125), or
because its channel fits no relay (R127, `lostChan`). -/
def State.wayFrom (s : State) (vn1 : Bool) (src dst : Nat) (lostChan : Bool) : Option (Bool × Option Nat) :=
  if s.clear vn1 src dst then (if s.routeLives vn1 src dst then some (vn1, none) else none)
  else if s.clear (!vn1) src dst then (if s.routeLives (!vn1) src dst then some (!vn1, none) else none)
  else if lostChan then none
  else (s.relayFor src dst).bind (fun r =>
    let v := !s.clear false src r
    if s.routeLives v src r then some (v, some r) else none)

/-- Inject a message at router `src` for router `dst`, on network `vn1` unless R126 moves it. One with no way is lost. -/
def State.injectOn (s : State) (vn1 : Bool) (m : Msg) (src dst : Nat) (lostChan : Bool) : State :=
  match s.wayFrom vn1 src dst lostChan with
  | some w => { s with mesh := s.mesh ++ [{ m with vn := w.1, relay := w.2 }] }
  | none => s

/-- Inject a message, which takes VN0 in the fault-free mesh (R92). -/
def State.inject (s : State) (m : Msg) (src dst : Nat) (lostChan : Bool) : State := s.injectOn false m src dst lostChan

/-- What keeps a message of a channel from a relay (R127): the lintel's plan marks the channel's key as lost with 1,024. -/
def State.relayLost (s : State) (key : Nat) : Bool := SMap.at? s.relays key == some 1024
/-- The keys of the relay plan: an outgoing entry, a distribution stream, an incoming channel of another part's pane, by the copy
that sends, and a channel of the lintel. -/
def entryKey (p e : Nat) : Nat := p * 64 + e
def distKey (b n : Nat) : Nat := 2 ^ 16 + b * 256 + n
def farKey (p c copy : Nat) : Nat := 2 ^ 17 + (p * 64 + c) * 4 + copy
def lintelKey (p c : Nat) : Nat := 2 ^ 19 + p * 64 + c

/-- A message that one unit hands over within a step gets from router `src` to router `dst` (R126). -/
def State.arrives (s : State) (src dst key : Nat) : Bool :=
  match s.wayFrom false src dst (s.relayLost key) with
  | some (_, some r) => s.routeLives true r dst
  | some (_, none) => true
  | none => false

/-- Number the message and note that its sender awaits its acknowledgement (R63). -/
def State.sendFrom (s : State) (p : Nat) (m : Msg) (dst : Nat) (lostChan : Bool) : State :=
  let m : Msg := { m with id := s.nextId }
  let s1 : State := { s with nextId := s.nextId + 1 }
  (s1.modPane p (fun q =>
    { q with unacked := q.unacked ++ [{ id := m.id, tag := m.tick }] })).inject m p dst lostChan

end Sys2Proof.Machine
end

