-- ==== Sys2Proof/Machine/Operands.lean ====
section
/-!
DEFINITION. The operand forms of the Nirmon formats (R211): immediates, effective addresses, branch targets, loop
counts and compare operands; and the special registers as MFS and MTS reach them (R202, R271).
-/
namespace Sys2Proof.Machine

/-- The effective address of format E (R211): M = 0 adds the offset, M = 1 takes the base. -/
def Pane.ea (q : Pane) (ra : RegNo) (m : Bool) (off : BitVec 10) : Word :=
  if m then q.gr ra else q.gr ra + sextTo32 off

/-- The post-modify update of the base (R211, R213). -/
def Pane.postMod (q : Pane) (ra : RegNo) (m : Bool) (off : BitVec 10) : Pane :=
  if m then q.setGr ra (q.gr ra + sextTo32 off) else q

/-- The target of a format D branch at `a` (R211). -/
def branchTarget (a : Word) (off : BitVec 21) : Word := a + 4 * sextTo32 off

/-- The second operand of CMP (R211, R240): a register, or an immediate sign-extended for the signed and equality
conditions and zero-extended for the others. -/
def Pane.cmpOperand (q : Pane) (i : Bool) (cond : BitVec 4) (b : BitVec 8) : Word :=
  if i then (if cond.toNat ≤ 3 then sextTo32 b else zextTo32 b) else q.gr (BitVec.ofNat 5 (b.toNat / 8))

/-- The count of LOOP (R246). -/
def Pane.loopCount (q : Pane) (r : Bool) (cnt : BitVec 10) : Word :=
  if r then q.gr (BitVec.ofNat 5 (cnt.toNat / 32)) else zextTo32 cnt

/-- The register LOOP reads. -/
def loopSrc (r : Bool) (cnt : BitVec 10) : List RegNo := if r then [BitVec.ofNat 5 (cnt.toNat / 32)] else []

/-- The frame the frame registers show (R270). -/
def Pane.topFrame (q : Pane) : Frame := q.frames.getD (q.fdepth - 1) Frame.zero

/-- Rewrite the frame shown. -/
def Pane.setTopFrame (q : Pane) (f : Frame) : Pane := { q with frames := q.frames.setIfInBounds (q.fdepth - 1) f }

/-- Bits [lo + 31 : lo] of an accumulator. -/
def accPart (v : Acc) (lo : Nat) : Word := v.extractLsb' lo 32

/-- A special register (R202, R271). `dev` is the part's number on the board. -/
def Pane.readSreg (q : Pane) (pane dev n : Nat) : Word :=
  match n with
  | 0x00 => q.status
  | 0x01 => q.lr
  | 0x02 => zextTo32 (q.pred ||| 1)
  | 0x04 => q.lb[0]
  | 0x05 => q.lb[1]
  | 0x06 => q.lb[2]
  | 0x08 => q.le[0]
  | 0x09 => q.le[1]
  | 0x0A => q.le[2]
  | 0x0C => q.lc[0]
  | 0x0D => q.lc[1]
  | 0x0E => q.lc[2]
  | 0x10 => accPart q.acc0 0
  | 0x11 => accPart q.acc0 32
  | 0x12 => sextTo32 (q.acc0.extractLsb' 64 8)
  | 0x14 => accPart q.acc1 0
  | 0x15 => accPart q.acc1 32
  | 0x16 => sextTo32 (q.acc1.extractLsb' 64 8)
  | 0x20 => BitVec.ofNat 32 q.tag
  | 0x21 => BitVec.ofNat 32 (q.tag / 2 ^ 32)
  | 0x22 => BitVec.ofNat 32 q.tks
  | 0x23 => BitVec.ofNat 32 (q.tks / 2 ^ 32)
  | 0x24 => BitVec.ofNat 32 (pane + dev * 1024)
  | 0x40 => q.topFrame.epc
  | 0x41 => q.topFrame.estatus
  | 0x42 => q.topFrame.esp
  | 0x43 => q.topFrame.ecause
  | 0x44 => q.topFrame.eaddr
  | 0x45 => BitVec.ofNat 32 q.fdepth
  | _ => 0

/-- An accumulator with 32 bits replaced. -/
def accWith (v : Acc) (lo : Nat) (x : Word) : Acc :=
  (v &&& ~~~((0xFFFFFFFF : Acc) <<< lo)) ||| ((x.setWidth 72) <<< lo)

/-- An accumulator with bits [71:64] replaced (R189). -/
def accWithX (v : Acc) (x : Word) : Acc := (v &&& 0xFFFFFFFFFFFFFFFF#72) ||| ((x.setWidth 72) <<< 64)

/-- Clear bits [1:0] (R202, R271). -/
def align4 (v : Word) : Word := v &&& 0xFFFFFFFC#32

/-- Write a special register by its field access (R199, R202, R204, R271). -/
def Pane.writeSreg (q : Pane) (n : Nat) (v : Word) : Pane :=
  match n with
  | 0x00 => { q with status := mtsStatus q v }
  | 0x01 => { q with lr := v }
  | 0x02 => { q with pred := (BitVec.ofNat 8 v.toNat) ||| 1 }
  | 0x04 => { q with lb := q.lb.set 0 (align4 v) }
  | 0x05 => { q with lb := q.lb.set 1 (align4 v) }
  | 0x06 => { q with lb := q.lb.set 2 (align4 v) }
  | 0x08 => { q with le := q.le.set 0 (align4 v) }
  | 0x09 => { q with le := q.le.set 1 (align4 v) }
  | 0x0A => { q with le := q.le.set 2 (align4 v) }
  | 0x0C => { q with lc := q.lc.set 0 v }
  | 0x0D => { q with lc := q.lc.set 1 v }
  | 0x0E => { q with lc := q.lc.set 2 v }
  | 0x10 => { q with acc0 := accWith q.acc0 0 v }
  | 0x11 => { q with acc0 := accWith q.acc0 32 v }
  | 0x12 => { q with acc0 := accWithX q.acc0 v }
  | 0x14 => { q with acc1 := accWith q.acc1 0 v }
  | 0x15 => { q with acc1 := accWith q.acc1 32 v }
  | 0x16 => { q with acc1 := accWithX q.acc1 v }
  | 0x40 => q.setTopFrame { q.topFrame with epc := align4 v }
  | 0x41 => q.setTopFrame { q.topFrame with estatus := v }
  | 0x42 => q.setTopFrame { q.topFrame with esp := v }
  | _ => q

/-- This part's number on the board (R95, R202). -/
def State.partNo (s : State) : Nat := (s.rd Config.board).fld 0 3

/-- The report of a suspect copy, by its reference (R456, R582, R584). -/
def State.suspectOf (s : State) (src arg : Nat) : Report :=
  if src / 1024 = s.partNo then .suspect (src % 1024) arg else .suspectFar src arg

end Sys2Proof.Machine
end

