-- ==== Sys2Proof/Machine/Bay.lean ====
section
/-!
DEFINITION. Bay buffers, the LPDDR4X controller and the bulk movers (R391 to R416).
-/
namespace Sys2Proof.Machine

/-! Bay buffers and DRAM with their SECDED words of 64 bits (R391, R392, R397). -/

/-- The buffer of a bay. -/
def State.buf (s : State) (b : Nat) : Memory := SMap.get (fun _ => []) s.bufs b
/-- The ECC marks of a bay buffer, by word number. -/
def State.bufMarks (s : State) (b : Nat) : SMap EccMark := SMap.get (fun _ => []) s.bufEcc b

/-- A bulk memory: the buffer of a bay, or DRAM. -/
inductive Bulk where
  | buf (bay : Nat)
  | dram
  deriving DecidableEq, Repr

/-- The bytes of a bulk memory. -/
def State.bulk (s : State) : Bulk → Memory
  | .buf b => s.buf b
  | .dram => s.dram
/-- Replace them. -/
def State.setBulk (s : State) (k : Bulk) (m : Memory) : State :=
  match k with
  | .buf b => { s with bufs := SMap.set (fun _ => []) s.bufs b m }
  | .dram => { s with dram := m }
/-- The ECC state of the word that holds byte a. -/
def State.bulkEcc (s : State) (k : Bulk) (a : Nat) : EccMark :=
  SMap.get (fun _ => EccMark.clean) (match k with
    | .buf b => s.bufMarks b
    | .dram => s.dramEcc) (a / 8)
/-- Set it. -/
def State.setBulkEcc (s : State) (k : Bulk) (a : Nat) (m : EccMark) : State :=
  match k with
  | .buf b => { s with bufEcc := SMap.set (fun _ => []) s.bufEcc b (SMap.set (fun _ => EccMark.clean) (s.bufMarks b) (a / 8) m) }
  | .dram => { s with dramEcc := SMap.set (fun _ => EccMark.clean) s.dramEcc (a / 8) m }

/-- USABLE, in 64 MiB units (R397, R401). -/
def State.dramUsable (s : State) : Nat := (s.rd (Config.dram + 8)).fld 8 8
/-- Bytes of a bulk memory. -/
def State.bulkSize (s : State) : Bulk → Nat
  | .buf _ => 2097152
  | .dram => s.dramUsable * 67108864

/-- A corrected word: counted and written back (R391, R397). -/
def State.bulkCorrect (s : State) (k : Bulk) (a : Nat) : State :=
  let s1 := s.setBulkEcc k a .clean
  match k with
  | .buf b => s1.bump (Config.bay b + 0x20) 16 1
  | .dram => (s1.bump (Config.dram + 0x30) 16 1).edge allBells 38 0

/-- An uncorrectable word found (R391, R397). -/
def State.bulkUe (s : State) (k : Bulk) (a : Nat) : State :=
  match k with
  | .buf b =>
    (s.bump (Config.bay b + 0x24) 16 1).wr (Config.bay b + 0x28) (BitVec.ofNat 32 (a / 8 * 8 % 2097152 + 2 ^ 31))
  | .dram =>
    (((s.bump (Config.dram + 0x34) 16 1).wr (Config.dram + 0x38) (BitVec.ofNat 32 (a / 8 * 8))).wr (Config.dram + 0x3C)
      (BitVec.ofNat 32 (a / 2 ^ 32 % 2 + 2 ^ 31))).edge allBells 39 0

/-- Read `n` bytes of one 64-bit word, aligned to their size: none where the word has an uncorrectable error. -/
def State.bulkRead (s : State) (k : Bulk) (a n : Nat) : Option Nat × State :=
  match s.bulkEcc k a with
  | .uncorrectable => (none, s.bulkUe k a)
  | .correctable => (some (leNat (Memory.readBytes (s.bulk k) a n)), s.bulkCorrect k a)
  | .clean => (some (leNat (Memory.readBytes (s.bulk k) a n)), s)

/-- Bytes of a bulk memory, and no check bits. -/
def State.bulkPoke (s : State) (k : Bulk) (a n v : Nat) : State :=
  s.setBulk k (Memory.writeBytes (s.bulk k) a (leBytes n v))

/-- Write `n` bytes of one 64-bit word (R391, R396): 8 bytes carry fresh check bits; fewer are a read-modify-write, which corrects
and counts a single-bit error, and leaves an uncorrectable word uncorrectable (R170). -/
def State.bulkWrite (s : State) (k : Bulk) (a n v : Nat) : State :=
  let s1 := s.bulkPoke k a n v
  if n ≥ 8 then s1.setBulkEcc k a .clean
  else if s1.bulkEcc k a == .correctable then s1.bulkCorrect k a else s1

/-! Movers (R403 to R413). -/

/-- Mover m of bay b. -/
def State.mover (s : State) (b m : Nat) : Mover := SMap.get (fun _ => Mover.reset) s.movers (b * 4 + m)
/-- Replace it. -/
def State.setMover (s : State) (b m : Nat) (x : Mover) : State := { s with movers := SMap.put s.movers (b * 4 + m) x }
/-- MV_CFG. -/
def State.mvCfg (s : State) (b m : Nat) : Word := s.rd (Config.bay b + 0x100 + 0x40 * m)
/-- The owner pane. -/
def State.mvOwner (s : State) (b m : Nat) : Nat := (s.mvCfg b m).fld 0 10
/-- The owner's class; a spare that owns the mover before its takeover completes has the class of the task (R135, R413). -/
def State.mvCls (s : State) (b m : Nat) : Nat :=
  match s.takeovers.find? (fun t => t.spare == s.mvOwner b m) with
  | some t => (s.pane t.retired).cls
  | none => (s.pane (s.mvOwner b m)).cls
/-- EN. -/
def State.mvEn (s : State) (b m : Nat) : Bool := (s.mvCfg b m).bit 31
/-- Byte offset of slot k of the ring. -/
def State.mvSlot (s : State) (b m k : Nat) : Nat := (s.mvCfg b m).fld 12 12 * 512 + 32 * k

/-- A word of the descriptor in slot k. -/
def State.mvWord (s : State) (b m k n : Nat) : Word :=
  BitVec.ofNat 32 (leNat (Memory.readBytes (s.buf b) (s.mvSlot b m k + 4 * n) 4))

/-- Where a descriptor reads or writes. -/
inductive Space where
  | bulk (k : Bulk)
  | pane (p : Nat)
  | invalid
  deriving DecidableEq, Repr

/-- One end of a descriptor: words n and n + 1 (R405). -/
def State.mvSpace (s : State) (b m k n : Nat) : Space :=
  let w := s.mvWord b m k (n + 1)
  match w.fld 4 2 with
  | 0 => .bulk (.buf (w.fld 6 3))
  | 1 => .bulk .dram
  | 2 => .pane (w.fld 9 10)
  | _ => .invalid
/-- Its byte offset; bit 32 is ignored where the space does not use it (R405). -/
def State.mvOff (s : State) (b m k n : Nat) : Nat :=
  (s.mvWord b m k n).toNat + (if s.mvSpace b m k n = .bulk .dram then (s.mvWord b m k (n + 1)).fld 0 1 * 2 ^ 32 else 0)
/-- LEN, ROWS, DUE and the strides. -/
def State.mvLen (s : State) (b m k : Nat) : Nat := (s.mvWord b m k 4).fld 0 24
def State.mvRows (s : State) (b m k : Nat) : Nat := (s.mvWord b m k 7).fld 0 16
def State.mvDue (s : State) (b m k : Nat) : Nat := (s.mvWord b m k 7).fld 16 8
def State.mvStride (s : State) (b m k n : Nat) : Nat := (s.mvWord b m k (5 + n / 2)).toNat
/-- The total bytes. -/
def State.mvTotal (s : State) (b m k : Nat) : Nat := s.mvLen b m k * s.mvRows b m k

/-- A store that sets OWN drains into a mover's ring (R406): the slot is submitted. `w` is the store's first byte
offset, `n` its size, `tag` its tick tag. -/
def State.mvSubmit (s : State) (b w n tag : Nat) : State :=
  if !s.ticking || s.part == .faulted then s
  else (List.range 4).foldl (fun s m =>
    let base := s.mvSlot b m 0
    let k := (w + n - 1 - base) / 32
    let top := base + 32 * k + 31
    let x := s.mover b m
    if s.mvEn b m && decide (base ≤ w) && decide (k < 16) && decide (w ≤ top) && decide (top < w + n)
        && (s.mvWord b m k 7).bit 31 && x.subs.all (fun d => d.slot != k) then
      let cls := s.mvCls b m
      let t0 := s.tickStart cls tag
      s.setMover b m { x with subs := x.subs ++
        [{ slot := k, subEnd := t0 + s.mult cls, due := t0 + s.mvDue b m k * s.mult cls, begun := false, read := false,
           moved := 0, crc := 0xFFFFFFFF#32, status := none, late := false }] }
    else s) s

/-- A store into the ring of a mover from another pane than its owner (R404). -/
def State.ringForeign (s : State) (b p w n : Nat) : Bool :=
  (List.range 4).any (fun m =>
    let base := s.mvSlot b m 0
    s.mvEn b m && s.mvOwner b m != p && decide (w < base + 512) && decide (base < w + n))

/-! The checks of R407. -/

/-- Rows of an end as (first byte, length). -/
def State.mvRanges (s : State) (b m k n : Nat) : List (Nat × Nat) :=
  (List.range (s.mvRows b m k)).map (fun r => (s.mvOff b m k n + r * s.mvStride b m k n, s.mvLen b m k))

/-- Two ranges share a byte. -/
def overlaps (x y : Nat × Nat) : Bool := decide (x.1 < y.1 + y.2) && decide (y.1 < x.1 + x.2)

/-- Reserved bits of a descriptor are nonzero, DUE or ROWS is 0, or a SPACE is 3 (status 2). -/
def State.mvBad (s : State) (b m k : Nat) : Bool :=
  ((s.mvWord b m k 1) &&& 0xFFF8000E#32 != 0) || ((s.mvWord b m k 3) &&& 0xFFF8000E#32 != 0) ||
  ((s.mvWord b m k 7) &&& 0x7C000000#32 != 0) || s.mvDue b m k == 0 || s.mvRows b m k == 0 ||
  s.mvSpace b m k 0 == .invalid || s.mvSpace b m k 2 == .invalid

/-- The controller refuses every access: absent, failed, severed, or VDDQ_DDR lost (R398, R636, R654). -/
def State.dramRefuses (s : State) : Bool := s.dramUsable == 0 || s.severed 98 || s.lostSupplies.contains 11

/-- An end lies outside its range (status 4). -/
def State.mvOutside (s : State) (b m k n : Nat) : Bool :=
  let rs := s.mvRanges b m k n
  match s.mvSpace b m k n with
  | .bulk (.buf _) => rs.any (fun r => decide (r.1 + r.2 > 2097152))
  | .bulk .dram =>
    let d := s.rd (Config.bay b + 0x104 + 0x40 * m)
    s.dramRefuses || rs.any (fun r => decide (r.1 < d.fld 0 7 * 67108864) || decide (r.1 + r.2 > d.fld 8 7 * 67108864) ||
      decide (r.1 + r.2 > s.dramUsable * 67108864))
  | _ => false

/-- The bytes of a pane end lie in one MW region of the pane. -/
def Pane.mwHolds (q : Pane) (rs : List (Nat × Nat)) : Bool :=
  ((List.range 8).map (fun n => q.cr (0x10 + 4 * n))).any (fun d =>
    d.bit 31 && d.bit 21 && rs.all (fun r => decide (d.fld 0 8 * 256 ≤ r.1) && decide (r.1 + r.2 ≤ (d.fld 8 8 + 1) * 256)))

/-- A pane end is not permitted (status 5). -/
def State.mvPaneBad (s : State) (b m k n : Nat) : Bool :=
  match s.mvSpace b m k n with
  | .pane p =>
    bayOf p != b || !(s.pane p).mwHolds (s.mvRanges b m k n) || decide (s.mvTotal b m k > 4096) ||
    decide ((s.pane p).cls > s.mvCls b m)
  | _ => false

/-- An end is pane memory. -/
def Space.isPane : Space → Bool
  | .pane _ => true
  | _ => false

/-- Source and destination share a byte (status 6). -/
def State.mvOverlap (s : State) (b m k : Nat) : Bool :=
  s.mvSpace b m k 0 == s.mvSpace b m k 2 &&
    (s.mvRanges b m k 0).any (fun x => (s.mvRanges b m k 2).any (fun y => overlaps x y))

/-- The first failing check (R407). -/
def State.mvCheck (s : State) (b m k : Nat) : Option Nat :=
  let src := s.mvSpace b m k 0
  let dst := s.mvSpace b m k 2
  if s.mvBad b m k then some 2
  else if s.mvOutside b m k 0 || s.mvOutside b m k 2 then some 4
  else if (src.isPane && dst.isPane) || s.mvPaneBad b m k 0 || s.mvPaneBad b m k 2 then some 5
  else if s.mvOverlap b m k then some 6
  else if src.isPane && decide (s.mvDue b m k < 2) then some 7
  else none

/-! Moving bytes. -/

/-- The address of byte i of an end. -/
def State.mvAddr (s : State) (b m k n i : Nat) : Nat :=
  let len := max (s.mvLen b m k) 1
  s.mvOff b m k n + i / len * s.mvStride b m k n + i % len

/-- Read byte i of the source: from bulk memory, or from staging for a pane source, where the bytes end before an uncorrectable
word. None: an uncorrectable word. -/
def State.mvGet (s : State) (b m k i : Nat) : Option Byte × State :=
  match s.mvSpace b m k 0 with
  | .bulk sp =>
    let r := s.bulkRead sp (s.mvAddr b m k 0 i) 1
    (r.1.map (BitVec.ofNat 8), r.2)
  | _ => ((s.mover b m).staging[i]?, s)

/-- The row of byte i covers the whole 64-bit destination word of that byte. -/
def State.mvWhole (s : State) (b m k i : Nat) : Bool :=
  let len := max (s.mvLen b m k) 1
  let a := s.mvAddr b m k 2 i
  decide (a % 8 ≤ i % len) && decide (a / 8 * 8 + 8 + i % len ≤ a + len)

/-- Write byte i of the destination: to bulk memory, or into staging for a pane destination. A 64-bit word that the row covers
is written whole, with fresh check bits at its last byte; the others merge. -/
def State.mvPut (s : State) (b m k i : Nat) (v : Byte) : State :=
  match s.mvSpace b m k 2 with
  | .bulk sp =>
    let a := s.mvAddr b m k 2 i
    if s.mvWhole b m k i then
      let s1 := s.bulkPoke sp a 1 v.toNat
      if a % 8 = 7 then s1.setBulkEcc sp a .clean else s1
    else s.bulkWrite sp a 1 v.toNat
  | _ => let x := s.mover b m
         s.setMover b m { x with staging := x.staging ++ [v] }

/-- Replace the record of slot k's submission. -/
def Mover.setSub (x : Mover) (d : MvSub) : Mover := { x with subs := x.subs.map (fun e => if e.slot = d.slot then d else e) }

/-- The mover ends a descriptor and goes on to its next slot (R406). With a pane destination the staged bytes wait for the pane:
all of them, or those before an uncorrectable word (R407, status 3). -/
def State.mvEnd (s : State) (b m : Nat) (d : MvSub) (st : Nat) : State :=
  let x := s.mover b m
  s.setMover b m { (x.setSub { d with status := some st }) with
    next := (x.next + 1) % 16,
    staged := match (if st = 0 ∨ (st = 3 ∧ 0 < d.moved) then s.mvSpace b m d.slot 2 else .invalid) with
      | .pane p => some { slot := d.slot, pane := p, rows := s.mvRanges b m d.slot 2, ready := false }
      | _ => x.staged }

/-- Move up to `n` bytes of slot k, ending at status 3 on an uncorrectable word (R407). -/
def State.mvBytes (s : State) (b m k : Nat) : Nat → MvSub → State × MvSub × Bool
  | 0, d => (s, d, false)
  | n + 1, d =>
    if d.moved ≥ s.mvTotal b m k then (s, d, false)
    else
      match s.mvGet b m k d.moved with
      | (none, s1) => (s1, d, true)
      | (some v, s1) =>
        State.mvBytes (s1.mvPut b m k d.moved v) b m k n { d with moved := d.moved + 1, crc := crcByte d.crc v }

/-- How many bytes a step of `n` moves: up to the end of a 64-bit word of the destination, so that no word is left
half written (R392). -/
def State.mvCount (s : State) (b m k done n : Nat) : Nat :=
  let len := max (s.mvLen b m k) 1
  let t := done + max n 1
  let a := s.mvAddr b m k 2 (t - 1) + 1
  let up := (8 - a % 8) % 8
  min (t + up) (((t - 1) / len + 1) * len) - done

/-- The mover reads the four 64-bit words of a descriptor (R391, R407): whether one is uncorrectable. -/
def State.mvFetch (s : State) (b m k : Nat) : Bool × State :=
  (List.range 4).foldl (fun r i =>
    let x := r.2.bulkRead (.buf b) (s.mvSlot b m k + 8 * i) 8
    (r.1 || x.1.isNone, x.2)) (false, s)

/-- MOVER_EXECUTE: the mover reads and checks the descriptor in slot NEXT, or moves its next `n` bytes (R406, R407). In FAULTED
it only finishes what it has begun (R413). -/
def execMoverExecute (bay : BitVec 3) (m : BitVec 2) (n : Nat) (s : State) : Host.Outcome State Fault Refusal :=
  let b := bay.toNat
  let m := m.toNat
  let x := s.mover b m
  match x.subs.find? (fun d => d.slot == x.next) with
  | none => .next s
  | some d =>
    if d.status.isSome || x.staged.isSome || !s.domOpen (64 + b) || (s.part == .faulted && !d.begun) then .next s
    else if !d.begun then
      let f := s.mvFetch b m d.slot
      match (if f.1 then some 3 else s.mvCheck b m d.slot) with
      | some st => .next (f.2.mvEnd b m d st)
      | none => .next (f.2.setMover b m { (x.setSub { d with begun := true }) with staging := [] })
    else if (s.mvSpace b m d.slot 0).isPane && !d.read then .next s
    else if s.mvOutside b m d.slot 0 || s.mvOutside b m d.slot 2 then .next (s.mvEnd b m d 4)
    else
      let r := s.mvBytes b m d.slot (s.mvCount b m d.slot d.moved n) d
      let s1 := r.1.setMover b m ((r.1.mover b m).setSub r.2.1)
      if r.2.2 then .next (s1.mvEnd b m r.2.1 3)
      else if r.2.1.moved ≥ s.mvTotal b m d.slot then .next (s1.mvEnd b m r.2.1 0)
      else .next s1

/-- A pane is stalled in WAITT up to the boundary that starts tick `n`, or runs no task (R408). -/
def Pane.stalledFor (q : Pane) (n : Nat) : Bool := (q.phase == .stall && decide (q.tag ≥ n)) || !q.hasTask

/-- The rows up to the first word with an uncorrectable error. -/
def Pane.goodRows (q : Pane) : List (Nat × Nat) → List (Nat × Nat)
  | [] => []
  | (a, n) :: r =>
    match q.firstUe a n with
    | some w => [(a, w - a)]
    | none => (a, n) :: q.goodRows r

/-- The source pane's latch reads the source of mover m's descriptor in slot NEXT into staging while the pane is stalled at the
boundary that ends the submission tick (R408): the bytes before an uncorrectable word (R407). -/
def State.mvStageRead (s : State) (b m : Nat) : State :=
  let x := s.mover b m
  match x.subs.find? (fun d => d.slot == x.next) with
  | none => s
  | some d =>
    match s.mvSpace b m d.slot 0 with
    | .pane p =>
      if !d.begun || d.read || d.status.isSome || !(s.pane p).stalledFor d.subEnd || !s.paneUp p then s
      else
        let rs := (s.pane p).goodRows (s.mvRanges b m d.slot 0)
        let s1 := rs.foldl (fun s r => s.correctRead p r.1 r.2) s
        let bytes := rs.flatMap (fun r => (s.pane p).bytes r.1 r.2)
        s1.setMover b m { ((s1.mover b m).setSub { d with read := true }) with staging := bytes }
    | _ => s

/-- MOVER_STAGE_READ. A boundary takes the read of every pane that is stalled there before it opens the pane; where the mover had
not come to the descriptor by then, or the pane overran, the read is taken in a later stall (DESIGN CHOICE, log 137). -/
def execMoverStageRead (bay : BitVec 3) (m : BitVec 2) (s : State) : Host.Outcome State Fault Refusal :=
  .next (s.mvStageRead bay.toNat m.toNat)

/-- Write rows of staged bytes into pane memory as far as they go, words wholly covered with fresh check bits (R408). -/
def Pane.writeRows (q : Pane) (bytes : List Byte) : List (Nat × Nat) → Pane
  | [] => q
  | (a, n) :: r =>
    let l := bytes.take n
    let q1 : Pane := { q with sram := Memory.writeBytes q.sram a l }
    let q2 := (wordsOf a l.length).foldl (fun q w =>
      if a ≤ w ∧ w + 4 ≤ a + l.length then q.setEcc w .clean
      else if q.eccAt w == .correctable then q.setEcc w .clean else q) q1
    Pane.writeRows q2 (bytes.drop n) r

/-- The coming boundary closes slot k's descriptor: it is a boundary of the owner's class, at or after the due one
(R410, R411). -/
def State.mvCloses (s : State) (b m : Nat) (d : MvSub) : Bool :=
  s.nextTick % s.mult (s.mvCls b m) == 0 && decide (d.due ≤ s.nextTick)

/-- The staged data of mover m of bay b goes into its pane (R408). -/
def State.mvLand (s : State) (b m : Nat) : State :=
  let x := s.mover b m
  match x.staged with
  | none => s
  | some g => (s.modPane g.pane (fun q => q.writeRows x.staging g.rows)).setMover b m { x with staged := none, staging := [] }

/-- It does so while the pane is stalled in WAITT at the due boundary, or in a later stall when the pane overran there
(R408, R411). -/
def State.mvPaneWrite (s : State) (b m : Nat) : State :=
  let x := s.mover b m
  match x.staged with
  | none => s
  | some g =>
    let now := g.ready && ((s.pane g.pane).phase == .stall || !(s.pane g.pane).hasTask)
    let coming := x.subs.any (fun d => d.slot == g.slot && s.mvCloses b m d) && (s.pane g.pane).stalledFor s.nextTick
    if (now || coming) && s.paneUp g.pane then s.mvLand b m else s

/-- Late data that waits for pane p is written in the stall of its late WAITT, and a source that its overrun kept from staging is
read there, before it goes on (R408, R411). -/
def State.lateWrites (s : State) (p : Nat) : State :=
  let s1 := (List.range 32).foldl (fun s k =>
    match (s.mover (k / 4) (k % 4)).staged with
    | some g => if g.ready && g.pane == p then s.mvLand (k / 4) (k % 4) else s
    | none => s) s
  let q := s1.pane p
  let s2 := s1.setPane p { q with phase := .stall, tag := s1.tickStart q.cls s1.tick }
  ((List.range 32).foldl (fun s k => s.mvStageRead (k / 4) (k % 4)) s2).modPane p
    (fun x => { x with phase := q.phase, tag := q.tag })

/-- MOVER_PANE_WRITE. -/
def execMoverPaneWrite (bay : BitVec 3) (m : BitVec 2) (s : State) : Host.Outcome State Fault Refusal :=
  .next (s.mvPaneWrite bay.toNat m.toNat)

/-- Write back slot d of mover m (R410): STATUS, the CRC, OWN, the bell and the counters. -/
def State.mvWriteBack (s : State) (b m : Nat) (d : MvSub) (st : Nat) : State :=
  let x := s.mover b m
  let a := s.mvSlot b m d.slot
  let code := if st = 0 ∧ d.late then 1 else st
  let w7 := s.mvWord b m d.slot 7
  let s1 := s.bulkWrite (.buf b) (a + 16) 4 ((s.mvWord b m d.slot 4).withFld 24 8 code).toNat
  let s2 := if w7.bit 25 then s1.bulkWrite (.buf b) (a + 20) 4 (~~~d.crc).toNat else s1
  let s3 := s2.bulkWrite (.buf b) (a + 28) 4 (w7.withBit 31 false).toNat
  let s4 := s3.setMover b m { x with
    subs := x.subs.filter (fun e => e.slot != d.slot),
    staged := x.staged.map (fun g => if g.slot = d.slot then { g with ready := true } else g) }
  let s5 := s4.bump (Config.bay b + 0x10C + 0x40 * m + (if code = 0 then 0 else if code = 1 then 4 else 8)) 16 1
  if w7.bit 24 then s5.edge (bayBells b) (32 + m) d.slot else s5

/-- The descriptors of mover m that the coming boundary finds complete are written back (R410, R411). -/
def State.mvBack (s : State) (b m : Nat) : State :=
  (s.mover b m).subs.foldl (fun s d =>
    match d.status with
    | some st => if s.mvCloses b m d then s.mvWriteBack b m d st else s
    | none => s) s

/-- MOVER_WRITE_BACK: in the Commit of the coming boundary (log 25). -/
def execMoverWriteBack (bay : BitVec 3) (m : BitVec 2) (s : State) : Host.Outcome State Fault Refusal :=
  .next (s.mvBack bay.toNat m.toNat)

/-- A descriptor of mover m that is incomplete at its due boundary, the coming one, counts as an overrun of the owner
(R411). -/
def State.mvJudge (s : State) (b m : Nat) : State :=
  (s.mover b m).subs.foldl (fun s d =>
    if d.status.isNone && !d.late && s.mvCloses b m d then
      let s1 := s.setMover b m ((s.mover b m).setSub { d with late := true })
      s1.modPane (s.mvOwner b m) (fun q => { q.bump 0x10C 32 1 with mvLate := true })
    else s) s

/-- MOVER_LATE: judged at the close of the coming boundary (log 25). -/
def execMoverLate (bay : BitVec 3) (m : BitVec 2) (s : State) : Host.Outcome State Fault Refusal :=
  .next (s.mvJudge bay.toNat m.toNat)

/-! The LPDDR4X controller (R396 to R402). -/

/-- The interface is in service. -/
def State.dramUp (s : State) : Bool := (s.rd (Config.dram + 4)).fld 0 2 == 2

/-- DRAM_REFRESH: per-bank refresh keeps every word; its rate follows MR4, which HOT shows (R396, R416). -/
def execDramRefresh (hot : Bool) (s : State) : Host.Outcome State Fault Refusal :=
  .next (if s.dramUp then s.wrFld (Config.dram + 4) 2 1 hot.toNat else s)

/-- ZQ_CALIBRATION: calibration every 128 ms, which changes no state a command can see (R396). -/
def execZqCalibration (s : State) : Host.Outcome State Fault Refusal := .next s

/-- One word of a patrol read. -/
def State.patrol (s : State) (a : Nat) : State :=
  match s.bulkEcc .dram a with
  | .clean => s
  | .correctable => s.bulkCorrect .dram a
  | .uncorrectable => s.bulkUe .dram a

/-- DRAM_SCRUB_READ: one 64-byte patrol read, when SCRUB.RATE is not 0 (R397, R416). -/
def execDramScrubRead (unit : Nat) (s : State) : Host.Outcome State Fault Refusal :=
  if (s.rd (Config.dram + 0x40)).fld 0 8 = 0 ∨ s.dramRefuses ∨ unit * 64 ≥ s.bulkSize .dram then .next s
  else .next ((List.range 8).foldl (fun s k => s.patrol (unit * 64 + 8 * k)) s)

end Sys2Proof.Machine
end

