-- ==== Sys2Proof/Machine/Integer.lean ====
section
/-!
DEFINITION. Integer operations (R222, R223), immediates and constants (R224), and the predicate instructions (R240 to R242).
-/
namespace Sys2Proof.Machine

/-- Run a pane instruction whose effect is on the pane alone, at any ring. -/
def paneOp (i : Instr) (p : PaneNo) (gd : BitVec 4) (srcs : List RegNo) (f : Pane → Pane) (s : State) :
    Host.Outcome State Fault Refusal :=
  .next (s.issue i p gd anyRing srcs (onPane p f))

/-- RD := f(g[RA], g[RB]). -/
def op3 (i : Instr) (p : PaneNo) (gd : BitVec 4) (rd ra rb : RegNo) (f : Word → Word → Word) (s : State) :
    Host.Outcome State Fault Refusal :=
  paneOp i p gd [ra, rb] (fun q => q.setGr rd (f (q.gr ra) (q.gr rb))) s

/-- RD := f(g[RA], g[RB]), setting V when the second component says so. -/
def op3v (i : Instr) (p : PaneNo) (gd : BitVec 4) (rd ra rb : RegNo) (f : Word → Word → Word × Bool) (s : State) :
    Host.Outcome State Fault Refusal :=
  paneOp i p gd [ra, rb]
    (fun q => (q.setGr rd (f (q.gr ra) (q.gr rb)).1).stick 0 (f (q.gr ra) (q.gr rb)).2) s

/-- RD := f(g[RA]), setting V when the second component says so. -/
def op2v (i : Instr) (p : PaneNo) (gd : BitVec 4) (rd ra : RegNo) (f : Word → Word × Bool) (s : State) :
    Host.Outcome State Fault Refusal :=
  paneOp i p gd [ra] (fun q => (q.setGr rd (f (q.gr ra)).1).stick 0 (f (q.gr ra)).2) s

/-- RD := f(g[RA]). -/
def op2 (i : Instr) (p : PaneNo) (gd : BitVec 4) (rd ra : RegNo) (f : Word → Word) (s : State) :
    Host.Outcome State Fault Refusal :=
  paneOp i p gd [ra] (fun q => q.setGr rd (f (q.gr ra))) s

/-! The functions of R222 and R223. -/

/-- A signed result saturated to 32 bits, and whether it was (R222). -/
def satOf (x : Int) : Word × Bool := (satInt32 x, decide (x > 2147483647) || decide (x < -2147483648))

/-- Logical shift left (R223). -/
def shlW (a s : Word) : Word := if s.toNat ≥ 32 then 0 else a <<< s.toNat
/-- Logical shift right (R223). -/
def shrW (a s : Word) : Word := if s.toNat ≥ 32 then 0 else a >>> s.toNat
/-- Arithmetic shift right (R223). -/
def sarW (a s : Word) : Word := a.sshiftRight (min s.toNat 31)
/-- Rotate right (R223). -/
def rorW (a s : Word) : Word := a.rotateRight (s.toNat % 32)

/-- Leading zero bits (R222). -/
def clzW (a : Word) : Word := BitVec.ofNat 32 (32 - bitLen a.toNat)

/-- One bits among the low `n`. -/
def popFrom (a : Word) : Nat → Nat
  | 0 => 0
  | n + 1 => (a.getLsbD n).toNat + popFrom a n

/-- Count of one bits (R222). -/
def popcW (a : Word) : Word := BitVec.ofNat 32 (popFrom a 32)

/-- RD := g[RA] + g[RB] (R222). -/
def execAdd (p : PaneNo) (gd : BitVec 4) (rd ra rb : RegNo) (s : State) : Host.Outcome State Fault Refusal :=
  op3 (.add p gd rd ra rb) p gd rd ra rb (fun a b => a + b) s

/-- RD := g[RA] - g[RB] (R222). -/
def execSub (p : PaneNo) (gd : BitVec 4) (rd ra rb : RegNo) (s : State) : Host.Outcome State Fault Refusal :=
  op3 (.sub p gd rd ra rb) p gd rd ra rb (fun a b => a - b) s

/-- RD := g[RA] and g[RB] (R222). -/
def execAnd (p : PaneNo) (gd : BitVec 4) (rd ra rb : RegNo) (s : State) : Host.Outcome State Fault Refusal :=
  op3 (.and p gd rd ra rb) p gd rd ra rb (fun a b => a &&& b) s

/-- RD := g[RA] or g[RB] (R222). -/
def execOr (p : PaneNo) (gd : BitVec 4) (rd ra rb : RegNo) (s : State) : Host.Outcome State Fault Refusal :=
  op3 (.or p gd rd ra rb) p gd rd ra rb (fun a b => a ||| b) s

/-- RD := g[RA] xor g[RB] (R222). -/
def execXor (p : PaneNo) (gd : BitVec 4) (rd ra rb : RegNo) (s : State) : Host.Outcome State Fault Refusal :=
  op3 (.xor p gd rd ra rb) p gd rd ra rb (fun a b => a ^^^ b) s

/-- RD := g[RA] and not g[RB] (R222). -/
def execAndn (p : PaneNo) (gd : BitVec 4) (rd ra rb : RegNo) (s : State) : Host.Outcome State Fault Refusal :=
  op3 (.andn p gd rd ra rb) p gd rd ra rb (fun a b => a &&& ~~~b) s

/-- The smaller, signed (R222). -/
def execMin (p : PaneNo) (gd : BitVec 4) (rd ra rb : RegNo) (s : State) : Host.Outcome State Fault Refusal :=
  op3 (.min p gd rd ra rb) p gd rd ra rb (fun a b => if a.slt b then a else b) s

/-- The larger, signed (R222). -/
def execMax (p : PaneNo) (gd : BitVec 4) (rd ra rb : RegNo) (s : State) : Host.Outcome State Fault Refusal :=
  op3 (.max p gd rd ra rb) p gd rd ra rb (fun a b => if a.slt b then b else a) s

/-- The smaller, unsigned (R222). -/
def execMinu (p : PaneNo) (gd : BitVec 4) (rd ra rb : RegNo) (s : State) : Host.Outcome State Fault Refusal :=
  op3 (.minu p gd rd ra rb) p gd rd ra rb (fun a b => if a.ult b then a else b) s

/-- The larger, unsigned (R222). -/
def execMaxu (p : PaneNo) (gd : BitVec 4) (rd ra rb : RegNo) (s : State) : Host.Outcome State Fault Refusal :=
  op3 (.maxu p gd rd ra rb) p gd rd ra rb (fun a b => if a.ult b then b else a) s

/-- Saturating sum; V when saturated (R222). -/
def execAdds (p : PaneNo) (gd : BitVec 4) (rd ra rb : RegNo) (s : State) : Host.Outcome State Fault Refusal :=
  op3v (.adds p gd rd ra rb) p gd rd ra rb (fun a b => satOf (a.toInt + b.toInt)) s

/-- Saturating difference; V when saturated (R222). -/
def execSubs (p : PaneNo) (gd : BitVec 4) (rd ra rb : RegNo) (s : State) : Host.Outcome State Fault Refusal :=
  op3v (.subs p gd rd ra rb) p gd rd ra rb (fun a b => satOf (a.toInt - b.toInt)) s

/-- RD := 0 - g[RA]; V at 0x8000_0000 (R222). -/
def execNeg (p : PaneNo) (gd : BitVec 4) (rd ra : RegNo) (s : State) : Host.Outcome State Fault Refusal :=
  op2v (.neg p gd rd ra) p gd rd ra (fun a => (-a, a == 0x80000000#32)) s

/-- Saturating negation; V when saturated (R222). -/
def execNegs (p : PaneNo) (gd : BitVec 4) (rd ra : RegNo) (s : State) : Host.Outcome State Fault Refusal :=
  op2v (.negs p gd rd ra) p gd rd ra (fun a => satOf (-a.toInt)) s

/-- Magnitude; V at 0x8000_0000, which stays (R222). -/
def execAbs (p : PaneNo) (gd : BitVec 4) (rd ra : RegNo) (s : State) : Host.Outcome State Fault Refusal :=
  op2v (.abs p gd rd ra) p gd rd ra (fun a => (if a.msb then -a else a, a == 0x80000000#32)) s

/-- Shift left (R223). -/
def execShl (p : PaneNo) (gd : BitVec 4) (rd ra rb : RegNo) (s : State) : Host.Outcome State Fault Refusal :=
  op3 (.shl p gd rd ra rb) p gd rd ra rb shlW s

/-- Logical shift right (R223). -/
def execShr (p : PaneNo) (gd : BitVec 4) (rd ra rb : RegNo) (s : State) : Host.Outcome State Fault Refusal :=
  op3 (.shr p gd rd ra rb) p gd rd ra rb shrW s

/-- Arithmetic shift right (R223). -/
def execSar (p : PaneNo) (gd : BitVec 4) (rd ra rb : RegNo) (s : State) : Host.Outcome State Fault Refusal :=
  op3 (.sar p gd rd ra rb) p gd rd ra rb sarW s

/-- Rotate right (R223). -/
def execRor (p : PaneNo) (gd : BitVec 4) (rd ra rb : RegNo) (s : State) : Host.Outcome State Fault Refusal :=
  op3 (.ror p gd rd ra rb) p gd rd ra rb rorW s

/-- Count of leading zero bits; 32 for 0 (R222). -/
def execClz (p : PaneNo) (gd : BitVec 4) (rd ra : RegNo) (s : State) : Host.Outcome State Fault Refusal :=
  op2 (.clz p gd rd ra) p gd rd ra clzW s

/-- Count of one bits (R222). -/
def execPopc (p : PaneNo) (gd : BitVec 4) (rd ra : RegNo) (s : State) : Host.Outcome State Fault Refusal :=
  op2 (.popc p gd rd ra) p gd rd ra popcW s

/-- Sign-extended byte (R222). -/
def execSextb (p : PaneNo) (gd : BitVec 4) (rd ra : RegNo) (s : State) : Host.Outcome State Fault Refusal :=
  op2 (.sextb p gd rd ra) p gd rd ra (fun a => sextTo32 (a.setWidth 8)) s

/-- Sign-extended halfword (R222). -/
def execSexth (p : PaneNo) (gd : BitVec 4) (rd ra : RegNo) (s : State) : Host.Outcome State Fault Refusal :=
  op2 (.sexth p gd rd ra) p gd rd ra (fun a => sextTo32 (a.setWidth 16)) s

/-- Zero-extended halfword (R222). -/
def execZexth (p : PaneNo) (gd : BitVec 4) (rd ra : RegNo) (s : State) : Host.Outcome State Fault Refusal :=
  op2 (.zexth p gd rd ra) p gd rd ra (fun a => zextTo32 (a.setWidth 16)) s

/-- RD := g[RA] + sext(IMM11) (R224). -/
def execAddi (p : PaneNo) (gd : BitVec 4) (rd ra : RegNo) (imm : BitVec 11) (s : State) : Host.Outcome State Fault Refusal :=
  op2 (.addi p gd rd ra imm) p gd rd ra (fun a => a + sextTo32 imm) s

/-- RD := g[RA] and zext(IMM11) (R224). -/
def execAndi (p : PaneNo) (gd : BitVec 4) (rd ra : RegNo) (imm : BitVec 11) (s : State) : Host.Outcome State Fault Refusal :=
  op2 (.andi p gd rd ra imm) p gd rd ra (fun a => a &&& zextTo32 imm) s

/-- RD := g[RA] or zext(IMM11) (R224). -/
def execOri (p : PaneNo) (gd : BitVec 4) (rd ra : RegNo) (imm : BitVec 11) (s : State) : Host.Outcome State Fault Refusal :=
  op2 (.ori p gd rd ra imm) p gd rd ra (fun a => a ||| zextTo32 imm) s

/-- RD := g[RA] xor zext(IMM11) (R224). -/
def execXori (p : PaneNo) (gd : BitVec 4) (rd ra : RegNo) (imm : BitVec 11) (s : State) : Host.Outcome State Fault Refusal :=
  op2 (.xori p gd rd ra imm) p gd rd ra (fun a => a ^^^ zextTo32 imm) s

/-- The register form of R223 with an immediate amount 0 to 63 (R224). -/
def execShiftiShl (p : PaneNo) (gd : BitVec 4) (rd ra : RegNo) (amt : BitVec 6) (s : State) : Host.Outcome State Fault Refusal :=
  op2 (.shiftiShl p gd rd ra amt) p gd rd ra (fun a => shlW a (zextTo32 amt)) s

/-- The register form of R223 with an immediate amount 0 to 63 (R224). -/
def execShiftiShr (p : PaneNo) (gd : BitVec 4) (rd ra : RegNo) (amt : BitVec 6) (s : State) : Host.Outcome State Fault Refusal :=
  op2 (.shiftiShr p gd rd ra amt) p gd rd ra (fun a => shrW a (zextTo32 amt)) s

/-- The register form of R223 with an immediate amount 0 to 63 (R224). -/
def execShiftiSar (p : PaneNo) (gd : BitVec 4) (rd ra : RegNo) (amt : BitVec 6) (s : State) : Host.Outcome State Fault Refusal :=
  op2 (.shiftiSar p gd rd ra amt) p gd rd ra (fun a => sarW a (zextTo32 amt)) s

/-- The register form of R223 with an immediate amount 0 to 63 (R224). -/
def execShiftiRor (p : PaneNo) (gd : BitVec 4) (rd ra : RegNo) (amt : BitVec 6) (s : State) : Host.Outcome State Fault Refusal :=
  op2 (.shiftiRor p gd rd ra amt) p gd rd ra (fun a => rorW a (zextTo32 amt)) s

/-- RD := g[RA] * sext(IMM11) mod 2^32 (R224). -/
def execMuli (p : PaneNo) (gd : BitVec 4) (rd ra : RegNo) (imm : BitVec 11) (s : State) : Host.Outcome State Fault Refusal :=
  op2 (.muli p gd rd ra imm) p gd rd ra (fun a => a * sextTo32 imm) s

/-- RD := sext(IMM16) (R224). -/
def execMovi (p : PaneNo) (gd : BitVec 4) (rd : RegNo) (imm : BitVec 16) (s : State) : Host.Outcome State Fault Refusal :=
  paneOp (.movi p gd rd imm) p gd [] (fun q => q.setGr rd (sextTo32 imm)) s

/-- RD := IMM16 << 16 (R224). -/
def execMovhi (p : PaneNo) (gd : BitVec 4) (rd : RegNo) (imm : BitVec 16) (s : State) : Host.Outcome State Fault Refusal :=
  paneOp (.movhi p gd rd imm) p gd [] (fun q => q.setGr rd (zextTo32 imm <<< 16)) s

/-- RD := g[RD] or zext(IMM16) (R224). -/
def execOrlo (p : PaneNo) (gd : BitVec 4) (rd : RegNo) (imm : BitVec 16) (s : State) : Host.Outcome State Fault Refusal :=
  paneOp (.orlo p gd rd imm) p gd [rd] (fun q => q.setGr rd (q.gr rd ||| zextTo32 imm)) s

/-- p[PD] := cond(g[RA], b) (R240). -/
def execCmp (p : PaneNo) (gd : BitVec 4) (pd : BitVec 3) (ra : RegNo) (i : Bool) (cond : BitVec 4) (b : BitVec 8)
    (s : State) : Host.Outcome State Fault Refusal :=
  paneOp (.cmp p gd pd ra i cond b) p gd (if i then [ra] else [ra, BitVec.ofNat 5 (b.toNat / 8)])
    (fun q => q.setPr pd (intCmp cond.toNat (q.gr ra) (q.cmpOperand i cond b))) s

/-- p[PD] := the binary32 comparison of g[RA] and g[RB], with FNV (R241). -/
def execFcmp (p : PaneNo) (gd : BitVec 4) (pd : BitVec 3) (ra : RegNo) (i : Bool) (cond : BitVec 4) (b : BitVec 8)
    (s : State) : Host.Outcome State Fault Refusal :=
  paneOp (.fcmp p gd pd ra i cond b) p gd [ra, BitVec.ofNat 5 (b.toNat / 8)]
    (fun q =>
      let r := fCmp cond.toNat (q.gr ra) (q.gr (BitVec.ofNat 5 (b.toNat / 8)))
      (q.setPr pd r.1).stick 4 r.2) s

/-- p[PD] := (p[PA] xor NA) OP (p[PB] xor NB) (R242). -/
def execPlog (p : PaneNo) (gd : BitVec 4) (pd pa : BitVec 3) (na : Bool) (pb : BitVec 3) (nb : Bool) (op : BitVec 2)
    (s : State) : Host.Outcome State Fault Refusal :=
  paneOp (.plog p gd pd pa na pb nb op) p gd []
    (fun q =>
      let a := q.pr pa != na
      let b := q.pr pb != nb
      q.setPr pd (if op = 0 then a && b else if op = 1 then a || b else a != b)) s

end Sys2Proof.Machine
end

