-- ==== Sys2Proof/Machine/Arith.lean ====
section
/-!
DEFINITION. Multiply and divide (R225 to R228) and the accumulators (R188, R229 to R231).
-/
namespace Sys2Proof.Machine

/-- RD := g[RA] * g[RB] mod 2^32 (R225). -/
def execMul (p : PaneNo) (gd : BitVec 4) (rd ra rb : RegNo) (s : State) : Host.Outcome State Fault Refusal :=
  op3 (.mul p gd rd ra rb) p gd rd ra rb (fun a b => a * b) s

/-- High word of the signed product (R225). -/
def execMulh (p : PaneNo) (gd : BitVec 4) (rd ra rb : RegNo) (s : State) : Host.Outcome State Fault Refusal :=
  op3 (.mulh p gd rd ra rb) p gd rd ra rb (fun a b => BitVec.ofInt 32 (a.toInt * b.toInt / 2 ^ 32)) s

/-- High word of the unsigned product (R225). -/
def execMulhu (p : PaneNo) (gd : BitVec 4) (rd ra rb : RegNo) (s : State) : Host.Outcome State Fault Refusal :=
  op3 (.mulhu p gd rd ra rb) p gd rd ra rb (fun a b => BitVec.ofNat 32 (a.toNat * b.toNat / 2 ^ 32)) s

/-- The signed quotient, truncated toward zero, with its corner (R226); V in the corner. -/
def divW (a b : Word) : Word × Bool :=
  if b = 0 then (if a.msb then 0x80000000#32 else 0x7FFFFFFF#32, false)
  else if a = 0x80000000#32 ∧ b = 0xFFFFFFFF#32 then (0x80000000#32, true)
  else (BitVec.ofInt 32 (a.toInt.tdiv b.toInt), false)

/-- The unsigned quotient (R226). -/
def divuW (a b : Word) : Word × Bool :=
  if b = 0 then (0xFFFFFFFF#32, false) else (BitVec.ofNat 32 (a.toNat / b.toNat), false)

/-- The signed remainder (R226). -/
def remW (a b : Word) : Word × Bool :=
  if b = 0 then (a, false)
  else if a = 0x80000000#32 ∧ b = 0xFFFFFFFF#32 then (0, false)
  else (BitVec.ofInt 32 (a.toInt.tmod b.toInt), false)

/-- The unsigned remainder (R226). -/
def remuW (a b : Word) : Word × Bool :=
  if b = 0 then (a, false) else (BitVec.ofNat 32 (a.toNat % b.toNat), false)

/-- A division: with DZE = 1 a zero divisor traps and changes nothing (R226, R227); otherwise the result is written
and DZ and V are set as R226 states. -/
def divOp (i : Instr) (p : PaneNo) (gd : BitVec 4) (rd ra rb : RegNo) (f : Word → Word → Word × Bool) (s : State) :
    Host.Outcome State Fault Refusal :=
  .next (s.issue i p gd anyRing [ra, rb] (fun s q =>
    if q.gr rb = 0 ∧ q.dze then .trap s (q.mkTrap 6 0 (q.gr ra))
    else .done (s.setPane p.toNat
      (((q.setGr rd (f (q.gr ra) (q.gr rb)).1).stick 0 (f (q.gr ra) (q.gr rb)).2).stick 1 (q.gr rb == 0)))))

/-- Signed quotient (R226). -/
def execDiv (p : PaneNo) (gd : BitVec 4) (rd ra rb : RegNo) (s : State) : Host.Outcome State Fault Refusal :=
  divOp (.div p gd rd ra rb) p gd rd ra rb divW s

/-- Unsigned quotient (R226). -/
def execDivu (p : PaneNo) (gd : BitVec 4) (rd ra rb : RegNo) (s : State) : Host.Outcome State Fault Refusal :=
  divOp (.divu p gd rd ra rb) p gd rd ra rb divuW s

/-- Signed remainder (R226). -/
def execRem (p : PaneNo) (gd : BitVec 4) (rd ra rb : RegNo) (s : State) : Host.Outcome State Fault Refusal :=
  divOp (.rem p gd rd ra rb) p gd rd ra rb remW s

/-- Unsigned remainder (R226). -/
def execRemu (p : PaneNo) (gd : BitVec 4) (rd ra rb : RegNo) (s : State) : Host.Outcome State Fault Refusal :=
  divOp (.remu p gd rd ra rb) p gd rd ra rb remuW s

/-- An exact value wrapped once into an accumulator, and whether it lay outside 72 bits (R188, R230). -/
def accWrap (x : Int) : Acc × Bool := (BitVec.ofInt 72 x, decide (x ≥ 2 ^ 71) || decide (x < -(2 ^ 71)))

/-- The low half of a word, signed. -/
def loH (a : Word) : Int := (BitVec.setWidth 16 a).toInt
/-- The high half of a word, signed. -/
def hiH (a : Word) : Int := (a.extractLsb' 16 16).toInt

/-- acc[RD] := acc[RD] + f(g[RA], g[RB]), wrapped once; AV when it wraps (R229, R230). -/
def macOp (i : Instr) (p : PaneNo) (gd : BitVec 4) (acc ra rb : RegNo) (f : Word → Word → Int) (s : State) :
    Host.Outcome State Fault Refusal :=
  paneOp i p gd [ra, rb]
    (fun q =>
      let r := accWrap ((q.acc acc.toNat).toInt + f (q.gr ra) (q.gr rb))
      (q.setAcc acc.toNat r.1).stick 2 r.2) s

/-- Signed multiply-accumulate (R229). -/
def execMac (p : PaneNo) (gd : BitVec 4) (acc ra rb : RegNo) (s : State) : Host.Outcome State Fault Refusal :=
  macOp (.mac p gd acc ra rb) p gd acc ra rb (fun a b => a.toInt * b.toInt) s

/-- Signed multiply-subtract (R229). -/
def execMsu (p : PaneNo) (gd : BitVec 4) (acc ra rb : RegNo) (s : State) : Host.Outcome State Fault Refusal :=
  macOp (.msu p gd acc ra rb) p gd acc ra rb (fun a b => -(a.toInt * b.toInt)) s

/-- Dual 16-bit multiply-accumulate (R229). -/
def execMac2h (p : PaneNo) (gd : BitVec 4) (acc ra rb : RegNo) (s : State) : Host.Outcome State Fault Refusal :=
  macOp (.mac2h p gd acc ra rb) p gd acc ra rb (fun a b => loH a * loH b + hiH a * hiH b) s

/-- Dual 16-bit multiply-subtract (R229). -/
def execMsu2h (p : PaneNo) (gd : BitVec 4) (acc ra rb : RegNo) (s : State) : Host.Outcome State Fault Refusal :=
  macOp (.msu2h p gd acc ra rb) p gd acc ra rb (fun a b => -(loH a * loH b + hiH a * hiH b)) s

/-- Unsigned multiply-accumulate (R229). -/
def execMacu (p : PaneNo) (gd : BitVec 4) (acc ra rb : RegNo) (s : State) : Host.Outcome State Fault Refusal :=
  macOp (.macu p gd acc ra rb) p gd acc ra rb (fun a b => (a.toNat : Int) * b.toNat) s

/-- acc[RD] := 0; AV is left as it is (R229, R230). -/
def execAclr (p : PaneNo) (gd : BitVec 4) (acc : RegNo) (s : State) : Host.Outcome State Fault Refusal :=
  paneOp (.aclr p gd acc) p gd [] (fun q => q.setAcc acc.toNat 0) s

/-- The rounded, saturated extract of R231: the value and V. -/
def aextOf (v : Int) (amount : Nat) : Word × Bool :=
  let n := min amount 63
  satOf (if n = 0 then v else (v + 2 ^ (n - 1)) / 2 ^ n)

/-- RD := rounded, saturated extract of acc[RA]; V when saturated (R231). -/
def execAext (p : PaneNo) (gd : BitVec 4) (rd acc rb : RegNo) (s : State) : Host.Outcome State Fault Refusal :=
  paneOp (.aext p gd rd acc rb) p gd [rb]
    (fun q =>
      let r := aextOf (q.acc acc.toNat).toInt (q.gr rb).toNat
      (q.setGr rd r.1).stick 0 r.2) s

end Sys2Proof.Machine
end

