-- ==== Sys2Proof/Machine/Control.lean ====
section
/-!
DEFINITION. Branches and loops (R143 to R147, R190 to R196, R245, R246), system instructions (R250, R261 to R263),
gates, returns, and trap and event entry (R264 to R292).
-/
namespace Sys2Proof.Machine

/-! Branches and loops. -/

/-- B: next := a + 4 * sext(OFF21); no loop counter changes (R193, R245). -/
def execB (p : PaneNo) (gd : BitVec 4) (off : BitVec 21) (s : State) : Host.Outcome State Fault Refusal :=
  .next (s.issue (.b p gd off) p gd anyRing [] (fun s q => .goto s (branchTarget q.pc off)))

/-- BL: lr := the next instruction after R192 is applied; then branch as B (R193, R245). -/
def execBl (p : PaneNo) (gd : BitVec 4) (off : BitVec 21) (s : State) : Host.Outcome State Fault Refusal :=
  .next (s.issue (.bl p gd off) p gd anyRing []
    (fun s q => .goto (s.setPane p.toNat { q.retire with lr := q.retire.pc }) (branchTarget q.pc off)))

/-- Transfer to a register's value; a value that is not word-aligned raises the alignment trap (R145). -/
def jumpTo (s : State) (q : Pane) (v : Word) : Effect :=
  if v &&& 3#32 = 0 then .goto s v else .trap s (q.mkTrap 2 1 v)

/-- BR: next := g[REG] (R145, R245). -/
def execBr (p : PaneNo) (gd : BitVec 4) (reg : RegNo) (s : State) : Host.Outcome State Fault Refusal :=
  .next (s.issue (.br p gd reg) p gd anyRing [reg] (fun s q => jumpTo s q (q.gr reg)))

/-- RET: next := lr (R145, R245). -/
def execRet (p : PaneNo) (gd : BitVec 4) (s : State) : Host.Outcome State Fault Refusal :=
  .next (s.issue (.ret p gd) p gd anyRing [] (fun s q => jumpTo s q q.lr))

/-- Level `k` is active (R190). -/
def Pane.active (q : Pane) (k : Nat) : Bool := q.lc.getD k 0 != 0

/-- The cause of the loop trap that LOOP at level `l` raises (R194). Where both conditions hold the spec gives no order: cause 0
(DESIGN CHOICE, log 134). -/
def loopFault (q : Pane) (l : Nat) (le : Word) : Option Nat :=
  if (List.range 3).any (fun k => decide (k > l) && q.active k) then some 0
  else if (List.range 3).any (fun k => decide (k < l) && q.active k &&
      (q.pc.ult (q.lb.getD k 0) || (q.le.getD k 0).ult le)) then some 1
  else none

/-- LOOP: set up level L, or skip the body when the count is 0 (R191, R194, R246). -/
def execLoop (p : PaneNo) (gd : BitVec 4) (l : BitVec 2) (r : Bool) (body : BitVec 8) (cnt : BitVec 10) (s : State) :
    Host.Outcome State Fault Refusal :=
  .next (s.issue (.loop p gd l r body cnt) p gd anyRing (loopSrc r cnt) (fun s q =>
    let lb := q.pc + 4
    let le := lb + 4 * zextTo32 body
    match loopFault q l.toNat le with
    | some c => .trap s { q.mkTrap 7 c q.pc with index := l.toNat }
    | none =>
      let n := q.loopCount r cnt
      let s1 := s.setPane p.toNat
        { q with lb := q.lb.setIfInBounds l.toNat lb, le := q.le.setIfInBounds l.toNat le,
                 lc := q.lc.setIfInBounds l.toNat n }
      if n = 0 then .goto s1 (le + 4) else .done s1))

/-! Special registers. -/

/-- The privilege check of MFS and MTS (R203). -/
def sregRing (n : BitVec 8) : Pane → Option Nat := fun q => if n.toNat ≥ 0x40 && decide (q.ring > 1) then some 0 else none

/-- MFS: REG := special register N (R202 to R204). -/
def execMfs (p : PaneNo) (gd : BitVec 4) (reg : RegNo) (n : BitVec 8) (s : State) : Host.Outcome State Fault Refusal :=
  .next (s.issue (.mfs p gd reg n) p gd (sregRing n) []
    (fun s q => .done (s.setPane p.toNat (q.setGr reg (q.readSreg p.toNat s.partNo n.toNat)))))

/-- MTS: special register N := g[REG], by field access (R199, R202 to R204). -/
def execMts (p : PaneNo) (gd : BitVec 4) (reg : RegNo) (n : BitVec 8) (s : State) : Host.Outcome State Fault Refusal :=
  .next (s.issue (.mts p gd reg n) p gd (sregRing n) [reg]
    (fun s q => .done (s.setPane p.toNat (q.writeSreg n.toNat (q.gr reg)))))

/-! Slack (R75). -/

/-- LAST_SLACK takes a value, in ns, and WORST_SLACK follows it (R75, R87). -/
def Pane.takeSlack (q : Pane) (v : Int) : Pane :=
  let w := satInt32 v
  let q1 := q.setCr 0x104 w
  if w.slt (q1.cr 0x108) then q1.setCr 0x108 w else q1

/-- The governor keeps the smallest LAST_SLACK found at a boundary of the pane's class (R573). -/
def Pane.keepSlack (q : Pane) : Pane :=
  let v := (q.cr 0x104).toInt
  { q with minSlack := some (match q.minSlack with
                             | some m => min m v
                             | none => v) }

/-- A time difference at the 2 ns resolution of R75. -/
def res2 (d : Nat) : Nat := d / 2 * 2

/-! WAITT (R63, R73, R80, R108, R156, R250). -/

/-- The store buffer is empty and no window read is outstanding (R156). -/
def Pane.drained (q : Pane) : Bool := q.sb.isEmpty && q.wreads.all (fun r => r.status != .waiting)

/-- USED returns to 0 for every outgoing entry whose class tick the tag leaves (R108). -/
def State.clearUsed (s : State) (q : Pane) (old new : Nat) : Pane :=
  (List.range 64).foldl (fun q n =>
    let c := q.outClass n
    if s.tickStart c old = s.tickStart c new then q
    else q.setCr (0x204 + 8 * n) ((q.cr (0x204 + 8 * n)).withFld 16 10 0)) q

/-- The tick tag moves to `new`. -/
def State.moveTag (s : State) (q : Pane) (new : Nat) : Pane :=
  { s.clearUsed q q.tag new with tag := new }

/-- No pane of class k is released at an open (R617, R620): while the shutdown self-test runs, and after its cancellation until
the first boundary of the class past the reopening. -/
def State.holdsClass (s : State) (k : Nat) : Bool :=
  s.part == .shuttingDown || s.shut.holding || s.shut.release.contains k

/-- LAST_SLACK of an overrun, measured at the retirement (R75). -/
def Pane.lateSlack (q : Pane) (now : Nat) : Pane :=
  match q.overClose with
  | some c => { q with overClose := none }.takeSlack (-(max 2 (res2 (now - c)) : Nat))
  | none => q

/-- A WAITT retires (R73, R80). In time, or while no open is made (R617): the tag advances and the pane stalls. After an overrun:
the tag jumps to the current tick, LAST_SLACK takes the measured figure, and the task goes on. -/
def State.retireWaitt (s0 : State) (p : Nat) : State :=
  let late := decide ((s0.pane p).tag < s0.tickStart (s0.pane p).cls s0.tick) && !s0.holdsClass (s0.pane p).cls
  let s := if late then s0.lateWrites p else s0
  let q := (s.pane p).retire
  let k := q.cls
  let cur := s.tickStart k s.tick
  if cur ≤ q.tag ∨ s.holdsClass k then
    s.setPane p { (s.moveTag q (cur + s.mult k)).lateSlack s.now with phase := .stall, awaits := true, retireT := s.now }
  else
    s.setPane p { (s.moveTag q cur).lateSlack s.now with phase := .run, tks := s.stamps.getD k 0 }

/-- Let a waiting FENCE, WAITT or EVWAIT retire when its condition holds (R63, R156, R263); a failed window access is
taken there as a memory-error trap (R150, R285). -/
def State.poll (s : State) (p : Nat) : State :=
  let q := s.pane p
  match q.phase with
  | .fence =>
    if !q.drained then s
    else match q.failure with
      | some (t, _) => (s.setPane p { q with phase := .run }).takeTrap p t
      | none => s.setPane p { q.retire with phase := .run }
  | .waitt =>
    if !q.drained || !q.unacked.isEmpty then s
    else match q.failure with
      | some (t, _) => (s.setPane p { q with phase := .run }).takeTrap p t
      | none => s.retireWaitt p
  | .waittIn =>
    if !q.drained || !q.unacked.isEmpty then s
    else match q.failure with
      | some (t, _) => (s.setPane p { q with phase := .run }).takeTrap p t
      | none => s.setPane p { q.retire with phase := .run }
  | .evwait => if q.evUnclaimed > 0 then s.setPane p { q.retire with phase := .run } else s
  | _ => s

/-- Time moves on to `t`, never back. -/
def State.at (s : State) (t : Nat) : State := { s with now := max s.now t }

/-- FENCE: retires when R156 holds. -/
def execFence (p : PaneNo) (gd : BitVec 4) (s : State) : Host.Outcome State Fault Refusal :=
  .next (s.issue (.fence p gd) p gd anyRing []
    (fun s q => .stay ((s.setPane p.toNat { q with phase := .fence }).poll p.toNat)))

/-- WAITT, issued at time `k`: retires when R63 and R156 hold. One that issues between the advance of the tag and the open
of its tick, in a handler of a WAITT stall, leaves the tag (R250). -/
def execWaitt (p : PaneNo) (gd : BitVec 4) (k : Nat) (s : State) : Host.Outcome State Fault Refusal :=
  .next (s.issue (.waitt p gd k) p gd anyRing []
    (fun s q => .stay (((s.at k).setPane p.toNat
      { q with phase := if q.awaits then .waittIn else .waitt }).poll p.toNat)))

/-! Gates and returns. -/

/-- The cause of the privilege trap of the GATE checks (R273). -/
def gateFault (q : Pane) (n : Nat) : Option Nat :=
  let attr := q.cr (0xA08 + 16 * n)
  if n < 17 ∨ n > 63 ∨ !q.descValid n then some 2
  else if !attr.bit (4 + q.ring) then some 3
  else if attr.fld 0 2 > q.ring then some 4
  else none

/-- GATE: the checks, the wait of R151, and the entry, whose return address is the next instruction after R192
(R193, R273 to R277). -/
def execGate (p : PaneNo) (gd : BitVec 4) (n : BitVec 8) (s : State) : Host.Outcome State Fault Refusal :=
  .next (s.issue (.gate p gd n) p gd (fun q => gateFault q n.toNat) [] (fun s q =>
    if !q.settled then .stay s
    else match q.failure with
      | some (t, _) => .trap s t
      | none =>
        if q.fdepth ≥ 4 then .stay (s.haltPane p.toNat n.toNat q.retire.pc)
        else .stay ((s.setPane p.toNat { q with lc := q.retire.lc }).enter p.toNat n.toNat q.retire.pc
          (BitVec.ofNat 32 n.toNat) 0)))

/-- The cause of RTG's privilege trap (R283). -/
def rtgFault (q : Pane) : Option Nat :=
  if q.fdepth = 0 ∧ q.ring > 1 then some 5
  else if q.topFrame.estatus.fld 12 2 < q.ring then some 6
  else none

/-- Window accesses made before a return carry DF from then on (R272, R285). -/
def Pane.markDf (q : Pane) : Pane :=
  { q with sb := q.sb.map (fun e => { e with df := true }), wreads := q.wreads.map (fun r => { r with df := true }),
           wstores := q.wstores.map (fun r => { r with df := true }),
           wrefused := q.wrefused.map (fun r => { r with df := true }) }

/-- The fields of STATUS (R197): the reserved bits read 0. -/
def statusFields : Word := 0xFFFF73F7#32

/-- RTG: restore STATUS, g30 and control from the frame, into the stall when STLL says so and the open has not been made
(R281, R283 to R285). -/
def execRtg (p : PaneNo) (gd : BitVec 4) (s : State) : Host.Outcome State Fault Refusal :=
  .next (s.issue (.rtg p gd) p gd rtgFault [] (fun s q =>
    if q.wreads.any (fun r => r.status == .waiting) then .stay s
    else
      let f := q.topFrame
      let stall := f.ecause.bit 22 && q.awaits
      let q1 := { (q.markDf).setGr 30 f.esp with
        status := f.estatus &&& statusFields, fdepth := q.fdepth - 1, pc := f.epc, phase := if stall then .stall else .run }
      .stay (s.setPane p.toNat q1)))

/-! Trap and event entry. -/

/-- A buffered store overlaps the bytes [a, a + n). -/
def Pane.sbOverlaps (q : Pane) (a n : Nat) : Bool :=
  q.sb.any (fun e => decide (e.addr < a + n) && decide (a < e.addr + e.size))

/-- The trap the fetch at pc raises, if any (R163, R166, R169, R216). -/
def Pane.fetchTrap (q : Pane) : Option Trap :=
  let a := q.pc.toNat
  if !q.canFetch a then some { q.mkTrap 3 3 q.pc with fe := true }
  else if q.eccAt a == .uncorrectable then some { q.mkTrap 4 0 q.pc with fe := true }
  else (checkWord (q.peekW a).toNat).map (fun c => q.mkTrap 0 c (q.peekW a))

/-- TRAP_ENTRY: a trap that waits is entered once the window accesses have settled (R151, R273). With no trap waiting
it is the fetch of the next instruction: a single-bit error is corrected (R168), and the trap that the fetch raises, if it raises
one, is taken. -/
def execTrapEntry (p : PaneNo) (s : State) : Host.Outcome State Fault Refusal :=
  let q := s.pane p.toNat
  match q.entry with
  | some t => .next (if t.num = 16 then s else s.takeTrap p.toNat t)
  | none =>
    if !s.canIssue p.toNat || q.sbOverlaps q.pc.toNat 4 then .next s
    else
      let s1 := if q.canFetch q.pc.toNat then s.correctRead p.toNat q.pc.toNat 4 else s
      match q.fetchTrap with
      | none => .next s1
      | some t =>
        if t.num = 4 then .next ((s1.foundUe p.toNat q.pc.toNat true).takeTrap p.toNat t)
        else .next (s1.takeTrap p.toNat t)

/-- The event entry that begins at a sampling point (R276, R279, R281). -/
def Pane.eventTrap (q : Pane) : Trap :=
  { q.mkTrap 16 0 0 with le := false, stll := q.phase == .stall }

/-- EVENT_ENTRY: at a sampling point with the interrupt asserted and EM 0, enter descriptor 16; from a WAITT stall
with STLL = 1 (R151, R273, R279 to R282, R291). An entry that has begun and waits for window accesses is never withdrawn
(R280): EVENT_ENTRY completes it once they have settled. -/
def execEventEntry (p : PaneNo) (s : State) : Host.Outcome State Fault Refusal :=
  let q := s.pane p.toNat
  match q.entry with
  | some t => .next (if t.num = 16 then s.takeTrap p.toNat t else s)
  | none =>
    if !q.eventDue || !(q.phase == .run || q.phase == .stall) || !s.paneUp p.toNat then .next s
    else .next (s.takeTrap p.toNat q.eventTrap)

/-! Event instructions (R262, R263, R308, R309). -/

/-- The bell of sash `k`. -/
def State.bellOf (s : State) (k : Nat) : Bell := SMap.get (fun _ => Bell.reset) s.bells k
/-- Replace a bell. -/
def State.setBell (s : State) (k : Nat) (b : Bell) : State := { s with bells := SMap.put s.bells k b }

/-- Claim the oldest record (R308): LVL sampled from the live bit, the stack entry pushed, CLAIM advanced. -/
def Pane.claim (q : Pane) (live : BitVec 64) : Pane :=
  let a := q.evAddr q.evClaim
  let w := q.peekW a
  let q1 := if w.bit 15 then q.pokeW a (w.withBit 7 (live.getLsbD (w.fld 0 6))) else q
  { q1 with evStack := { slot := q.evClaim, prio := w.fld 11 3, depth := q.fdepth } :: q.evStack,
            evUnclaimed := q.evUnclaimed - 1 }

/-- EVPOP (R262, R308). -/
def execEvpop (p : PaneNo) (gd : BitVec 4) (reg : RegNo) (s : State) : Host.Outcome State Fault Refusal :=
  .next (s.issue (.evpop p gd reg) p gd (rings01 1) [] (fun s q =>
    if q.evUnclaimed = 0 then .done (s.setPane p.toNat (q.setGr reg 0))
    else if q.evStack.length ≥ 8 then
      .done (s.setPane p.toNat ((q.setCr 0xF08 (q.cr 0xF08 ||| 0x10#32)).setGr reg 1))
    else
      .done (s.setPane p.toNat
        ((q.claim (s.bellOf (sashOf p.toNat)).live).setGr reg (BitVec.ofNat 32 (q.evAddr q.evClaim))))))

/-- Free the oldest slots while they are completed (R305). -/
def freeSlots (slots : Nat) : Nat → Nat → List Nat → Nat × List Nat
  | 0, _, d => (0, d)
  | k + 1, first, d =>
    if d.contains first then
      let r := freeSlots slots k ((first + 1) % slots) (d.erase first)
      (r.1 + 1, r.2)
    else (0, d)

/-- EVDONE: complete the record of the top stack entry, or raise the priority-stack fault (R262, R309). -/
def execEvdone (p : PaneNo) (gd : BitVec 4) (s : State) : Host.Outcome State Fault Refusal :=
  .next (s.issue (.evdone p gd) p gd (rings01 1) [] (fun s q =>
    match q.evStack with
    | [] => .trap s (q.mkTrap 8 0 0)
    | t :: rest =>
      if t.depth ≠ q.fdepth then .trap s (q.mkTrap 8 1 0)
      else
        let r := freeSlots q.evSlots q.evUsed q.evFree (q.evDone ++ [t.slot])
        .done (s.setPane p.toNat { q with evStack := rest, evDone := r.2, evUsed := q.evUsed - r.1 })))

/-- EVWAIT: stall until the queue holds an unclaimed record (R263). -/
def execEvwait (p : PaneNo) (gd : BitVec 4) (s : State) : Host.Outcome State Fault Refusal :=
  .next (s.issue (.evwait p gd) p gd (rings01 1) []
    (fun s q => .stay ((s.setPane p.toNat { q with phase := .evwait }).poll p.toNat)))

end Sys2Proof.Machine
end

