-- ==== Sys2Proof/Machine/Float.lean ====
section
/-!
DEFINITION. binary32 instructions (R232 to R239), over the arithmetic of Flags.lean.
-/
namespace Sys2Proof.Machine

/-- RD := f(g[RA], g[RB]) with its binary32 flags (R235, R236). -/
def fop3 (i : Instr) (p : PaneNo) (gd : BitVec 4) (rd ra rb : RegNo) (f : Word → Word → FRes) (s : State) :
    Host.Outcome State Fault Refusal :=
  paneOp i p gd [ra, rb]
    (fun q => (q.setGr rd (f (q.gr ra) (q.gr rb)).bits).stickF (f (q.gr ra) (q.gr rb))) s

/-- RD := f(g[RD], g[RA], g[RB]) with its binary32 flags. -/
def fop4 (i : Instr) (p : PaneNo) (gd : BitVec 4) (rd ra rb : RegNo) (f : Word → Word → Word → FRes) (s : State) :
    Host.Outcome State Fault Refusal :=
  paneOp i p gd [rd, ra, rb]
    (fun q => (q.setGr rd (f (q.gr rd) (q.gr ra) (q.gr rb)).bits).stickF (f (q.gr rd) (q.gr ra) (q.gr rb))) s

/-- RD := f(g[RA]) with its binary32 flags. -/
def fop2 (i : Instr) (p : PaneNo) (gd : BitVec 4) (rd ra : RegNo) (f : Word → FRes) (s : State) :
    Host.Outcome State Fault Refusal :=
  paneOp i p gd [ra] (fun q => (q.setGr rd (f (q.gr ra)).bits).stickF (f (q.gr ra))) s

/-- Sum (R236). -/
def execFadd (p : PaneNo) (gd : BitVec 4) (rd ra rb : RegNo) (s : State) : Host.Outcome State Fault Refusal :=
  fop3 (.fadd p gd rd ra rb) p gd rd ra rb fAdd s

/-- Difference (R236). -/
def execFsub (p : PaneNo) (gd : BitVec 4) (rd ra rb : RegNo) (s : State) : Host.Outcome State Fault Refusal :=
  fop3 (.fsub p gd rd ra rb) p gd rd ra rb fSub s

/-- Product (R236). -/
def execFmul (p : PaneNo) (gd : BitVec 4) (rd ra rb : RegNo) (s : State) : Host.Outcome State Fault Refusal :=
  fop3 (.fmul p gd rd ra rb) p gd rd ra rb fMul s

/-- RD := g[RD] + g[RA] * g[RB], rounded once (R236). -/
def execFma (p : PaneNo) (gd : BitVec 4) (rd ra rb : RegNo) (s : State) : Host.Outcome State Fault Refusal :=
  fop4 (.fma p gd rd ra rb) p gd rd ra rb (fun d a b => fFma a b d) s

/-- RD := fma(-g[RA], g[RB], g[RD]) (R236). -/
def execFms (p : PaneNo) (gd : BitVec 4) (rd ra rb : RegNo) (s : State) : Host.Outcome State Fault Refusal :=
  fop4 (.fms p gd rd ra rb) p gd rd ra rb (fun d a b => fFma (fNegBits a) b d) s

/-- Quotient (R236). -/
def execFdiv (p : PaneNo) (gd : BitVec 4) (rd ra rb : RegNo) (s : State) : Host.Outcome State Fault Refusal :=
  fop3 (.fdiv p gd rd ra rb) p gd rd ra rb fDiv s

/-- Square root (R236). -/
def execFsqrt (p : PaneNo) (gd : BitVec 4) (rd ra : RegNo) (s : State) : Host.Outcome State Fault Refusal :=
  fop2 (.fsqrt p gd rd ra) p gd rd ra fSqrt s

/-- Smaller (R238). -/
def execFmin (p : PaneNo) (gd : BitVec 4) (rd ra rb : RegNo) (s : State) : Host.Outcome State Fault Refusal :=
  fop3 (.fmin p gd rd ra rb) p gd rd ra rb fMin s

/-- Larger (R238). -/
def execFmax (p : PaneNo) (gd : BitVec 4) (rd ra rb : RegNo) (s : State) : Host.Outcome State Fault Refusal :=
  fop3 (.fmax p gd rd ra rb) p gd rd ra rb fMax s

/-- Clear the sign bit; no flag (R236). -/
def execFabs (p : PaneNo) (gd : BitVec 4) (rd ra : RegNo) (s : State) : Host.Outcome State Fault Refusal :=
  op2 (.fabs p gd rd ra) p gd rd ra (fun a => a &&& 0x7FFFFFFF#32) s

/-- Invert the sign bit; no flag (R236). -/
def execFneg (p : PaneNo) (gd : BitVec 4) (rd ra : RegNo) (s : State) : Host.Outcome State Fault Refusal :=
  op2 (.fneg p gd rd ra) p gd rd ra fNegBits s

/-- Signed integer to binary32 (R239). -/
def execFcvtSW (p : PaneNo) (gd : BitVec 4) (rd ra : RegNo) (s : State) : Host.Outcome State Fault Refusal :=
  fop2 (.fcvtSW p gd rd ra) p gd rd ra fFromInt s

/-- binary32 to signed integer (R239). -/
def execFcvtWS (p : PaneNo) (gd : BitVec 4) (rd ra : RegNo) (s : State) : Host.Outcome State Fault Refusal :=
  fop2 (.fcvtWS p gd rd ra) p gd rd ra fToW s

/-- Unsigned integer to binary32 (R239). -/
def execFcvtSWu (p : PaneNo) (gd : BitVec 4) (rd ra : RegNo) (s : State) : Host.Outcome State Fault Refusal :=
  fop2 (.fcvtSWu p gd rd ra) p gd rd ra fFromUInt s

/-- binary32 to unsigned integer (R239). -/
def execFcvtWuS (p : PaneNo) (gd : BitVec 4) (rd ra : RegNo) (s : State) : Host.Outcome State Fault Refusal :=
  fop2 (.fcvtWuS p gd rd ra) p gd rd ra fToWU s

end Sys2Proof.Machine
end

