-- ==== Sys2Proof/Machine/Regs.lean ====
section
/-!
DEFINITION. The register maps: for every register its address, width, access type (R12) and the bits its fields take
up. Bits of no field are reserved: they read 0, and a write to them is discarded (R17).
-/
namespace Sys2Proof.Machine

/-- The access types (R12). WO registers and plain RO ones have no bits to write. -/
inductive RegKind where
  | ro
  | rw
  | w1c
  | rwl
  | rc
  deriving DecidableEq, Repr

/-- A register, or an array of registers: the first offset, one or two strides with their counts, the width in bytes, and
the bits its access type applies to. -/
structure Reg where
  off : Nat
  stride : Nat
  count : Nat
  stride2 : Nat
  count2 : Nat
  bytes : Nat
  kind : RegKind
  mask : Nat
  deriving DecidableEq, Repr

/-- One register of four bytes. -/
def Reg.mk1 (k : RegKind) (off mask : Nat) : Reg :=
  { off := off, stride := 4, count := 1, stride2 := 0, count2 := 1, bytes := 4, kind := k, mask := mask }
/-- No bit is written. -/
def Reg.ro (off : Nat) : Reg := Reg.mk1 .ro off 0
/-- Read and write. -/
def Reg.rw (off mask : Nat) : Reg := Reg.mk1 .rw off mask
/-- Write 1 to clear. -/
def Reg.w1c (off mask : Nat) : Reg := Reg.mk1 .w1c off mask
/-- Read and write until the lock point (R15). -/
def Reg.rwl (off mask : Nat) : Reg := Reg.mk1 .rwl off mask
/-- Read clears (R14). -/
def Reg.rc (off mask : Nat) : Reg := Reg.mk1 .rc off mask
/-- An array. -/
def Reg.by (r : Reg) (stride count : Nat) : Reg := { r with stride := stride, count := count }
/-- An array of arrays. -/
def Reg.by2 (r : Reg) (stride count : Nat) : Reg := { r with stride2 := stride, count2 := count }
/-- Another width. -/
def Reg.wide (r : Reg) (n : Nat) : Reg := { r with bytes := n }

/-- Offset a lies in the array, and the register holds the n bytes from it: whole, or (`whole` false) in part. -/
def Reg.covers (r : Reg) (whole : Bool) (a n : Nat) : Bool :=
  (List.range r.count2).any (fun j =>
    let b := r.off + j * r.stride2
    let i := (a - b) / r.stride
    let o := b + i * r.stride
    decide (b ≤ a) && decide (i < r.count) &&
      (if whole then a == o && n == r.bytes else decide (a < o + r.bytes)))

/-- The registers of TRANSOM, with the reduction groups (R85, R140). -/
def transomRegs : List Reg :=
  [Reg.rwl 0x0 0xFF73, Reg.rwl 0x4 0xFFFFFFFF, Reg.rwl 0x8 0xFFFFFFFF, Reg.rwl 0xC 0xFFFF, Reg.rwl 0x10 0xFFFF,
   Reg.rwl 0x14 0xFFFF, Reg.w1c 0x18 0xC, Reg.rc 0x1C 0xFFFF, Reg.rc 0x20 0xFFFFFFFF, Reg.w1c 0x24 0xFF, Reg.ro 0x28,
   Reg.ro 0x2C, Reg.ro 0x30, Reg.ro 0x34, Reg.rwl 0x38 0x7, Reg.ro 0x3C, Reg.ro 0x40, Reg.rc 0x44 0xFFFFFFFF,
   (Reg.rwl 0x100 0xFFFFFFFF).by 4 16]

/-- The registers of BELL (R318). -/
def bellRegs : List Reg :=
  [(Reg.rwl 0x0 0xFFFFF).by 8 8, (Reg.rwl 0x4 0xFFFF).by 8 8, Reg.rwl 0x40 0xFFFFFFFF, Reg.rwl 0x44 0xFFFFFFFF,
   Reg.ro 0x48, Reg.ro 0x4C, Reg.ro 0x50, Reg.ro 0x54, Reg.w1c 0x58 0xFFFFFFFF, Reg.w1c 0x5C 0xFFFFFFFF,
   ((Reg.ro 0x80).by 1 64).wide 1, ((Reg.rwl 0xC0 0xFF).by 1 8).wide 1, Reg.rc 0xD0 0xFFFFFFFF, Reg.rc 0xD4 0xFFFF,
   Reg.rc 0xD8 0xFFFF, Reg.rc 0xDC 0xFFFF, Reg.rc 0xE0 0xFFFF]

/-- The registers of SIP (R354). -/
def sipRegs : List Reg :=
  [Reg.rwl 0x0 0x1FF, Reg.rwl 0x4 0xFFFF, Reg.ro 0x8, Reg.ro 0xC, Reg.w1c 0x10 0xFF, (Reg.rwl 0x100 0x1FF).by 64 8,
   (Reg.ro 0x104).by 64 8, (Reg.ro 0x108).by 64 8, ((Reg.ro 0x110).by 64 8).wide 8, (Reg.rc 0x118 0xFFFF).by 64 8,
   (Reg.rc 0x11C 0xFFFF).by 64 8, (Reg.rc 0x120 0xFFFF).by 64 8, (Reg.rc 0x124 0xFFFF).by 64 8]

/-- The registers of DOP (R355). -/
def dopRegs : List Reg :=
  [Reg.rwl 0x0 0x7F, Reg.rwl 0x4 0xFF, Reg.w1c 0x8 0xFFFFFFFF, Reg.w1c 0xC 0xFFFFFFFF, Reg.w1c 0x10 0xFFFFFFFF,
   Reg.w1c 0x14 0xFFFFFFFF, Reg.rc 0x18 0xFFFF, Reg.rc 0x1C 0xFFFF, Reg.rc 0x20 0xFFFF, Reg.rc 0x24 0xFFFF,
   (Reg.ro 0x100).by 4 64, (Reg.rwl 0x400 0xFF01F).by 16 64, (Reg.rwl 0x404 0x1FFF).by 16 64,
   (Reg.rwl 0x408 0x1FFF).by 16 64, (Reg.rwl 0x40C 0x1FFF).by 16 64]

/-- The registers of DIST (R356). -/
def distRegs : List Reg :=
  [Reg.ro 0x0, Reg.rc 0x4 0xFFFF, Reg.rc 0x8 0xFFFF, (Reg.rwl 0x100 0x87FFFFFF).by 8 256,
   (Reg.rwl 0x104 0x37FFF).by 8 256]

/-- The registers of BOLT (R390). -/
def boltRegs : List Reg :=
  [Reg.ro 0x0, Reg.rwl 0x4 0xFF3F, Reg.rwl 0x8 0xFFFFFFFF, Reg.ro 0xC, Reg.ro 0x10, Reg.ro 0x14, Reg.ro 0x18,
   Reg.rc 0x20 0xFFFF, Reg.rc 0x24 0xFFFF, Reg.rc 0x28 0xFFFF, Reg.rc 0x2C 0xFFFF, Reg.rc 0x30 0xFFFF,
   Reg.rc 0x34 0xFFFF, Reg.rc 0x38 0xFFFF, (Reg.ro 0x40).by 4 4, Reg.ro 0x50, (Reg.rwl 0x100 0x80001FFF).by 32 64,
   (Reg.rwl 0x104 0xFFFFFFFF).by 32 64, (Reg.rwl 0x108 0xFFFFFFFF).by 32 64, (Reg.rwl 0x10C 0xFFFFFFFF).by 32 64,
   (Reg.rwl 0x110 0x3FFFFF).by 32 64, (Reg.ro 0x114).by 32 64, (Reg.ro 0x118).by 32 64,
   (Reg.rwl 0x1000 0xFFFFFFFF).by 32 128, (Reg.rwl 0x1004 0xFFFFFFFF).by 32 128, (Reg.rwl 0x1008 0xFFFFFFFF).by 32 128,
   (Reg.rwl 0x100C 0x3FFFFF).by 32 128, (Reg.rwl 0x1010 0xFFFFFFFF).by 32 128, (Reg.rwl 0x1014 0xFFFFFFFF).by 32 128,
   (Reg.ro 0x1018).by 32 128, (Reg.ro 0x101C).by 32 128]

/-- The registers of BAY (R415). -/
def bayRegs : List Reg :=
  [(Reg.rwl 0x0 0xFFFFFFFF).by 4 4, Reg.rc 0x20 0xFFFF, Reg.rc 0x24 0xFFFF, Reg.w1c 0x28 0x80000000, Reg.rc 0x2C 0xFFFF,
   (Reg.rwl 0x100 0x80FFF3FF).by 64 4, (Reg.rwl 0x104 0x7F7F).by 64 4, (Reg.ro 0x108).by 64 4,
   (Reg.rc 0x10C 0xFFFF).by 64 4, (Reg.rc 0x110 0xFFFF).by 64 4, (Reg.rc 0x114 0xFFFF).by 64 4]

/-- The registers of DRAM (R416). -/
def dramRegs : List Reg :=
  [Reg.rwl 0x0 0xF, Reg.ro 0x4, Reg.ro 0x8, (Reg.rwl 0x10 0xFFFFFFFF).by 4 8, Reg.rc 0x30 0xFFFF, Reg.rc 0x34 0xFFFF,
   Reg.ro 0x38, Reg.w1c 0x3C 0x80000000, Reg.rwl 0x40 0xFF, Reg.ro 0x44]

/-- The registers of START (R443). -/
def startRegs : List Reg :=
  [Reg.ro 0x0, Reg.ro 0x4, Reg.ro 0x8, Reg.ro 0xC, Reg.ro 0x10, Reg.ro 0x14, Reg.ro 0x18, Reg.ro 0x1C, Reg.ro 0x20,
   Reg.ro 0x24, Reg.ro 0x28, Reg.rw 0x2C 0xFFF, (Reg.ro 0x30).by 4 4, Reg.ro 0x40, Reg.w1c 0x44 0x80000000]

/-- The registers of IDENT (R504). -/
def identRegs : List Reg :=
  [Reg.ro 0x0, Reg.ro 0x4, Reg.ro 0x8, (Reg.ro 0x20).by 4 8, (Reg.ro 0x40).by 4 8, (Reg.ro 0x60).by 4 8, Reg.ro 0x80,
   Reg.rw 0x84 0x1FF, Reg.ro 0x88]

/-- The registers of LOGSTORE (R506). -/
def logstoreRegs : List Reg :=
  [Reg.ro 0x0, Reg.ro 0x4, Reg.ro 0x8, Reg.rc 0xC 0xFFFFFFFF, Reg.rc 0x10 0xFFFF, Reg.rc 0x14 0xFFFFFFFF, Reg.ro 0x18,
   Reg.rc 0x1C 0xFFFFFFFF]

/-- The registers of NET (R528). -/
def netRegs : List Reg :=
  [Reg.rwl 0x0 0x1FFFF7, Reg.rwl 0x4 0xFFFFFFFF, Reg.rwl 0x8 0xFFFF, Reg.rwl 0xC 0xFFFFFFFF,
   (Reg.rwl 0x10 0xFFFFFFFF).by 4 4, Reg.rwl 0x20 0xFFFF, Reg.ro 0x24, Reg.ro 0x28, Reg.ro 0x2C, Reg.ro 0x30,
   Reg.ro 0x34, Reg.rc 0x40 0xFFFFFFFF, Reg.rc 0x44 0xFFFFFFFF, Reg.rc 0x48 0xFFFFFFFF, Reg.rc 0x4C 0xFFFFFFFF,
   Reg.rc 0x50 0xFFFF, Reg.rc 0x54 0xFFFF, Reg.rwl 0x60 0xFFFFFFFF, (Reg.rwl 0x100 0xFFFFFFFF).by 4 64]

/-- The registers of KNOCK (R529). -/
def knockRegs : List Reg :=
  [Reg.rwl 0x0 0x3FFF, Reg.rwl 0x4 0x7F, (Reg.rwl 0x10 0xFF).by 4 7, (Reg.rwl 0x40 0x7F).by 4 8, (Reg.ro 0x60).by 4 8,
   Reg.ro 0x80, Reg.ro 0x84, Reg.rc 0x88 0xFFFF, Reg.rc 0x8C 0xFFFF, Reg.w1c 0x90 0x80000000]

/-- The registers of WICKET (R554). -/
def wicketRegs : List Reg :=
  [Reg.rwl 0x0 0x7F, Reg.ro 0x4, Reg.ro 0x8, Reg.ro 0xC, Reg.ro 0x10, Reg.rc 0x14 0xFFFF, Reg.rc 0x18 0xFFFF,
   Reg.rc 0x1C 0xFFFF, Reg.rc 0x20 0xFFFF]

/-- The registers of BOARD (R555). -/
def boardRegs : List Reg :=
  [Reg.rwl 0x0 0x7377, Reg.w1c 0x4 0x40000, Reg.ro 0x8, Reg.ro 0xC, Reg.rc 0x10 0xFFFF, Reg.rc 0x14 0xFFFF,
   Reg.rc 0x18 0xFFFF, Reg.rc 0x1C 0xFFFF, Reg.rc 0x20 0xFFFF]

/-- The registers of PWR (R580). -/
def pwrRegs : List Reg :=
  [Reg.ro 0x0, Reg.w1c 0x4 0x80000000, Reg.rwl 0x8 0x1, Reg.ro 0xC, Reg.rc 0x10 0xFFFF, Reg.rc 0x14 0xFFFF,
   Reg.rc 0x18 0xFFFF, Reg.rc 0x1C 0xFFFF, Reg.ro 0x20, (Reg.w1c 0x100 0x40).by 4 109,
   (Reg.rwl 0x400 0x3F7F7F00).by 4 64, (Reg.ro 0x500).by 4 64, (Reg.rc 0x600 0xFFFF).by 4 64]

/-- The registers of FAULT (R587). -/
def faultRegs : List Reg :=
  [Reg.ro 0x0, Reg.ro 0x4, Reg.ro 0x8, Reg.ro 0xC, Reg.ro 0x10, (Reg.ro 0x20).by 4 32, Reg.rw 0x100 0x3FF,
   (Reg.ro 0x104).by 4 4]

/-- The registers of SILL (R596). -/
def sillRegs : List Reg :=
  [Reg.ro 0x0, Reg.rw 0x4 0xF, Reg.ro 0x8, Reg.ro 0xC, Reg.ro 0x10, Reg.ro 0x14, Reg.ro 0x18, Reg.ro 0x1C,
   Reg.rw 0x20 0x1FFF, Reg.rc 0x24 0xFFFF, Reg.rc 0x28 0xFFFF, Reg.rw 0x40 0xFFFFFFFF, Reg.rw 0x44 0xFFFFFFFF,
   Reg.ro 0x48, Reg.w1c 0x4C 0x80000000, Reg.ro 0x100, Reg.w1c 0x104 0x80000000, Reg.rw 0x108 0xFFFFFFF,
   Reg.rw 0x10C 0x1FF, Reg.ro 0x110, (Reg.rw 0x200 0xFFFFFFFF).by 4 64, (Reg.ro 0x1000).by 128 32,
   (Reg.ro 0x1004).by 128 32, (Reg.ro 0x1008).by 128 32, (Reg.ro 0x100C).by 128 32, (Reg.ro 0x1010).by 128 32,
   ((Reg.ro 0x1040).by 128 32).by2 4 16]

/-- The registers of SELFTEST (R622). -/
def selftestRegs : List Reg :=
  [Reg.ro 0x0, Reg.ro 0x4, Reg.ro 0x8, Reg.ro 0xC, (Reg.ro 0x20).by 4 32, Reg.ro 0xA0, Reg.ro 0xA4, Reg.ro 0xA8,
   Reg.ro 0xAC, Reg.ro 0xB0, (Reg.rw 0xC0 0xFFFFFFFF).by 4 16, Reg.ro 0x100, Reg.ro 0x104]

/-- The registers of CROSS (R640). -/
def crossRegs : List Reg :=
  [Reg.ro 0x0, Reg.ro 0x4, (Reg.ro 0x10).by 4 4, Reg.rc 0x20 0xFFFF, Reg.rc 0x24 0xFFFF, Reg.rc 0x28 0xFFFF,
   Reg.rc 0x2C 0xFFFF, (Reg.w1c 0x100 0x2).by 4 109, (Reg.rc 0x400 0xFFFF).by 4 109]

/-- The registers of the pane control region (R87, R139, R173, R268, R293, R319, R505, R530, R601). -/
def paneRegs : List Reg :=
  [Reg.rwl 0x100 0x133, Reg.ro 0x104, Reg.ro 0x108, Reg.rc 0x10C 0xFFFFFFFF, Reg.ro 0x110, Reg.ro 0x114, Reg.ro 0x118,
   Reg.rc 0x11C 0xFFFF, (Reg.rwl 0x200 0x803FFFFF).by 8 64, (Reg.rwl 0x204 0x3FF).by 8 64,
   (Reg.rwl 0x400 0x83FFFFFF).by 16 64, (Reg.rwl 0x404 0xFFFFF).by 16 64, (Reg.rwl 0x408 0x1FFF).by 16 64,
   (Reg.rwl 0x40C 0x3FFFFFF).by 16 64, Reg.rwl 0x800 0xFFFF, ((Reg.rwl 0x810 0xBF).by 1 16).wide 1, Reg.rc 0x820 0xFFFF,
   Reg.rc 0x824 0xFFFF, Reg.rc 0x828 0xFFFF, Reg.rc 0x82C 0xFFFF, Reg.rwl 0x840 0xFFFFFFF, Reg.ro 0x844, Reg.ro 0x0,
   Reg.ro 0x4, (Reg.rwl 0x10 0x803FFFFF).by 4 8, Reg.rw 0x30 0x7F, Reg.rc 0x40 0xFFFF, Reg.rc 0x44 0xFFFF,
   Reg.w1c 0x48 0x80000000, Reg.rwl 0x4C 0x1, Reg.rc 0x50 0xFFFF, Reg.rc 0x54 0xFFFF,
   (Reg.rwl 0xA00 0xFFFFFFFC).by 16 64, (Reg.rwl 0xA04 0xFFFFFFF8).by 16 64, (Reg.rwl 0xA08 0x800000F7).by 16 64,
   (Reg.ro 0xA0C).by 16 64, Reg.ro 0xE00, Reg.ro 0xE04, Reg.rc 0xE08 0xFFFF, Reg.rc 0xE0C 0xFFFF, Reg.rwl 0xF00 0xFFFF,
   Reg.ro 0xF04, Reg.w1c 0xF08 0x10, Reg.ro 0xF0C, (Reg.ro 0xF10).by 4 8, Reg.ro 0xF30, Reg.ro 0xF34,
   Reg.rw 0x880 0x1FFFFF, Reg.rw 0x884 0x1FFFFF, Reg.rw 0x888 0x3FFFFF, Reg.ro 0x88C, Reg.w1c 0x890 0x300,
   Reg.rc 0x894 0xFFFF, Reg.rw 0x8C0 0x3FFFFFFF, Reg.rw 0x8C4 0x1FFFF, Reg.rw 0x8C8 0xFFF, Reg.ro 0x8CC,
   Reg.w1c 0x8D0 0x800, Reg.rc 0x8D4 0xFFFF, (Reg.rw 0x900 0xFFFFFFFF).by 4 16, Reg.ro 0x940, Reg.ro 0x944]



/-- A block of registers: its base, the stride and count of its copies, and its registers. -/
structure Block where
  base : Nat
  stride : Nat
  count : Nat
  regs : List Reg
  deriving DecidableEq, Repr

/-- The blocks of the device management region. -/
def blocks : List Block :=
  [⟨Config.ident, 0x2000, 1, identRegs⟩, ⟨Config.start, 0x2000, 1, startRegs⟩, ⟨Config.transom, 0x2000, 1, transomRegs⟩,
   ⟨Config.bolt, 0x2000, 1, boltRegs⟩, ⟨Config.bell 0, 0x200, 64, bellRegs⟩, ⟨Config.sip 0, 0x400, 8, sipRegs⟩,
   ⟨Config.dop 0, 0x800, 2, dopRegs⟩, ⟨Config.dist 0, 0x1000, 8, distRegs⟩, ⟨Config.bay 0, 0x1000, 8, bayRegs⟩,
   ⟨Config.dram, 0x1000, 1, dramRegs⟩, ⟨Config.logstore, 0x1000, 1, logstoreRegs⟩, ⟨Config.net 0, 0x1000, 2, netRegs⟩,
   ⟨Config.knock, 0x1000, 1, knockRegs⟩, ⟨Config.wicket 0, 0x100, 6, wicketRegs⟩, ⟨Config.board, 0x100, 1, boardRegs⟩,
   ⟨Config.pwr, 0x1000, 1, pwrRegs⟩, ⟨Config.fault, 0x1000, 1, faultRegs⟩, ⟨Config.selftest, 0x1000, 1, selftestRegs⟩,
   ⟨Config.cross, 0x1000, 1, crossRegs⟩]

/-- The block that holds an address. -/
def blockOf (a : Nat) : Option Block :=
  blocks.find? (fun b => decide (b.base ≤ a) && decide (a < b.base + b.stride * b.count))

/-- The offset of an address in its copy of a block. -/
def Block.offset (b : Block) (a : Nat) : Nat := (a - b.base) % b.stride

/-- The register that n bytes at device management address a reach, whole, or (`whole` false) touch. -/
def devRegOf (whole : Bool) (a n : Nat) : Option Reg :=
  (blockOf a).bind (fun b => b.regs.find? (fun r => r.covers whole (b.offset a) n))

/-- The register of the pane control region at an offset. -/
def paneRegOf (whole : Bool) (a n : Nat) : Option Reg := paneRegs.find? (fun r => r.covers whole a n)

/-- The register of the sill block at a sill address (R596). -/
def sillRegOf (a : Nat) : Option Reg := sillRegs.find? (fun r => r.covers true a 4)

/-- A register's bits after a write of `v`; hardware sets the bits of `hw` in the same access (R12, R13, R15, R17). -/
def Reg.write (r : Reg) (locked : Bool) (old v hw : Word) : Word :=
  let m := BitVec.ofNat 32 r.mask
  match r.kind with
  | .rw => (old &&& ~~~m) ||| (v &&& m)
  | .rwl => if locked then old else (old &&& ~~~m) ||| (v &&& m)
  | .w1c => (old &&& ~~~(v &&& m)) ||| (hw &&& m)
  | .ro => old
  | .rc => old

/-- A register's bits after a read: an RC field clears, but for an increment `inc` that coincides (R14). -/
def Reg.afterRead (r : Reg) (old inc : Word) : Word :=
  match r.kind with
  | .rc => (old &&& ~~~(BitVec.ofNat 32 r.mask)) ||| (inc &&& BitVec.ofNat 32 r.mask)
  | _ => old

end Sys2Proof.Machine
end

