-- ==== Sys2Proof/Machine/Image.lean ====
section
/-!
DEFINITION. The schema of the image's fields at CL1 (R450 to R476): section, identifier, NW, subjects, range, default
and criticality, and the value in force of a field.
-/
namespace Sys2Proof.Machine

/-- The Range column of a field, by the reading R457 gives (R429). -/
inductive Rng where
  /-- Numeric: clamped to the maximum or the minimum. -/
  | num (lo hi : Nat)
  /-- A code set 0 to `hi`: another value takes the default, reason 3. -/
  | codes (hi : Nat)
  /-- A pane reference: 0 to 8,191, or 0xFFFF (R456). -/
  | paneRef
  /-- Numeric, and a multiple of 2^k: low bits set are cleared, CLAMPED, reason 2 (R459, R465). -/
  | aligned (k hi : Nat)
  /-- Every value is within range. -/
  | any
  /-- The schema entry states the field's own outcome. -/
  | own
  deriving DecidableEq, Repr

/-- One field of the schema. -/
structure Fld where
  sec : Nat
  id : Nat
  nw : Nat
  /-- The largest INDEX and the largest SUB of its subjects. -/
  idxMax : Nat
  subMax : Nat
  /-- INDEX 0xFFFF applies to every subject (R455). -/
  all : Bool
  rng : Rng
  dflt : Nat
  crit : Bool
  deriving DecidableEq, Repr

/-- A field of a section with one kind of INDEX, NW 1. -/
def fldOf (sec idxMax : Nat) (all : Bool) (id subMax : Nat) (rng : Rng) (dflt : Nat) (crit : Bool) : Fld :=
  { sec := sec, id := id, nw := 1, idxMax := idxMax, subMax := subMax, all := all, rng := rng, dflt := dflt,
    crit := crit }

/-- TIMING and TASK (R458, R459). The T0 period is one number in 2^-32 ns. -/
def schemaTiming : List Fld :=
  let t := fldOf 1 0 false
  let k := fldOf 2 1023 true
  [t 1 0 (.codes 3) 0 true, t 2 0 (.num 0 5) 0 true, t 3 0 (.num 1 256) 1 true,
   { t 4 0 (.num (4882 * 2 ^ 32 + 0xD0000000) (1000000000 * 2 ^ 32)) (1000000 * 2 ^ 32) true with nw := 2 },
   t 5 0 (.num 2 65536) 2 true, t 6 0 (.num 2 65536) 2 true, t 7 0 (.num 2 65536) 2 true,
   t 8 0 (.num 0 3) 0 false, t 9 0 (.codes 1) 0 false] ++
  [k 1 0 (.codes 1) 0 true, k 2 0 (.num 0 3) 0 true, k 3 0 (.codes 2) 0 true, k 4 0 (.codes 3) 0 true,
   k 5 0 .paneRef 0xFFFF true, k 6 0 .paneRef 0xFFFF true, k 7 0 .paneRef 0xFFFF true,
   k 8 0 (.aligned 2 0xDFFC) 0 true, k 9 0 (.num 0 3) 0 true, k 0xA 0 (.aligned 2 0xDFFC) 0 true,
   k 0xB 0 (.num 0 16384) 0 true]

/-- CHANNEL, REDUCE and ROUTER (R461, R463, R464). -/
def schemaChannel : List Fld :=
  let c := fldOf 4 1023 true
  let r := fldOf 5 15 true
  let w := fldOf 6 1023 true
  [c 1 63 .own 0 true, c 2 63 (.num 0 3) 0 true, c 3 63 (.num 1 991) 1 true, c 4 63 (.num 1 991) 1 false,
   c 5 63 (.codes 1) 0 true, c 0x10 63 (.num 0 991) 0 true, c 0x11 63 (.num 1 991) 1 true,
   c 0x12 63 (.num 0 991) 0 true, c 0x13 63 (.num 0 3) 0 true, c 0x14 63 (.codes 1) 0 true,
   c 0x15 63 (.codes 2) 0 true, c 0x16 63 .paneRef 0xFFFF true, c 0x17 63 .paneRef 0xFFFF true] ++
  [c 0x18 63 (.codes 1) 0 true, c 0x19 63 (.codes 2) 0 false, c 0x1A 63 (.num 0 991) 0 true,
   c 0x1B 63 .paneRef 0xFFFF true, c 0x20 0 (.num 0 0xFFFF) 0 true,
   r 1 0 (.codes 1) 0 true, r 2 0 .own 0 true, r 3 0 (.num 0 3) 0 true, r 4 0 (.codes 1) 0 true,
   r 5 0 (.num 0 1023) 0 true, r 6 0 (.num 0 1023) 0 true, r 0x10 63 .paneRef 0xFFFF true,
   w 1 0 (.num 1 15) 3 false, w 2 0 (.num 1 15) 1 false, w 3 4 (.num 1 15) 1 false]

/-- MEMORY, GATE and EVENT (R465), BELL (R468). -/
def schemaMemory : List Fld :=
  let m := fldOf 7 1023 true
  let g := fldOf 8 1023 true
  let b := fldOf 0xA 63 true
  [m 1 7 (.num 0 223) 0 true, m 2 7 (.num 0 223) 0 true, m 3 7 (.num 0 63) 0 true, m 4 7 (.codes 1) 0 true,
   m 0x10 0 (.num 0 127) 0 false, m 0x11 0 (.codes 1) 1 false,
   g 1 63 (.aligned 2 0xDFFC) 0 true, g 2 63 (.aligned 3 0xE000) 0 false, g 3 63 (.num 0 3) 0 true,
   g 4 63 (.codes 1) 1 false, g 5 63 (.num 0 15) 0 false, g 6 63 (.codes 1) 0 true,
   fldOf 9 1023 true 1 0 .own 0 false, fldOf 9 1023 true 2 0 (.num 0 0x0DFF) 0 false] ++
  [b 1 7 (.num 0 65535) 0 false, b 2 7 (.num 0 7) 0 false, b 3 7 (.codes 1) 0 false, b 4 7 (.num 0 0xFFFF) 0 false,
   { b 5 0 .any 0 false with nw := 2 }, b 6 7 .own 0 false, b 7 7 .own 0 false]

/-- SIP and DIST (R469), DOP (R470). -/
def schemaPorts : List Fld :=
  let p := fldOf 0xB 7 true
  let d := fldOf 0xC 7 true
  let o := fldOf 0xD 1 true
  let k := fldOf 0xD 127 false
  [p 1 0 (.codes 1) 0 true, p 2 0 (.num 1 32) 16 true, p 3 0 (.codes 1) 0 true, p 4 0 (.codes 2) 0 true,
   p 0x10 7 (.codes 2) 0 true, p 0x11 7 (.num 0 255) 0 false,
   d 1 255 (.num 0 1023) 0 true, d 2 255 (.num 0 63) 0 true, d 3 255 (.num 0 7) 0 true, d 4 255 (.num 0 7) 0 true,
   d 5 255 (.num 0 31) 0 true, d 6 255 (.num 1 32) 1 true, d 7 255 .own 1 true, d 8 255 (.num 0 3) 0 true,
   d 9 255 (.codes 1) 0 true] ++
  [o 1 0 (.codes 1) 0 true, o 2 0 (.num 1 8) 8 true, o 3 0 (.codes 5) 2 true, o 4 0 (.num 0 255) 0 true,
   k 0x10 0 (.codes 1) 0 true, k 0x11 0 (.codes 2) 0 true, k 0x12 0 (.num 0 3) 0 true, k 0x13 0 .paneRef 0xFFFF true,
   k 0x14 0 .paneRef 0xFFFF true, k 0x15 0 .paneRef 0xFFFF true, k 0x16 0 (.num 0 127) 0 true,
   k 0x17 0 (.codes 1) 0 true]

/-- BOLT (R472). -/
def schemaBolt : List Fld :=
  let b := fldOf 0xE 0 false
  let t := fldOf 0xE 63 false
  let s := fldOf 0xE 127 false
  [b 1 0 .own 0 true, b 2 0 .own 0 true, b 3 0 .own 0 true, b 4 0 (.num 0 255) 10 true, b 5 0 .any 0 true,
   t 0x10 0 (.num 0 7) 0 true, t 0x11 0 (.num 0 7) 0 true, t 0x12 0 (.num 0 31) 0 true, t 0x13 0 (.codes 1) 0 true,
   t 0x14 0 (.codes 1) 0 true, t 0x15 0 (.codes 1) 0 true] ++
  [t 0x20 0 .any 0 true, t 0x21 0 .any 0 true, t 0x22 0 .any 0 true, t 0x23 0 (.num 0 255) 0 true,
   t 0x24 0 .own 1 true, t 0x25 0 .own 10 true, t 0x26 0 .own 0 true] ++
  [s 0x40 0 .any 0 true, s 0x41 0 .any 0 true, s 0x42 0 .any 0 true, s 0x43 0 (.num 0 255) 0 true,
   s 0x44 0 .own 1 true, s 0x45 0 .own 10 true, s 0x46 0 .own 0 true, s 0x47 0 .any 0 true, s 0x48 0 .any 0 true]

/-- BAY and DRAM (R473), POWER (R474), KNOCK (R475). TJ_MAX is held as two's complement of 32 bits. -/
def schemaFabric : List Fld :=
  let b := fldOf 0xF 7 true
  let d := fldOf 0x10 0 false
  let p := fldOf 0x12 0 false
  let s := fldOf 0x12 63 true
  let k := fldOf 0x13 0 false
  [b 1 31 .own 15 false, b 0x10 3 (.num 0 1023) 0 true, b 0x11 3 (.num 0 4095) 0 false, b 0x12 3 (.codes 1) 0 true,
   b 0x13 3 (.num 0 112) 0 false, b 0x14 3 .own 0 false,
   d 1 0 .own 0 false, d 2 0 (.codes 1) 0 false, d 3 63 .own 15 false, d 4 0 (.num 0 255) 0 false,
   d 5 0 (.num 0 128) 0 true] ++
  [p 1 0 (.num 500 12500) 12500 false, p 2 0 .own 125 false, p 3 0 (.codes 1) 0 false,
   s 0x10 0 (.num 0 70) 40 true, s 0x11 0 (.num 0 70) 70 true, s 0x12 0 (.num 5 50) 15 false,
   s 0x13 0 (.codes 2) 1 false,
   k 1 6 (.codes 3) 0 true, { k 2 7 .own 0 false with nw := 8 }, k 3 7 (.num 0 127) 0 false,
   k 4 0 (.num 0 127) 127 false, k 5 6 .own 0xFF false]

/-- NET, STREAM, LOG, BOARD and IO (R476). -/
def schemaNet : List Fld :=
  let n := fldOf 0x14 1 false
  let t := fldOf 0x15 63 true
  let l := fldOf 0x16 0 false
  let b := fldOf 0x17 0 false
  let i := fldOf 0x18 47 false
  let m := fldOf 0x18 3 false
  [n 1 0 (.codes 1) 0 false, n 2 0 (.codes 2) 0 false, { n 3 0 .own 0 false with nw := 2 },
   n 4 0 (.codes 4094) 0 false, n 5 0 (.num 0 7) 0 false, n 6 0 .any 0 false, { n 7 0 .any 0 false with nw := 4 },
   n 8 0 (.num 1024 65535) 40960 false, n 9 0 (.codes 2) 1 false, n 0xA 0 .own 0 false, n 0x10 63 .any 0 false] ++
  [t 1 0 (.codes 1) 0 false, t 2 0 (.codes 1) 0 false, t 3 0 (.codes 3) 0 false, t 4 0 (.num 0 1023) 0 false,
   { t 5 0 .any 0 false with nw := 4 }, t 6 0 (.num 1 65535) 40961 false, t 7 0 (.codes 1) 0 false,
   l 1 0 (.num 10 60000) 1000 false, l 2 0 (.codes 2) 1 false, l 3 0 (.num 0 3) 3 false] ++
  [b 1 0 (.num 0 7) 0 true, b 2 0 (.num 1 8) 1 true, b 3 0 (.codes 3) 0 true, b 4 0 (.num 0 7) 0 true,
   b 0x10 5 (.codes 1) 0 true, b 0x11 5 (.num 0 7) 0 true, b 0x12 5 (.num 0 5) 0 true,
   i 1 0 (.codes 2) 0 false, i 2 0 (.codes 1) 0 false, i 3 0 (.num 40 1000000000) 1000000 false,
   m 0x10 0 (.num 100 50000) 1000 false, m 0x11 0 (.num 0 3) 0 false]

/-- The whole schema, in section and field order. -/
def schema : List Fld :=
  schemaTiming ++ schemaChannel ++ schemaMemory ++ schemaPorts ++ schemaBolt ++ schemaFabric ++ schemaNet

/-- The field of a section with an identifier. -/
def fieldSpec (sec id : Nat) : Option Fld := schema.find? (fun f => f.sec == sec && f.id == id)

/-- An IPv4 or IPv6 field, a key, or another plain field: its default in the table. -/
def tableDefault (sec id : Nat) : Nat := ((fieldSpec sec id).map (·.dflt)).getD 0

/-- Default of BAY.BUF_WHEEL and of DRAM.WHEEL by entry (R473). -/
def wheelDefault (sec entry : Nat) : Nat :=
  if sec = 0xF then (if entry % 16 ≤ 12 then entry % 16 else 15)
  else if entry < 56 then entry % 8 else 8

/-- The value in force of a field: the entry that names the subject, else the entry for every subject (R455), else
`dflt`. -/
def State.field (s : State) (sec fld idx sub dflt : Nat) : Nat :=
  match SMap.at? s.img (imgKey sec fld idx sub) with
  | some v => v
  | none => SMap.get (fun _ => dflt) s.img (imgKey sec fld 0xFFFF sub)

/-- The value in force of a field, its default being the schema's (R457). -/
def State.fv (s : State) (sec fld idx sub : Nat) : Nat :=
  s.field sec fld idx sub
    (if sec = 4 ∧ fld = 4 then s.field 4 3 idx sub 1
     else if sec = 5 ∧ fld = 6 then s.field 5 5 idx sub 0
     else if (sec = 0xF ∧ fld = 1) ∨ (sec = 0x10 ∧ fld = 3) then wheelDefault sec sub
     else tableDefault sec fld)

end Sys2Proof.Machine
end

