-- ==== Sys2Proof/Machine/Aes.lean ====
section
/-!
DEFINITION. AES-256-GCM (FIPS 197, SP 800-38D), which encrypts stream records (R518).
-/
namespace Sys2Proof.Machine

/-! AES-256. -/

/-- Twice a byte in the field of AES. -/
def aesDouble (a : Byte) : Byte := if a.getLsbD 7 then (a <<< 1) ^^^ 0x1B#8 else a <<< 1

/-- The product of a with the lowest n bits of b. -/
def aesMul : Nat → Byte → Byte → Byte
  | 0, _, _ => 0
  | n + 1, a, b => (if b.getLsbD 0 then a else 0) ^^^ aesMul n (aesDouble a) (b >>> 1)

/-- a to the power 2^n - 2, by squaring: its inverse for n = 8. -/
def aesInv : Nat → Byte → Byte
  | 0, _ => 1
  | n + 1, a => let q := aesMul 8 a a; if n = 0 then 1 else aesMul 8 q (aesInv n q)

/-- The substitution of a byte. -/
def aesSub (a : Byte) : Byte :=
  let b := aesInv 8 a
  b ^^^ b.rotateLeft 1 ^^^ b.rotateLeft 2 ^^^ b.rotateLeft 3 ^^^ b.rotateLeft 4 ^^^ 0x63#8

/-- The substitution of every byte, once. -/
def aesBox : List Byte := (List.range 256).map (fun k => aesSub (BitVec.ofNat 8 k))
/-- Look it up. -/
def aesS (a : Byte) : Byte := aesBox.getD a.toNat 0

/-- Byte by byte sum of two strings. -/
def xorBytes (a b : List Byte) : List Byte := List.zipWith (· ^^^ ·) a b

/-- The key schedule: `n` further words of 4 bytes after those given, newest first; `i` is the number of the next one. -/
def aesExpand : Nat → Nat → Byte → List (List Byte) → List (List Byte)
  | 0, _, _, l => l
  | n + 1, i, rc, l =>
    let t := l.getD 0 []
    let u := if i % 8 = 0 then xorBytes ((t.drop 1 ++ t.take 1).map aesS) [rc, 0, 0, 0]
      else if i % 8 = 4 then t.map aesS else t
    aesExpand n (i + 1) (if i % 8 = 0 then aesDouble rc else rc) (xorBytes (l.getD 7 []) u :: l)

/-- The 15 round keys of a 32-byte key, 16 bytes each. -/
def aesKeys (key : List Byte) : List (List Byte) :=
  let ws := (aesExpand 52 8 1 ((List.range 8).map (fun k => (key.drop (4 * k)).take 4)).reverse).reverse
  (List.range 15).map (fun k => ((ws.drop (4 * k)).take 4).flatten)

/-- Rows shifted: byte i of column c comes from column c + i. -/
def aesShift (l : List Byte) : List Byte := (List.range 16).map (fun k => l.getD ((k + 4 * (k % 4)) % 16) 0)

/-- Columns mixed. -/
def aesMix (l : List Byte) : List Byte :=
  (List.range 16).map (fun k =>
    let at4 := fun j => l.getD (k / 4 * 4 + (k + j) % 4) 0
    aesDouble (at4 0) ^^^ (aesDouble (at4 1) ^^^ at4 1) ^^^ at4 2 ^^^ at4 3)

/-- The rounds but the first key's addition. -/
def aesRounds : List (List Byte) → List Byte → List Byte
  | [], l => l
  | [k], l => xorBytes (aesShift (l.map aesS)) k
  | k :: r, l => aesRounds r (xorBytes (aesMix (aesShift (l.map aesS))) k)

/-- One block under the round keys. -/
def aesBlock (ks : List (List Byte)) (l : List Byte) : List Byte := aesRounds (ks.drop 1) (xorBytes l (ks.getD 0 []))

/-! GCM. -/

/-- One step of the product in GCM's field: the accumulator and the multiple of y. -/
def gcmStep (x : BitVec 128) (i : Nat) (v : BitVec 128 × BitVec 128) : BitVec 128 × BitVec 128 :=
  (if x.getLsbD (127 - i) then v.1 ^^^ v.2 else v.1,
   if v.2.getLsbD 0 then (v.2 >>> 1) ^^^ (0xE1#128 <<< 120) else v.2 >>> 1)

/-- The product in GCM's field. -/
def gcmMul (x y : BitVec 128) : BitVec 128 := ((List.range 128).foldl (fun v i => gcmStep x i v) (0, y)).1

/-- GHASH over `n` blocks. -/
def ghash (h : BitVec 128) : Nat → BitVec 128 → List Byte → BitVec 128
  | 0, y, _ => y
  | n + 1, y, l => ghash h n (gcmMul (y ^^^ BitVec.ofNat 128 (beNat (l.take 16))) h) (l.drop 16)

/-- Zeros up to a multiple of 16 bytes. -/
def padTo16 (l : List Byte) : List Byte := l ++ List.replicate ((16 - l.length % 16) % 16) 0#8

/-- The key stream from counter block c on: `n` blocks. -/
def gcmStream (ks : List (List Byte)) (iv : List Byte) : Nat → Nat → List Byte
  | 0, _ => []
  | n + 1, c => aesBlock ks (iv ++ beBytes 4 c) ++ gcmStream ks iv n (c + 1)

/-- AES-256-GCM: 32-byte key, 12-byte nonce, additional data and payload to the ciphertext with its 16-byte tag. -/
def aead (key iv ad l : List Byte) : List Byte :=
  let ks := aesKeys key
  let h := BitVec.ofNat 128 (beNat (aesBlock ks (List.replicate 16 0#8)))
  let c := xorBytes l (gcmStream ks iv ((l.length + 15) / 16) 2)
  let m := padTo16 ad ++ padTo16 c ++ beBytes 8 (8 * ad.length) ++ beBytes 8 (8 * c.length)
  c ++ xorBytes (beBytes 16 (ghash h (m.length / 16) 0 m).toNat) (aesBlock ks (iv ++ beBytes 4 1))

end Sys2Proof.Machine
end

