-- ==== Sys2Proof/Machine/Comm.lean ====
section
/-!
DEFINITION. The communication instructions (R106 to R110, R131, R247 to R249) and where cross-part messages leave
the part (R533, R534, R542, R552).
-/
namespace Sys2Proof.Machine

/-! The board's links. -/

/-- The entry router of a link (R533). -/
def linkRouter (k : Nat) : Nat :=
  match k with
  | 0 => 8
  | 1 => 23
  | 2 => 7 * 32 + 31
  | 3 => 24 * 32 + 31
  | 4 => 31 * 32 + 8
  | _ => 31 * 32 + 23

/-- Parts on the board (R555). -/
def State.parts (s : State) : Nat := (s.rd Config.board).fld 4 3 + 1
/-- BOARD.TOPOLOGY. -/
def State.topology (s : State) : Nat := (s.rd Config.board).fld 8 2
/-- The tick-master part. -/
def State.master (s : State) : Nat := (s.rd Config.board).fld 12 3
/-- LINK.EN. -/
def State.linkEn (s : State) (k : Nat) : Bool := (s.rd (Config.wicket k)).bit 0
/-- LINK.PEER. -/
def State.linkPeer (s : State) (k : Nat) : Nat := (s.rd (Config.wicket k)).fld 1 3
/-- LINK_STATUS.STATE. -/
def State.linkState (s : State) (k : Nat) : Nat := (s.rd (Config.wicket k + 4)).fld 0 3
/-- The link carries traffic (CARRY). -/
def State.linkCarries (s : State) (k : Nat) : Bool := (s.rd (Config.wicket k + 4)).bit 5

/-- The links of one direction that carry traffic. -/
def State.carrying (s : State) (l : List Nat) : List Nat := l.filter s.linkCarries

/-- The link a pane's message takes within an adjacency (R542): the lower twin for an even pane, the higher for an
odd one, the surviving one when a twin is down. On a pair with more than two links: the lowest and the highest
(log 20). -/
def twinOf (pane : Nat) (l : List Nat) : Option Nat := if pane % 2 = 0 then l.head? else l.getLast?

/-- The links toward part `dev`, the shortest way first (R542), and then the long way round, where R552 allows it. -/
def State.waysTo (s : State) (dev : Nat) : List (List Nat) :=
  let p := s.partNo
  let n := s.parts
  match s.topology with
  | 1 => [(List.range 6).filter (fun k => s.linkEn k && s.linkPeer k == dev)]
  | 2 =>
    let fwd := (dev + n - p) % n
    let far := fun (l : List Nat) => if n ≤ 5 then [l] else []
    if fwd = 0 then [] else if 2 * fwd ≤ n then [0, 1] :: far [2, 3] else [2, 3] :: far [0, 1]
  | 3 =>
    let fc := (dev % 4 + 4 - p % 4) % 4
    if dev = p then []
    else if fc = 0 then [[4, 5], [0, 1], [2, 3]]
    else if fc ≤ 2 then [[0, 1], [2, 3], [4, 5]]
    else [[2, 3], [0, 1], [4, 5]]
  | _ => []

/-- The exit link of a message of `pane` for part `dev`. -/
def State.exitLink (s : State) (pane dev : Nat) : Option Nat :=
  ((s.waysTo dev).find? (fun l => !(s.carrying l).isEmpty)).bind (fun l => twinOf pane (s.carrying l))

/-- Where a message for `dev` and router `dst` leaves or ends on this part's mesh. -/
def State.localEnd (s : State) (pane dev dst : Nat) : Option Nat :=
  if dev = s.partNo then some dst else (s.exitLink pane dev).map linkRouter

/-- The router at which the leg of a message under way starts. -/
def Msg.legStart (m : Msg) : Nat := m.start.getD m.srcPane

/-- The pane whose number chooses the twin link of a message (R542): the pane that posted. An acknowledgement returns by the reverse
path. -/
def Msg.poster (m : Msg) : Nat := if m.kind = .ack then m.dest else m.srcPane

/-- The router at which a message ends on this part, if it has a way off it. -/
def State.msgEnd (s : State) (m : Msg) : Option Nat :=
  s.localEnd m.poster m.dev (match m.kind with
    | .drivePost => driveRouter (m.dest / 64 % 2) (m.dest / 512 % 2)
    | _ => m.dest % 1024)

/-! POST, POSTM and REDUCE. -/

/-- Addresses that match no entry whatever the table holds (R106, R247). -/
def badPostAddr (a : Word) : Bool :=
  a.fld 20 12 != 0 || (a.bit 19 && (a.fld 0 6 != 0 || a.fld 13 2 != 0))

/-- The valid outgoing entry of a post address (R106, R247). -/
def Pane.outEntry (q : Pane) (a : Word) : Option Nat :=
  if badPostAddr a then none
  else (List.range 64).find? (fun n => (q.cr (0x200 + 8 * n)).bit 31 && (q.cr (0x200 + 8 * n)).fld 0 20 == a.fld 0 20)

/-- CREDIT of entry n. -/
def Pane.credit (q : Pane) (n : Nat) : Nat := (q.cr (0x204 + 8 * n)).fld 0 10
/-- USED of entry n (R107). -/
def Pane.used (q : Pane) (n : Nat) : Nat := (q.cr (0x204 + 8 * n)).fld 16 10
/-- Count words into USED. -/
def Pane.use (q : Pane) (n k : Nat) : Pane :=
  q.setCr (0x204 + 8 * n) ((q.cr (0x204 + 8 * n)).withFld 16 10 (q.used n + k))
/-- DISCARD of entry n (R131). -/
def Pane.discards (q : Pane) (n : Nat) : Bool := (q.cr (0x200 + 8 * n)).bit 22

/-- The credit-exhausted trap (R110, R286). -/
def creditTrap (q : Pane) (cause index : Nat) (a : Word) : Trap := { q.mkTrap 5 cause a with index := index }

/-- The ordinal of a tick in class `k` (R96, TAG). -/
def State.ordinal (s : State) (k n : Nat) : Nat := n / s.mult k

/-- Where a message of a post address ends on the grid: the pane's router, or the drive entry's (R95, R130). -/
def postRouter (a : Word) : Nat := if a.bit 19 then driveRouter (a.fld 12 1) (a.fld 15 1) else a.fld 6 10

/-- The words of a post in messages of at most 64 (R248). -/
def chunk64 : Nat → List Word → List (List Word)
  | 0, _ => []
  | n + 1, l => if l.isEmpty then [] else l.take 64 :: chunk64 n (l.drop 64)

/-- The message of a post's words at slot `index` (R96, R248). -/
def State.postMsg (s : State) (p : Nat) (q : Pane) (e : Nat) (a : Word) (index : Nat) (ws : List Word) : Msg :=
  { kind := if a.bit 19 then .drivePost else .post, sub := 0, vn := false, dev := a.fld 16 3, dest := a.fld 6 10,
    chan := a.fld 0 6, index := index, srcDev := s.partNo, srcPane := p,
    tag := s.ordinal (q.outClass e) q.tag % 256, words := ws, poison := ws.map (fun _ => false), id := 0,
    tick := q.tag, relay := none }

/-- Send one message of entry `e` toward its router, or its exit link; with no way left it is lost (R550, R552). -/
def State.sendPost (s : State) (p e : Nat) (m : Msg) (dst : Nat) : State :=
  match s.localEnd p m.dev dst with
  | some r => s.sendFrom p m r (s.relayLost (entryKey p e))
  | none =>
    let s1 : State := { s with nextId := s.nextId + 1 }
    s1.modPane p (fun q => { q with unacked := q.unacked ++ [{ id := s.nextId, tag := m.tick }] })

/-- Send the words of a post, in order (R248). -/
def State.sendWords (s : State) (p : Nat) (e : Nat) (a : Word) (index : Nat) : List (List Word) → State
  | [] => s
  | ws :: rest =>
    State.sendWords (s.sendPost p e (s.postMsg p (s.pane p) e a index ws) (postRouter a)) p e a (index + ws.length) rest

/-- The credit check and the sending of R248, for `n` words. -/
def postBody (p : PaneNo) (s : State) (q : Pane) (e : Nat) (a : Word) (ws : List Word) : Effect :=
  if q.used e + ws.length > q.credit e ∨ (a.bit 19 ∧ ws.length > 1) then .trap s (creditTrap q 0 e a)
  else
    let s1 := s.setPane p.toNat (q.use e ws.length)
    if q.discards e then .done s1
    else .done (s1.sendWords p.toNat e a (q.used e) (chunk64 (ws.length + 1) ws))

/-- POST (R247, R248). -/
def execPost (p : PaneNo) (gd : BitVec 4) (ra rb : RegNo) (s : State) : Host.Outcome State Fault Refusal :=
  .next (s.issue (.post p gd ra rb) p gd anyRing [ra, rb] (fun s q =>
    match q.outEntry (q.gr ra) with
    | none => .trap s (creditTrap q 1 0 (q.gr ra))
    | some e => postBody p s q e (q.gr ra) [q.gr rb]))

/-- What a load of [a, a + n) finds in the store buffer (R154). -/
inductive SbHit where
  | memory
  | forward (v : Nat)
  | wait
  deriving DecidableEq, Repr

/-- The youngest buffered store that overlaps decides (R154). Two parts of a split store forward only as a whole. -/
def Pane.sbLook (q : Pane) (a n : Nat) : SbHit :=
  match q.sb.reverse.find? (fun e => decide (e.addr < a + n) && decide (a < e.addr + e.size)) with
  | none => .memory
  | some e => if e.addr = a ∧ e.size = n ∧ !e.split then .forward e.data else .wait

/-- The source words of POSTM, read as loads (R154, R248): none when one must wait. -/
def Pane.gather (q : Pane) (a : Nat) : Nat → Option (List Word)
  | 0 => some []
  | n + 1 =>
    match q.sbLook a 4 with
    | .wait => none
    | .forward v => (q.gather (a + 4) n).map (fun l => BitVec.ofNat 32 v :: l)
    | .memory => (q.gather (a + 4) n).map (fun l => q.peekW a :: l)

/-- The first of `n` words from `a` that lies outside the readable space (R247, check 5). -/
def Pane.firstUnreadable (q : Pane) (a : Nat) : Nat → Option Nat
  | 0 => none
  | n + 1 =>
    if a + 4 ≤ 0xF000 ∧ q.canRead q.ring a ∧ q.canRead q.ring (a + 3) then q.firstUnreadable (a + 4) n else some a

/-- The first source word read from memory with an uncorrectable error (R247, check 7). -/
def Pane.firstBad (q : Pane) (a : Nat) : Nat → Option Nat
  | 0 => none
  | n + 1 =>
    if q.sbLook a 4 = .memory ∧ q.eccAt a = .uncorrectable then some a else q.firstBad (a + 4) n

/-- The single-bit errors of the words that a POSTM reads from memory are corrected; a word forwarded from the store buffer is not read
there (R154, R168, R248). -/
def State.correctGather (s : State) (p a : Nat) : Nat → State
  | 0 => s
  | n + 1 => State.correctGather (if (s.pane p).sbLook a 4 = .memory then s.correctRead p a 4 else s) p (a + 4) n

/-- POSTM: the checks of R247 in order, then the words of R248. -/
def execPostm (p : PaneNo) (gd : BitVec 4) (rd ra rb : RegNo) (s : State) : Host.Outcome State Fault Refusal :=
  .next (s.issue (.postm p gd rd ra rb) p gd anyRing [rd, ra, rb] (fun s q =>
    let n := (q.gr rd).toNat
    let src := (q.gr rb).toNat
    match q.outEntry (q.gr ra) with
    | none => .trap s (creditTrap q 1 0 (q.gr ra))
    | some e =>
      if n = 0 then .done s
      else if src % 4 ≠ 0 then .trap s (q.mkTrap 2 2 (q.gr rb))
      else match q.firstUnreadable src (min n 15361) with
        | some a => .trap s (q.mkTrap 3 1 (BitVec.ofNat 32 a))
        | none =>
          if q.used e + n > q.credit e ∨ ((q.gr ra).bit 19 ∧ n > 1) then .trap s (creditTrap q 0 e (q.gr ra))
          else match q.gather src n with
            | none => .stay s
            | some ws =>
              match q.firstBad src n with
              | some a => .trap (s.foundUe p.toNat a false) (q.mkTrap 4 1 (BitVec.ofNat 32 a))
              | none =>
                let s1 := s.correctGather p.toNat src n
                postBody p s1 (s1.pane p.toNat) e (q.gr ra) ws))

/-- The class of reduction group g (R111). -/
def State.groupClass (s : State) (g : Nat) : Nat := SMap.get (fun _ => 0) s.groupCls g

/-- The register of reduction group g (R140). -/
def State.groupReg (s : State) (g : Nat) : Word := s.rd (Config.transom + 0x100 + 4 * g)

/-- RED_RANK[g] of a pane (R139): byte registers, held one to a word at their own address. -/
def Pane.redRank (q : Pane) (g : Nat) : Word := q.cr (0x810 + g)

/-- The contribution message of R249. -/
def State.redMsg (s : State) (p : Nat) (q : Pane) (g : Nat) (w : Word) : Msg :=
  { kind := .reduce, sub := 0, vn := false, dev := s.partNo, dest := (s.groupReg g).fld 4 10, chan := g,
    index := (q.redRank g).fld 0 6, srcDev := s.partNo, srcPane := p,
    tag := s.ordinal (s.groupClass g) q.tag % 256, words := [w], poison := [false], id := 0, tick := q.tag,
    relay := none }

/-- REDUCE: the checks of R247, and the contribution of R249; an entry marked DISCARD takes it locally. -/
def execReduce (p : PaneNo) (gd : BitVec 4) (ra rb : RegNo) (s : State) : Host.Outcome State Fault Refusal :=
  .next (s.issue (.reduce p gd ra rb) p gd anyRing [ra, rb] (fun s q =>
    let g := (q.gr ra).fld 0 6
    match q.outEntry (q.gr ra) with
    | none => .trap s (creditTrap q 1 0 (q.gr ra))
    | some e =>
      let ord := s.ordinal (s.groupClass g) q.tag
      if g ≥ 16 ∨ !(s.groupReg g).bit 31 ∨ !(q.redRank g).bit 7 then .trap s (creditTrap q 3 e (q.gr ra))
      else if q.reduced.contains (g, ord) then .trap s (creditTrap q 2 e (q.gr ra))
      else
        let s1 := s.setPane p.toNat { q with reduced := (g, ord) :: q.reduced.filter (fun x => x.1 != g) }
        if q.discards e then .done s1
        else .done (s1.sendPost p.toNat e (s.redMsg p.toNat q g (q.gr rb)) ((s.groupReg g).fld 4 10))))

end Sys2Proof.Machine
end

