-- ==== Sys2Proof/Machine/Mesh.lean ====
section
/-!
DEFINITION. The arrival of messages (R59 to R65, R93, R97 to R104, R116), acknowledgements, relays and dead routers
(R124 to R127), and the latch's work on pane SRAM (R168, R171).
-/
namespace Sys2Proof.Machine

/-! Wakes on access (R568, R569). -/

/-- An access that reaches domain `d` while it is not open asks for its wake; during an entry the AON block latches
the wake for replay (R568, R569). -/
def State.wake (s : State) (d : Nat) : State :=
  let x := s.dom d
  match x.moving with
  | some .isOpen => s
  | some _ => s.setDom d { x with replay := true }
  | none => if x.st == .isOpen || x.replay then s else (s.setDom d { x with moving := some .isOpen }).bump (Config.pwr + 0x18) 16 1

/-! Flit errors (R93). -/

/-- A flit error on a message's way: the message as it arrives, none when it is dropped, and the counts at the router
that saw the error. -/
def State.flit (s : State) (e : FlitErr) (m : Msg) : Option Msg × State :=
  match e with
  | .none => (some m, s)
  | .corrected r =>
    (some m, (s.modPane r.toNat (fun q => { q.bump 0x820 16 1 with ceTotal := q.ceTotal + 1 })).paneEdge r.toNat 16)
  | .payload r k =>
    let hit := fun i => i / 2 == k
    let n := ((List.range m.words.length).filter hit).length
    if n = 0 then (some m, s)
    else
      (some { m with poison := (List.range m.words.length).map (fun i => hit i || m.poison.getD i false) },
       (s.modPane r.toNat (fun q => q.bump 0x824 16 n)).paneEdge r.toNat 17)
  | .header r => (none, (s.modPane r.toNat (fun q => q.bump 0x824 16 1)).paneEdge r.toNat 17)
  | .andThen a b =>
    match s.flit a m with
    | (none, s1) => (none, s1)
    | (some m1, s1) => s1.flit b m1

/-- Take the message a command names from the mesh: it must be of the kind, be past its relay, and be on the part it
is for. -/
def State.takeMsg (s : State) (src : MsgFrom) (kind : MsgKind) : Option (Msg × State) :=
  match src with
  | .mesh k =>
    match s.mesh[k]? with
    | some m =>
      if m.kind == kind && m.relay.isNone && m.dev == s.partNo then some (m, { s with mesh := s.mesh.eraseIdx k })
      else none
    | none => none
  | .wicket m => if m.kind == kind && m.dev == s.partNo && m.srcDev != s.partNo then some (m, s) else none

/-- The acknowledgement of a message (R96, R97): one header flit. -/
def State.ackOf (s : State) (m : Msg) (fromRouter sub : Nat) : Msg :=
  { kind := .ack, sub := sub, vn := m.vn, dev := m.srcDev, dest := m.srcPane, chan := m.chan, index := 0,
    srcDev := s.partNo, srcPane := fromRouter, tag := m.tag, words := [], poison := [], id := m.id, tick := m.tick, relay := none }

/-- Send the acknowledgement of a message, on the virtual network of the message's final leg (R97). Where that route crosses a dead
router, R126 moves it like any message, and it can be lost (R125). -/
def State.ackFor (s : State) (m : Msg) (fromRouter sub : Nat) : State :=
  let a := s.ackOf m fromRouter sub
  match s.msgEnd a with
  | some dst => s.injectOn m.vn a fromRouter dst false
  | none => s

/-! Channels (R59 to R61, R98 to R104, R139). -/

/-- IN_REGION of a channel. -/
def Pane.inRegion (q : Pane) (c : Nat) : Word := q.cr (0x400 + 16 * c)
/-- The channel is in use. -/
def Pane.inValid (q : Pane) (c : Nat) : Bool := decide (c < 64) && (q.inRegion c).bit 31
/-- SIZE + 1 words long: the slots (R100). -/
def Pane.inSize (q : Pane) (c : Nat) : Nat := (q.inRegion c).fld 10 10
/-- The channel's class. -/
def Pane.inClass (q : Pane) (c : Nat) : Nat := (q.inRegion c).fld 20 2
/-- ORIGIN: 0 pane, 1 sample distribution, 2 lintel. -/
def Pane.inOrigin (q : Pane) (c : Nat) : Nat := (q.inRegion c).fld 23 2
/-- SHADOW. -/
def Pane.inShadow (q : Pane) (c : Nat) : Bool := (q.inRegion c).bit 22
/-- THIRD. -/
def Pane.inThird (q : Pane) (c : Nat) : Bool := (q.inRegion c).bit 25
/-- SRC, TWIN_SRC and THIRD_SRC. -/
def Pane.inSrc (q : Pane) (c : Nat) : Nat := (q.cr (0x408 + 16 * c)).fld 0 13
def Pane.inTwinSrc (q : Pane) (c : Nat) : Nat := (q.cr (0x40C + 16 * c)).fld 0 13
def Pane.inThirdSrc (q : Pane) (c : Nat) : Nat := (q.cr (0x40C + 16 * c)).fld 13 13
/-- What a source of none (R456) reads as in its 13 bits. -/
def refNone : Nat := 8191
/-- The running record of a channel. -/
def Pane.chanOf (q : Pane) (c : Nat) : ChanState := SMap.get (fun _ => ChanState.empty) q.chan c
/-- Replace it. -/
def Pane.setChan (q : Pane) (c : Nat) (x : ChanState) : Pane := { q with chan := SMap.put q.chan c x }

/-- Which copy of the channel's sender a source is: 0 primary, 1 twin, 2 third (R101, R104). A twin counts whatever IN_SHADOW is. -/
def Pane.copyOf (q : Pane) (c src : Nat) : Option Nat :=
  if q.inSrc c = src then some 0
  else if q.inTwinSrc c = src then some 1
  else if q.inThird c ∧ q.inThirdSrc c = src then some 2
  else none

/-- The tag difference of R98: 0 accept, 1 hold, anything else late. -/
def tagDiff (tag ord : Nat) : Nat := (tag + 256 - ord % 256) % 256

/-- Land words in a back half, from slot `i` (R61). -/
def BackHalf.land (b : BackHalf) (i : Nat) : List Word → BackHalf
  | [] => b
  | w :: r => BackHalf.land { b with words := SMap.put b.words i w, count := b.count + 1 } (i + 1) r

/-- A message's words in the back half of the copy that sent it. -/
def ChanState.take (x : ChanState) (copy : Nat) (m : Msg) : ChanState :=
  let f := fun (b : BackHalf) => { b.land m.index m.words with poison := b.poison || m.poison.any id }
  if copy = 0 then { x with back := f x.back }
  else if copy = 1 then { x with backTwin := f x.backTwin }
  else { x with backThird := f x.backThird }

/-- A post at its receiver (R64, R65, R98, R104): stored, held when `hold` allows, discarded late, or misrouted; and
acknowledged. -/
def State.deliver (s : State) (m : Msg) (hold : Bool) : State :=
  let r := m.dest % 1024
  let q := s.pane r
  let src := m.srcDev * 1024 + m.srcPane
  match (if q.inValid m.chan then q.copyOf m.chan src else none) with
  | none => ((s.modPane r (fun q => q.bump 0x828 16 1)).paneEdge r 19).ackFor m r 2
  | some copy =>
    if m.index + m.words.length > q.inSize m.chan then
      ((s.modPane r (fun q => q.bump 0x828 16 1)).paneEdge r 19).ackFor m r 2
    else
      let d := tagDiff m.tag (s.ordinal (q.inClass m.chan) s.tick)
      if d = 0 then (s.setPane r (q.setChan m.chan ((q.chanOf m.chan).take copy m))).ackFor m r 0
      else if d = 1 ∧ hold then { s with held := s.held ++ [m] }
      else if d = 1 then s
      else
        ((s.setPane r ((q.setChan m.chan { q.chanOf m.chan with late := true }).bump 0x11C 16 m.words.length)).paneEdge
          r 20).ackFor m r 1

/-- The root stores a contribution in its rank's slot for the copy that sent it (R116). -/
def State.storeRed (s : State) (m : Msg) : State :=
  let c : Contribution := { word := m.words.headD 0, poison := m.poison.headD false }
  { s with red := SMap.put s.red (m.chan * 256 + m.index * 4 + (s.pane m.srcPane).role) c }

/-- POST_ARRIVAL: a post reaches its receiver. The delivery to a sash that is not open waits for its wake (R568). -/
def execPostArrival (src : MsgFrom) (e : FlitErr) (s : State) : Host.Outcome State Fault Refusal :=
  match s.takeMsg src .post with
  | none => .next s
  | some (m, s1) =>
    if !s.paneUp (m.dest % 1024) then .next (s.wake (sashOf (m.dest % 1024)))
    else
      match s1.flit e m with
      | (none, s2) => .next s2
      | (some m', s2) => .next (s2.deliver m' true)

/-- ACKNOWLEDGEMENT: it returns to the sender, whose WAITT may retire (R63, R73, R97). -/
def execAcknowledgement (src : MsgFrom) (e : FlitErr) (t : Nat) (s : State) : Host.Outcome State Fault Refusal :=
  match s.takeMsg src .ack with
  | none => .next s
  | some (m, s1) =>
    match s1.flit e m with
    | (none, s2) => .next s2
    | (some a, s2) =>
      let p := a.dest % 1024
      .next (((s2.at t).modPane p (fun q =>
        { q with unacked := q.unacked.filter (fun u => u.id != a.id) })).poll p)

/-- REDUCE_CONTRIBUTION: a contribution reaches the group's root, is stored in its rank's slot for the copy that sent
it, held when early, or discarded late; and acknowledged (R98, R116). -/
def execReduceContribution (src : MsgFrom) (e : FlitErr) (s : State) : Host.Outcome State Fault Refusal :=
  match s.takeMsg src .reduce with
  | none => .next s
  | some (m, s1) =>
    match s1.flit e m with
    | (none, s2) => .next s2
    | (some a, s2) =>
      let root := a.dest % 1024
      let d := tagDiff a.tag (s.ordinal (s.groupClass a.chan) s.tick)
      if d = 0 then
        .next ((s2.storeRed a).ackFor a root 0)
      else if d = 1 then .next { s2 with held := s2.held ++ [a] }
      else .next (((s2.modPane root (fun q => q.bump 0x11C 16 1)).paneEdge root 20).ackFor a root 1)

/-- RELAY_FORWARD: a relay re-injects the k-th message on VN1 toward its destination (R126, R127). -/
def execRelayForward (k : Nat) (s : State) : Host.Outcome State Fault Refusal :=
  match s.mesh[k]? with
  | some m =>
    match m.relay with
    | some r =>
      if s.routeLives true r ((s.msgEnd m).getD r) then
        .next { s with mesh := s.mesh.set k { m with relay := none, vn := true, start := some r } }
      else .next { s with mesh := s.mesh.eraseIdx k }
    | none => .next s
  | none => .next s

/-! Dead routers (R124, R125). -/

/-- The direction of a neighbour, as its bit of ROUTE.DEAD: N, S, E, W from bit 0 (R139). -/
def neighbourBit (from' to' : Nat) : Option Nat :=
  if to' + 32 = from' then some 0
  else if from' + 32 = to' then some 1
  else if from' + 1 = to' ∧ rowOf from' = rowOf to' then some 2
  else if to' + 1 = from' ∧ rowOf from' = rowOf to' then some 3
  else none

/-- A message in flight whose route crosses router `r` (R125). -/
def State.crosses (s : State) (m : Msg) (r : Nat) : Bool :=
  onVn m.vn m.legStart (m.relay.getD ((s.msgEnd m).getD m.legStart)) r

/-- ROUTER_DEAD: the latch beside a neighbouring router declares a router dead and reports it (R124); the messages
that cannot pass it are lost (R125); bell source 18. -/
def execRouterDead (router reporter : PaneNo) (t : Nat) (s : State) : Host.Outcome State Fault Refusal :=
  match neighbourBit reporter.toNat router.toNat with
  | none => .next s
  | some b =>
    if s.deadRouters.contains router.toNat then .next s
    else
      let s0 := s.at t
      let s1 : State := { s0 with deadRouters := s0.deadRouters ++ [router.toNat],
                                  mesh := s0.mesh.filter (fun m => !s0.crosses m router.toNat) }
      .next (((s1.modPane reporter.toNat (fun q => q.setCr 0x844 (q.cr 0x844 ||| (1#32 <<< b)))).report
        (.routerDead router.toNat reporter.toNat)).edge allBells 18 router.toNat)

/-! The latch's work on pane SRAM (R168, R171). -/

/-- SCRUB_WORD: while the pane is stalled in WAITT or has no task, and SCRUB.EN is 1, the latch reads and corrects the
next word of its walk (R171). -/
def execScrubWord (p : PaneNo) (s : State) : Host.Outcome State Fault Refusal :=
  let q := s.pane p.toNat
  if !(q.cr 0x4C).bit 0 || !(q.phase == .stall || !q.hasTask) || !s.paneUp p.toNat then .next s
  else
    let a := 4 * q.scrubPos
    let done := decide (q.scrubPos + 1 ≥ 16384)
    let s1 := s.modPane p.toNat (fun q =>
      let q1 : Pane := { q with scrubPos := (q.scrubPos + 1) % 16384 }
      if done then q1.setCr 0x4C ((q1.cr 0x4C).withFld 16 16 (satAdd 16 ((q1.cr 0x4C).fld 16 16) 1)) else q1)
    match q.eccAt a with
    | .clean => .next s1
    | .correctable =>
      .next ((s1.modPane p.toNat (fun q =>
        { (q.bump 0x40 16 1).setEcc a .clean with ceTotal := q.ceTotal + 1,
                                                    rewrite := q.rewrite.erase a })).paneEdge p.toNat 21)
    | .uncorrectable => .next (s1.foundUe p.toNat a false)

/-- ECC_REWRITE: at a WAITT stall the latch rewrites the words corrected since (R168). -/
def execEccRewrite (p : PaneNo) (s : State) : Host.Outcome State Fault Refusal :=
  let q := s.pane p.toNat
  if q.phase != .stall then .next s
  else .next (s.setPane p.toNat
    { q.rewrite.foldl (fun q a => if q.eccAt a == .correctable then q.setEcc a .clean else q) q with rewrite := [] })

end Sys2Proof.Machine
end

