-- ==== Sys2Proof/Machine/Bells.lean ====
section
/-!
DEFINITION. Bells (R294 to R316): arrivals, record writing, hold-off, the AON arrival latch, and what retirement,
closure and wake do to a bell.
-/
namespace Sys2Proof.Machine

/-- The level sources of R294. -/
def levelSource (i : Nat) : Bool := decide (i ≤ 9) || i == 12 || i == 14 || i == 27

/-- BELL.SRC_EN. -/
def State.srcEn (s : State) (sash i : Nat) : Bool :=
  if i < 32 then (s.rd (Config.bell sash + 0x40)).bit i else (s.rd (Config.bell sash + 0x44)).bit (i - 32)
/-- GROUP_CFG[j]. -/
def State.groupCfg (s : State) (sash j : Nat) : Word := s.rd (Config.bell sash + 8 * j)
/-- TARGETS of group j. -/
def State.targets (s : State) (sash j : Nat) : Word := (s.rd (Config.bell sash + 8 * j + 4)) &&& 0xFFFF#32

/-- One arrival at a source (R298): the count, PENDING, and DETAIL at the first since the source's last record. -/
def Bell.arrive (b : Bell) (i detail : Nat) : Bell :=
  let n := SMap.get (fun _ => 0) b.count i
  { b with pend := b.pend ||| (1#64 <<< i), count := SMap.set (fun _ => 0) b.count i (min (n + 1) 255),
           sat := if n ≥ 255 then b.sat ||| (1#64 <<< i) else b.sat,
           detail := if n = 0 then SMap.put b.detail i detail else b.detail }

/-- The live bit follows the level (R295). -/
def Bell.level (b : Bell) (e : BellEvent) : Bell :=
  match e.kind with
  | .edge => b
  | .rise => { b with live := b.live ||| (1#64 <<< e.src) }
  | .fall => { b with live := b.live &&& ~~~(1#64 <<< e.src) }

/-- The event makes an arrival: every edge, and every rise from 0 (R295). -/
def Bell.arrives (b : Bell) (e : BellEvent) : Bool :=
  match e.kind with
  | .edge => true
  | .rise => !b.live.getLsbD e.src
  | .fall => false

/-- The event has reached the bell of a sash. -/
def State.reached (s : State) (k sash : Nat) : State :=
  match s.arrivals[k]? with
  | none => s
  | some e =>
    let todo := e.todo &&& ~~~oneBell sash
    if todo = 0 then { s with arrivals := s.arrivals.eraseIdx k }
    else { s with arrivals := s.arrivals.set k { e with todo := todo } }

/-- The sash takes events itself: open, and not on its way to ajar or shut (R313 to R315). -/
def State.bellOpen (s : State) (sash : Nat) : Bool :=
  (s.dom sash).st == .isOpen && ((s.dom sash).moving == none || (s.dom sash).moving == some .isOpen)

/-! The targets and the source of a record (R299, R300). -/

/-- The first number after `last` in round-robin order over 0 .. n - 1 that satisfies `f`. -/
def rrNext (n last : Nat) (f : Nat → Bool) : Option Nat :=
  ((List.range n).map (fun k => (last + 1 + k) % n)).find? f

/-- Group j has a source with PENDING set. -/
def Bell.hasPend (b : Bell) (j : Nat) : Bool := (b.pend >>> (8 * j)) &&& 0xFF#64 != 0

/-- The target R300 chooses for group j: its position in the sash. -/
def State.target (s : State) (sash j : Nat) : Option Nat :=
  rrNext 16 ((s.bellOf sash).nextTgt.getD j 0)
    (fun n => (s.targets sash j).bit n && (s.pane (paneOfSash sash n)).evRoom)

/-- A pane stalled in WAITT or in EVWAIT (R301). -/
def Pane.asleep (q : Pane) : Bool := q.phase == .stall || q.phase == .evwait

/-- Group j is ready (R299, R301): its target, and whether the hold-off is bypassed. -/
def State.groupReady (s : State) (sash j : Nat) : Option (Nat × Bool) :=
  let b := s.bellOf sash
  if !b.hasPend j then none
  else match s.target sash j with
    | none => none
    | some n =>
      if !b.heldOff.getLsbD j then some (n, false)
      else if (s.pane (paneOfSash sash n)).asleep then some (n, true)
      else none

/-- The bypass of R301 applies to a group none of whose targets has a free slot: the target that R300 would choose but for the free
slot is asleep (log 127). -/
def State.bypassed (s : State) (sash j : Nat) : Bool :=
  match rrNext 16 ((s.bellOf sash).nextTgt.getD j 0) (fun n => (s.targets sash j).bit n) with
  | some n => (s.pane (paneOfSash sash n)).asleep
  | none => false

/-- Count the records held back because no target has a free slot, each once (R306). -/
def State.bellWaits (s : State) (sash : Nat) : State :=
  (List.range 8).foldl (fun s j =>
    let b := s.bellOf sash
    if b.hasPend j && (!b.heldOff.getLsbD j || s.bypassed sash j) && (s.target sash j).isNone
        && !b.waitCounted.getLsbD j then
      (s.setBell sash { b with waitCounted := b.waitCounted ||| (1#8 <<< j) }).bump (Config.bell sash + 0xD4) 16 1
    else s) s

/-- BELL_ARRIVAL: the k-th event under way reaches the bell of an open sash (R295, R296, R298). -/
def execBellArrival (k : Nat) (sash : BitVec 6) (s : State) : Host.Outcome State Fault Refusal :=
  match s.arrivals[k]? with
  | none => .next s
  | some e =>
    if !e.todo.getLsbD sash.toNat || !s.bellOpen sash.toNat then .next s
    else
      let b := s.bellOf sash.toNat
      let b1 := if b.arrives e && s.srcEn sash.toNat e.src then b.arrive e.src e.detail else b
      .next (((s.reached k sash.toNat).setBell sash.toNat (b1.level e)).bellWaits sash.toNat)

/-- AON_ARRIVAL_LATCH: the k-th event under way meets a sash that is closed or closing: the AON block sets the source's
arrival bit, and a group with WAKE = 1 wakes the sash (R314, R315). -/
def execAonArrivalLatch (k : Nat) (sash : BitVec 6) (s : State) : Host.Outcome State Fault Refusal :=
  match s.arrivals[k]? with
  | none => .next s
  | some e =>
    if !e.todo.getLsbD sash.toNat || s.bellOpen sash.toNat then .next s
    else
      let b := s.bellOf sash.toNat
      let hit := b.arrives e && s.srcEn sash.toNat e.src
      let b1 := if hit then { b with aon := b.aon ||| (1#64 <<< e.src) } else b
      let s1 := (s.reached k sash.toNat).setBell sash.toNat (b1.level e)
      if hit && (s.groupCfg sash.toNat (e.src / 8)).bit 19 then .next (s1.wake sash.toNat) else .next s1

/-! Records (R302 to R307). -/

/-- The four words of a record (R304). -/
def recordWords (b : Bell) (src prio seq tick : Nat) : List Word :=
  let n := SMap.get (fun _ => 0) b.count src
  [BitVec.ofNat 32 (src + src / 8 * 2 ^ 8 + prio * 2 ^ 11 + (b.sat.getLsbD src).toNat * 2 ^ 14
      + (levelSource src).toNat * 2 ^ 15 + n * 2 ^ 16 + (b.closed.getLsbD src).toNat * 2 ^ 24),
   BitVec.ofNat 32 (seq % 65536 + SMap.get (fun _ => 0) b.detail src % 65536 * 2 ^ 16),
   BitVec.ofNat 32 tick, BitVec.ofNat 32 (tick / 2 ^ 32)]

/-- Write words upward, with fresh check bits. -/
def Pane.pokeWords (q : Pane) (a : Nat) : List Word → Pane
  | [] => q
  | w :: r => Pane.pokeWords ((q.pokeW a w).setEcc a .clean) (a + 4) r

/-- A record enters a pane's queue (R303, R305). -/
def Pane.enqueue (q : Pane) (ws : List Word) : Pane :=
  let q1 := q.pokeWords (q.evAddr q.evWr) ws
  { q1 with evWr := (q.evWr + 1) % q.evSlots, evUnclaimed := q.evUnclaimed + 1, evUsed := q.evUsed + 1,
            evSeq := (q.evSeq + 1) % 65536 }

/-- The tick number shown in records: 0 in STARTING and READY (R304). -/
def State.shownTick (s : State) : Nat := if s.ticking then s.tick else 0

/-- Write one record of group j to position n (R300 to R302). -/
def State.writeRecord (s : State) (sash j n : Nat) (bypass : Bool) : State :=
  let b := s.bellOf sash
  match rrNext 8 (b.nextSrc.getD j 0) (fun i => b.pend.getLsbD (8 * j + i)) with
  | none => s
  | some i =>
    let src := 8 * j + i
    let p := paneOfSash sash n
    let ws := recordWords b src ((s.groupCfg sash j).fld 16 3) (s.pane p).evSeq s.shownTick
    let m := ~~~(1#64 <<< src)
    let b1 := { b with
      pend := b.pend &&& m, sat := b.sat &&& m, closed := b.closed &&& m,
      count := SMap.del b.count src, nextTgt := b.nextTgt.setIfInBounds j n, nextSrc := b.nextSrc.setIfInBounds j i,
      lastGroup := j, waitCounted := b.waitCounted &&& ~~~(1#8 <<< j),
      heldOff := if (s.groupCfg sash j).fld 0 16 = 0 then b.heldOff &&& ~~~(1#8 <<< j) else b.heldOff ||| (1#8 <<< j) }
    let a := Config.bell sash
    let s1 := ((s.setBell sash b1).modPane p (fun q => q.enqueue ws)).bump (a + 0xD0) 32 1
    let s2 := if b.sat.getLsbD src then s1.bump (a + 0xD8) 16 1 else s1
    let s3 := if bypass then s2.bump (a + 0xDC) 16 1 else s2
    (s3.bellWaits sash).poll p

/-- BELL_RECORD_WRITE: the next ready group in round-robin order gets its record written (R299 to R303). -/
def execBellRecordWrite (sash : BitVec 6) (s : State) : Host.Outcome State Fault Refusal :=
  let k := sash.toNat
  if !s.bellOpen k then .next s
  else match rrNext 8 (s.bellOf k).lastGroup (fun j => (s.groupReady k j).isSome) with
    | none => .next (s.bellWaits k)
    | some j =>
      match s.groupReady k j with
      | some (n, bypass) => .next (s.writeRecord k j n bypass)
      | none => .next s

/-- HOLDOFF_EXPIRY: the hold-off of a group has run out (R301). -/
def execHoldoffExpiry (sash : BitVec 6) (group : BitVec 3) (s : State) : Host.Outcome State Fault Refusal :=
  let b := s.bellOf sash.toNat
  .next ((s.setBell sash.toNat { b with heldOff := b.heldOff &&& ~~~(1#8 <<< group.toNat) }).bellWaits sash.toNat)

/-! Closure, wake and retirement (R312 to R316). -/

/-- The values that R294 allows as DETAIL of source `i`, drawn from a free value `v`; 0 where the table gives 0. -/
def detailOf (i v : Nat) : Nat :=
  if i ≤ 7 then v % 257 + v / 257 % 8 * 2 ^ 9
  else if i = 8 ∨ i = 10 then v % 64
  else if i = 9 ∨ i = 11 then 64 + v % 64
  else if i = 12 then v % 768
  else if i = 13 then v % 5
  else if 16 ≤ i ∧ i ≤ 24 then (if i = 18 then v % 1024 else v % 16)
  else if i = 25 then v % 1024 + 1
  else if i = 26 then v % 1024 + v / 1024 % 2 * 2 ^ 15
  else if i = 27 ∨ i = 29 then v % 109
  else if i = 28 then v % 8
  else if 32 ≤ i ∧ i ≤ 35 then v % 16
  else if i = 36 then v % 128
  else if i = 37 then v % 16
  else if 40 ≤ i ∧ i ≤ 46 then v % 3
  else if i = 47 then v % 7
  else if 48 ≤ i ∧ i ≤ 55 then v % 2
  else if 56 ≤ i ∧ i ≤ 61 then v % 4
  else if i = 62 ∨ i = 63 then v % 8
  else 0

/-- A latched arrival becomes an arrival, with CLOSED when the sash was closed (R314). The AON block keeps one bit and no DETAIL: which
of the values that R294 gives the source the record shows is a free value (log 2). -/
def State.bellReplay (s : State) (sash : Nat) (closed : Bool) (i : Nat) : State :=
  let d := s.draw
  let x := (s.bellOf sash).arrive i (detailOf i d.1)
  d.2.setBell sash (if closed then { x with closed := x.closed ||| (1#64 <<< i) } else x)

/-- The AON bits become arrivals (R314, R315). -/
def State.bellReplays (s : State) (sash : Nat) (closed : Bool) : State :=
  let b := s.bellOf sash
  ((List.range 64).filter (fun i => b.aon.getLsbD i)).foldl (fun s i => s.bellReplay sash closed i)
    (s.setBell sash { b with aon := 0 })

/-- After an ajar closure: hold-offs count as expired, and the AON bits become arrivals with CLOSED (R313, R314). -/
def State.bellReopen (s : State) (sash : Nat) : State :=
  let b := s.bellOf sash
  let s1 := (s.setBell sash { b with heldOff := 0 }).bellReplays sash true
  let a := Config.bell sash
  ((s1.setBits (a + 0x58) (BitVec.ofNat 32 b.aon.toNat)).setBits (a + 0x5C) (BitVec.ofNat 32 (b.aon.toNat / 2 ^ 32))).bellWaits sash

/-- After a shut: COUNT, PENDING, pointers, queue indices, SEQ and stacks start at 0, and then R314 applies (R316). -/
def State.bellReload (s : State) (sash : Nat) : State :=
  let b := s.bellOf sash
  let s1 := s.setBell sash { Bell.reset with live := b.live, aon := b.aon }
  let s2 := (List.range 16).foldl (fun s n => s.modPane (paneOfSash sash n) (fun q =>
    { q with evWr := 0, evUnclaimed := 0, evUsed := 0, evDone := [], evSeq := 0, evStack := [] })) s1
  s2.bellReopen sash

/-- The records left in a retired pane's queue are discarded, counted and logged with source, COUNT and SEQ, and its
bit leaves every TARGETS mask (R312). -/
def State.bellRetire (s : State) (p : Nat) : State :=
  let q := s.pane p
  let k := sashOf p
  let a := Config.bell k
  let n := posInSash p
  let left := (List.range q.evUsed).map (fun i => q.evAddr ((q.evFree + i) % max q.evSlots 1))
  let live := left.filter (fun x => !q.evDone.any (fun d => q.evAddr d == x))
  let s1 := live.foldl (fun s x =>
    (s.bump (a + 0xE0) 16 1).logEv 0x7F01 [p, (q.peekW x).fld 0 6, (q.peekW x).fld 16 8, (q.peekW (x + 4)).fld 0 16]) s
  let s2 := (List.range 8).foldl (fun s j =>
    let r := a + 8 * j + 4
    let s' := s.clrBits r (1#32 <<< n)
    if (s.rd r).bit n && s'.targets k j == 0 then s'.logEv 0x7F02 [k, j] else s') s1
  (s2.modPane p (fun q => { q with evUnclaimed := 0, evUsed := 0, evDone := [], evStack := [] })).bellWaits k

end Sys2Proof.Machine
end

