-- ==== Sys2Proof/Machine/Ports.lean ====
section
/-!
DEFINITION. Sample-input ports and distribution (R320 to R337), and the arrival of drive posts (R342 to R344).
-/
namespace Sys2Proof.Machine

/-! Sample-input lanes. -/

/-- A sample-input lane. -/
def State.lane (s : State) (l : Nat) : RxLane := SMap.get (fun _ => RxLane.reset) s.lanes l
/-- Replace it. -/
def State.setLane (s : State) (l : Nat) (x : RxLane) : State := { s with lanes := SMap.put s.lanes l x }
/-- GROUP.EN. -/
def State.sipEn (s : State) (g : Nat) : Bool := (s.rd (Config.sip g)).bit 0
/-- SLOTS, 1 to 32. -/
def State.sipSlots (s : State) (g : Nat) : Nat := (s.rd (Config.sip g)).fld 1 5 + 1
/-- FORMAT (R323). -/
def State.sipFormat (s : State) (g : Nat) : Nat := (s.rd (Config.sip g)).fld 7 2
/-- LANE.MODE; a group with EN = 0 treats every lane as off (R324). -/
def State.laneMode (s : State) (l : Nat) : Nat :=
  if s.sipEn (l / 8) then (s.rd (Config.sip (l / 8) + 4)).fld (2 * (l % 8)) 2 else 0
/-- The address of a register of lane l, from its offset in the lane's block. -/
def laneReg (l off : Nat) : Nat := Config.sip (l / 8) + 0x100 + 0x40 * (l % 8) + off
/-- LANE.MARK. -/
def State.laneMark (s : State) (l : Nat) : Nat := (s.rd (laneReg l 0)).fld 0 9

/-- A word in its group's format (R323). -/
def formatWord (f : Nat) (w : Word) : Word :=
  if f = 1 then w.sshiftRight 16 else if f = 2 then w.sshiftRight 8 else w

/-- The lowest lane of a group with a notice pending (R294). -/
def lowestNotice (n : Word) : Nat := ((List.range 8).find? (fun l => n.bit l)).getD 0

/-- Watermarks (R331, R332): the level of lane l has moved from `old` by way of `peak`. A rise to the mark or above while ARMED
clears ARMED, and with no notice pending sets NOTICE and CROSS_LEVEL; a level below the mark arms the lane. Words enter one by one,
so the level at the crossing is the first at or above the mark (log 21). -/
def State.watermark (s : State) (l old peak : Nat) : State :=
  let x := s.lane l
  let mark := s.laneMark l
  let hit := mark != 0 && decide (mark ≤ peak) && (x.armed || decide (old < mark))
  let s1 := s.setLane l { x with armed := decide (x.fifo.length < mark) || (x.armed && !hit) }
  let a := Config.sip (l / 8) + 0x10
  let n := s.rd a
  if !hit || n.bit (l % 8) then s1
  else
    let s2 := (s1.setBits a (1#32 <<< (l % 8))).wr (laneReg l 8) (BitVec.ofNat 32 (max mark old))
    if n &&& 0xFF#32 = 0 then s2.raise allBells (l / 8) .rise (max mark old + l % 8 * 2 ^ 9) else s2

/-- The bits of a lane from bit 31 of slot 0 on. Each sample holds the eight lanes at one bit clock edge, the first at the edge at which
the frame sync is seen high after low; FS_DELAY moves the first bit by one edge (R321). -/
def laneBits (delay : Nat) (bits : List (BitVec 8)) (k : Nat) : List Bool := (bits.drop delay).map (fun b => b.getLsbD k)

/-- At most `n` whole slots of 32 bits, most significant bit first (R321). -/
def rxWords : Nat → List Bool → List Word
  | 0, _ => []
  | n + 1, l =>
    if l.length < 32 then []
    else BitVec.ofNat 32 ((l.take 32).foldl (fun a b => 2 * a + b.toNat) 0) :: rxWords n (l.drop 32)

/-- The words of a frame entering one lane (R324 to R327, R330, R331). A partial frame is discarded and counted (R322); the frame of a
word that meets the full FIFO is discarded whole, and so is one under way at a flush. -/
def State.laneFrame (s : State) (l : Nat) (ws : List FifoEntry) (whole : Bool) (t0 : Nat) : State :=
  if s.laneMode l = 0 then s
  else
    let s1 := if whole then s else s.bump (laneReg l 0x20) 16 1
    let x := s1.lane l
    let lv := x.fifo.length
    if s1.severed l then s1.discards l ws.length
    else if t0 < x.rearmAt then s1
    else if t0 < x.flushAt then s1.bump (laneReg l 0x24) 16 1
    else if lv + ws.length > 256 then (s1.bump (laneReg l 0x1C) 16 1).watermark l lv 256
    else if whole then (s1.setLane l { x with fifo := x.fifo ++ ws, frames := x.frames ++ [ws] }).watermark l lv (lv + ws.length)
    else s1.watermark l lv (lv + ws.length)

/-- The entries of received words: END on the last slot, and the parity as written unless it is bad (R325). -/
def frameEntries (slots lane : Nat) (ws : List Word) (bad : List (Nat × Nat)) : List FifoEntry :=
  ws.zipIdx.map (fun w => { word := w.1, ok := !bad.contains (lane, w.2), fin := w.2 + 1 == slots })

/-- A frame end lies in the keep-out window of a close (R82). -/
def State.nearEdge (s : State) (t : Nat) : Bool :=
  let inWin := fun c => decide (c ≤ t + 20) && decide (t ≤ c + 140)
  (s.gen.on && inWin s.gen.nextNs) || (s.part != .off && s.part != .starting && inWin s.lastC)

/-- The ports acquire: from the first boundary of READY (R336). -/
def State.acquires (s : State) : Bool := s.part != .off && s.part != .starting && (s.locked || s.readyBnd != 0)

/-- FS_DELAY of group g (R321). -/
def State.fsDelay (s : State) (g : Nat) : Nat := (s.rd (Config.sip g)).fld 6 1

/-- SAMPLE_FRAME: a frame of group g is received, with the eight data lanes as sampled at each bit clock edge from its start to the edge
before the next frame start (R321, R322, R324 to R327, R331). With fewer bits than SLOTS slots the next frame start came early;
bits beyond the last slot are ignored. -/
def execSampleFrame (g : BitVec 3) (bits : List (BitVec 8)) (bad : List (Nat × Nat)) (t0 t : Nat) (s : State) :
    Host.Outcome State Fault Refusal :=
  let g := g.toNat
  if !s.sipEn g || !s.domOpen (80 + g) then .next s
  else
    let s0 := s.at t
    let s1 : State := { s0 with sipSeen := SMap.put s0.sipSeen g (t0, t) }
    let slots := s.sipSlots g
    let whole := decide (32 * slots + s.fsDelay g ≤ bits.length)
    if !s.acquires then .next s1
    else
      let s2 := if whole && s1.nearEdge t then s1.setBits (Config.transom + 0x24) (1#32 <<< g) else s1
      .next ((List.range 8).foldl (fun s' k =>
        s'.laneFrame (8 * g + k) (frameEntries slots k (rxWords slots (laneBits (s.fsDelay g) bits k)) bad) whole t0) s2)

/-! Distribution (R333 to R337). -/

/-- STREAM_A and STREAM_B of stream n of bay b. -/
def State.streamA (s : State) (b n : Nat) : Word := s.rd (Config.dist b + 0x100 + 8 * n)
def State.streamB (s : State) (b n : Nat) : Word := s.rd (Config.dist b + 0x104 + 8 * n)

/-- The valid streams of lane l in bay b. -/
def State.streamsOf (s : State) (b l : Nat) : List Nat :=
  (List.range 256).filter (fun n =>
    let a := s.streamA b n
    a.bit 31 && a.fld 16 3 == l / 8 && a.fld 19 3 == l % 8)

/-- BOLT.BAY_FAULT: the bay is marked faulted (R379). -/
def State.bayFaulted (s : State) (b : Nat) : Bool := (s.rd (Config.bolt + 0x050)).bit b

/-- The engines that must still take a frame of lane l: those with a stream on it. -/
def State.engines (s : State) (l : Nat) : List Nat :=
  (List.range 8).filter (fun b => !s.bayFaulted b && s.domOpen (64 + b) && !(s.streamsOf b l).isEmpty)

/-- The whole frames of a FIFO, oldest first, each up to its END word (R325, R326). -/
def wholeFrames (cur : List FifoEntry) : List FifoEntry → List (List FifoEntry)
  | [] => []
  | e :: r => if e.fin then (cur ++ [e]) :: wholeFrames [] r else wholeFrames (cur ++ [e]) r

/-- The frames of the FIFO that the engine of a bay has taken. -/
def RxLane.takenBy (x : RxLane) (b : Nat) : Nat := SMap.get (fun _ => 0) x.taken b

/-- The frames that any engine has read. -/
def RxLane.readUpTo (x : RxLane) : Nat := x.taken.foldl (fun n e => max n e.2) 0

/-- The oldest `k` whole frames leave the FIFO (R334). -/
def State.dropFrames (s : State) (l k : Nat) : State :=
  let x := s.lane l
  let n := ((wholeFrames [] x.fifo).take k).flatten.length
  let f := x.fifo.drop n
  (s.setLane l { x with fifo := f, taken := x.taken.filterMap (fun e => if e.2 ≤ k then none else some (e.1, e.2 - k)) }).watermark
    l x.fifo.length f.length

/-- The frames that every engine with a stream on the lane has taken leave the FIFO; on a lane without streams, those that any engine
has taken. -/
def State.releaseTaken (s : State) (l : Nat) : State :=
  let x := s.lane l
  let k := match s.engines l with
    | [] => x.readUpTo
    | b :: r => r.foldl (fun n e => min n (x.takenBy e)) (x.takenBy b)
  if k = 0 then s else s.dropFrames l k

/-- Parity failures of frames as they are first read (R328). -/
def State.countParity (s : State) (l : Nat) (frame : List FifoEntry) : State :=
  s.bump (laneReg l 0x18) 16 (frame.filter (fun e => !e.ok)).length

/-- The distribution lanes' frames that were counted before RUNNING takes effect are taken and not delivered (R336). -/
def State.dropEarly (s : State) : State :=
  (List.range 64).foldl (fun s l =>
    if s.laneMode l = 1 then
      let fs := wholeFrames [] (s.lane l).fifo
      ((fs.drop (s.lane l).readUpTo).foldl (fun s f => s.countParity l f) s).dropFrames l fs.length
    else s) s

/-- The entry router of a distribution message for pane p: the west port of its row (R130). -/
def westRouter (p : Nat) : Nat := rowOf p * 32

/-- The message that carries frame f of a stream's class tick: slot k of it at index f * NSLOT + (k - FIRST), from the entry
router, with the tag of that tick (R96, R334). -/
def State.streamMsg (s : State) (b n l f : Nat) (frame : List FifoEntry) : Msg :=
  let a := s.streamA b n
  let c := s.streamB b n
  let nslot := c.fld 0 5 + 1
  let ws := (frame.drop (a.fld 22 5)).take nslot
  { kind := .post, sub := 0, vn := false, dev := s.partNo, dest := a.fld 0 10, chan := a.fld 10 6, index := f * nslot,
    srcDev := s.partNo, srcPane := westRouter (a.fld 0 10), tag := s.ordinal (c.fld 16 2) s.tick % 256,
    words := ws.map (fun e => formatWord (s.sipFormat (l / 8)) e.word), poison := ws.map (fun e => !e.ok), id := 0,
    tick := s.tick, relay := none }

/-- A distribution message at its receiver: stored, or misrouted (R101, R104). What the engine makes of an acknowledgement the spec
does not say, so none is sent (log 123). -/
def State.landStream (s : State) (m : Msg) : State :=
  let q := s.pane m.dest
  match (if q.inValid m.chan && decide (m.index + m.words.length ≤ q.inSize m.chan) then
      q.copyOf m.chan (m.srcDev * 1024 + m.srcPane) else none) with
  | none => (s.modPane m.dest (fun q => q.bump 0x828 16 1)).paneEdge m.dest 19
  | some copy => s.setPane m.dest (q.setChan m.chan ((q.chanOf m.chan).take copy m))

/-- A distribution message on its way (R93, R126, R130): it meets flit errors, and is lost at a dead router. -/
def State.sendStream (s : State) (m : Msg) (key : Nat) (e : FlitErr) : State :=
  if !s.arrives m.srcPane m.dest key then s
  else match s.flit e m with
    | (none, s1) => s1
    | (some m1, s1) => s1.landStream m1

/-- Deliver one frame to one stream (R334 to R336). -/
def State.feedStream (s : State) (b n l : Nat) (frame : List FifoEntry) (e : FlitErr) : State :=
  let key := b * 256 + n
  let f := SMap.get (fun _ => 0) s.streamF key
  if !s.ticking then s
  else if f ≥ (s.streamB b n).fld 5 10 then s.bump (Config.dist b + 4) 16 1
  else
    let s1 : State := { s with streamF := SMap.put s.streamF key (f + 1) }
    s1.sendStream (s1.streamMsg b n l f frame) (distKey b n) e

/-- DISTRIBUTION_WRITE: the engine of a bay takes the oldest whole frame of a distribution lane that it has not taken, and writes its
streams; a frame leaves the FIFO once every engine with a stream on the lane has taken it (R328, R334 to R336). A receiver in
a closed sash is woken first (R568). -/
def execDistributionWrite (bay : BitVec 3) (feed : LaneFeed) (s : State) : Host.Outcome State Fault Refusal :=
  let b := bay.toNat
  let l := feed.lane.toNat
  let x := s.lane l
  let k := x.takenBy b
  match (wholeFrames [] x.fifo)[k]? with
  | none => .next s
  | some frame =>
    if s.laneMode l != 1 || s.bayFaulted b || !s.domOpen (64 + b) then .next s
    else match (s.streamsOf b l).find? (fun n => !s.paneUp ((s.streamA b n).fld 0 10)) with
      | some n => .next (s.wake (sashOf ((s.streamA b n).fld 0 10)))
      | none =>
        let s1 := if x.readUpTo ≤ k then s.countParity l frame else s
        let s2 := (s1.streamsOf b l).foldl (fun s n =>
          s.feedStream b n l frame (((feed.errs.find? (fun e => e.1 == n)).map Prod.snd).getD .none)) s1
        .next ((s2.setLane l { x with taken := SMap.put x.taken b (k + 1) }).releaseTaken l)

/-! Direct reads and flushes (R329, R330). -/

/-- A read of RXDATA of lane l (R328, R329): the 64-bit value and what it does to the lane. -/
def State.readRx (s : State) (l : Nat) : DWord × State :=
  let x := s.lane l
  match s.laneMode l, x.fifo with
  | 2, e :: rest =>
    let v := (formatWord (s.sipFormat (l / 8)) e.word).toNat + 2 ^ 32 + (!e.ok).toNat * 2 ^ 33 + e.fin.toNat * 2 ^ 34
    let s1 := if e.ok then s else s.bump (laneReg l 0x18) 16 1
    (BitVec.ofNat 64 v, (s1.setLane l { x with fifo := rest }).watermark l x.fifo.length rest.length)
  | _, _ => (0, s)

/-- RXDATA_READ. -/
def execRxdataRead (g lane : BitVec 3) (s : State) : Host.Outcome State Fault Refusal :=
  let r := s.readRx (8 * g.toNat + lane.toNat)
  .next { r.2 with rdata := r.1 }

/-- Flush the lanes of a group that are in direct mode (R330). A frame under way is discarded when it ends. -/
def State.flush (s : State) (g : Nat) (mask : Nat) : State :=
  (List.range 8).foldl (fun s k =>
    let l := 8 * g + k
    let x := s.lane l
    if mask.testBit k && s.laneMode l == 2 then
      ((s.bump (laneReg l 0x24) 16 (x.fifo.filter (fun e => e.fin)).length).setLane l
        { x with fifo := [], flushAt := s.now }).watermark l x.fifo.length 0
    else s) s

/-- FLUSH. -/
def execFlush (g : BitVec 3) (mask : BitVec 8) (s : State) : Host.Outcome State Fault Refusal :=
  .next (s.flush g.toNat mask.toNat)

/-! Drive posts (R343). -/

/-- Address of a register of drive slot d: SLOT_CFG at 0, SRC0 to SRC2 at 4, 8, 12. -/
def slotReg (d off : Nat) : Nat := Config.dop (d / 64) + 0x400 + 16 * (d % 64) + off
/-- SLOT_CFG. -/
def State.slotCfg (s : State) (d : Nat) : Word := s.rd (slotReg d 0)
/-- The slot is valid. -/
def State.slotValid (s : State) (d : Nat) : Bool := (s.slotCfg d).bit 0
/-- COPIES: 1, 2 or 3 copies. -/
def State.slotCopies (s : State) (d : Nat) : Nat := (s.slotCfg d).fld 1 2 + 1
/-- The slot's class. -/
def State.slotClass (s : State) (d : Nat) : Nat := (s.slotCfg d).fld 3 2
/-- The source of copy c of a slot. -/
def State.slotSrc (s : State) (d c : Nat) : Nat := (s.rd (slotReg d (4 + 4 * c))).fld 0 13
/-- The slot's record. -/
def State.slot (s : State) (d : Nat) : DriveSlot := SMap.get (fun _ => DriveSlot.reset) s.drv d
/-- Replace it. -/
def State.setSlot (s : State) (d : Nat) (x : DriveSlot) : State := { s with drv := SMap.put s.drv d x }

/-- The copy a sender is (R343, step 1). -/
def State.slotCopy (s : State) (d src : Nat) : Option Nat :=
  (List.range 3).find? (fun c => decide (c < s.slotCopies d) && s.slotSrc d c == src)

/-- The back half of a copy. -/
def DriveSlot.back (x : DriveSlot) (c : Nat) : Option DriveWord := if c = 0 then x.b0 else if c = 1 then x.b1 else x.b2
/-- Write the back half of a copy. -/
def DriveSlot.setBack (x : DriveSlot) (c : Nat) (v : Option DriveWord) : DriveSlot :=
  if c = 0 then { x with b0 := v } else if c = 1 then { x with b1 := v } else { x with b2 := v }

/-- A drive post at its slot (R343), held early when `hold`. -/
def State.deliverDrive (s : State) (m : Msg) (hold : Bool) : State :=
  let d := m.dest % 128
  let g := Config.dop (d / 64)
  let r := driveRouter (d / 64) (m.dest / 512)
  let mis := (s.bump (g + 0x24) 16 1).ackFor m r 2
  match (if s.slotValid d then s.slotCopy d (m.srcDev * 1024 + m.srcPane) else none) with
  | none => mis
  | some c =>
    let diff := tagDiff m.tag (s.ordinal (s.slotClass d) s.tick)
    if diff = 0 then
      let x := s.slot d
      if (x.back c).isSome then mis
      else
        (s.setSlot d (x.setBack c (some { word := m.words.headD 0, poison := m.poison.headD false }))).ackFor m r 0
    else if diff = 1 ∧ hold then { s with held := s.held ++ [m] }
    else if diff = 1 then s
    else (s.bump (g + 0x20) 16 1).ackFor m r 1

/-- DRIVE_POST: a drive post reaches its slot's entry (R93, R343). -/
def execDrivePost (src : MsgFrom) (e : FlitErr) (s : State) : Host.Outcome State Fault Refusal :=
  match s.takeMsg src .drivePost with
  | none => .next s
  | some (m, s1) =>
    match s1.flit e m with
    | (none, s2) => .next s2
    | (some m', s2) => .next (s2.deliverDrive m' true)

/-- HELD_POST_DELIVERY: the k-th message held at its router is delivered once its tick's back half is open (R64). -/
def execHeldPostDelivery (k : Nat) (s : State) : Host.Outcome State Fault Refusal :=
  match s.held[k]? with
  | none => .next s
  | some m =>
    let cls := match m.kind with
      | .reduce => s.groupClass m.chan
      | .drivePost => s.slotClass (m.dest % 128)
      | _ => (s.pane (m.dest % 1024)).inClass m.chan
    let d := tagDiff m.tag (s.ordinal cls s.tick)
    if d = 1 then .next s
    else
      let s1 : State := { s with held := s.held.eraseIdx k }
      match m.kind with
      | .reduce =>
        if d = 0 then .next ((s1.storeRed m).ackFor m m.dest 0)
        else .next (((s1.modPane (m.dest % 1024) (fun q => q.bump 0x11C 16 1)).paneEdge (m.dest % 1024) 20).ackFor m
          m.dest 1)
      | .drivePost => .next (s1.deliverDrive m false)
      | _ => .next (s1.deliver m false)

end Sys2Proof.Machine
end

