-- ==== Sys2Proof/Machine/Bolt.lean ====
section
/-!
DEFINITION. The bolt and drive redundancy (R357 to R390): entries and trips, the interlock pins, the resolution of
redundant copies, overrides, and the drive frame from commit to pin (R339 to R353).
-/
namespace Sys2Proof.Machine

/-! Entries and limits (R359 to R364). -/

/-- The limit registers of an entry: entries 0 to 63 are taps, 64 + s watches drive slot s (R390). -/
def limitReg (e off : Nat) : Nat :=
  if e < 64 then Config.bolt + 0x104 + 32 * e + off else Config.bolt + 0x1000 + 32 * (e - 64) + off
/-- PEAK, RMS and RATE of an entry; 0 disables. -/
def State.limPeak (s : State) (e : Nat) : Nat := (s.rd (limitReg e 0)).toNat
def State.limRms (s : State) (e : Nat) : Nat := (s.rd (limitReg e 4)).toNat
def State.limRate (s : State) (e : Nat) : Nat := (s.rd (limitReg e 8)).toNat
/-- TAP_CTL or SLOT_CTL. -/
def State.limCtl (s : State) (e : Nat) : Word := s.rd (limitReg e 12)
/-- WARN, PERSIST and ACTION. -/
def State.limWarn (s : State) (e : Nat) : Nat := (s.limCtl e).fld 0 8
def State.limPersist (s : State) (e : Nat) : Nat := (s.limCtl e).fld 8 8
def State.limAction (s : State) (e : Nat) : Nat := (s.limCtl e).fld 20 2
/-- The window length w. RMS_LOG2 of 16 reads 0 in its 4-bit field, as start allows 4 to 16 only (R389). -/
def State.limWindow (s : State) (e : Nat) : Nat :=
  let n := (s.limCtl e).fld 16 4
  if n = 0 then 65536 else 2 ^ n

/-- An entry of the bolt. -/
def State.bent (s : State) (e : Nat) : BoltEntry := SMap.get (fun _ => BoltEntry.reset) s.bolt.ents e
/-- Replace it. -/
def State.setBent (s : State) (e : Nat) (x : BoltEntry) : State :=
  { s with bolt := { s.bolt with ents := SMap.put s.bolt.ents e x } }

/-- The sum of squares of a window. -/
def sumSq (l : List Int) : Nat := l.foldl (fun a x => a + x.natAbs * x.natAbs) 0

/-- The kinds exceeded by an evaluation of `x` (R360), rising: 0 peak, 1 RMS, 2 rate. -/
def exceeded (peak rms rate w sq : Nat) (x prev : Int) : List Nat :=
  (if peak ≠ 0 ∧ x.natAbs > peak then [0] else []) ++
  (if rms ≠ 0 ∧ sq > rms * rms * w then [1] else []) ++
  (if rate ≠ 0 ∧ (x - prev).natAbs > rate then [2] else [])

/-- The kinds in warning (R360). -/
def warning (peak rms rate frac w sq : Nat) (x prev : Int) : List Nat :=
  if frac = 0 then []
  else
    (if 256 * x.natAbs > peak * frac ∧ peak ≠ 0 then [0] else []) ++
    (if 65536 * sq > rms * frac * (rms * frac) * w ∧ rms ≠ 0 then [1] else []) ++
    (if 256 * (x - prev).natAbs > rate * frac ∧ rate ≠ 0 then [2] else [])

/-- Trips are latched in RUNNING and HOLDING, and kills in ABORTED too (R363, R365). -/
def PartState.latches (p : PartState) (action : Nat) : Bool :=
  p == .running || p == .holding || (p == .aborted && action == 2)

/-- Latch a trip with its cause and ACTION (R363). -/
def State.latchTrip (s : State) (cause action : Nat) : State :=
  if s.part.latches action then
    { s.bump (Config.bolt + 0x20) 16 1 with bolt := { s.bolt with trips := s.bolt.trips ++ [(cause, action)] } }
  else s

/-- RUN, KIND and the trip of one evaluation with the exceedances `ks` (R362). -/
def State.boltRun (s : State) (e : Nat) (ks : List Nat) : State :=
  let x := s.bent e
  match ks with
  | [] => s.setBent e { x with run := 0 }
  | k :: _ =>
    let s1 := s.setBent e { x with run := min 255 (x.run + 1), kind := k }
    if x.run + 1 = s.limPersist e then s1.latchTrip (4 * e + k) (s.limAction e) else s1

/-- Evaluate `x` at an entry, with `extra` exceedances beside those of the limits (R360, R361). -/
def State.boltEval (s : State) (e : Nat) (x : Int) (extra : List Nat) : State :=
  let b := s.bent e
  let w := s.limWindow e
  let hist := (x :: b.hist).take w
  let sq := sumSq hist
  let ks := exceeded (s.limPeak e) (s.limRms e) (s.limRate e) w sq x b.prev ++ extra
  let ws := warning (s.limPeak e) (s.limRms e) (s.limRate e) (s.limWarn e) w sq x b.prev
  (s.setBent e { b with hist := hist, prev := x, warn := ws.head? }).boltRun e ks

/-- TAP_SRC of tap i. -/
def State.tapSrc (s : State) (i : Nat) : Word := s.rd (Config.bolt + 0x100 + 32 * i)

/-- The tap's sample of one counted frame (R359, R361). -/
def State.tapSample (s : State) (i : Nat) (frame : List FifoEntry) : State :=
  let c := s.tapSrc i
  match frame[c.fld 6 5]? with
  | none => s
  | some f =>
    if f.ok then s.boltEval i (formatWord (s.sipFormat (c.fld 0 3)) f.word).toInt []
    else (s.bump (Config.bolt + 0x30) 16 1).boltEval i (s.bent i).prev (if c.bit 11 then [3] else [])

/-- Evaluate tap i over the frames counted at this close; a tick of RUNNING or HOLDING with none is stale (R359,
R361). -/
def State.tapTick (s : State) (i : Nat) : State :=
  let c := s.tapSrc i
  if !c.bit 31 then s
  else
    let fr := (s.lane (c.fld 0 3 * 8 + c.fld 3 3)).frames
    if fr.isEmpty then
      if s.part == .running || s.part == .holding then
        let s1 := s.bump (Config.bolt + 0x34) 16 1
        if c.bit 12 then s1.boltRun i [3] else s1
      else s
    else fr.foldl (fun s f => s.tapSample i f) s

/-- The lowest limit number in warning (R364). -/
def State.warnFirst (s : State) : Option Nat :=
  (s.bolt.ents.filterMap (fun e => e.2.warn.map (fun k => 4 * e.1 + k))).head?

/-- The live bit of bell source 12 follows the entries (R364). -/
def State.boltWarn (s : State) : State :=
  let s1 : State := { s with bolt := { s.bolt with warnLive := s.warnFirst.isSome } }
  match s.warnFirst, s.bolt.warnLive with
  | some n, false => s1.raise allBells 12 .rise n
  | none, true => s1.raise allBells 12 .fall 0
  | _, _ => s1

/-- The taps at a close (R371, first part). -/
def State.boltTaps (s : State) : State :=
  ((List.range 64).foldl (fun s i => s.tapTick i) s).boltWarn

/-! Taking trips (R366, R369, R371, R372, R377). -/

/-- The action code of R377 for a mode that begins. -/
def BoltMode.actionCode : BoltMode → Nat
  | .pass => 4
  | .rampHold => 0
  | .rampAbort => 1
  | .zero => 2
  | .killed => 3

/-- An action begins, with its cause: bell source 13, and RAMP_DONE and the ramp's frames start afresh (R364, R377). -/
def State.beginAction (s : State) (m : BoltMode) (c : Option Nat) : State :=
  ({ s with bolt := { s.bolt with mode := m, cause := c, rampDone := false, framed := false, rampFrames := 0,
                                  kill := s.bolt.kill || m == .killed },
            tokenEvents := (s.tokenEvents.1, s.tokenEvents.2.1 + 1, s.tokenEvents.2.2) } : State).edge
    allBells 13 m.actionCode

/-- The strongest action of some trips (R372). -/
def strongest (ts : List (Nat × Nat)) : Nat := ts.foldl (fun a t => max a t.2) 0
/-- The lowest cause of some trips. -/
def lowestCause (ts : List (Nat × Nat)) : Nat := ts.foldl (fun a t => min a t.1) 4095

/-- BOLT.TRIP after trips with lowest cause `c` and action code `a`: the trips of the first boundary that takes any, at its decision
point or at its drive check, leave their lowest cause and strongest action (R372). -/
def State.noteTrip (s : State) (c a : Nat) : State :=
  let w := s.rd (Config.bolt + 0xC)
  if !w.bit 31 then
    ({ s with bolt := { s.bolt with tripTick := s.nextTick } } : State).wr (Config.bolt + 0xC)
      (BitVec.ofNat 32 (c + a * 2 ^ 12 + 2 ^ 31))
  else if s.bolt.tripTick = s.nextTick then
    s.wr (Config.bolt + 0xC) (BitVec.ofNat 32 (min c (w.fld 0 12) + max a (w.fld 12 3) * 2 ^ 12 + 2 ^ 31))
  else s

/-- Take the latched trips (R371, R372): the strongest action replaces a weaker one in force, TRIP records the lowest
cause of the first ones, every trip is logged and is a cause of the state change. The model's log code of a trip is
0x0400 + the action code (log 23). -/
def State.takeTrips (s : State) : State :=
  let ts := s.bolt.trips
  if ts.isEmpty then s
  else
    let m := BoltMode.ofAction (strongest ts)
    let s1 : State := { s with bolt := { s.bolt with trips := [] }, causes := s.causes ++ ts.map (fun t => .bolt t.1) }
    let s2 := ts.foldl (fun s t => s.logEv (0x0400 + (BoltMode.ofAction t.2).actionCode) [t.1]) s1
    let s3 := s2.noteTrip (lowestCause ts) m.actionCode
    if s3.bolt.mode.code < m.code then s3.beginAction m (some (lowestCause ts)) else s3

/-! The interlock pins (R365, R370). -/

/-- The bolt domain is open: from the first boundary of READY until OFF (R357). -/
def PartState.boltUp (p : PartState) : Bool := p != .off && p != .starting

/-- An interlock pin. -/
def Bolt.pin (b : Bolt) (door : Bool) : Interlock := if door then b.door else b.abortIn
/-- Replace it. -/
def Bolt.setPin (b : Bolt) (door : Bool) (x : Interlock) : Bolt :=
  if door then { b with door := x } else { b with abortIn := x }

/-- INTERLOCK_PIN_CHANGE: ABORT_IN_N or DOOR_IN_N changes level at time t (R365). -/
def execInterlockPinChange (door high : Bool) (t : Nat) (s : State) : Host.Outcome State Fault Refusal :=
  let p := s.bolt.pin door
  let s1 := s.at t
  .next (if p.high = high then s1
    else { s1 with bolt := s1.bolt.setPin door { p with high := high, since := s1.now } })

/-- The action of an interlock pin, ABORT_IN_ACT or DOOR_ACT. -/
def State.pinAction (s : State) (door : Bool) : Nat := (s.rd (Config.bolt + 4)).fld (if door then 2 else 0) 2

/-- INTERLOCK_FILTER_EXPIRY: the pin has had its level for PIN_FILTER * 100 ns, so the filtered state follows it, once the bolt
samples its inputs from the first boundary of READY on (R365). An assertion is latched as a trip with cause 768 or 769; a kill drives DRIVE_KILL_N low at once (R371). -/
def execInterlockFilterExpiry (door : Bool) (t : Nat) (s : State) : Host.Outcome State Fault Refusal :=
  let s1 := s.at t
  let p := s1.bolt.pin door
  if !s1.acquires || s1.now < p.since + (s1.rd (Config.bolt + 4)).fld 8 8 * 100 || p.asserted != p.high then .next s1
  else
    let s2 : State := { s1 with bolt := s1.bolt.setPin door { p with asserted := !p.high } }
    let a := s2.pinAction door
    if p.high then .next s2
    else
      let s3 := s2.latchTrip (if door then 769 else 768) a
      .next (if a = 2 && s2.part.latches a then { s3 with bolt := { s3.bolt with kill := true } } else s3)

/-! Resolution (R345, R346, R378 to R384). -/

/-- RED_STATE of a slot. -/
def redReg (d : Nat) : Nat := Config.bolt + 0x1018 + 32 * d
/-- Sole mode. -/
def State.sole (s : State) (d : Nat) : Bool := (s.rd (redReg d)).bit 0
/-- The chosen copy. -/
def State.soleCopy (s : State) (d : Nat) : Nat := (s.rd (redReg d)).fld 1 2
/-- Copy c is suspect. -/
def State.suspect (s : State) (d c : Nat) : Bool := (s.rd (redReg d)).bit (3 + c)
/-- RES1 of a slot. -/
def State.res1 (s : State) (d : Nat) : Word := s.rd (Config.bolt + 0x101C + 32 * d)
/-- LAST of a slot (R349). -/
def lastReg (d : Nat) : Nat := Config.dop (d / 64) + 0x100 + 4 * (d % 64)
def State.lastOf (s : State) (d : Nat) : Word := s.rd (lastReg d)

/-- How a copy stands at a boundary: absent, fault (disqualified with an indication other than poison), poisoned
alone, or qualified (R378). -/
inductive CopyStand where
  | absent
  | fault
  | poison (w : Word)
  | good (w : Word)
  deriving DecidableEq, Repr

/-- Judge copy c of slot d; `ok` says of a sender that its WAITT retired, that it reported no fault, and that it is
not retired (R378). The word of a single-copy slot needs only to have been committed (R345): `came` says that its sender
has not overrun and is not retired (R76, R346). -/
def State.standOf (s : State) (came ok : Nat → Bool) (d c : Nat) : CopyStand :=
  let src := s.slotSrc d c
  match (s.slot d).back c with
  | none => .absent
  | some w =>
    if (if s.slotCopies d = 1 then !came src
        else !ok src || s.suspect d c || (src / 1024 == s.partNo && s.bayFaulted (bayOf (src % 1024)))) then .fault
    else if w.poison then .poison w.word else .good w.word

/-- The copies that are judged: one in sole mode (R382). -/
def State.judged (s : State) (d : Nat) : List Nat :=
  if s.sole d then [s.soleCopy d] else List.range (s.slotCopies d)

/-- The qualified copies and their words. -/
def goods (l : List (Nat × CopyStand)) : List (Nat × Word) :=
  l.filterMap (fun x => match x.2 with
    | .good w => some (x.1, w)
    | _ => none)

/-- The word of the lowest copy disqualified by poison alone. -/
def poisoned (l : List (Nat × CopyStand)) : Option Word :=
  (l.filterMap (fun x => match x.2 with
    | .poison w => some w
    | _ => none)).head?

/-- What resolution yields. -/
inductive Candidate where
  | word (w : Word)
  /-- A poisoned word: LAST goes in its place (R347). -/
  | poison
  /-- LAST, with no UNDERRUN bit. -/
  | held
  /-- None: an underrun (R346). -/
  | none
  deriving DecidableEq, Repr

/-- pred of the reference check (R381). -/
def State.pred (s : State) (d : Nat) : Int :=
  (satInt32 (2 * (s.res1 d).toInt - (s.slot d).res2.toInt)).toInt

/-- The distance of a word from pred. -/
def State.predDist (s : State) (d : Nat) (w : Word) : Nat := (w.toInt - s.pred d).natAbs

/-- The copy the reference check chooses, if either agrees (R381). -/
def State.refCheck (s : State) (d : Nat) (a b : Nat × Word) : Option (Nat × Nat) :=
  let tol := (s.rd (Config.bolt + 0x1014 + 32 * d)).toNat
  let da := s.predDist d a.2
  let db := s.predDist d b.2
  if da ≤ tol ∧ (da ≤ db ∨ db > tol) then some (a.1, b.1)
  else if db ≤ tol then some (b.1, a.1)
  else none

/-- A sender is a pane of this part that is retired. -/
def State.srcRetired (s : State) (src : Nat) : Bool := src / 1024 == s.partNo && (s.pane (src % 1024)).retired

/-- Copy `bad` of slot d is suspect, and the bolt reports it to the lintel, which retires its pane (R382). -/
def State.makeSuspect (s : State) (d bad : Nat) : State :=
  let src := s.slotSrc d bad
  let s1 := s.setBits (redReg d) (1#32 <<< (3 + bad))
  s1.reportLintel (s.suspectOf src d)

/-- Hinge `x` is dead (R583). -/
def State.hingeDead (s : State) (x : Nat) : Bool := (s.rd (Config.fault + 0xC)).bit x

/-- A primary with another copy, in the column of a dead hinge, is suspect (R28, R583). -/
def State.hingeSuspect (s : State) (p : Nat) : Bool :=
  s.hingeDead (colOf p) && (s.pane p).hasTask && (s.pane p).role == 0 &&
    (s.fv 2 5 p 0 != 0xFFFF || s.fv 2 6 p 0 != 0xFFFF)

/-- Copy c of slot d is suspect at the bolt, or its sender is retired or suspect for its hinge (R28, R378, R382). -/
def State.copyOut (s : State) (d c : Nat) : Bool :=
  let src := s.slotSrc d c
  s.suspect d c || s.srcRetired src || (src / 1024 == s.partNo && s.hingeSuspect (src % 1024))

/-- The slot goes to sole mode on `keep`, unless a third copy remains that is neither suspect nor retired (R382). -/
def State.soleOn (s : State) (d keep : Nat) : State :=
  let others := (List.range (s.slotCopies d)).filter (fun c => c != keep && !s.copyOut d c)
  if others.isEmpty then s.wr (redReg d) (((s.rd (redReg d)).withFld 1 2 keep).withBit 0 true) else s

/-- Bell source 10 or 11: a held mismatch or a dissent at slot d (R384). -/
def State.mismatch (s : State) (d : Nat) : State := s.edge allBells (10 + d / 64) d

/-- Two qualified copies that differ (R380 to R383). -/
def State.resolveDiffer (s : State) (d : Nat) (a b : Nat × Word) : State × Candidate :=
  let s1 := (s.bump (Config.bolt + 0x28) 16 1).mismatch d
  match s.refCheck d a b with
  | some (keep, bad) => ((s1.makeSuspect d bad).soleOn d keep, .held)
  | none => (s1.latchTrip 772 0, .held)

/-- Three qualified copies (R383). -/
def State.resolveThree (s : State) (d : Nat) (a b c : Nat × Word) : State × Candidate :=
  let dissent := fun (bad : Nat) (w : Word) =>
    ((((s.bump (Config.bolt + 0x2C) 16 1).mismatch d).makeSuspect d bad), Candidate.word w)
  if a.2 = b.2 then (if c.2 = a.2 then (s, .word a.2) else dissent c.1 a.2)
  else if a.2 = c.2 then dissent b.1 a.2
  else if b.2 = c.2 then dissent a.1 b.2
  else (s.latchTrip 773 0, .held)

/-- Resolve slot d at a boundary of its class (R345, R346, R380, R383). In sole mode the rows for one copy apply, the
count of FAILOVERS among them (log 24). -/
def State.resolve (s : State) (came ok : Nat → Bool) (d : Nat) : State × Candidate :=
  let l := (s.judged d).map (fun c => (c, s.standOf came ok d c))
  match goods l with
  | [] => (s, match poisoned l with
              | some _ => .poison
              | none => .none)
  | [a] => (if s.slotCopies d > 1 then s.bump (Config.bolt + 0x24) 16 1 else s, .word a.2)
  | [a, b] => if a.2 = b.2 then (s, .word a.2) else s.resolveDiffer d a b
  | a :: b :: c :: _ => s.resolveThree d a b c

/-! Bits of the drive slots (R346, R347, R353). -/

/-- The UNDERRUN bits of group g. -/
def State.underrunBits (s : State) (g : Nat) : Nat :=
  (s.rd (Config.dop g + 8)).toNat + (s.rd (Config.dop g + 0xC)).toNat * 2 ^ 32

/-- Set the UNDERRUN bit of slot d and count: bell source 8 or 9 rises with the first (R346, R353). -/
def State.underrun (s : State) (d : Nat) : State :=
  let g := d / 64
  let k := d % 64
  let s1 := (s.setBits (Config.dop g + 8 + 4 * (k / 32)) (1#32 <<< (k % 32))).bump (Config.dop g + 0x18) 16 1
  if s.underrunBits g = 0 then s1.raise allBells (8 + g) .rise d else s1

/-- Set the POISON bit of slot d and count (R347). -/
def State.drivePoison (s : State) (d : Nat) : State :=
  let g := d / 64
  let k := d % 64
  (s.setBits (Config.dop g + 0x10 + 4 * (k / 32)) (1#32 <<< (k % 32))).bump (Config.dop g + 0x1C) 16 1

/-- The resolved value of slot d at a boundary of its class: the candidate, or LAST in its place; RES1 and RES2 follow
it (R346, R347, R359, R381). -/
def State.resolveSlot (s : State) (came ok : Nat → Bool) (d : Nat) : State :=
  let last := s.lastOf d
  let r := s.resolve came ok d
  let v := match r.2 with
    | .word w => w
    | _ => last
  let s1 := match r.2 with
    | .poison => r.1.drivePoison d
    | .none => r.1.underrun d
    | _ => r.1
  let x := s1.slot d
  (s1.setSlot d { x with b0 := none, b1 := none, b2 := none, cur := some v, res2 := s1.res1 d }).wr
    (Config.bolt + 0x101C + 32 * d) v

/-- The valid slots. -/
def State.validSlots (s : State) : List Nat := (List.range 128).filter s.slotValid

/-- A slot's class has a boundary at tick n. -/
def State.slotDue (s : State) (n d : Nat) : Bool := n % s.mult (s.slotClass d) == 0

/-- The copies' words of the ending class tick are gone (R343). -/
def DriveSlot.spent (x : DriveSlot) : DriveSlot := { x with b0 := none, b1 := none, b2 := none }

/-- A boundary that starts tick n in a state that resolves no slot: each due slot's copies may post again (R343, R351). -/
def State.spendSlots (s : State) (n : Nat) : State :=
  s.validSlots.foldl (fun s d => if s.slotDue n d then s.setSlot d (s.slot d).spent else s) s

/-- A slot in sole mode returns to comparison mode at the first boundary of its class at which the word of the copy that took a
suspect's place is committed (R382). -/
def State.unSole (s : State) (came : Nat → Bool) (d : Nat) : State :=
  if s.sole d && (List.range (s.slotCopies d)).any (fun c => c != s.soleCopy d && !s.copyOut d c &&
      came (s.slotSrc d c) && ((s.slot d).back c).isSome) then s.clrBits (redReg d) 1#32 else s

/-- Resolution and the evaluation of the drive entries at the boundary that starts tick n (R345, R359, R371). -/
def State.driveCheck (s : State) (came ok : Nat → Bool) (n : Nat) : State :=
  (s.validSlots.foldl (fun s d =>
    let s1 := if s.slotDue n d then (s.unSole came d).resolveSlot came ok d else s
    s1.boltEval (64 + d) (((s1.slot d).cur.getD (s1.lastOf d)).toInt) []) s).boltWarn

/-! Overrides and the frame (R349 to R352, R366, R373, R374). -/

/-- One step of a ramp (R373). -/
def rampStep (last : Word) (step : Nat) : Word :=
  if last.toInt.natAbs ≤ step ∨ step = 0 then 0#32
  else if last.toInt < 0 then BitVec.ofInt 32 (last.toInt + step) else BitVec.ofInt 32 (last.toInt - step)

/-- The value of valid slot d that leaves the bolt (R349, R351, R373). -/
def State.outValue (s : State) (d : Nat) : Word :=
  match s.part with
  | .running | .holding | .aborted =>
    match s.bolt.mode with
    | .pass => (s.slot d).cur.getD (s.lastOf d)
    | .rampHold | .rampAbort => rampStep (s.lastOf d) (s.rd (Config.bolt + 0x1010 + 32 * d)).toNat
    | .zero | .killed => 0#32
  | _ => 0#32

/-- GROUP_CFG.EN, SLOTS and LANE_EN of drive group g. -/
def State.dopEn (s : State) (g : Nat) : Bool := (s.rd (Config.dop g)).bit 0
def State.dopSlots (s : State) (g : Nat) : Nat := (s.rd (Config.dop g)).fld 1 3 + 1
/-- Slot d is sent: its group and lane are enabled and it lies within the frame. -/
def State.slotSent (s : State) (d : Nat) : Bool :=
  s.dopEn (d / 64) && (s.rd (Config.dop (d / 64) + 4)).bit (d / 8 % 8) && decide (d % 8 < s.dopSlots (d / 64))

/-- Write an entry of slot d's lane FIFO (R350). -/
def State.pushDrive (s : State) (d : Nat) (v : Word) : State :=
  if s.severed (64 + d / 8) then s.discards (64 + d / 8) 1
  else
    let x := s.slot d
    let e : FifoEntry := { word := v, ok := true, fin := d % 8 + 1 == s.dopSlots (d / 64) }
    s.setSlot d { x with fifo := (x.fifo ++ [e]).take 2 }

/-- The mirror target of slot d (R352). -/
def State.mirrorOf (s : State) (d : Nat) : Option Nat :=
  if (s.slotCfg d).bit 19 then some ((s.slotCfg d).fld 12 7) else none

/-- What slot d carries in a frame: its value if it is valid, its source's if it is a mirror target (R349, R352); 0 in a slot that the
image does not use (log 125). -/
def State.frameValue (s : State) (d : Nat) : Word :=
  if s.slotValid d then s.outValue d
  else match s.validSlots.find? (fun x => s.mirrorOf x == some d) with
    | some x => s.outValue x
    | none => 0#32

/-- The port writes the frame of a boundary, whole for every enabled lane (R350). -/
def State.frameWrite (s : State) : State :=
  let s1 := (((List.range 128).filter s.slotSent).map (fun d => (d, s.frameValue d))).foldl (fun t x => t.pushDrive x.1 x.2) s
  let n := if s1.bolt.mode == .rampAbort then s1.bolt.rampFrames + 1 else s1.bolt.rampFrames
  { s1 with drvDue := [0, 1].filter s.dopEn, bolt := { s1.bolt with framed := true, rampFrames := n } }

/-- DRIVE_KILL_N is low: driven so, or floating on its pull-down without VDDIO_18 (R366, R648, R654). -/
def State.killLow (s : State) : Bool := s.bolt.kill || s.lostSupplies.contains 5

/-- Every valid slot's last frame held 0. -/
def State.drivesZero (s : State) : Bool := s.validSlots.all (fun d => s.lastOf d == 0)

/-- The trip of a ramp under ABORTED that RAMP_LIMIT frames have not ended: a kill with cause 774, taken at the drive check. Trips
latched beside it wait for their own point (R371, R374). -/
def State.rampLimit (s : State) : State :=
  let lim := (s.rd (Config.bolt + 8)).toNat
  if s.part == .aborted && s.bolt.mode == .rampAbort && lim != 0 && decide (s.bolt.rampFrames ≥ lim) && !s.drivesZero then
    let s1 := (({ s with bolt := { s.bolt with trips := [] } } : State).latchTrip 774 2).takeTrips
    { s1 with bolt := { s1.bolt with trips := s.bolt.trips } }
  else s

/-- RAMP_LIMIT_EXPIRY: the limit runs out at the coming boundary. The ramp's last frame has left by then (R374; log 25). -/
def execRampLimitExpiry (s : State) : Host.Outcome State Fault Refusal :=
  .next (if s.gen.on && s.drvDue.isEmpty then s.early State.rampLimit else s)

/-- A bad entry of slot d: the POISON bit, and the drive entry of a valid slot evaluates LAST, in the states in which drive entries are
evaluated (R347, R350, R359; log 126). -/
def State.sendBad (s : State) (d : Nat) : State :=
  let s1 := s.drivePoison d
  if s.slotValid d && (s.part == .running || s.part == .holding || s.part == .aborted) then
    (s1.boltEval (64 + d) (s.lastOf d).toInt []).boltWarn
  else s1

/-- The serialiser sends the entry of slot d (R349, R350). The lane side of a severed lane sees no entry (R636). -/
def State.sendSlot (s : State) (missing bad : List Nat) (d : Nat) : State :=
  let x := s.slot d
  match x.fifo with
  | [] => s.underrun d
  | e :: rest =>
    let s1 := s.setSlot d { x with fifo := rest }
    if missing.contains d then s1.underrun d
    else if bad.contains d || !e.ok then s1.sendBad d
    else s1.wr (lastReg d) e.word

/-- After the frames of a boundary have left both groups: RAMP_DONE, and DRIVE_KILL_N in ABORTED once every valid slot has sent 0
under the action in force (R366). -/
def State.afterFrame (s : State) : State :=
  if s.bolt.mode == .pass || !s.bolt.framed || !s.drvDue.isEmpty || !s.drivesZero then s
  else { s with bolt := { s.bolt with rampDone := true, kill := s.bolt.kill || s.part == .aborted } }

/-- What lane `l` of group g sends at bit clock `i` after P: slot 0 bit 31 at bit clock 3, the slots without gaps, most significant bit
first, and low outside them (R340). A lane that is not enabled stays low (log 125). -/
def State.laneOut (s : State) (g l i : Nat) : Bool :=
  decide (3 ≤ i) && s.slotSent (64 * g + 8 * l + (i - 3) / 32) && decide ((i - 3) / 32 < 8)
    && (s.lastOf (64 * g + 8 * l + (i - 3) / 32)).bit (31 - (i - 3) % 32)

/-- A frame of group g at its pins, bit clock by bit clock from P: bit 8 is DOPg_FS, high for one bit clock, and bits 0 to 7 are the
data lanes (R340, R341). -/
def State.frameOut (s : State) (g : Nat) : List (BitVec 9) :=
  (List.range (4 + 32 * s.dopSlots g)).map (fun i =>
    BitVec.ofNat 9 ((if i = 0 then 256 else 0) + (List.range 8).foldl (fun n l => n + (s.laneOut g l i).toNat * 2 ^ l) 0))

/-- DOPg_CLK runs: from the configuration of the group in STARTING on, at its RATE (R339, R340). -/
def State.dopClk (s : State) (g : Nat) : Bool := s.part != .off && s.dopEn g

/-- Send the frame of group g: every slot in turn, LAST holds what left, and the pins show it. -/
def State.sendFrame (s : State) (g : Nat) (missing bad : List Nat) : State :=
  let s1 := ((List.range 64).filter (fun k => s.slotSent (64 * g + k))).foldl (fun s k => s.sendSlot missing bad (64 * g + k)) s
  ({ s1 with drvDue := s1.drvDue.filter (fun x => x != g), drvOut := SMap.put s1.drvOut g (s1.frameOut g) } : State).afterFrame

/-- DRIVE_FRAME_RELEASE: at P, once a boundary from the first one of READY on, the serialiser of group g reads the frame (R340, R350,
R353); that of a closed group runs no clock (R557). -/
def execDriveFrameRelease (g : Bool) (missing bad : List Nat) (s : State) : Host.Outcome State Fault Refusal :=
  if !s.drvDue.contains g.toNat then .next s
  else if s.domOpen (88 + g.toNat) then .next (s.sendFrame g.toNat missing bad)
  else .next { s with drvDue := s.drvDue.filter (fun x => x != g.toNat), drvOut := SMap.del s.drvOut g.toNat }

/-! What the state changes do to the bolt (R351, R360, R363, R364, R366, R376). -/

/-- The first boundary of READY: every window filled with zeros, and the pins sampled from now on (R357, R360,
R365). -/
def State.boltOpen (s : State) : State :=
  { s with bolt := { s.bolt with ents := [], abortIn := { s.bolt.abortIn with since := s.now },
                                 door := { s.bolt.door with since := s.now } } }

/-- RUNNING takes effect from READY: LAST of every slot is 0, RUN of every entry and prev of every drive entry are 0,
and DRIVE_KILL_N rises (R351, R360, R363, R366). -/
def State.boltStart (s : State) : State :=
  let s1 := (List.range 128).foldl (fun s d =>
    (s.wr (lastReg d) 0).setSlot d { (s.slot d).spent with cur := some 0#32 }) s
  let fresh := fun (e : Nat) (x : BoltEntry) => ({ x with run := 0, prev := if e < 64 then x.prev else 0 } : BoltEntry)
  { s1 with bolt := { s1.bolt with kill := false, ents := SMap.mapVal fresh s1.bolt.ents } }

/-- HOLD: a ramp under action code 0 (R376). -/
def State.boltHold (s : State) : State := if s.bolt.mode == .pass then s.beginAction .rampHold none else s

/-- RESUME into RUNNING: each drive entry's prev is its slot's LAST before the drive check (R376). -/
def State.resumePrev (s : State) : State :=
  s.validSlots.foldl (fun s d => s.setBent (64 + d) { (s.bent (64 + d)) with prev := (s.lastOf d).toInt }) s

/-- The override ends (R376). -/
def State.boltResume (s : State) : State := s.beginAction .pass none

/-- SHUTDOWN: zero, cause 776 (R364). In READY every slot sends 0 without it. -/
def State.boltShutdown (s : State) : State :=
  let s1 : State := { s with bolt := { s.bolt with before := (s.bolt.mode, s.bolt.cause) } }
  if s1.bolt.mode.code < BoltMode.zero.code then s1.beginAction .zero (some 776) else s1

/-- A RESUME cancels a shutdown into state p (R376): the ramp for HOLD, the action of ABORTED before, or the end of the zero action. A
kill stays. -/
def State.boltCancel (s : State) (p : PartState) : State :=
  if s.bolt.mode == .killed then s
  else match p with
    | .holding => s.beginAction .rampHold none
    | .aborted => if s.bolt.before.1 == s.bolt.mode then s else s.beginAction s.bolt.before.1 s.bolt.before.2
    | _ => s.beginAction .pass none

/-- FAULTED: kill and zero at once, cause 775 (R39, R364, R369). -/
def State.boltFault (s : State) : State :=
  let s1 : State := { s with bolt := { s.bolt with kill := true, abortOut := true } }
  if s1.bolt.mode == .killed then s1 else s1.beginAction .killed (some 775)

end Sys2Proof.Machine
end

