-- ==== Sys2Proof/Machine/Curve.lean ====
section
/-!
DEFINITION. The published algorithms over Curve25519 that the spec names: SHA-512 (FIPS 180-4), Ed25519 (RFC 8032; R426, R477, R480,
R492, R519 to R525, R611) and X25519 (RFC 7748; R518).
-/
namespace Sys2Proof.Machine

/-! SHA-512. -/

/-- The round constants. -/
def sha5K : List Nat :=
  [0x428A2F98D728AE22, 0x7137449123EF65CD, 0xB5C0FBCFEC4D3B2F, 0xE9B5DBA58189DBBC,
   0x3956C25BF348B538, 0x59F111F1B605D019, 0x923F82A4AF194F9B, 0xAB1C5ED5DA6D8118,
   0xD807AA98A3030242, 0x12835B0145706FBE, 0x243185BE4EE4B28C, 0x550C7DC3D5FFB4E2,
   0x72BE5D74F27B896F, 0x80DEB1FE3B1696B1, 0x9BDC06A725C71235, 0xC19BF174CF692694,
   0xE49B69C19EF14AD2, 0xEFBE4786384F25E3, 0x0FC19DC68B8CD5B5, 0x240CA1CC77AC9C65,
   0x2DE92C6F592B0275, 0x4A7484AA6EA6E483, 0x5CB0A9DCBD41FBD4, 0x76F988DA831153B5,
   0x983E5152EE66DFAB, 0xA831C66D2DB43210, 0xB00327C898FB213F, 0xBF597FC7BEEF0EE4,
   0xC6E00BF33DA88FC2, 0xD5A79147930AA725, 0x06CA6351E003826F, 0x142929670A0E6E70,
   0x27B70A8546D22FFC, 0x2E1B21385C26C926, 0x4D2C6DFC5AC42AED, 0x53380D139D95B3DF,
   0x650A73548BAF63DE, 0x766A0ABB3C77B2A8, 0x81C2C92E47EDAEE6, 0x92722C851482353B,
   0xA2BFE8A14CF10364, 0xA81A664BBC423001, 0xC24B8B70D0F89791, 0xC76C51A30654BE30,
   0xD192E819D6EF5218, 0xD69906245565A910, 0xF40E35855771202A, 0x106AA07032BBD1B8,
   0x19A4C116B8D2D0C8, 0x1E376C085141AB53, 0x2748774CDF8EEB99, 0x34B0BCB5E19B48A8,
   0x391C0CB3C5C95A63, 0x4ED8AA4AE3418ACB, 0x5B9CCA4F7763E373, 0x682E6FF3D6B2B8A3,
   0x748F82EE5DEFB2FC, 0x78A5636F43172F60, 0x84C87814A1F0AB72, 0x8CC702081A6439EC,
   0x90BEFFFA23631E28, 0xA4506CEBDE82BDE9, 0xBEF9A3F7B2C67915, 0xC67178F2E372532B,
   0xCA273ECEEA26619C, 0xD186B8C721C0C207, 0xEADA7DD6CDE0EB1E, 0xF57D4F7FEE6ED178,
   0x06F067AA72176FBA, 0x0A637DC5A2C898A6, 0x113F9804BEF90DAE, 0x1B710B35131C471B,
   0x28DB77F523047D84, 0x32CAAB7B40C72493, 0x3C9EBE0A15C9BEBC, 0x431D67C49C100D4C,
   0x4CC5D4BECB3E42B6, 0x597F299CFC657E2A, 0x5FCB6FAB3AD6FAEC, 0x6C44198C4A475817]

/-- The initial hash value. -/
def sha5H0 : List DWord :=
  [0x6A09E667F3BCC908, 0xBB67AE8584CAA73B, 0x3C6EF372FE94F82B, 0xA54FF53A5F1D36F1,
   0x510E527FADE682D1, 0x9B05688C2B3E6C1F, 0x1F83D9ABFB41BD6B, 0x5BE0CD19137E2179].map (BitVec.ofNat 64)

/-- The schedule: `n` further words after those given, newest first. -/
def sha5Extend : Nat → List DWord → List DWord
  | 0, l => l
  | n + 1, l =>
    let a := l.getD 14 0
    let b := l.getD 1 0
    let s0 := a.rotateRight 1 ^^^ a.rotateRight 8 ^^^ (a >>> 7)
    let s1 := b.rotateRight 19 ^^^ b.rotateRight 61 ^^^ (b >>> 6)
    sha5Extend n ((l.getD 15 0 + s0 + l.getD 6 0 + s1) :: l)

/-- One round. -/
def sha5Round (v : List DWord) (kw : DWord) : List DWord :=
  match v with
  | [a, b, c, d, e, f, g, h] =>
    let s1 := e.rotateRight 14 ^^^ e.rotateRight 18 ^^^ e.rotateRight 41
    let t1 := h + s1 + ((e &&& f) ^^^ (~~~e &&& g)) + kw
    let s0 := a.rotateRight 28 ^^^ a.rotateRight 34 ^^^ a.rotateRight 39
    [t1 + s0 + ((a &&& b) ^^^ (a &&& c) ^^^ (b &&& c)), a, b, c, d + t1, e, f, g]
  | _ => v

/-- The 64-bit words of a byte string, big-endian. -/
def beDWords : Nat → List Byte → List DWord
  | 0, _ => []
  | n + 1, l => BitVec.ofNat 64 (beNat (l.take 8)) :: beDWords n (l.drop 8)

/-- Compress `n` blocks of 128 bytes. -/
def sha5Blocks : Nat → List DWord → List Byte → List DWord
  | 0, h, _ => h
  | n + 1, h, l =>
    let ws := (sha5Extend 64 (beDWords 16 l).reverse).reverse
    let v := (List.zipWith (fun w k => w + BitVec.ofNat 64 k) ws sha5K).foldl sha5Round h
    sha5Blocks n (List.zipWith (· + ·) h v) (l.drop 128)

/-- SHA-512 of a byte string, 64 bytes. -/
def sha512 (l : List Byte) : List Byte :=
  let n := l.length
  let m := l ++ [0x80#8] ++ List.replicate ((239 - n % 128) % 128) 0#8 ++ beBytes 16 (8 * n)
  (sha5Blocks (m.length / 128) sha5H0 m).flatMap (fun w => beBytes 8 w.toNat)

/-! The field of 2^255 - 19. -/

/-- The prime. -/
def prime25519 : Nat := 2 ^ 255 - 19

/-- b to the power e modulo the prime, e below 2^n. -/
def fpPow : Nat → Nat → Nat → Nat
  | 0, _, _ => 1
  | n + 1, b, e =>
    let r := fpPow n (b * b % prime25519) (e / 2)
    if e % 2 = 1 then b * r % prime25519 else r

/-- Product, difference, inverse. -/
def fpMul (a b : Nat) : Nat := a * b % prime25519
def fpSub (a b : Nat) : Nat := (a + (prime25519 - b % prime25519)) % prime25519
def fpInv (a : Nat) : Nat := fpPow 255 (a % prime25519) (prime25519 - 2)

/-! Ed25519 (RFC 8032, 5.1). -/

/-- A point in extended coordinates. -/
structure EdPoint where
  x : Nat
  y : Nat
  z : Nat
  t : Nat
  deriving DecidableEq, Repr

/-- The curve's d, and the order of the base point. -/
def edD : Nat := 37095705934669439343138083508754565189542113879843219016388785533085940283555
def edOrder : Nat := 2 ^ 252 + 27742317777372353535851937790883648493

/-- The neutral point, and the base point. -/
def EdPoint.zero : EdPoint := { x := 0, y := 1, z := 1, t := 0 }
def EdPoint.base : EdPoint :=
  let x := 15112221349535400772501151409588531511454012693041857206046113283949847762202
  let y := 46316835694926478169428394003475163141307993866256225615783033603165251855960
  { x := x, y := y, z := 1, t := fpMul x y }

/-- The sum of two points. -/
def EdPoint.add (p q : EdPoint) : EdPoint :=
  let a := fpMul (fpSub p.y p.x) (fpSub q.y q.x)
  let b := fpMul (p.y + p.x) (q.y + q.x)
  let c := fpMul (fpMul (2 * p.t) q.t) edD
  let d := fpMul (2 * p.z) q.z
  let e := fpSub b a
  let f := fpSub d c
  let g := d + c
  let h := b + a
  { x := fpMul e f, y := fpMul g h, z := fpMul f g, t := fpMul e h }

/-- k times a point, k below 2^n. -/
def EdPoint.mul : Nat → Nat → EdPoint → EdPoint
  | 0, _, _ => EdPoint.zero
  | n + 1, k, p =>
    let r := EdPoint.mul n (k / 2) (p.add p)
    if k % 2 = 1 then p.add r else r

/-- Two points are equal. -/
def EdPoint.same (p q : EdPoint) : Bool := fpMul p.x q.z == fpMul q.x p.z && fpMul p.y q.z == fpMul q.y p.z

/-- A point as 32 bytes: y, with the lowest bit of x above it. -/
def EdPoint.encode (p : EdPoint) : List Byte :=
  let i := fpInv p.z
  leBytes 32 (fpMul p.y i + fpMul p.x i % 2 * 2 ^ 255)

/-- The point that 32 bytes spell, if they spell one. -/
def EdPoint.decode (l : List Byte) : Option EdPoint :=
  let v := leNat l
  let y := v % 2 ^ 255
  let sign := v / 2 ^ 255
  let y2 := fpMul y y
  let x2 := fpMul (fpSub y2 1) (fpInv (fpMul edD y2 + 1))
  let r := fpPow 253 x2 ((prime25519 + 3) / 8)
  let x := if fpMul r r = x2 then r else fpMul r (fpPow 253 2 ((prime25519 - 1) / 4))
  if l.length ≠ 32 ∨ y ≥ prime25519 ∨ fpMul x x ≠ x2 ∨ (x = 0 ∧ sign = 1) then none
  else
    let x1 := if x % 2 = sign then x else prime25519 - x
    some { x := x1, y := y, z := 1, t := fpMul x1 y }

/-- The scalar of 32 hashed bytes: the lowest three bits and the highest clear, the next highest set. -/
def clamp25519 (l : List Byte) : Nat := leNat (l.take 32) % 2 ^ 254 / 8 * 8 + 2 ^ 254

/-- The public key of a 32-byte seed. -/
def edPublic (seed : List Byte) : List Byte := (EdPoint.mul 255 (clamp25519 (sha512 seed)) EdPoint.base).encode

/-- The signature of a message under a seed. -/
def edSign (seed msg : List Byte) : List Byte :=
  let h := sha512 seed
  let a := clamp25519 h
  let pub := (EdPoint.mul 255 a EdPoint.base).encode
  let r := leNat (sha512 (h.drop 32 ++ msg)) % edOrder
  let rb := (EdPoint.mul 253 r EdPoint.base).encode
  let k := leNat (sha512 (rb ++ pub ++ msg)) % edOrder
  rb ++ leBytes 32 ((r + k * a) % edOrder)

/-- A 32-byte string decodes as a public key (R475). -/
def edDecodes (l : List Byte) : Bool := (EdPoint.decode l).isSome

/-- The signature verifies under a public key, by the group equation of 5.1.7, with the cofactor (log 26). -/
def edVerify (pub msg sig : List Byte) : Bool :=
  match EdPoint.decode pub, EdPoint.decode (sig.take 32) with
  | some a, some r =>
    let s := leNat (sig.drop 32)
    let k := leNat (sha512 (sig.take 32 ++ pub ++ msg)) % edOrder
    sig.length == 64 && decide (s < edOrder) &&
      (EdPoint.mul 4 8 (EdPoint.mul 253 s EdPoint.base)).same (EdPoint.mul 4 8 (r.add (EdPoint.mul 253 k a)))
  | _, _ => false

/-! X25519 (RFC 7748). -/

/-- One step of the ladder on (x2, z2) and (x3, z3), for the point u. -/
def ladderStep (u : Nat) (a b : Nat × Nat) : (Nat × Nat) × (Nat × Nat) :=
  let s := a.1 + a.2
  let d := fpSub a.1 a.2
  let ss := fpMul s s
  let dd := fpMul d d
  let e := fpSub ss dd
  let da := fpMul (fpSub b.1 b.2) s
  let cb := fpMul (b.1 + b.2) d
  let m := fpSub da cb
  ((fpMul ss dd, fpMul e (ss + 121665 * e)), (fpMul (da + cb) (da + cb), fpMul u (fpMul m m)))

/-- The ladder over the bits n - 1 to 0 of k. -/
def ladder (u k : Nat) : Nat → (Nat × Nat) × (Nat × Nat) → (Nat × Nat) × (Nat × Nat)
  | 0, v => v
  | n + 1, v =>
    if k.testBit n then
      let r := ladderStep u v.2 v.1
      ladder u k n (r.2, r.1)
    else ladder u k n (ladderStep u v.1 v.2)

/-- X25519 of a scalar and the u-coordinate of a point. -/
def x25519 (k u : Nat) : List Byte :=
  let v := (ladder u k 255 ((1, 0), (u, 1))).1
  leBytes 32 (fpMul v.1 (fpInv v.2))

/-- The public key of a 32-byte secret. -/
def xPublic (secret : List Byte) : List Byte := x25519 (clamp25519 secret) 9

/-- The secret shared with the holder of an Ed25519 key, whose y maps to u = (1 + y) / (1 - y) (R518). -/
def xShared (secret pub : List Byte) : List Byte :=
  let y := leNat pub % 2 ^ 255 % prime25519
  x25519 (clamp25519 secret) (fpMul (1 + y) (fpInv (fpSub 1 y)))

end Sys2Proof.Machine
end

