-- ==== Sys2Proof/Machine/Der.lean ====
section
/-!
DEFINITION. The device certificate: its DER (X.690) and the profile of R478.
-/
namespace Sys2Proof.Machine

/-- One DER element: its tag, its contents, and all its bytes. -/
structure Der where
  tag : Nat
  body : List Byte
  raw : List Byte
  deriving DecidableEq, Repr

/-- The length at the front of a string, in the shortest form up to 65,535, and how many bytes it takes. -/
def derLength : List Byte → Option (Nat × Nat)
  | [] => none
  | n :: r =>
    if n.toNat < 128 then some (n.toNat, 1)
    else if n.toNat = 0x81 ∧ 128 ≤ beNat (r.take 1) then some (beNat (r.take 1), 2)
    else if n.toNat = 0x82 ∧ 256 ≤ beNat (r.take 2) then some (beNat (r.take 2), 3)
    else none

/-- The element at the front. -/
def derOne : List Byte → Option Der
  | [] => none
  | t :: r =>
    match derLength r with
    | some (n, k) =>
      if r.length < k + n then none
      else some { tag := t.toNat, body := (r.drop k).take n, raw := (t :: r).take (1 + k + n) }
    | none => none

/-- All the elements of a string, which they fill; `n` bounds their number. -/
def derAll : Nat → List Byte → Option (List Der)
  | 0, l => if l.isEmpty then some [] else none
  | n + 1, l =>
    if l.isEmpty then some []
    else (derOne l).bind (fun x => (derAll n (l.drop x.raw.length)).map (fun r => x :: r))

/-- The elements within a SEQUENCE (tag 0x30) or another constructed element. -/
def Der.parts (x : Der) (tag : Nat) : Option (List Der) := if x.tag = tag then derAll x.body.length x.body else none

/-- The contents of an element of one tag. -/
def Der.of (x : Der) (tag : Nat) : Option (List Byte) := if x.tag = tag then some x.body else none

/-- A number in base 128, the highest group first, as an object identifier holds it. -/
def base128 : Nat → Nat → List Byte
  | 0, _ => []
  | n + 1, v =>
    let r := if v / 128 = 0 then [] else (base128 n (v / 128))
    r.map (fun b => b ||| 0x80#8) ++ [BitVec.ofNat 8 (v % 128)]

/-- 1.3.101.112, Ed25519 (RFC 8410), 2.5.4.3, commonName, and the extension's 2.25.2214517703519243391021853093811729 (R478). -/
def oidEd25519 : List Byte := [0x2B#8, 0x65#8, 0x70#8]
def oidCommonName : List Byte := [0x55#8, 0x04#8, 0x03#8]
def oidExtension : List Byte := 0x69#8 :: base128 20 2214517703519243391021853093811729

/-- What the part reads in a certificate. -/
structure Cert where
  /-- The bytes signed, and the signature. -/
  tbs : List Byte
  sig : List Byte
  issuer : List Byte
  notAfter : List Byte
  commonName : List Byte
  pub : List Byte
  conformance : Nat
  stepping : Nat
  paneCount : Nat
  paneRoot : List Byte
  deriving DecidableEq, Repr

/-- An AlgorithmIdentifier of Ed25519, which has no parameters. -/
def Der.isEd25519 (x : Der) : Bool :=
  match x.parts 0x30 with
  | some [o] => o.of 6 == some oidEd25519
  | _ => false

/-- 64 or 32 bytes in a BIT STRING without unused bits. -/
def Der.bits (x : Der) : Option (List Byte) :=
  (x.of 3).bind (fun l => match l with
    | u :: r => if u = 0#8 then some r else none
    | [] => none)

/-- The commonName in one RelativeDistinguishedName. -/
def rdnCommonName (x : Der) : Option (List Byte) :=
  ((x.parts 0x31).getD []).findSome? (fun a => match a.parts 0x30 with
    | some [o, v] => if o.of 6 == some oidCommonName then some v.body else none
    | _ => none)

/-- The commonName of a Name. -/
def Der.commonName (x : Der) : Option (List Byte) := ((x.parts 0x30).getD []).findSome? rdnCommonName

/-- The value of the one extension: conformanceLevel, stepping, paneCount and paneRoot. -/
def extFields (l : List Byte) : Option (Nat × Nat × Nat × List Byte) :=
  ((derOne l).bind (fun x => x.parts 0x30)).bind (fun l => match l with
    | [a, b, c, d] =>
      match a.of 2, b.of 2, c.of 2, d.of 4 with
      | some a, some b, some c, some d => if d.length = 32 then some (beNat a, beNat b, beNat c, d) else none
      | _, _, _, _ => none
    | _ => none)

/-- The value of an extension, when it is the one of R478 and not critical. -/
def Der.profileExt (e : Der) : Option (List Byte) :=
  match e.parts 0x30 with
  | some [o, v] => if o.of 6 == some oidExtension then v.of 4 else none
  | _ => none

/-- The fields of R478's extension, of which element [3] has one; what else stands there does not matter (log 145). -/
def Der.extension (x : Der) : Option (Nat × Nat × Nat × List Byte) :=
  match (x.parts 0xA3).map (fun l => l.map (fun y => y.parts 0x30)) with
  | some [some l] =>
    match l.filterMap Der.profileExt with
    | [v] => extFields v
    | _ => none
  | _ => none

/-- Read a certificate of the profile's form (R478): version 3, Ed25519, an Ed25519 key in the form of RFC 8410, and the
extension. -/
def Cert.read (l : List Byte) : Option Cert :=
  match derOne l with
  | none => none
  | some c =>
    match c.parts 0x30 with
    | some [t, a, g] =>
      match t.parts 0x30 with
      | some [v, _, a2, iss, val, sub, spki, ext] =>
        match (v.parts 0xA0), val.parts 0x30, sub.commonName, spki.parts 0x30, ext.extension, g.bits with
        | some [n], some [_, na], some cn, some [ka, kb], some e, some sig =>
          match kb.bits, na.of 0x18 with
          | some pub, some na =>
            if c.raw.length = l.length ∧ n.of 2 = some [2#8] ∧ a.isEd25519 ∧ a2.isEd25519 ∧ ka.isEd25519 ∧ pub.length = 32 then
              some { tbs := t.raw, sig := sig, issuer := iss.raw, notAfter := na, commonName := cn, pub := pub,
                     conformance := e.1, stepping := e.2.1, paneCount := e.2.2.1, paneRoot := e.2.2.2 }
            else none
          | _, _ => none
        | _, _, _, _, _, _ => none
      | _ => none
    | _ => none

/-- The 16 hexadecimal digits of a 64-bit number. -/
def hexDigits (v : Nat) : List Byte :=
  (beBytes 8 v).flatMap (fun b => [b.toNat / 16, b.toNat % 16].map (fun d =>
    BitVec.ofNat 8 (if d < 10 then 48 + d else 55 + d)))

/-- A letter a to f as A to F: the spec does not say which the digits of the subject use. -/
def upperHex (b : Byte) : Byte := if 97 ≤ b.toNat ∧ b.toNat ≤ 102 then b - 32#8 else b

/-- "AKW1024 " and 99991231235959Z. -/
def certName : List Byte := [65#8, 75#8, 87#8, 49#8, 48#8, 50#8, 52#8, 32#8]
def certEnd : List Byte := [57#8, 57#8, 57#8, 57#8, 49#8, 50#8, 51#8, 49#8, 50#8, 51#8, 53#8, 57#8, 53#8, 57#8, 90#8]

/-- The fields of the profile (R478), for a part with this serial number and stepping. -/
def Cert.fits (c : Cert) (deviceId stepping : Nat) : Bool :=
  c.issuer == Config.caName && c.notAfter == certEnd && c.commonName.take 8 == certName &&
    (c.commonName.drop 8).map upperHex == hexDigits deviceId && c.conformance == 1 && c.stepping == stepping &&
    c.paneCount == 1024

/-- The check of R609: the certificate has the profile, is signed by the device CA, and carries the device key. -/
def certVerify (der pub : List Byte) (deviceId stepping : Nat) : Bool :=
  match Cert.read der with
  | some c => c.fits deviceId stepping && c.pub == pub && edVerify Config.caKey c.tbs c.sig
  | none => false

/-- paneRoot of a certificate (R478); none where the bytes are no certificate of the profile's form. -/
def certPaneRoot (der : List Byte) : Option (List Byte) := (Cert.read der).map Cert.paneRoot

end Sys2Proof.Machine
end

