-- ==== Sys2Proof/Machine/Announce.lean ====
section
/-!
DEFINITION. What the ports send: the gates of scheduled traffic, record headers and announcements (R513, R515, R519).
-/
namespace Sys2Proof.Machine

/-- Registers of port q: VLAN, IPV4. -/
def State.netVlan (s : State) (q : Nat) : Nat := (s.rd (Config.net q)).fld 4 12
def State.netIpv4 (s : State) (q : Nat) : Nat := (s.rd (Config.net q + 0xC)).toNat

/-! Scheduled traffic (R513). -/

/-- GCL_CYCLE, and the interval of entry e of port q's list. -/
def State.gateCycle (s : State) (q : Nat) : Nat := (s.rd (Config.net q + 0x60)).toNat
def State.gateIv (s : State) (q e : Nat) : Nat := (s.rd (Config.net q + 0x100 + 4 * e)).fld 8 24
/-- The gate of queue i is open in entry e. -/
def State.gateBit (s : State) (q i e : Nat) : Bool := (s.rd (Config.net q + 0x100 + 4 * e)).bit i

/-- The entries in force: up to the first zero interval, and within the cycle. -/
def State.gateCount (s : State) (q : Nat) : Nat :=
  ((List.range 64).foldl (fun (r : Nat × Nat × Bool) e =>
    if r.2.2 || s.gateIv q e == 0 || decide (r.2.1 ≥ s.gateCycle q) then (r.1, r.2.1, true) else (r.1 + 1, r.2.1 + s.gateIv q e, false))
    (0, 0, false)).1

/-- The length of entry e: the last entry in force reaches to the cycle's end. -/
def State.gateLen (s : State) (q e : Nat) : Nat :=
  if e + 1 = s.gateCount q then s.gateCycle q - (List.range e).foldl (fun a k => a + s.gateIv q k) 0 else s.gateIv q e

/-- How long the gate of queue i stays open from the start of entry e on, looked at over `k` entries. -/
def State.gateRun (s : State) (q i : Nat) : Nat → Nat → Nat
  | 0, _ => 0
  | k + 1, e => if s.gateBit q i e then s.gateLen q e + s.gateRun q i k ((e + 1) % s.gateCount q) else 0

/-- A frame of queue i that takes `ns` on the wire may start: no list runs, or its gate is open and stays open until the frame
ends. -/
def State.gateOpen (s : State) (q i ns : Nat) : Bool :=
  match SMap.at? s.net.gate q with
  | none => true
  | some e =>
    let n := s.gateCount q
    (List.range n).all (s.gateBit q i) ||
      (s.gateBit q i e && decide (s.now + ns ≤ SMap.get (fun _ => 0) s.net.gateAt q + s.gateRun q i n e))

/-- Nanoseconds on the wire of a UDP datagram of `n` bytes, with its headers, check sequence, preamble and gap (R507, R516). -/
def State.wireNs (s : State) (q : Nat) (v6 : Bool) (n : Nat) : Nat :=
  let bytes := n + 8 + (if v6 then 40 else 20) + 14 + 4 + 20 + (if s.netVlan q = 0 then 0 else 4)
  if (s.rd (Config.net q)).fld 0 2 = 0 then (bytes * 16 + 4) / 5 else bytes * 8

/-- A frame of queue i leaves its port when its gate and the frames before it in its queue let it; else it waits. -/
def State.queueOut (s : State) (i ns : Nat) (f : NetOut) : State :=
  if s.gateOpen f.port i ns && s.net.waiting.all (fun x => x.1 != i || x.2.2.port != f.port) then
    { s with net := { s.net with out := s.net.out ++ [f] } }
  else { s with net := { s.net with waiting := s.net.waiting ++ [(i, ns, f)] } }

/-- Something leaves a port: announcements and replies by queue 7, PTP messages past the gates, everything else by NET.PCP. -/
def State.netSend (s : State) (q kind : Nat) (l : List Byte) (v6 : Bool := false) : State :=
  let f : NetOut := { port := q, kind := kind, bytes := l }
  if kind = 0x30 then { s with net := { s.net with out := s.net.out ++ [f] } }
  else s.queueOut (if kind = 0x10 ∨ kind = 0x11 then 7 else (s.rd (Config.net q)).fld 16 3) (s.wireNs q v6 l.length) f

/-! Announcements (R519). -/

/-- The fused secrets are in force: in PROVISIONED and FIELD (R607, R610). -/
def State.keysInForce (s : State) : Bool := s.otp.lc == 1 || s.otp.lc == 2
/-- The device key, in force. -/
def State.deviceKey (s : State) : Option (List Byte) := if s.keysInForce then s.otp.devSeed else none

/-- IDENT.PART.ROSTER_OK (R482). -/
def State.rosterOk (s : State) : Bool := (s.rd (Config.ident + 8)).bit 21

/-- RUN. -/
def State.run (s : State) : Nat := (s.rd (Config.logstore + 4)).toNat

/-- The device fingerprint: the SHA-256 of the certificate (R479). -/
def State.fingerprint (s : State) : List Byte := if s.otp.cert.isEmpty then [] else sha256 s.otp.cert

/-- A record header (R515). -/
def State.recHeader (s : State) (kind stream producer frag frags seq tick stamp bytes offset : Nat) (enc : Bool) :
    List Byte :=
  leBytes 4 0x52574B41 ++ leBytes 1 1 ++ leBytes 1 kind ++ leBytes 1 stream ++ leBytes 1 enc.toNat ++ leBytes 2 producer
    ++ leBytes 1 frag ++ leBytes 1 frags ++ leBytes 4 s.run ++ leBytes 8 seq ++ leBytes 8 tick ++ leBytes 8 stamp
    ++ leBytes 4 bytes ++ leBytes 4 offset

/-- START severity counters, 2 bytes each. -/
def State.startCounts (s : State) : List Byte :=
  [0x14, 0x18, 0x1C, 0x20, 0x24].flatMap (fun o => leBytes 2 (s.rd (Config.start + o)).toNat)

/-- The image's BOARD_ID, kept beside its fields as section 0, field 1. -/
def State.boardId (s : State) : Nat := s.field 0 1 0 0 0

/-- The key of an Ed25519 key slot (R475), when it holds one. -/
def State.knockKey (s : State) (j : Nat) : Option (List Byte) :=
  if (s.rd (Config.knock + 0x40 + 4 * j)).bit 31 then some (leBytes 32 (s.field 0x13 2 0 j 0)) else none

/-- The announcement payload up to its signature (R519); the ephemeral key where there are stream keys (R518). -/
def State.annBody (s : State) : List Byte :=
  fitBytes 32 s.fingerprint ++ leBytes 8 s.otp.deviceId ++ leBytes 4 s.boardId ++ leBytes 1 s.part.code
    ++ leBytes 1 s.otp.stepping ++ leBytes 1 1
    ++ leBytes 1 ((s.rd (Config.start + 0x44)).fld 0 3 + s.logs.stopped.toNat * 16 + s.rosterOk.toNat * 32)
    ++ leBytes 4 (s.rd (Config.start + 4)).toNat ++ s.startCounts ++ leBytes 2 0 ++ leBytes 8 s.shownTick
    ++ fitBytes 32 (if (s.knockKey 0).isSome then (s.net.eph.map xPublic).getD [] else [])

/-- Sign with the device key; zeros without one. -/
def State.deviceSign (s : State) (l : List Byte) : List Byte :=
  match s.deviceKey with
  | some k => edSign k l
  | none => List.replicate 64 0#8

/-- One announcement on one port: one datagram over IPv6, and one over IPv4 when the port has an address. SEQ of an
announcement is left open: a free value (log 2). -/
def State.announceOn (s : State) (q : Nat) : State :=
  if !s.netUp q then s
  else
    let d := s.draw
    let body := s.annBody
    let h := s.recHeader 0x10 0xFF 0xFFFF 0 1 (d.1 % 2 ^ 64) s.shownTick (s.stamps.getD 0 0) 168 0 false
    let l := h ++ body ++ s.deviceSign (tagAnnounce ++ h ++ body)
    let s1 := d.2.netSend q 0x10 l true
    if s.netIpv4 q = 0 then s1 else s1.netSend q 0x10 l

/-- An announcement on each port whose link is up (R519). -/
def State.announce (s : State) : State := (s.announceOn 0).announceOn 1

end Sys2Proof.Machine
end

