-- ==== Sys2Proof/Machine/LogStore.lean ====
section
/-!
DEFINITION. Device identity, the keyholes, the sealed log and the log store (R477 to R506).
-/
namespace Sys2Proof.Machine

/-! Keys and the roster (R477 to R482). -/

/-- Free bytes, for a value the spec leaves open (log 2). -/
def freeBytes (n c : Nat) : List Byte := (List.range n).map (fun k => BitVec.ofNat 8 (Config.freeNat (c + k)))

/-- The seed of pane n (R480), where the pane secret is in force. -/
def State.paneSeed (s : State) (n : Nat) : Option (List Byte) :=
  (if s.keysInForce then s.otp.paneSecret else none).map (fun k => hkdf32 tagKdf k (leBytes 2 n))

/-- The keys of the panes `l` are derived and handed to their latches (R482, R483). -/
def State.deriveKeys (s : State) (l : List Nat) : State :=
  { s with latchKeys := l.foldl (fun m n => match s.paneSeed n with
      | some k => SMap.put m n k
      | none => m) s.latchKeys }

/-- The key that pane n's latch holds. -/
def State.latchKey (s : State) (n : Nat) : Option (List Byte) := SMap.at? s.latchKeys n

/-- Latches that lose their supply lose their keys (R483). -/
def State.dropKeys (s : State) (l : List Nat) : State := { s with latchKeys := SMap.keep (fun n => !l.contains n) s.latchKeys }

/-- The public key of pane n. -/
def State.panePub (s : State) (n : Nat) : Option (List Byte) := (s.latchKey n).map edPublic

/-- Leaf i of the roster (R481). -/
def State.leaf (s : State) (i : Nat) : List Byte :=
  sha256 ([0#8] ++ leBytes 2 i ++ ((s.paneSeed i).map edPublic).getD [])

/-- One level up the roster tree. -/
def treeUp : List (List Byte) → List (List Byte)
  | a :: b :: r => sha256 ([1#8] ++ a ++ b) :: treeUp r
  | _ => []

/-- The sibling hashes of position i, `n` levels upward (R481). -/
def treeProof : Nat → Nat → List (List Byte) → List (List Byte)
  | 0, _, _ => []
  | n + 1, i, l => l.getD (if i % 2 = 1 then i - 1 else i + 1) [] :: treeProof n (i / 2) (treeUp l)

/-- The root, `n` levels up. -/
def treeRoot : Nat → List (List Byte) → List Byte
  | 0, l => l.headD []
  | n + 1, l => treeRoot n (treeUp l)

/-- The 1,024 leaves. -/
def State.leaves (s : State) : List (List Byte) := (List.range 1024).map s.leaf
/-- The inclusion proof of pane n, from the leaves that the keyholes keep since the start (R481, R482). -/
def State.paneProof (s : State) (n : Nat) : List Byte := (treeProof 10 n s.roster).flatten
/-- paneRoot. -/
def State.rosterRoot (s : State) : List Byte := treeRoot 10 s.roster

/-! Log blocks and the store (R488 to R499). -/

/-- The lintel's producer number. -/
def lintelNo : Nat := 0xFFFF

/-- The bytes of a block up to its CRC (R488). -/
def LogBlock.body (b : LogBlock) : List Byte :=
  leBytes 4 0x4C574B41 ++ leBytes 2 b.producer ++ leBytes 1 b.kind ++ leBytes 1 1 ++ leBytes 8 b.seq ++ leBytes 8 b.tick
    ++ leBytes 4 b.run ++ leBytes 4 b.payload.length ++ fitBytes 32 b.prev ++ fitBytes 4028 b.payload

/-- All 4,096 bytes. -/
def LogBlock.bytes (b : LogBlock) : List Byte := b.body ++ leBytes 4 (crc32c b.body).toNat

/-- A producer's chain; one that has no block yet. -/
def LogStore.chain (l : LogStore) (p : Nat) : Chain :=
  SMap.get (fun _ => { head := [], next := 0, sealedTo := 0, sealedHead := [], run := 0, last := 0 }) l.chains p

/-- The medium of a port. -/
def LogStore.port (l : LogStore) (q : Bool) : Emmc := if q then l.port1 else l.port0
/-- Replace it. -/
def LogStore.setPort (l : LogStore) (q : Bool) (e : Emmc) : LogStore :=
  if q then { l with port1 := e } else { l with port0 := e }

/-- STATUS.PORT0 or PORT1 reads in service. -/
def State.emmcUp (s : State) (q : Bool) : Bool := (s.rd Config.logstore).fld (if q then 2 else 0) 2 == 1
/-- STATUS.MODE. -/
def State.logMode (s : State) : Nat := (s.rd Config.logstore).fld 4 2
/-- The ports in service. -/
def State.upPorts (s : State) : List Bool := [false, true].filter s.emmcUp
/-- Where a block goes (R497): the lintel's chain to every port, a mirrored block to both, a striped one to one of
the two in turn, and in independent mode by bay; the surviving port in place of a failed one. -/
def State.placeLog (s : State) (producer : Nat) : List Bool :=
  let one := fun (q : Bool) => if s.emmcUp q then [q] else s.upPorts
  if producer = lintelNo ∨ s.logMode = 1 then s.upPorts
  else if s.logMode = 2 then one (s.logs.count % 2 == 1)
  else one (decide (bayOf (producer % 1024) ≥ 4))

/-- Blocks of a port's ring that a producer may use: the last 1/64 is the lintel's (R498). In mirrored and striped modes
the smaller capacity counts (R497). -/
def State.logRoom (s : State) (q : Bool) (producer : Nat) : Nat :=
  let c := if s.logMode = 0 ∨ s.upPorts.length < 2 then (s.logs.port q).cap else min s.logs.port0.cap s.logs.port1.cap
  if producer = lintelNo then c else c - c / 64

/-- Append a block to a port's ring. -/
def Emmc.append (e : Emmc) (b : LogBlock) : Emmc := { e with ring := SMap.put e.ring e.wp b, wp := e.wp + 1 }

/-- The ERR code with which the store answers a block: none, 4 full, or 5 absent or failed (R498, R505). -/
def State.logErr (s : State) (producer : Nat) : Nat :=
  let ports := s.placeLog producer
  if s.logs.stopped || ports.isEmpty then 5
  else if ports.any (fun q => decide ((s.logs.port q).wp ≥ s.logRoom q producer)) then 4 else 0

/-- FREE_BLOCKS follows the rings. -/
def State.logFree (s : State) : State :=
  let f := s.upPorts.map (fun q => s.logRoom q 0 - (s.logs.port q).wp)
  s.wr (Config.logstore + 8) (BitVec.ofNat 32 (match f with
    | [] => 0
    | x :: r => r.foldl min x))

/-- Tick number of the last T0 open (R488): within a boundary the one before it. -/
def State.openTick (s : State) : Nat := if s.inBnd then s.tick - 1 else s.tick

/-- The store answers a block (R489, R498): accepted, its head replaces the producer's; refused, nothing of the chain
changes. What goes to a port whose crossing is severed is discarded (R636, log 152). With the reserve full the store stops, which an announcement tells (R519). -/
def State.logAccept (s : State) (r : LogReq) : State × Nat × List Byte :=
  match s.logErr r.producer with
  | 0 =>
    let c := s.logs.chain r.producer
    let b : LogBlock := { producer := r.producer, kind := r.kind, seq := c.next, tick := r.tick, run := s.run,
                          prev := c.head, payload := r.payload, good := true }
    let gone := (s.placeLog r.producer).filter (fun q => s.severed (99 + q.toNat))
    let l := ((s.placeLog r.producer).filter (fun q => !gone.contains q)).foldl (fun (l : LogStore) q => l.setPort q ((l.port q).append b)) s.logs
    let at' := ((s.placeLog r.producer).map (fun q => (s.logs.port q).wp)).headD 0
    let l1 : LogStore := { l with
      chains := SMap.put l.chains r.producer { c with head := sha256 b.body, next := c.next + 1, run := s.run, last := at' },
      started := if l.started.contains r.producer then l.started else l.started ++ [r.producer],
      since := l.since + 1, count := l.count + 1, cpDue := l.cpDue || decide (l.since + 1 ≥ 8192) }
    ((gone.foldl (fun s q => s.discards (99 + q.toNat) 1) ({ s with logs := l1 } : State)).bump (Config.logstore + 0xC) 32 1 |>.logFree,
     0, b.bytes)
  | 4 =>
    if r.producer = lintelNo then
      (({ s.setBits Config.logstore 0x80#32 with logs := { s.logs with stopped := true } } : State).announce, 4, [])
    else
      let s1 := s.setBits Config.logstore 0x40#32
      let s2 := if s1.logs.fullSaid then s1 else { s1.logEv 0x0502 [] with logs := { s1.logs with fullSaid := true } }
      (s2.bump (Config.logstore + 0x10) 16 1, 4, [])
  | e => (if r.producer = lintelNo then s else s.bump (Config.logstore + 0x10) 16 1, e, [])

/-- Put a block in the store's queue. -/
def State.logPut (s : State) (r : LogReq) : State := { s with logs := { s.logs with queue := s.logs.queue ++ [r] } }

/-- A block of the lintel's chain, written at once. -/
def State.lintelBlock (s : State) (kind : Nat) (payload : List Byte) : State :=
  (s.logAccept { producer := lintelNo, kind := kind, payload := payload, bay := none, tick := s.openTick }).1

/-- One entry of an event block, 32 bytes (R491). -/
def LogEvent.bytes (e : LogEvent) : List Byte :=
  leBytes 8 e.tick ++ leBytes 8 e.stamp ++ leBytes 2 e.code ++ leBytes 2 (e.args.headD 0)
    ++ leBytes 4 (e.args.getD 1 0) ++ leBytes 4 (e.args.getD 2 0) ++ leBytes 4 (e.args.getD 3 0)

/-- Write `n` event blocks of up to 125 entries from the lintel's events. -/
def State.closeEvents : Nat → State → State
  | 0, s => s
  | n + 1, s =>
    if s.logq.isEmpty then s
    else
      let l := s.logq.take 125
      State.closeEvents n ({ s with logq := s.logq.drop 125 }.lintelBlock 5 (l.flatMap LogEvent.bytes))

/-- LOG_BLOCK_ACCEPT: the store answers the block at the head of its queue (R489), once the ports it goes to are open (R568). With no block waiting, a full event
block of the lintel is written, but not between the lintel's own seal entry and the seal block that holds it (R492). -/
def execLogBlockAccept (s : State) : Host.Outcome State Fault Refusal :=
  match s.logs.queue with
  | [] => .next (if s.logq.length ≥ 125 && s.logs.round.isEmpty then s.closeEvents 1 else s)
  | r :: rest =>
    match (s.placeLog r.producer).find? (fun q => !s.domOpen (99 + q.toNat)) with
    | some q => .next (s.wake (99 + q.toNat))
    | none =>
    let s0 : State := { s with logs := { s.logs with queue := rest } }
    let a := s0.logAccept r
    match r.bay with
    | none => .next a.1
    | some b =>
      .next { a.1 with keyholes := SMap.put a.1.keyholes b ((SMap.get (fun _ => []) a.1.keyholes b).map (fun x =>
        if x.sent && x.answer.isNone then { x with answer := some a.2 } else x)) }

/-! Seals and checkpoints (R492 to R494, R498). -/

/-- The first 64 bytes of a seal entry (R492). -/
def State.sealHead (s : State) (p : Nat) (c : Chain) (final recovered signed : Bool) : List Byte :=
  leBytes 2 p ++ leBytes 2 (recovered.toNat + 2 * final.toNat + 4 * (c.sealedTo == c.next).toNat + 8 * (!signed).toNat)
    ++ leBytes 4 c.run ++ leBytes 8 (c.next - 1) ++ leBytes 8 s.tick ++ leBytes 8 (s.stamps.getD 0 0)
    ++ fitBytes 32 c.head

/-- Seals carry signatures (R493). -/
def State.sealsSigned (s : State) : Bool := s.rosterOk && s.deviceKey.isSome

/-- Capture the head of one producer (R492, R493): the device key signs the lintel's entry and a RECOVERED one (R500) at once, the keyhole
of its bay a pane's; an unsigned entry carries zeros. -/
def State.sealCapture (s : State) (final recovered : Bool) (p : Nat) : SealEntry :=
  let c := s.logs.chain p
  let signed := s.sealsSigned
  let h := s.sealHead p c final recovered signed
  { producer := p, head := h, upTo := c.next, chainHead := c.head,
    sig := if !signed then some (List.replicate 64 0#8)
           else if p = lintelNo ∨ recovered = true then s.deviceKey.map (fun k => edSign k (tagSeal ++ h))
           else none }

/-- An entry as its 128 bytes. -/
def SealEntry.bytes (e : SealEntry) : List Byte := e.head ++ fitBytes 64 (e.sig.getD [])

/-- Write `n` seal blocks of up to 31 entries. -/
def State.sealBlocks : Nat → State → List (List Byte) → State
  | 0, s, _ => s
  | n + 1, s, l =>
    if l.isEmpty then s
    else State.sealBlocks n
      ((s.lintelBlock 2 (l.take 31).flatten).bump (Config.logstore + 0x14) 32 (min l.length 31)) (l.drop 31)

/-- The seal blocks of entries that all have their signatures (R492): the chains are sealed up to what the entries cover, and a checkpoint
is due (R498). -/
def State.sealWrite (s : State) (l : List SealEntry) : State :=
  let chains := l.foldl (fun m e => SMap.put m e.producer { s.logs.chain e.producer with sealedTo := e.upTo, sealedHead := e.chainHead })
    s.logs.chains
  let s1 : State := { s with logs := { s.logs with chains := chains, cpDue := true } }
  s1.sealBlocks (l.length / 31 + 1) (l.map SealEntry.bytes)

/-- The producers of this run: the lintel, and the panes with a block in it, in pane order. -/
def State.producers (s : State) : List Nat :=
  lintelNo :: (s.logs.chains.filter (fun e => e.1 != lintelNo && s.logs.started.contains e.1)).map Prod.fst

/-- The pane of a producer signs an entry's head: the signature the keyhole makes with its latch's key; zeros without a key. -/
def State.sealSign (s : State) (e : SealEntry) : SealEntry :=
  match e.sig with
  | some _ => e
  | none => { e with sig := some (match s.latchKey (e.producer % 1024) with
      | some k => edSign k (tagSeal ++ e.head)
      | none => List.replicate 64 0#8) }

/-- The seal point under way is completed at once: what its entries still lack is signed, and they are written. -/
def State.sealFinish (s : State) : State :=
  let l := s.logs.round.map s.sealSign
  let s1 : State := { s with logs := { s.logs with round := [] },
                             keyholes := SMap.mapVal (fun _ (l : List KhReq) => l.filter (fun r => match r.client with
                               | .latch _ => false
                               | _ => true)) s.keyholes }
  if l.isEmpty then s1 else s1.sealWrite l

/-- The heads of the producers `ps` are captured, once the lintel's event block is closed (R492). -/
def State.sealStart (s : State) (final recovered : Bool) (ps : State → List Nat) : State × List SealEntry :=
  let s1 := s.closeEvents (s.logq.length / 125 + 1)
  (s1, (ps s1).map (s1.sealCapture final recovered))

/-- A seal that waits for nothing: the final one (R494), and that of recovered tails (R500). -/
def State.sealNow (s : State) (final recovered : Bool) (ps : State → List Nat) : State :=
  let x := s.sealFinish.sealStart final recovered ps
  x.1.sealWrite (x.2.map x.1.sealSign)

/-- LOG.SEAL_MS in ns. -/
def State.sealPeriod (s : State) : Nat := SMap.get (fun _ => 1000) s.img (imgKey 0x16 1 0 0) * 1000000

/-- The first boundary of READY has started the seal timer (R492). -/
def State.sealing (s : State) : Bool := s.locked || decide (s.readyBnd > 0)

/-- Write a checkpoint on every port in service (R496, R498); a severed port discards it (R636). -/
def State.checkpoint (s : State) : State :=
  s.upPorts.foldl (fun s q =>
    if s.severed (99 + q.toNat) then s.discards (99 + q.toNat) 1 else
    let e := s.logs.port q
    let cp : Checkpoint := { cpSeq := (e.cp.map (fun c => c.cpSeq + 1)).getD 1, run := s.run, wp := e.wp,
                             chains := s.logs.chains }
    ({ s with logs := { (s.logs.setPort q { e with cp := some cp }) with cpDue := false, since := 0 } } : State).edge
      allBells (30 + q.toNat) 0) s

/-- CHECKPOINT: one is written when it is due. -/
def execCheckpoint (s : State) : Host.Outcome State Fault Refusal :=
  .next (if s.logs.cpDue && !s.logs.stopped then s.checkpoint else s)

/-- EMMC_REQUEST_COMPLETE: bell source 30 or 31 (R294). -/
def execEmmcRequestComplete (port : Bool) (s : State) : Host.Outcome State Fault Refusal :=
  .next (if !s.emmcUp port then s
    else if s.severed (99 + port.toNat) then s.discards (99 + port.toNat) 1
    else s.edge allBells (30 + port.toNat) 0)

/-- Format the store (R499): new superblocks, empty rings and chains, RUN 1, code 0x0504. -/
def State.formatStore (s : State) (fpr : List Byte) : State :=
  let l := s.upPorts.foldl (fun (l : LogStore) q =>
    l.setPort q { l.port q with super := some (fpr, []), ring := [], wp := 0, cp := none }) s.logs
  let s1 : State := { s with logs := { l with chains := [], since := 0, count := 0, cpDue := false, fullSaid := false,
                                              stopped := false, started := [], round := [] } }
  (((s1.wr (Config.logstore + 4) 1).wrFld Config.logstore 10 1 1).logFree).logEv 0x0504 []

/-- The payload of the lintel's start record (R491): reset cause, stepping, conformance level and life-cycle state in a byte
each, START.STATUS, START_MS and SEQ in a word each, the image hash, and the certificate with its length. -/
def State.startRecord (s : State) : List Byte :=
  [BitVec.ofNat 8 ((s.rd Config.cross).fld 0 4), BitVec.ofNat 8 s.otp.stepping, 1#8, BitVec.ofNat 8 s.otp.lc] ++
    Word.bytes (s.rd Config.start) ++ Word.bytes (s.rd (Config.start + 0x40)) ++ Word.bytes (s.rd (Config.start + 4)) ++
    fitBytes 32 s.logs.imgHash ++ leBytes 2 s.otp.cert.length ++ s.otp.cert

/-- The bytes of a clamp record. -/
def ClampRec.bytes (r : ClampRec) : List Byte := Word.bytes r.w0 ++ Word.bytes r.w1 ++ Word.bytes r.w2 ++ Word.bytes r.w3

/-- The clamp report in KIND 3 blocks of 251 records (R491). -/
def State.reportBlocks : Nat → State → List ClampRec → State
  | 0, s, _ => s
  | n + 1, s, l =>
    if l.isEmpty then s
    else State.reportBlocks n (s.lintelBlock 3 ((l.take 251).flatMap ClampRec.bytes)) (l.drop 251)

/-- The lintel's first blocks of a run (R490, R491): its start record, and the clamp report. -/
def State.openRun (s : State) : State :=
  let s1 : State := { s with logs := { s.logs with startSeq := (s.logs.chain lintelNo).next } }
  let s2 := s1.lintelBlock 1 s1.startRecord
  State.reportBlocks (s2.clamps.length / 251 + 1) s2 s2.clamps

/-- LOG_STORE_FORMAT: commanded by the sill port in READY (R499). The run that begins opens with the lintel's start record (R490). -/
def execLogStoreFormat (s : State) : Host.Outcome State Fault Refusal :=
  .next (if s.part == .ready && !s.upPorts.isEmpty then (s.formatStore s.fingerprint).openRun else s)

/-! The keyholes (R484 to R487, R490). -/

/-- The queue of a bay's keyhole. -/
def State.keyhole (s : State) (b : Nat) : List KhReq := SMap.get (fun _ => []) s.keyholes b
/-- Replace it. -/
def State.setKeyhole (s : State) (b : Nat) (l : List KhReq) : State := { s with keyholes := SMap.set (fun _ => []) s.keyholes b l }

/-- A pane's KH_STATUS.STATE. -/
def Pane.khState (q : Pane) : Nat := (q.cr 0x890).fld 0 2

/-- Bytes a request writes at its destination. -/
def KhReq.outLen (r : KhReq) : Nat := if r.op = 1 then 32 else if r.op = 2 then 64 else if r.op = 3 then 352 else 0

/-- The ERR code of a request's operands: 1 OP, 2 range or alignment (R484). -/
def KhReq.err (r : KhReq) : Nat :=
  if r.op = 0 ∨ r.op > 4 then 1
  else if (r.op ≤ 3 ∧ (r.dst % 32 ≠ 0 ∨ r.dst + r.outLen > 2097152)) ∨
      (r.op = 1 ∧ (r.len = 0 ∨ r.src + r.len > 2097152)) ∨
      (r.op = 2 ∧ (r.len = 0 ∨ r.len > 1024 ∨ r.src + r.len > 2097152)) ∨
      (r.op = 4 ∧ (r.src % 4096 ≠ 0 ∨ r.len > 4028 ∨ r.src + 4096 > 2097152)) then 2
  else 0

/-- First byte of a request's operand range: a LOG payload stands past the header (R484, R488). -/
def KhReq.from' (r : KhReq) : Nat := if r.op = 4 then r.src + 64 else r.src

/-- Read a range of the bay buffer into the keyhole's staging memory (R486): none on an uncorrectable word. -/
def State.khRead (s : State) (b a n : Nat) : Option (List Byte) × State :=
  let ws := if n = 0 then [] else (List.range ((a + n - 1) / 8 - a / 8 + 1)).map (fun k => (a / 8 + k) * 8)
  match ws.find? (fun w => s.bulkEcc (.buf b) w == .uncorrectable) with
  | some w => (none, s.bulkUe (.buf b) w)
  | none =>
    (some (Memory.readBytes (s.buf b) a n),
     ws.foldl (fun s w => if s.bulkEcc (.buf b) w == .correctable then s.bulkCorrect (.buf b) w else s) s)

/-- Service of a request starts (R486): its operands are copied. -/
def State.khStage (s : State) (b : Nat) (r : KhReq) : Option (List Byte) × State :=
  match r.client with
  | .pane => if r.err = 0 ∧ r.op ≠ 3 then s.khRead b r.from' r.len else (some [], s)
  | _ => (some [], s)

/-- The keyhole of bay b takes up the request at its head, unless it serves one; with the bay fabric closed the request waits for the
wake it asks for (R485, R486, R568). KH_STATUS shows the request in service. -/
def State.khBegin (s : State) (b : Nat) : State :=
  match s.keyhole b with
  | [] => s
  | r :: rest =>
    if r.begun.isSome then s
    else if !s.domOpen (64 + b) then s.wake (64 + b)
    else
      let x := s.khStage b r
      let s1 := x.2.setKeyhole b ({ r with begun := some { tick := s.openTick, copy := x.1 } } :: rest)
      match r.client with
      | .pane => s1.modPane r.pane (fun q => q.setCr 0x890 ((q.cr 0x890).withFld 0 2 2))
      | _ => s1

/-- A request joins the queue of a bay's keyhole, which serves in arrival order (R485). -/
def State.khPut (s : State) (b : Nat) (r : KhReq) : State := (s.setKeyhole b (s.keyhole b ++ [r])).khBegin b

/-- A write of OP to KH_GO (R484, R485): the request takes the operands as they stand; one while a request is
outstanding is discarded and sets REFUSED. -/
def State.khGo (s : State) (p op : Nat) : State :=
  let q := s.pane p
  if q.khState = 1 ∨ q.khState = 2 then s.setPane p (q.setCr 0x890 (q.cr 0x890 ||| 0x100#32))
  else
    let r : KhReq := { client := .pane, pane := p, op := op, src := (q.cr 0x880).fld 0 21, dst := (q.cr 0x884).fld 0 21,
                       len := (q.cr 0x888).fld 0 22, begun := none, sent := false, answer := none }
    (s.setPane p (q.setCr 0x890 (((q.cr 0x890).withFld 0 2 1).withFld 4 4 0))).khPut (bayOf p) r

/-- A pane's code writes KH_GO or ST_GO: in rings 0 and 1, with the sash open, and with every earlier store in its memory (R155, R484,
R514). -/
def State.goReady (s : State) (p : Nat) : Bool :=
  let q := s.pane p
  s.canIssue p && decide (q.ring ≤ 1) && q.sb.isEmpty && q.settled

/-- KH_GO is written. -/
def State.khCommand (s : State) (p : PaneNo) (op : Nat) : State := if s.goReady p.toNat then s.khGo p.toNat op else s

/-- KEYHOLE_HASH, KEYHOLE_SIGN, KEYHOLE_PUBKEY and KEYHOLE_LOG. -/
def execKeyholeHash (p : PaneNo) (s : State) : Host.Outcome State Fault Refusal := .next (s.khCommand p 1)
def execKeyholeSign (p : PaneNo) (s : State) : Host.Outcome State Fault Refusal := .next (s.khCommand p 2)
def execKeyholePubkey (p : PaneNo) (s : State) : Host.Outcome State Fault Refusal := .next (s.khCommand p 3)
def execKeyholeLog (p : PaneNo) (s : State) : Host.Outcome State Fault Refusal := .next (s.khCommand p 4)

/-- Write bytes into a bay buffer, the words wholly covered with fresh check bits. -/
def State.khWrite (s : State) (b a : Nat) (l : List Byte) : State :=
  let s1 := s.setBulk (.buf b) (Memory.writeBytes (s.buf b) a l)
  (List.range (l.length / 8)).foldl (fun s k => s.setBulkEcc (.buf b) (a + 8 * k) .clean) s1

/-- The request at the head leaves the queue, and the next is taken up. -/
def State.khNext (s : State) (b : Nat) : State := (s.setKeyhole b ((s.keyhole b).drop 1)).khBegin b

/-- Complete a pane's request at the head of the queue (R487). -/
def State.khDone (s : State) (b : Nat) (r : KhReq) (err : Nat) : State :=
  let fin := fun (q : Pane) =>
    (q.setCr 0x890 ((((q.cr 0x890).withFld 0 2 3).withFld 4 4 err).withBit 9 true)).bump 0x894 16 1
  let s1 := (s.modPane r.pane fin).khNext b
  if err = 0 then s1.edge (bayBells b) 36 (r.pane % 128) else s1.edge (bayBells b) 37 err

/-- The bytes a request works on (R486): the copy taken, where a word of the range written since shows its old or its new value, as a
free value says. -/
def State.khCopy (s : State) (b a : Nat) (old : List Byte) : List Byte × State :=
  let new := Memory.readBytes (s.buf b) a old.length
  if new = old then (old, s)
  else
    ((List.range old.length).map (fun i =>
       (if Config.freeNat (s.free + (a + i) / 8 - a / 8) % 2 = 0 then old else new).getD i 0),
     { s with free := s.free + old.length / 8 + 2 })

/-- The payload of a pane's start block (R490). -/
def State.startPayload (s : State) (p : Nat) : List Byte :=
  (s.panePub p).getD (fitBytes 32 (Config.noKey p s.free)) ++ fitBytes 320 (s.paneProof p)
    ++ leBytes 8 s.logs.startSeq ++ leBytes 1 s.otp.stepping ++ leBytes 1 1

/-- Send a LOG request's blocks to the store, the producer's start block first in a run (R488, R490). -/
def State.khLog (s : State) (b : Nat) (r : KhReq) (tick : Nat) (payload : List Byte) : State :=
  let producer := s.partNo * 1024 + r.pane
  let s1 := if s.logs.started.contains producer then s
    else s.logPut { producer := producer, kind := 1, payload := s.startPayload r.pane, bay := none, tick := tick }
  (s1.logPut { producer := producer, kind := 0, payload := payload, bay := some b, tick := tick }).setKeyhole b
    ({ r with sent := true } :: (s.keyhole b).drop 1)

/-- The header and the CRC of an accepted block go back at SRC (R484). -/
def State.khWriteBack (s : State) (b a : Nat) (l : List Byte) : State :=
  (s.khWrite b a (l.take 64)).bulkWrite (.buf b) (a + 0xFFC) 4 (leNat (l.drop 0xFFC))

/-- Serve the pane's request at the head of a bay's queue, from the copy of its operands. -/
def State.khServe (s : State) (b : Nat) (r : KhReq) (g : KhStart) : State :=
  if r.err ≠ 0 then s.khDone b r r.err
  else if r.op = 3 then
    match s.panePub r.pane with
    | some k => (s.khWrite b r.dst (k ++ fitBytes 320 (s.paneProof r.pane))).khDone b r 0
    | none => s.khDone b r 6
  else
    match g.copy with
    | none => s.khDone b r 3
    | some l0 =>
      let x := s.khCopy b r.from' l0
      if r.op = 1 then (x.2.khWrite b r.dst (sha256 x.1)).khDone b r 0
      else match x.2.latchKey r.pane with
        | some k => (x.2.khWrite b r.dst (edSign k (tagPane ++ x.1))).khDone b r 0
        | none => x.2.khDone b r 6

/-- A latch's seal entry is signed (R485, R492), once its strip is open and the latch has its key again (R483); with the last one the
entries go to seal blocks. -/
def State.khSeal (s : State) (b p : Nat) (head : List Byte) : State :=
  if !s.domOpen (72 + b) then s.wake (72 + b) else
  let l := s.logs.round.map (fun e => if e.head = head ∧ e.producer % 1024 = p then s.sealSign e else e)
  let s1 := ({ s with logs := { s.logs with round := l } } : State).khNext b
  if l.all (fun e => e.sig.isSome) then s1.sealFinish else s1

/-- The pane's request at the head, in service since g: a LOG request first sends its blocks to the log store, and completes once the
store has answered. -/
def State.khPane (s : State) (b : Nat) (r : KhReq) (g : KhStart) : State :=
  if r.op = 4 ∧ r.err = 0 then
    match r.answer with
    | some a => (if a.1 = 0 then s.khWriteBack b r.src a.2 else s).khDone b r a.1
    | none =>
      if r.sent then s
      else match g.copy with
        | none => s.khDone b r 3
        | some l0 =>
          let x := s.khCopy b r.from' l0
          x.2.khLog b r g.tick x.1
  else s.khServe b r g

/-- An entry without a signature is a request of its pane's latch at the keyhole of its bay (R485, R492). -/
def State.sealRequest (s : State) (e : SealEntry) : State :=
  if e.sig.isSome then s
  else
    let p := e.producer % 1024
    let r : KhReq := { client := .latch e.head, pane := p, op := 0, src := 0, dst := 0, len := 0, begun := none, sent := false,
                       answer := none }
    s.khPut (bayOf p) r

/-- SEAL_POINT: the first boundary at or after the seal timer's expiry has passed (R492). The heads are captured; the entries go to seal
blocks once the keyholes have signed them. A latch has one seal outstanding (R485), so that a seal point waits for the one before. -/
def execSealPoint (t : Nat) (s : State) : Host.Outcome State Fault Refusal :=
  let s1 := s.at t
  if s1.part == .off || s1.part == .starting || s1.part == .faulted || !s1.sealing || s1.lastC < s1.logs.sealAt ||
      !s1.logs.round.isEmpty || s1.logs.stopped then .next s1
  else
    let x := s1.sealStart false false State.producers
    let s2 : State := { x.1 with logs := { x.1.logs with
      sealAt := s1.logs.sealAt + ((s1.lastC - s1.logs.sealAt) / max s1.sealPeriod 1 + 1) * s1.sealPeriod } }
    if x.2.all (fun e => e.sig.isSome) then .next (s2.sealWrite x.2)
    else .next (x.2.foldl State.sealRequest { s2 with logs := { s2.logs with round := x.2 } })

end Sys2Proof.Machine
end

