-- ==== Sys2Proof/Machine/Net.lean ====
section
/-!
DEFINITION. Ethernet: frames, links, 802.1AS time, scheduled traffic, stream records and announcements (R507 to R519).
-/
namespace Sys2Proof.Machine

/-- Set it. -/
def State.setTimeState (s : State) (q v : Nat) : State := s.wrFld (Config.net q + 0x24) 2 2 v
/-- A port event at bell source 62 or 63. -/
def State.portEvent (s : State) (q code : Nat) : State := s.edge allBells (62 + q) code

/-- The time port follows the links: it listens, and the other port carries no time (R510). -/
def State.chooseTimePort (s : State) : State :=
  [0, 1].foldl (fun s q =>
    let a := Config.net q + 0x24
    if s.timePort = some q then (if (s.rd a).bit 1 then s else (s.wrFld a 1 1 1).setTimeState q 1)
    else (s.wrFld a 1 1 0).setTimeState q 0) s

/-! Frames (R507, R508). -/

/-- A frame passes the port's VLAN rule and its checks. -/
def State.frameOk (s : State) (q : Nat) (f : EthFrame) : Bool :=
  f.fits && f.intact && f.vlan == (if s.netVlan q = 0 then none else some (s.netVlan q))

/-- The answer to a supported frame, if any. -/
def State.frameAnswer (s : State) (q : Nat) (f : EthFrame) : Option (List Byte) :=
  match f.kind with
  | .arp t => if t = s.netIpv4 q ∧ t ≠ 0 then some (leBytes 4 t) else none
  | .echo4 d l => if d = s.netIpv4 q ∧ d ≠ 0 then some l else none
  | .solicit own => if own then some [] else none
  | .echo6 own l => if own then some l else none
  | .other => none

/-- ETH_FRAME_RECEIVE: a frame is accepted and answered, or dropped and counted (R508). -/
def execEthFrameReceive (port : Bool) (f : EthFrame) (s : State) : Host.Outcome State Fault Refusal :=
  let q := port.toNat
  if !s.netUp q then .next s
  else if s.severed (90 + q) then .next (s.discards (90 + q) 1)
  else match (if s.frameOk q f then s.frameAnswer q f else none) with
    | some l => .next ((s.bump (Config.net q + 0x48) 32 1).netSend q 0x20 l)
    | none => .next (s.bump (Config.net q + 0x4C) 32 1)

/-! Announcements (R519). -/

/-- ANNOUNCEMENT: from the first boundary of READY on (R519). -/
def execAnnouncement (s : State) : Host.Outcome State Fault Refusal :=
  .next (if s.part == .off || s.part == .starting then s else s.announce)

/-- ETH_LINK_CHANGE: a link goes up or down (R510, R519, R528). -/
def execEthLinkChange (port up : Bool) (s : State) : Host.Outcome State Fault Refusal :=
  let q := port.toNat
  if !s.netEn q || !s.domOpen (90 + q) || (s.rd (Config.net q + 0x24)).bit 0 == up then .next s
  else
    let s1 := ((s.wrFld (Config.net q + 0x24) 0 1 up.toNat).chooseTimePort).portEvent q (if up then 1 else 2)
    .next (if up && s1.part.boltUp then s1.announceOn q else s1)

/-! 802.1AS time (R510 to R512). -/

/-- The largest slew over `dt` ns: 50 ppm (R511). -/
def slewMax (dt : Nat) : Nat := dt * 50 / 1000000

/-- Apply a measured offset (R511): a step above 1 ms, else a slew of at most 50 ppm since the last adjustment. How far
the slew goes within that bound is a free value (log 2). A part that had no 802.1AS time starts from the count of ns since reset
(R70). -/
def State.adjustTime (s : State) (q : Nat) (off : Int) : State :=
  let s0 := s.wr (Config.net q + 0x28) (satInt32 off)
  if off.natAbs > 1000000 then
    ({ s0 with net := { s0.net with toff := s0.timeOff - off, adjusted := s0.now } } : State).portEvent q 7
  else
    let d := s0.draw
    let lim := min off.natAbs (slewMax (s0.now - s0.net.adjusted))
    let a : Int := if off < 0 then (d.1 % (lim + 1) : Nat) else -((d.1 % (lim + 1) : Nat) : Int)
    { d.2 with net := { d.2.net with toff := s0.timeOff + a, adjusted := s0.now } }

/-- PTP_MESSAGE_RECEIVE: on the time port only (R510, R511); at the other port it is dropped (R508). A follower never becomes
grandmaster. -/
def execPtpMessageReceive (port : Bool) (m : PtpMsg) (t : Nat) (s : State) : Host.Outcome State Fault Refusal :=
  let q := port.toNat
  let s0 := s.at t
  if !s0.netUp q then .next s0
  else if s0.severed (90 + q) then .next (s0.discards (90 + q) 1)
  else if s0.timePort ≠ some q then .next (s0.bump (Config.net q + 0x4C) 32 1)
  else
  let s1 := s0.bump (Config.net q + 0x48) 32 1
  match m with
    | .sync off =>
      if s1.timeState q = 3 then .next s1
      else
        let s2 := s1.adjustTime q off
        .next (if s1.timeState q = 2 then s2 else (s2.setTimeState q 2).portEvent q 3)
    | .announce gm self =>
      let lo : Word := gm.setWidth 32
      let hi : Word := (gm >>> 32).setWidth 32
      let same := s1.rd (Config.net q + 0x30) == lo && s1.rd (Config.net q + 0x34) == hi
      let s2 := if same then s1 else ((s1.wr (Config.net q + 0x30) lo).wr (Config.net q + 0x34) hi).portEvent q 5
      if self && s1.netRole q == 2 then
        .next (if s1.timeState q = 3 then s2 else (s2.setTimeState q 3).portEvent q 6)
      else .next (if s1.timeState q = 3 then s2.setTimeState q 1 else s2)
    | .pdelay ns => .next (s1.wr (Config.net q + 0x2C) (BitVec.ofNat 32 ns))

/-- PTP_MESSAGE_SEND: kind 0 sync, 1 announce, 2 peer delay request. Sync and announce leave only as grandmaster
(R510, R511). -/
def execPtpMessageSend (port : Bool) (kind : BitVec 2) (s : State) : Host.Outcome State Fault Refusal :=
  let q := port.toNat
  if s.timePort ≠ some q then .next s
  else match kind.toNat with
    | 0 => .next (if s.timeState q = 3 then s.netSend q 0x30 (leBytes 1 0 ++ leBytes 8 s.clock) else s)
    | 1 => .next (if s.timeState q = 3 then s.netSend q 0x30 (leBytes 1 1 ++ [246#8, 248#8, 0xFE#8, 0xA0#8]) else s)
    | 2 => .next (s.netSend q 0x30 (leBytes 1 2))
    | _ => .next s

/-- PTP_RECEIPT_TIMEOUT: time is lost; a grandmaster-capable part takes over after an announce timeout (R510). -/
def execPtpReceiptTimeout (port announce : Bool) (s : State) : Host.Outcome State Fault Refusal :=
  let q := port.toNat
  if s.timePort ≠ some q ∨ s.timeState q = 3 then .next s
  else
    let s1 := if s.timeState q = 2 then (s.setTimeState q 1).portEvent q 4 else s
    .next (if announce && s.netRole q == 2 then (s1.setTimeState q 3).portEvent q 6 else s1)

/-! Scheduled traffic (R513). -/

/-- GATE_CONTROL_ENTRY: the list moves to its next entry, and starts again at the cycle's end. Frames that waited for a gate that is
open now leave. -/
def execGateControlEntry (port : Bool) (s : State) : Host.Outcome State Fault Refusal :=
  let q := port.toNat
  let n := s.gateCount q
  if !s.netEn q || n == 0 || !s.part.boltUp then .next s
  else
    let s1 := s.wrFld (Config.net q + 0x24) 4 1 1
    let i := match SMap.at? s.net.gate q with
      | some k => (k + 1) % n
      | none => 0
    let s2 : State := { s1 with net := { s1.net with gate := SMap.put s1.net.gate q i, gateAt := SMap.put s1.net.gateAt q s1.now,
                                                     waiting := [] } }
    .next (s1.net.waiting.foldl (fun s x => s.queueOut x.1 x.2.1 x.2.2) s2)

/-! Stream records (R509, R514 to R518). -/

/-- STREAM fields of stream k (R476). -/
def State.strValid (s : State) (k : Nat) : Bool := s.field 0x15 1 k 0 0 == 1
def State.strPort (s : State) (k : Nat) : Nat := s.field 0x15 2 k 0 0
def State.strKind (s : State) (k : Nat) : Nat := s.field 0x15 3 k 0 0
def State.strProducer (s : State) (k : Nat) : Nat := s.field 0x15 4 k 0 0
def State.strEnc (s : State) (k : Nat) : Bool := s.field 0x15 7 k 0 0 == 1
/-- DEST_IP is an IPv4-mapped address. -/
def State.strV4 (s : State) (k : Nat) : Bool := s.field 0x15 5 k 0 0 % 2 ^ 96 == 0xFFFF * 2 ^ 80
/-- P_max (R516). -/
def State.strMax (s : State) (k : Nat) : Nat := (if s.strV4 k then 1424 else 1404) - (if s.strEnc k then 16 else 0)

/-- The key of stream k in this run (R518). -/
def State.streamKey (s : State) (k : Nat) : Option (List Byte) :=
  match s.net.eph, s.knockKey 0 with
  | some e, some pub => some (hkdf32 tagStream (xShared e pub) (leBytes 4 s.run ++ leBytes 1 k))
  | _, _ => none

/-- The requests of a pane, and of a port. -/
def State.reqsOf (s : State) (p : Nat) : List StreamReq := s.net.reqs.filter (fun r => r.pane == p)
def State.reqsAt (s : State) (q : Nat) : List StreamReq := s.net.reqs.filter (fun r => s.strPort r.stream == q)

/-- ST_STATUS.STATE and OUT follow the requests. -/
def State.stShow (s : State) (p : Nat) : State :=
  let l := s.reqsOf p
  s.modPane p (fun q =>
    let w := (q.cr 0x8D0).withFld 8 3 l.length
    q.setCr 0x8D0 (match l with
      | r :: _ => w.withFld 0 2 (if r.sent = 0 then 1 else 2)
      | [] => w))

/-- A request ends with ERR: DONE, ST_COUNT, and STATE 3 when it was the oldest. -/
def State.stEnd (s : State) (p err : Nat) : State :=
  (s.modPane p (fun q => (q.setCr 0x8D0 ((((q.cr 0x8D0).withFld 0 2 3).withFld 4 4 err).withBit 11 true)).bump 0x8D4 16 1)
    ).stShow p

/-- The checks of R514, in order. -/
def State.stCheck (s : State) (p k off len unit : Nat) : Option Nat :=
  if !s.strValid k || s.strProducer k != p then some 1
  else if len % 4 ≠ 0 ∨ len < 4 ∨ len > 65536 ∨ s.dramRefuses ∨ off + len > s.bulkSize .dram then some 2
  else if unit % 4 ≠ 0 ∨ unit < 4 ∨ unit > s.strMax k then some 3
  else if (s.reqsOf p).length ≥ 4 ∨ (s.reqsAt (s.strPort k)).length ≥ 64 then some 4
  else if !s.netUp (s.strPort k) || !s.net.resolved.contains k then some 5
  else if s.strEnc k && (s.streamKey k).isNone then some 7
  else none

/-- A write of a stream number to ST_GO (R514). -/
def State.stGo (s : State) (p k : Nat) : State :=
  let q := s.pane p
  let off := (q.cr 0x8C0).fld 0 30 * 8
  let len := (q.cr 0x8C4).fld 0 17
  let unit := (q.cr 0x8C8).fld 0 12
  match s.stCheck p k off len unit with
  | some e => s.stEnd p e
  | none =>
    ({ s with net := { s.net with reqs := s.net.reqs ++
      [{ pane := p, stream := k, off := off, len := len, unit := unit, tick := q.tag, stamp := q.tks, sent := 0, err := 0 }] } }
      : State).stShow p

/-- STREAM_REQUEST: ring 0 or ring 1 code of a pane writes ST_GO (R514). -/
def execStreamRequest (p : PaneNo) (stream : BitVec 6) (s : State) : Host.Outcome State Fault Refusal :=
  .next (if s.goReady p.toNat then s.stGo p.toNat stream.toNat else s)

/-- Payload bytes of a full record of a request (R515). -/
def State.recSize (s : State) (r : StreamReq) : Nat := s.strMax r.stream / max r.unit 1 * r.unit
/-- Records of a request. -/
def State.recCount (s : State) (r : StreamReq) : Nat := (r.len + s.recSize r - 1) / max (s.recSize r) 1

/-- Read payload bytes through the system port: none on an uncorrectable word. -/
def State.dramRead (s : State) (a n : Nat) : Option (List Byte) × State :=
  let ws := (List.range ((a + n - 1) / 8 - a / 8 + 1)).map (fun k => (a / 8 + k) * 8)
  match ws.find? (fun w => s.bulkEcc .dram w == .uncorrectable) with
  | some w => (none, s.bulkUe .dram w)
  | none =>
    (some (Memory.readBytes s.dram a n),
     ws.foldl (fun s w => if s.bulkEcc .dram w == .correctable then s.bulkCorrect .dram w else s) s)

/-- Records of a port at a keyhole (R485). -/
def KhReq.ofPort (q : Nat) (r : KhReq) : Bool :=
  match r.client with
  | .port q' .. => q' == q
  | _ => false

/-- The port has a record at some keyhole: one of the request at its head, as the requests go in order (R515). -/
def State.encrypting (s : State) (q : Nat) : Bool := s.keyholes.any (fun e => e.2.any (fun r => r.ofPort q))

/-- One record of a request (R515, R518): sent, or dropped with ERR 6 on an uncorrectable word; one to be encrypted goes to the keyhole
of the producer's bay. -/
def State.sendRecord (s : State) (q : Nat) (r : StreamReq) : State × Nat :=
  let k := r.stream
  let size := s.recSize r
  let o := r.sent * size
  let n := min size (r.len - o)
  let seq := SMap.get (fun _ => 0) s.net.seq k
  let s0 : State := { s with net := { s.net with seq := SMap.put s.net.seq k (seq + 1) } }
  let g := s0.dramRead (r.off + o) n
  match g.1 with
  | none => (g.2.bump (Config.net q + 0x44) 32 1, 6)
  | some l =>
    let h := s.recHeader (s.strKind k) k (s.partNo * 1024 + r.pane) r.sent (s.recCount r) seq r.tick r.stamp n o (s.strEnc k)
    if s.strEnc k then
      let x : KhReq := { client := .port q (s.strKind k) k h (leBytes 8 seq ++ leBytes 4 0) l, pane := r.pane, op := 0, src := 0,
                         dst := 0, len := 0, begun := none, sent := false, answer := none }
      (g.2.khPut (bayOf r.pane) x, 0)
    else ((g.2.bump (Config.net q + 0x40) 32 1).netSend q (s.strKind k) (h ++ l) (!s.strV4 k), 0)

/-- Put the request forward by `n` records, or end it when they are its last and none is at a keyhole. -/
def State.stNext (s : State) (q : Nat) (r : StreamReq) (err n : Nat) : State :=
  let e := if err = 0 then r.err else err
  if s.recCount r ≤ r.sent + n && !s.encrypting q then ({ s with net := { s.net with reqs := s.net.reqs.erase r } } : State).stEnd r.pane e
  else
    ({ s with net := { s.net with reqs := s.net.reqs.map (fun x => if x = r then { r with sent := r.sent + n, err := e } else x) } }
      : State).stShow r.pane

/-- STREAM_RECORD_SEND: the port sends the next record of the request at its head (R515). A link that is down drops the
rest with ERR 5; records to an unresolved destination are dropped (R509). A port has at most 4 records at one keyhole (R485), and
a request all of whose records have left the port waits for those there. A record whose gate is closed waits (R513). -/
def execStreamRecordSend (port : Bool) (s : State) : Host.Outcome State Fault Refusal :=
  let q := port.toNat
  match s.reqsAt q with
  | [] => .next s
  | r :: _ =>
    if !s.domOpen 98 then .next (s.wake 98) else
    let left := s.recCount r - r.sent
    let seq := SMap.get (fun _ => 0) s.net.seq r.stream
    if left = 0 then .next s
    else if !s.netUp q then
      let s0 : State := { s with net := { s.net with seq := SMap.put s.net.seq r.stream (seq + left) } }
      .next ((s0.bump (Config.net q + 0x44) 32 left).stNext q r 5 left)
    else if !s.net.resolved.contains r.stream then
      let s0 : State := { s with net := { s.net with seq := SMap.put s.net.seq r.stream (seq + 1) } }
      .next ((s0.bump (Config.net q + 0x44) 32 1).stNext q r 0 1)
    else if !s.strEnc r.stream && !s.gateOpen q ((s.rd (Config.net q)).fld 16 3)
        (s.wireNs q (!s.strV4 r.stream) (48 + min (s.recSize r) (r.len - r.sent * s.recSize r))) then .next s
    else if s.strEnc r.stream && decide (((s.keyhole (bayOf r.pane)).filter (fun x => x.ofPort q)).length ≥ 4) then .next s
    else
      let x := s.sendRecord q r
      .next (x.1.stNext q r x.2 1)

/-- A keyhole has encrypted a record of port q (R518), which the port sends; a link that has gone down drops it, and the rest of its
request, with ERR 5 (R515). The request ends with its last record. -/
def State.khRecord (s : State) (b q kind k : Nat) (h nonce l : List Byte) : State :=
  let s1 := s.khNext b
  let err := if s1.netUp q then 0 else 5
  let s2 := if s1.netUp q then
      (s1.bump (Config.net q + 0x40) 32 1).netSend q kind (h ++ aead ((s1.streamKey k).getD []) nonce h l) (!s1.strV4 k)
    else s1.bump (Config.net q + 0x44) 32 1
  match s2.reqsAt q with
  | r :: _ => s2.stNext q r err 0
  | [] => s2

/-- KEYHOLE_COMPLETION: the keyhole of a bay completes the request it serves (R485 to R487). A LOG request first sends
its blocks to the log store, and completes once the store has answered. A closed bay fabric is woken first. -/
def execKeyholeCompletion (bay : BitVec 3) (s : State) : Host.Outcome State Fault Refusal :=
  let b := bay.toNat
  match s.keyhole b with
  | [] => .next s
  | r :: _ =>
    match r.begun with
    | none => .next (s.khBegin b)
    | some g =>
      match r.client with
      | .pane => .next (s.khPane b r g)
      | .latch head => .next (s.khSeal b r.pane head)
      | .port q kind k h nonce l => .next (s.khRecord b q kind k h nonce l)

/-- ADDRESS_RESOLUTION: the destinations of a port's streams are resolved; `answered` names the streams whose
destination answers (R509). -/
def execAddressResolution (port : Bool) (answered : List Nat) (s : State) : Host.Outcome State Fault Refusal :=
  let q := port.toNat
  if !s.netUp q || !s.part.boltUp then .next s
  else
    let mine := (List.range 64).filter (fun k => s.strValid k && s.strPort k == q)
    let s1 := mine.foldl (fun s k => s.netSend q 0x21 (leBytes 16 (s.field 0x15 5 k 0 0))) s
    .next { s1 with net := { s1.net with
      resolved := s1.net.resolved.filter (fun k => !mine.contains k) ++ mine.filter (fun k => answered.contains k) } }

end Sys2Proof.Machine
end

