-- ==== Sys2Proof/Machine/Knocks.lean ====
section
/-!
DEFINITION. Knocks: their paths, acceptance, forwarding on a board, and the decision at a boundary (R421, R441, R442,
R520 to R526, R548, R598).
-/
namespace Sys2Proof.Machine

/-! Acceptance (R520 to R524). -/

/-- A knock by its number (R520). -/
def Knock.ofNum : Nat → Option Knock
  | 0 => some .start
  | 1 => some .hold
  | 2 => some .resume
  | 3 => some .abort
  | 4 => some .mark
  | 5 => some .shutdown
  | 6 => some .report
  | _ => none

/-- KNOCK_RESULT of the sill port (R598). -/
def State.sillResult (s : State) (k outcome : Nat) : State :=
  s.swr 0x4C (BitVec.ofNat 32 (k + outcome * 16 + 2 ^ 31))

/-- The next boundary of class c, by the tick it starts; 0 before RUNNING (R523, R525). -/
def State.nextOfClass (s : State) (c : Nat) : Nat :=
  if s.ticking then (s.tick / s.mult c + 1) * s.mult c else 0

/-- KNOCK.CLASS of a knock number. -/
def State.knockClass (s : State) (k : Nat) : Nat := (s.rd Config.knock).fld (2 * k) 2

/-- A reply to a network knock of number k (R525). -/
def State.knockReply (s : State) (k : Nat) (r : Nat × Nat × Nat) (outcome due : Nat) : State :=
  let d := s.draw
  let h := s.recHeader 0x11 0xFF 0xFFFF 0 1 (d.1 % 2 ^ 64) s.shownTick (s.stamps.getD 0 0) 80 0 false
  let b := leBytes 1 k ++ leBytes 1 r.2.1 ++ leBytes 4 r.2.2 ++ leBytes 1 outcome ++ leBytes 1 0 ++ leBytes 8 due
  d.2.netSend r.1 0x11 (h ++ b ++ s.deviceSign (tagReply ++ h ++ b))

/-- A refusal (R522, R523) of knock number k: bell source 47, the registers, the log, and the answer on its path. -/
def State.refuseNum (s : State) (k path : Nat) (reply : Option (Nat × Nat × Nat)) (reason arg : Nat) : State :=
  let s1 := ((s.bump (Config.knock + 0x8C) 16 1).wr (Config.knock + 0x90)
    (BitVec.ofNat 32 (k % 8 + reason * 16 + path * 256 + 2 ^ 31))).edge allBells 47 k
  let s2 := s1.logEv (0x0200 + reason) [k, arg, path]
  let s3 := if path = 1 then s2.sillResult k reason else s2
  match reply with
  | some r => s3.knockReply k r reason (s.nextOfClass (s.knockClass k))
  | none => s3

/-- A refusal of one of the seven knocks. -/
def State.refuse (s : State) (k : Knock) (path : Nat) (reply : Option (Nat × Nat × Nat)) (reason arg : Nat) : State :=
  s.refuseNum k.num path reply reason arg

/-- PENDING shows the pending set. -/
def State.showPending (s : State) : State :=
  s.wr (Config.knock + 0x80) (BitVec.ofNat 32 (s.net.knocks.foldl (fun a x => a ||| 2 ^ x.knock.num) 0))

/-- Join the pending set; a knock already pending takes the new one in (R524). The model's log code of a merge is
0x0280 (log 23). -/
def State.pend (s : State) (x : PendKnock) : State :=
  if s.net.knocks.any (fun y => y.knock == x.knock) then s.logEv 0x0280 [x.knock.num]
  else ({ s with net := { s.net with knocks := s.net.knocks ++ [x] } } : State).showPending

/-- An accepted knock (R522 to R524, R548): counted, its bell source, its answer; pending, or on its way to the
master on a board of several parts. -/
def State.accept (s : State) (k : Knock) (arg : DWord) (path : Nat) (reply : Option (Nat × Nat × Nat)) : State :=
  let s1 := (s.bump (Config.knock + 0x88) 16 1).edge allBells (40 + k.num) path
  let s2 := if path = 1 then s1.sillResult k.num 0 else s1
  let s3 := match reply with
    | some r => s2.knockReply k.num r 0 (s.nextOfClass (s.knockClass k.num))
    | none => s2
  if s.parts ≥ 2 then
    { s3 with net := { s3.net with board := s3.net.board ++ [{ knock := k, arg := arg, path := path, reply := reply,
                                                               at' := s.now }] } }
  else s3.pend { knock := k, arg := arg, due := none, path := path, reply := reply }

/-- The part takes knocks: not in OFF; in STARTING each is refused with reason 5 (R421). -/
def State.knockIn (s : State) (k : Knock) (arg : DWord) (path : Nat) (reply : Option (Nat × Nat × Nat)) : State :=
  match s.part with
  | .off => s
  | .starting => s.refuse k path reply 5 0
  | _ => s.accept k arg path reply

/-! Network knocks (R521, R522). -/

/-- A field of a datagram. -/
def dg (l : List Byte) (o n : Nat) : Nat := leNat ((l.drop o).take n)

/-- Check 1 of R522. -/
def dgramFormed (l : List Byte) : Bool :=
  l.length == 104 && dg l 0 4 == 0x4B574B41 && dg l 4 1 == 1 && dg l 7 1 == 0 && dg l 12 4 == 0

/-- The refusal reason of a well-formed datagram, if any: checks 3 to 6 of R522. There are 8 key slots, and rights to the seven knocks
only. -/
def State.dgramReason (s : State) (l : List Byte) : Option Nat :=
  let j := dg l 6 1
  match (if j ≤ 7 then s.knockKey j else none) with
  | none => some 1
  | some key =>
    if decide (dg l 5 1 ≥ 7) || !(s.rd (Config.knock + 0x40 + 4 * j)).bit (dg l 5 1) then some 1
    else if !edVerify key (tagKnock ++ l.take 40) ((l.drop 40).take 64) then some 2
    else if dg l 24 4 ≠ s.run then some 3
    else if dg l 28 4 ≤ (s.rd (Config.knock + 0x60 + 4 * j)).toNat then some 4
    else none

/-- NETWORK_KNOCK: a datagram arrives at a port at time t (R522), in a frame that the port accepts (R508): at most 64 a second are
verified. An accepted one sets the key's LAST_COUNTER, which STARTING, where none is accepted (R421), leaves. -/
def execNetworkKnock (port : Bool) (dgram : List Byte) (t : Nat) (s : State) : Host.Outcome State Fault Refusal :=
  let q := port.toNat
  let sa := s.at t
  if !sa.netUp q then .next sa
  else if sa.severed (90 + q) then .next (sa.discards (90 + q) 1)
  else
    let s0 := sa.bump (Config.net q + 0x48) 32 1
    let recent := (SMap.get (fun _ => []) s0.net.verified q).filter (fun x => decide (s0.now < x + 1000000000))
    if recent.length ≥ 64 then .next (s0.bump (Config.net q + 0x54) 16 1)
    else
      let s1 : State := { s0 with net := { s0.net with verified := SMap.put s0.net.verified q (recent ++ [s0.now]) } }
      if !dgramFormed dgram then .next (s1.bump (Config.net q + 0x50) 16 1)
      else if dg dgram 8 4 ≠ s1.boardId ∨ (dg dgram 16 8 ≠ 0 ∧ dg dgram 16 8 ≠ s1.otp.deviceId) then .next s1
      else
        let reply := some (q, dg dgram 6 1, dg dgram 28 4)
        match s1.dgramReason dgram, Knock.ofNum (dg dgram 5 1) with
        | some r, _ => .next (s1.refuseNum (dg dgram 5 1) 0 reply r 0)
        | none, some k =>
          let s2 := if s1.part == .starting then s1 else s1.wr (Config.knock + 0x60 + 4 * dg dgram 6 1) (BitVec.ofNat 32 (dg dgram 28 4))
          .next (s2.knockIn k (BitVec.ofNat 64 (dg dgram 32 8)) 0 reply)
        | none, none => .next s1

/-! Sill and pin knocks (R520, R598). -/

/-- A write to the sill KNOCK register (R598). Value 7 names no knock. -/
def State.sillKnock (s : State) (v : Word) : State :=
  match Knock.ofNum (v.fld 0 3) with
  | none => s
  | some k =>
    if s.part == .starting then s.refuse k 1 none 5 0
    else if s.part == .off then s
    else if !(s.rd (Config.knock + 4)).bit k.num then s.refuse k 1 none 1 0
    else s.accept k (BitVec.ofNat 64 ((s.srd 0x40).toNat + (s.srd 0x44).toNat * 2 ^ 32)) 1 none

/-- The sill port answers: the part is out of reset and not in OFF (R588, R590). -/
def State.sillUp (s : State) : Bool := s.part != .off && !s.inReset

/-- The sill block takes commands: a SCRAPPED part answers its identity and state registers and nothing else (R420). -/
def State.sillTakes (s : State) : Bool := s.sillUp && s.otp.lc != 4

/-- A severed sill crossing discards what arrives, and counts it (R636). -/
def State.sillDrop (s : State) : State := if s.sillUp && s.severed 106 then s.discards 106 1 else s

/-- A frame at the port does `f`; a severed port answers no status: `quiet` (R590, R636). -/
def State.sillEvent (s : State) (f : State → State) (quiet : State) : State :=
  if !s.sillUp then quiet else if s.severed 106 then { s.discards 106 1 with miso := [] } else f s

/-- A command of the sill block does `f`. -/
def State.sillCmd (s : State) (f : State → State) : State := if s.sillTakes && !s.severed 106 then f s else s.sillDrop

/-- SILL_KNOCK: `v` is the word written. -/
def execSillKnock (v : Word) (s : State) : Host.Outcome State Fault Refusal := .next (s.sillCmd (fun s => s.sillKnock v))

/-- Knocks whose PIN names a line. -/
def State.pinKnocks (s : State) (line : Nat) : List Knock :=
  (List.range 7).filterMap (fun k => if (s.rd (Config.knock + 0x10 + 4 * k)).fld 0 8 = line then Knock.ofNum k else none)

/-- PIN_KNOCK: the line has been sampled high for 10 us after it was sampled low (R520). -/
def execPinKnock (line t : Nat) (s : State) : Host.Outcome State Fault Refusal :=
  if line ≥ 48 then .fault .noSuchUnit
  else
    let s1 := s.at t
    match SMap.at? s1.gpioHigh line with
    | none => .next s1
    | some since =>
      if s1.now < since + 10000 then .next s1
      else
        let s2 : State := { s1 with gpioHigh := SMap.del s1.gpioHigh line }
        .next ((s1.pinKnocks line).foldl (fun s k => s.knockIn k 0 2 none) s2)

/-! Boards of several parts (R548). -/

/-- A knock at the master: a network knock with the same KEY and COUNTER counts once, and one already waiting or
pending takes it in. -/
def State.atMaster (s : State) (x : BoardKnock) : State :=
  let dup := match x.reply with
    | some (_, key, ctr) => s.net.counted.contains (key, ctr)
    | none => false
  if dup then s
  else
    let s1 : State := match x.reply with
      | some (_, key, ctr) => { s with net := { s.net with counted := s.net.counted ++ [(key, ctr)] } }
      | none => s
    if s1.net.board.any (fun y => y.knock == x.knock) || s1.net.knocks.any (fun y => y.knock == x.knock) then
      s1.logEv 0x0280 [x.knock.num]
    else { s1 with net := { s1.net with board := s1.net.board ++ [x] } }

/-- KNOCK_FORWARD: a follower sends its oldest accepted knock to the master; at the master, a forwarded knock
arrives. -/
def execKnockForward (inn : Option CtlBlock) (s : State) : Host.Outcome State Fault Refusal :=
  if s.parts < 2 then .next s
  else match inn with
    | some (.knock k arg path reply) =>
      if s.master = s.partNo then
        .next (s.atMaster { knock := k, arg := arg, path := path, reply := reply, at' := s.now })
      else .next s
    | some _ => .next s
    | none =>
      match s.net.board, s.exitLink s.master 0 with
      | x :: rest, some l =>
        if s.master = s.partNo then .next s
        else .next { s with net := { s.net with board := rest },
                            ctlOut := s.ctlOut ++ [(l, .knock x.knock x.arg x.path x.reply)] }
      | _, _ => .next s

/-- The number of the coming boundary in its divider phase: its tick number, or before RUNNING the count of READY's boundaries (R53,
R54). -/
def State.bndNo (s : State) : Nat := if s.ticking then s.nextTick else s.readyBnd

/-- The boundary of class c whose root close falls at least 2 us after `at'`, by its number (R548). -/
def State.dueAfter (s : State) (c at' : Nat) : Nat :=
  let m := s.mult c
  let period := max (s.gen.period / 2 ^ 32) 1
  let first := if s.gen.nextNs ≥ at' + 2000 then 0 else (at' + 2000 - s.gen.nextNs + period - 1) / period
  let n := s.bndNo + first
  (n + m - 1) / m * m

/-- A due boundary on its way between the parts: its tick number; before RUNNING, when the tick number reads 0 on every part (R54), its
distance from the coming boundary (log 150). -/
def State.dueSent (s : State) (due : Nat) : Nat := if s.ticking then due else due - s.bndNo
/-- And at the part that receives it. -/
def State.dueHere (s : State) (due : Nat) : Nat := if s.ticking then due else due + s.bndNo

/-- KNOCK_BROADCAST: the master sends its oldest knock with its due tick to every part and makes it pending; at a
follower, the broadcast arrives. -/
def execKnockBroadcast (inn : Option CtlBlock) (s : State) : Host.Outcome State Fault Refusal :=
  if s.parts < 2 then .next s
  else match inn with
    | some (.broadcast k arg due) =>
      if s.master = s.partNo then .next s
      else .next (s.pend { knock := k, arg := arg, due := some (s.dueHere due), path := 0, reply := none })
    | some _ => .next s
    | none =>
      match s.net.board with
      | x :: rest =>
        if s.master ≠ s.partNo then .next s
        else
          let due := s.dueAfter (s.knockClass x.knock.num) x.at'
          let links := (List.range s.parts).filterMap (fun p => if p = s.partNo then none else s.exitLink p 0)
          let s1 : State := { s with net := { s.net with board := rest },
                                     ctlOut := s.ctlOut ++ links.eraseDups.map (fun l => (l, .broadcast x.knock x.arg (s.dueSent due))) }
          .next (s1.pend { knock := x.knock, arg := x.arg, due := some due, path := x.path, reply := x.reply })
      | [] => .next s

/-! Decision (R36, R441, R442, R523, R526). -/

/-- The bolt vetoes START (R370). A severed crossing counts both pins as asserted (R636). -/
def State.boltVeto (s : State) : Bool := s.bolt.abortIn.asserted || s.bolt.door.asserted || s.severed 108

/-- START.STATUS.BRIDGE_OPEN. -/
def State.bridgeOpen (s : State) : Bool := (s.srd 0x104).bit 0

/-- The lowest code of R441, 1 to 5, that holds on this part. -/
def State.startCode (s : State) : Option Nat :=
  if (s.rd (Config.start + 0x20)).fld 0 16 ≠ 0 then some 1
  else if (s.rd Config.start).bit 9 && (s.rd (Config.start + 0x24)).fld 0 16 != 0 then some 2
  else if s.boltVeto then some 3
  else if s.bridgeOpen then some 4
  else if s.part != .ready then some 5
  else none

/-- The ready flags of the agreement token: bit i - 1 for code i (R545). -/
def State.readyFlags (s : State) : Nat :=
  ((s.rd (Config.start + 0x20)).fld 0 16 != 0).toNat
    + 2 * ((s.rd Config.start).bit 9 && (s.rd (Config.start + 0x24)).fld 0 16 != 0).toNat
    + 4 * s.boltVeto.toNat + 8 * s.bridgeOpen.toNat + 16 * (s.part != .ready).toNat

/-- BOARD.STATUS.LOCKED: the master, or a follower that follows its source (R555). -/
def State.boardLocked (s : State) : Bool := s.master == s.partNo || (s.rd (Config.transom + 0x18)).bit 0

/-- Code 6: a part is lost, an adjacency has no link UP, a follower is not locked, or MISMATCH is set (R548). -/
def State.boardBad (s : State) : Bool :=
  let st := s.rd (Config.board + 4)
  st.fld 8 8 != 0 || st.bit 16 || !s.boardLocked ||
    (List.range 6).any (fun k => s.linkEn k && (List.range 6).all (fun j =>
      !(s.linkEn j && s.linkPeer j == s.linkPeer k && s.linkState j == 3)))

/-- The code with which START is refused (R441, R548): on a board, by the tokens of the boundary before. -/
def State.startRefusal (s : State) : Option Nat :=
  if s.parts < 2 then s.startCode
  else
    match (List.range 5).find? (fun i => s.readySeen.testBit i) with
    | some i => some (i + 1)
    | none => if s.boardBad then some 6 else none

/-- A refused START (R442). -/
def State.refuseStart (s : State) (x : PendKnock) (code reason : Nat) : State :=
  (s.wr (Config.start + 0x44) (BitVec.ofNat 32 (code + 2 ^ 31))).refuse .start x.path x.reply reason code

/-- Add a cause of a state change. -/
def State.cause (s : State) (c : Cause) : State := { s with causes := s.causes ++ [c] }

/-- The action of an ABORT knock. -/
def State.knockAction (s : State) : Nat := (s.rd (Config.bolt + 4)).fld 4 2

/-- A MARK acts: MARK_COUNT, the tick, and the log (R526). The model's log code is 0x0290 (log 23). -/
def State.mark (s : State) (arg : DWord) : State :=
  let s1 := s.wr (Config.knock + 0x84) (s.rd (Config.knock + 0x84) + 1)
  ({ s1 with net := { s1.net with markTick := s.nextTick } } : State).logEv 0x0290
    [0, arg.toNat % 2 ^ 32, arg.toNat / 2 ^ 32]

/-- The counters a REPORT logs (R526): those of port 0, of port 1, and of the knock block, in the order of their addresses. -/
def reportAddrs : List Nat :=
  [0x40, 0x44, 0x48, 0x4C, 0x50, 0x54].map (fun o => Config.net 0 + o) ++ [0x40, 0x44, 0x48, 0x4C, 0x50, 0x54].map (fun o => Config.net 1 + o)
    ++ [0x84, 0x88, 0x8C].map (fun o => Config.knock + o)

/-- A REPORT acts: an announcement, and the port and knock counters in the log (R526). -/
def State.reportKnock (s : State) : State := (s.announce).logEv 0x0291 (0 :: reportAddrs.map (fun a => (s.rd a).toNat))

/-- States in which MARK and REPORT are valid (R36, R526). -/
def PartState.takesMark (p : PartState) : Bool := p != .off && p != .starting && p != .faulted

/-- Decide a due knock against R36 and R441 (R523). -/
def State.decideKnock (s : State) (x : PendKnock) : State :=
  match x.knock with
  | .start =>
    if s.part != .ready then s.refuseStart x (s.startRefusal.getD 5) 5
    else match s.startRefusal with
      | some c => s.refuseStart x c 6
      | none => s.cause (.knock .start)
  | .hold => if s.part == .running then s.cause (.knock .hold) else s.refuse .hold x.path x.reply 5 0
  | .resume =>
    if s.part == .holding || (s.part == .shuttingDown && s.shut.cancellable) then s.cause (.knock .resume)
    else s.refuse .resume x.path x.reply 5 0
  | .abort =>
    if s.part == .running || s.part == .holding then (s.latchTrip 770 s.knockAction).cause (.knock .abort)
    else s.refuse .abort x.path x.reply 5 0
  | .mark => if s.part.takesMark then s.mark x.arg else s.refuse .mark x.path x.reply 5 0
  | .shutdown =>
    if s.part == .ready || s.part == .running || s.part == .holding || s.part == .aborted then
      s.cause (.knock .shutdown)
    else s.refuse .shutdown x.path x.reply 5 0
  | .report => if s.part.takesMark then s.reportKnock else s.refuse .report x.path x.reply 5 0

/-- A pending knock is due at the coming boundary: its due tick, or the next boundary of its class (R523). In READY the
dividers run from its first boundary (R54). -/
def State.knockDue (s : State) (x : PendKnock) : Bool :=
  match x.due with
  | some d => decide (d ≤ s.bndNo)
  | none => s.bndNo % s.mult (s.knockClass x.knock.num) == 0

/-- Decide every knock due at the coming boundary (R523). -/
def State.decideKnocks (s : State) : State :=
  let due := s.net.knocks.filter s.knockDue
  let s1 : State := { s with net := { s.net with knocks := s.net.knocks.filter (fun x => !s.knockDue x) } }
  (due.foldl (fun s x => s.decideKnock x) s1).showPending

end Sys2Proof.Machine
end

