-- ==== Sys2Proof/Machine/Load.lean ====
section
/-!
DEFINITION. Stage 10 of the start sequence, unit by unit: the image-derived registers (R417), which the lintel also
reloads when a domain that was shut wakes (R566).
-/
namespace Sys2Proof.Machine

/-- A word built from (lowest bit, width, value) fields. -/
def packF : List (Nat × Nat × Nat) → Word
  | [] => 0
  | (lo, n, v) :: r => BitVec.ofNat 32 (v % 2 ^ n * 2 ^ lo) ||| packF r

/-- A pane reference as the 13 bits of a source field; none of R456 reads as an unused source. -/
def refBits (v : Nat) : Nat := v % 8192

/-! One pane (R87, R139, R173, R268, R319). -/

/-- Outgoing entry n. -/
def State.loadOut (s : State) (p : Nat) (q : Pane) (n : Nat) : Pane :=
  (q.setCr (0x200 + 8 * n) (packF [(0, 20, s.fv 4 1 p n), (20, 2, s.fv 4 2 p n), (31, 1, s.fv 4 5 p n)])).setCr
    (0x204 + 8 * n) (packF [(0, 10, s.fv 4 3 p n)])

/-- Incoming channel n. Its THIRD bit is the derived field R462 loads, kept under the model's own identifier 0x30. -/
def State.loadIn (s : State) (p : Nat) (q : Pane) (n : Nat) : Pane :=
  ((((q.setCr (0x400 + 16 * n)
      (packF [(0, 10, s.fv 4 0x10 p n), (10, 10, s.fv 4 0x11 p n), (20, 2, s.fv 4 0x13 p n), (22, 1, s.fv 4 0x14 p n),
              (23, 2, s.fv 4 0x15 p n), (25, 1, s.field 4 0x30 p n 0), (31, 1, s.fv 4 0x18 p n)])).setCr
    (0x404 + 16 * n) (packF [(0, 10, s.fv 4 0x12 p n), (10, 10, s.fv 4 0x1A p n)])).setCr
    (0x408 + 16 * n) (packF [(0, 13, refBits (s.fv 4 0x16 p n))])).setCr
    (0x40C + 16 * n) (packF [(0, 13, refBits (s.fv 4 0x17 p n)), (13, 13, refBits (s.fv 4 0x1B p n))]))

/-- Local region n (R163, R173). -/
def State.loadRegion (s : State) (p : Nat) (q : Pane) (n : Nat) : Pane :=
  q.setCr (0x10 + 4 * n) (packF [(0, 8, s.fv 7 1 p n), (8, 8, s.fv 7 2 p n), (16, 6, s.fv 7 3 p n), (31, 1, s.fv 7 4 p n)])

/-- Gate descriptor n (R268). -/
def State.loadGate (s : State) (p : Nat) (q : Pane) (n : Nat) : Pane :=
  ((q.setCr (0xA00 + 16 * n) (packF [(0, 32, s.fv 8 1 p n)])).setCr (0xA04 + 16 * n) (packF [(0, 32, s.fv 8 2 p n)])).setCr
    (0xA08 + 16 * n) (packF [(0, 2, s.fv 8 3 p n), (2, 1, s.fv 8 4 p n), (4, 4, s.fv 8 5 p n), (31, 1, s.fv 8 6 p n)])

/-- The contributor of group g at rank r, as a pane reference (R463). -/
def State.contributor (s : State) (g r : Nat) : Nat := s.fv 5 0x10 g r

/-- The rank at which a pane of this part contributes to group g: its own, or its primary's for a twin or a third copy
(R463). -/
def State.rankOf (s : State) (g p : Nat) : Option Nat :=
  let me := s.fv 0x17 1 0 0 * 1024 + p
  (List.range 64).find? (fun r =>
    let c := s.contributor g r
    c == me || (c != 0xFFFF && c / 1024 == me / 1024 && s.fv 2 4 (c % 1024) 0 == 0 &&
      (s.fv 2 5 (c % 1024) 0 == me || s.fv 2 6 (c % 1024) 0 == me)))

/-- RED_RANK of group g (R139). -/
def State.loadRank (s : State) (p : Nat) (q : Pane) (g : Nat) : Pane :=
  q.setCr (0x810 + g) (match s.rankOf g p with
    | some r => packF [(0, 6, r), (7, 1, 1)]
    | none => 0)

/-- EVQ_CFG of pane p (R319). -/
def State.evqCfg (s : State) (p : Nat) : Word := packF [(0, 4, s.fv 9 1 p 0), (4, 12, s.fv 9 2 p 0)]

/-- The image-derived registers of pane p. -/
def State.loadPane (s : State) (p : Nat) (q : Pane) : Pane :=
  let q1 := (List.range 64).foldl (s.loadOut p) q
  let q2 := (List.range 64).foldl (s.loadIn p) q1
  let q3 := (List.range 8).foldl (s.loadRegion p) q2
  let q4 := (List.range 64).foldl (s.loadGate p) q3
  let q5 := (List.range 16).foldl (s.loadRank p) q4
  ((((((q5.setCr 0 (packF [(0, 2, s.fv 2 4 p 0)])).setCr 0x30 (packF [(0, 7, s.fv 7 0x10 p 0)])).setCr
    0x4C (packF [(0, 1, s.fv 7 0x11 p 0)])).setCr
    0x100 (packF [(0, 2, s.fv 2 3 p 0), (4, 2, s.fv 2 2 p 0), (8, 1, s.fv 2 1 p 0)])).setCr
    0x800 (packF [(0, 16, s.fv 4 0x20 p 0)])).setCr
    0x840 (packF [(0, 4, s.fv 6 1 p 0), (4, 4, s.fv 6 2 p 0), (8, 4, s.fv 6 3 p 0), (12, 4, s.fv 6 3 p 1),
                  (16, 4, s.fv 6 3 p 2), (20, 4, s.fv 6 3 p 3), (24, 4, s.fv 6 3 p 4)])).setCr
    0xF00 (s.evqCfg p)

/-! The transom (R85, R86) and the reduction groups (R140). -/

/-- A cross-part channel or reduction group is declared, which takes a guard of 700 ns (R57, R85). -/
def State.crossPart (s : State) : Bool :=
  let me := s.fv 0x17 1 0 0
  (List.range 16).any (fun g => s.fv 5 1 g 0 == 1 && s.fv 5 4 g 0 == 1) ||
  (List.range 1024).any (fun p => (List.range 64).any (fun n =>
    (s.fv 4 5 p n == 1 && s.fv 4 1 p n / 2 ^ 16 % 8 != me) ||
    (s.fv 4 0x18 p n == 1 && s.fv 4 0x15 p n == 0 && s.fv 4 0x16 p n != 0xFFFF && s.fv 4 0x16 p n / 1024 != me)))

/-- The transom's registers. -/
def State.loadTransom (s : State) : State :=
  let a := Config.transom
  let w := fun s o v => State.wr s (a + o) v
  let t := s.fv 1 4 0 0
  let s1 := w (w (w s 0 (packF [(0, 2, s.fv 1 1 0 0), (4, 3, s.fv 1 2 0 0), (8, 8, s.fv 1 3 0 0 - 1)])) 4
    (BitVec.ofNat 32 (t / 2 ^ 32))) 8 (BitVec.ofNat 32 t)
  let s2 := w (w (w s1 0xC (packF [(0, 16, s.fv 1 5 0 0 - 1)])) 0x10 (packF [(0, 16, s.fv 1 6 0 0 - 1)])) 0x14
    (packF [(0, 16, s.fv 1 7 0 0 - 1)])
  w (w s2 0x38 (packF [(0, 2, s.fv 1 8 0 0), (2, 1, s.fv 1 9 0 0)])) 0x3C (if s.crossPart then 700#32 else 400#32)

/-- The reduction group registers, and the class of each group. -/
def State.loadGroups (s : State) : State :=
  let me := s.fv 0x17 1 0 0
  (List.range 16).foldl (fun s g =>
    let n := ((List.range 64).filter (fun r => s.contributor g r != 0xFFFF && s.contributor g r / 1024 == me)).length
    { s.wr (Config.transom + 0x100 + 4 * g)
        (packF [(0, 3, s.fv 5 2 g 0), (3, 1, s.fv 5 4 g 0), (4, 10, s.fv 5 5 g 0), (14, 10, s.fv 5 6 g 0), (24, 7, n),
                (31, 1, s.fv 5 1 g 0)]) with
      groupCls := SMap.set (fun _ => 0) s.groupCls g (s.fv 5 3 g 0) }) s

/-! Bells and ports (R318, R354 to R356). -/

/-- The bell of a sash. A byte of GPIO_SEL is kept at its own address. -/
def State.loadBell (s : State) (k : Nat) : State :=
  let a := Config.bell k
  let s1 := (List.range 8).foldl (fun s j =>
    ((s.wr (a + 8 * j) (packF [(0, 16, s.fv 0xA 1 k j), (16, 3, s.fv 0xA 2 k j), (19, 1, s.fv 0xA 3 k j)])).wr
      (a + 8 * j + 4) (packF [(0, 16, s.fv 0xA 4 k j)])).wr
      (a + 0xC0 + j) (packF [(0, 6, s.fv 0xA 6 k j), (6, 2, s.fv 0xA 7 k j)])) s
  (s1.wr (a + 0x40) (BitVec.ofNat 32 (s.fv 0xA 5 k 0))).wr (a + 0x44) (BitVec.ofNat 32 (s.fv 0xA 5 k 0 / 2 ^ 32))

/-- Sample-input group g. -/
def State.loadSip (s : State) (g : Nat) : State :=
  let a := Config.sip g
  let s1 := (s.wr a (packF [(0, 1, s.fv 0xB 1 g 0), (1, 5, s.fv 0xB 2 g 0 - 1), (6, 1, s.fv 0xB 3 g 0),
    (7, 2, s.fv 0xB 4 g 0)])).wr (a + 4) (packF ((List.range 8).map (fun l => (2 * l, 2, s.fv 0xB 0x10 g l))))
  (List.range 8).foldl (fun s l => s.wr (a + 0x100 + 0x40 * l) (packF [(0, 9, s.fv 0xB 0x11 g l)])) s1

/-- Drive-output group g. Drive slot 64 g + k is slot k of the group. -/
def State.loadDop (s : State) (g : Nat) : State :=
  let a := Config.dop g
  let s1 := (s.wr a (packF [(0, 1, s.fv 0xD 1 g 0), (1, 3, s.fv 0xD 2 g 0 - 1), (4, 3, s.fv 0xD 3 g 0)])).wr (a + 4)
    (packF [(0, 8, s.fv 0xD 4 g 0)])
  (List.range 64).foldl (fun s k =>
    let n := 64 * g + k
    (((s.wr (a + 0x400 + 16 * k)
      (packF [(0, 1, s.fv 0xD 0x10 n 0), (1, 2, s.fv 0xD 0x11 n 0), (3, 2, s.fv 0xD 0x12 n 0),
              (12, 7, s.fv 0xD 0x16 n 0), (19, 1, s.fv 0xD 0x17 n 0)])).wr
      (a + 0x404 + 16 * k) (packF [(0, 13, refBits (s.fv 0xD 0x13 n 0))])).wr
      (a + 0x408 + 16 * k) (packF [(0, 13, refBits (s.fv 0xD 0x14 n 0))])).wr
      (a + 0x40C + 16 * k) (packF [(0, 13, refBits (s.fv 0xD 0x15 n 0))])) s1

/-- The distribution engine of bay b. -/
def State.loadDist (s : State) (b : Nat) : State :=
  let a := Config.dist b
  let n := ((List.range 256).filter (fun n => s.fv 0xC 9 b n == 1)).length
  (List.range 256).foldl (fun s n =>
    (s.wr (a + 0x100 + 8 * n)
      (packF [(0, 10, s.fv 0xC 1 b n), (10, 6, s.fv 0xC 2 b n), (16, 3, s.fv 0xC 3 b n), (19, 3, s.fv 0xC 4 b n),
              (22, 5, s.fv 0xC 5 b n), (31, 1, s.fv 0xC 9 b n)])).wr
      (a + 0x104 + 8 * n) (packF [(0, 5, s.fv 0xC 6 b n - 1), (5, 10, s.fv 0xC 7 b n), (16, 2, s.fv 0xC 8 b n)]))
    (s.wr a (BitVec.ofNat 32 n))

/-! The bolt (R390). -/

/-- One limit group: the tap's at section field 0x20, the slot's at 0x40 (R472). -/
def State.loadLimits (s : State) (a base i : Nat) : State :=
  (((s.wr a (packF [(0, 32, s.fv 0xE base i 0)])).wr (a + 4) (packF [(0, 32, s.fv 0xE (base + 1) i 0)])).wr (a + 8)
    (packF [(0, 32, s.fv 0xE (base + 2) i 0)])).wr (a + 12)
    (packF [(0, 8, s.fv 0xE (base + 3) i 0), (8, 8, s.fv 0xE (base + 4) i 0), (16, 4, s.fv 0xE (base + 5) i 0),
            (20, 2, s.fv 0xE (base + 6) i 0)])

/-- The bolt's registers. -/
def State.loadBolt (s : State) : State :=
  let a := Config.bolt
  let s1 := (s.wr (a + 4) (packF [(0, 2, s.fv 0xE 1 0 0), (2, 2, s.fv 0xE 2 0 0), (4, 2, s.fv 0xE 3 0 0),
    (8, 8, s.fv 0xE 4 0 0)])).wr (a + 8) (packF [(0, 32, s.fv 0xE 5 0 0)])
  let s2 := (List.range 64).foldl (fun s i =>
    (s.wr (a + 0x100 + 32 * i)
      (packF [(0, 3, s.fv 0xE 0x10 i 0), (3, 3, s.fv 0xE 0x11 i 0), (6, 5, s.fv 0xE 0x12 i 0),
              (11, 1, s.fv 0xE 0x13 i 0), (12, 1, s.fv 0xE 0x14 i 0), (31, 1, s.fv 0xE 0x15 i 0)])).loadLimits
      (a + 0x104 + 32 * i) 0x20 i) s1
  (List.range 128).foldl (fun s k =>
    ((s.loadLimits (a + 0x1000 + 32 * k) 0x40 k).wr (a + 0x1010 + 32 * k) (packF [(0, 32, s.fv 0xE 0x47 k 0)])).wr
      (a + 0x1014 + 32 * k) (packF [(0, 32, s.fv 0xE 0x48 k 0)])) s2

/-! Bays and DRAM (R415, R416). -/

/-- Wheel registers of eight entries each. -/
def State.loadWheel (s : State) (a sec idx n : Nat) : State :=
  (List.range n).foldl (fun s i =>
    s.wr (a + 4 * i) (packF ((List.range 8).map (fun j => (4 * j, 4, s.fv sec (if sec = 0xF then 1 else 3) idx (8 * i + j)))))) s

/-- The bay fabric's registers. -/
def State.loadBay (s : State) (b : Nat) : State :=
  let a := Config.bay b
  (List.range 4).foldl (fun s m =>
    (s.wr (a + 0x100 + 0x40 * m)
      (packF [(0, 10, s.fv 0xF 0x10 b m), (12, 12, s.fv 0xF 0x11 b m), (31, 1, s.fv 0xF 0x12 b m)])).wr
      (a + 0x104 + 0x40 * m) (packF [(0, 7, s.fv 0xF 0x13 b m), (8, 7, s.fv 0xF 0x14 b m)]))
    (s.loadWheel a 0xF b 4)

/-- The DRAM controller's registers. -/
def State.loadDram (s : State) : State :=
  ((s.wr Config.dram (packF [(0, 3, s.fv 0x10 1 0 0), (3, 1, s.fv 0x10 2 0 0)])).loadWheel (Config.dram + 0x10) 0x10 0
    8).wr (Config.dram + 0x40) (packF [(0, 8, s.fv 0x10 4 0 0)])

/-! Network, knocks and board (R528, R529, R554, R555). -/

/-- The default Ethernet address of port q, first octet lowest (R479). -/
def State.defaultMac (s : State) (q : Nat) : Nat :=
  let h := sha256 ((s.deviceKey.map edPublic).getD [])
  leNat ([0x02#8] ++ h.take 4 ++ [(h.getD 4 0 &&& 0xFE#8) ||| BitVec.ofNat 8 q])

/-- The registers of Ethernet port q. -/
def State.loadNet (s : State) (q : Nat) : State :=
  let a := Config.net q
  let f := fun n => s.fv 0x14 n q 0
  let mac := s.field 0x14 3 q 0 (s.defaultMac q)
  let s1 := (((s.wr a (packF [(0, 2, f 2), (2, 1, f 1), (4, 12, f 4), (16, 3, f 5), (19, 2, f 9)])).wr (a + 4)
    (BitVec.ofNat 32 mac)).wr (a + 8) (BitVec.ofNat 32 (mac / 2 ^ 32))).wr (a + 0xC) (BitVec.ofNat 32 (f 6))
  let s2 := (List.range 4).foldl (fun s i => s.wr (a + 0x10 + 4 * i) (BitVec.ofNat 32 (f 7 / 2 ^ (32 * i)))) s1
  (List.range 64).foldl (fun s e => s.wr (a + 0x100 + 4 * e) (BitVec.ofNat 32 (s.fv 0x14 0x10 q e)))
    ((s2.wr (a + 0x20) (packF [(0, 16, f 8)])).wr (a + 0x60) (BitVec.ofNat 32 (f 0xA)))

/-- The knock block. -/
def State.loadKnock (s : State) : State :=
  let a := Config.knock
  let s1 := (s.wr a (packF ((List.range 7).map (fun k => (2 * k, 2, s.fv 0x13 1 0 k))))).wr (a + 4)
    (packF [(0, 7, s.fv 0x13 4 0 0)])
  let s2 := (List.range 7).foldl (fun s k => s.wr (a + 0x10 + 4 * k) (packF [(0, 8, s.fv 0x13 5 0 k)])) s1
  (List.range 8).foldl (fun s j =>
    s.wr (a + 0x40 + 4 * j)
      (packF [(0, 7, s.fv 0x13 3 0 j), (31, 1, (SMap.at? s.img (imgKey 0x13 2 0 j)).isSome.toNat)])) s2

/-- The configuration of wicket link k. -/
def State.loadWicket (s : State) (k : Nat) : State :=
  s.wr (Config.wicket k) (packF [(0, 1, s.fv 0x17 0x10 0 k), (1, 3, s.fv 0x17 0x11 0 k), (4, 3, s.fv 0x17 0x12 0 k)])

/-- The board block. -/
def State.loadBoard (s : State) : State :=
  s.wr Config.board (packF [(0, 3, s.fv 0x17 1 0 0), (4, 3, s.fv 0x17 2 0 0 - 1), (8, 2, s.fv 0x17 3 0 0),
    (12, 3, s.fv 0x17 4 0 0)])

/-! Power (R578, R580). -/

/-- TJ_MAX in degrees, from its 32-bit two's complement. -/
def State.tjMax (s : State) : Int := (BitVec.ofNat 32 (s.fv 0x12 2 0 0)).toInt

/-- AJAR_LIMIT (R578): the row for TJ_MAX or the next higher one, the column of the regulator's mode. -/
def ajarLimit (tj : Int) (lowPower : Bool) : Nat :=
  if lowPower then
    (if tj ≤ 25 then 64 else if tj ≤ 55 then 33 else if tj ≤ 85 then 16 else if tj ≤ 105 then 11 else 8)
  else if tj ≤ 105 then 64 else 58

/-- The PWR block's image registers; until READY the AON regulator is in normal mode (R576). -/
def State.loadPower (s : State) : State :=
  let a := Config.pwr
  let s1 := (s.wr (a + 8) (packF [(0, 1, s.fv 0x12 3 0 0)])).wrFld (a + 0xC) 8 8 (ajarLimit s.tjMax false)
  (List.range 64).foldl (fun s k =>
    (((s.wrFld (a + 0x400 + 4 * k) 8 7 (s.fv 0x12 0x10 k 0)).wrFld (a + 0x400 + 4 * k) 16 7 (s.fv 0x12 0x11 k 0))).wrFld
      (a + 0x400 + 4 * k) 24 6 (s.fv 0x12 0x12 k 0)) s1

/-- Stage 10 over all registers (R417): panes, bells, ports, bolt, transom and the units beside them. -/
def State.loadAll (s : State) : State :=
  let s1 := (List.range 1024).foldl (fun s p => s.modPane p (s.loadPane p)) s
  let s2 := (List.range 64).foldl State.loadBell s1.loadTransom.loadGroups
  let s3 := (List.range 2).foldl State.loadDop ((List.range 8).foldl State.loadSip s2)
  let s4 := (List.range 8).foldl (fun s b => (s.loadDist b).loadBay b) s3
  let s5 := (List.range 2).foldl State.loadNet s4.loadBolt.loadDram
  ((List.range 6).foldl State.loadWicket s5).loadKnock.loadBoard.loadPower

end Sys2Proof.Machine
end

