-- ==== Sys2Proof/Machine/Crossing.lean ====
section
/-!
DEFINITION. Crossings: sever and re-arm (R634 to R638).
-/
namespace Sys2Proof.Machine

/-- The domain at the clocked side of crossing c (R556, R634). -/
def crossDomain (c : Nat) : Nat :=
  if c < 64 then 80 + c / 8 else if c < 80 then 88 + (c - 64) / 8 else if c < 106 then c else if c = 108 then 107 else 106

/-- The crossing's clocked side is held in reset by the loss of a supply (R654; supplies by their place in that table). -/
def State.supplyGone (s : State) (c : Nat) : Bool :=
  let lost := fun k => s.lostSupplies.contains k
  if c < 90 then lost 6
  else if c < 98 then lost 3 || lost 4
  else if c = 98 then false
  else if c < 102 then lost 5
  else if c < 106 then lost (7 + (c - 102))
  else lost 5

/-- Both sides of crossing c are out of reset (R627, R637). -/
def State.sidesUp (s : State) (c : Nat) : Bool :=
  let d := crossDomain c
  !s.railLow.contains d && (s.dom d).st != .shut && !s.supplyGone c

/-- The severed crossings, rising. -/
def State.severedList (s : State) : List Nat := (List.range 109).filter s.severed

/-- What the receiver of crossing c holds is discarded (R636). -/
def State.dropFifos (s : State) (c : Nat) (count : Bool) : State :=
  if c < 64 then
    let x := s.lane c
    let s1 := if count then s.discards c x.fifo.length else s
    (s1.setLane c { x with fifo := [], frames := [], taken := [] }).watermark c x.fifo.length 0
  else if c < 80 then
    (List.range 8).foldl (fun s k =>
      let d := 8 * (c - 64) + k
      let x := s.slot d
      (if count then s.discards c x.fifo.length else s).setSlot d { x with fifo := [] }) s
  else if 102 ≤ c ∧ c < 106 then { s with gpioHigh := SMap.keep (fun l => l / 12 != c - 102) s.gpioHigh }
  else s

/-- Severed, ABORT_IN_N and DOOR_IN_N count as asserted and trip the bolt (R365, R636). -/
def State.interlockTrip (s : State) (door : Bool) : State :=
  if !s.part.boltUp || (s.bolt.pin door).asserted then s
  else
    let a := s.pinAction door
    let s1 := s.latchTrip (if door then 769 else 768) a
    if a = 2 && s.part.latches a then { s1 with bolt := { s1.bolt with kill := true } } else s1

/-- Crossing c is severed (R635). -/
def State.severOne (s : State) (c : Nat) : State :=
  if s.severed c then s
  else
    let s1 := ((s.setBits (Config.cross + 0x100 + 4 * c) 1#32).bump (Config.cross + 0x20) 16 1).dropFifos c true
    let s2 : State := { s1 with severRep := SMap.put s1.severRep c s1.now }
    if c = 108 then (s2.interlockTrip false).interlockTrip true else s2

/-- Some crossings are severed at once; bell source 27 rises with the lowest (R635). -/
def State.sever (s : State) (l : List Nat) : State :=
  let s1 := l.foldl State.severOne s
  match s.severedList, s1.severedList with
  | [], c :: _ => s1.raise allBells 27 .rise c
  | _, _ => s1

/-- Re-arm crossing c: pointers, counters, epochs, OVR and FIFO entries are cleared (R637, R638). -/
def State.rearm (s : State) (c : Nat) : State :=
  let s1 := ((s.clrBits (Config.cross + 0x100 + 4 * c) 15#32).bump (Config.cross + 0x24) 16 1).dropFifos c false
  let s2 : State := { s1 with severRep := SMap.del s1.severRep c }
  let s3 := if c < 64 then s2.setLane c { s2.lane c with rearmAt := s2.now } else s2
  if s3.severedList.isEmpty then s3.raise allBells 27 .fall 0 else s3

/-- The lintel re-arms crossing c at the boundary with root close `close`; in STARTING at once (R637). -/
def State.rearmDue (s : State) (c close : Nat) : Bool :=
  s.severed c && s.sidesUp c &&
    (s.part == .starting || (s.gen.on && decide ((SMap.get (fun _ => 0) s.severRep c) + 1000 ≤ close)))

/-- Re-arm every crossing that is due. -/
def State.rearmAll (s : State) (close : Nat) : State :=
  ((List.range 109).filter (fun c => s.rearmDue c close)).foldl State.rearm s

/-- A planned reset of domain d re-arms its crossings in the same step (R628). -/
def State.plannedRearm (s : State) (d : Nat) : State :=
  ((List.range 109).filter (fun c => crossDomain c == d && s.severed c)).foldl State.rearm s

/-- EMMC_PORT_FAIL: a port in service fails; its later blocks go to the survivor, and the `lost` blocks on their way
are counted (R497). The lintel restarts the port's controller, which re-arms its crossing (R628). -/
def execEmmcPortFail (port : Bool) (lost : Nat) (s : State) : Host.Outcome State Fault Refusal :=
  if !s.emmcUp port then .next s
  else .next ((((s.wrFld Config.logstore (if port then 2 else 0) 2 2).bump (Config.logstore + 0x1C) 32 lost).logEv 0x0501
    [port.toNat, lost]).plannedRearm (99 + port.toNat))

/-- CROSSING_SEVER: the receiver of a crossing sees epoch bits that differ, or a parity failure (R635). -/
def execCrossingSever (crossing : BitVec 7) (parity : Bool) (t : Nat) (s : State) : Host.Outcome State Fault Refusal :=
  let c := crossing.toNat
  let w := s.rd (Config.cross + 0x100 + 4 * c)
  if c > 108 then .fault .noSuchUnit
  else if parity || w.bit 2 != w.bit 3 then .next ((s.at t).sever [c])
  else .next s

/-- CROSSING_REARM: just before the boundary with which it is due (R637, log 25). -/
def execCrossingRearm (crossing : BitVec 7) (t : Nat) (s : State) : Host.Outcome State Fault Refusal :=
  let c := crossing.toNat
  let s1 := s.at t
  if c > 108 then .fault .noSuchUnit
  else if s1.rearmDue c s1.gen.nextNs then .next (s1.rearm c)
  else .next s1

end Sys2Proof.Machine
end

