-- ==== Sys2Proof/Machine/Power.lean ====
section
/-!
DEFINITION. Power domains and the slack governor (R556 to R578).
-/
namespace Sys2Proof.Machine

/-- The part has a domain of this number (R556). -/
def domainExists (d : Nat) : Bool := decide (d ≤ 108)

/-- The sashes that are ajar, or on their way there, other than `d`. -/
def State.ajarOthers (s : State) (d : Nat) : Nat :=
  ((List.range 64).filter (fun k => k != d &&
    (((s.dom k).st == .ajar && (s.dom k).moving == none) || (s.dom k).moving == some .ajar))).length

/-! Locked domains (R559). -/

/-- The part is between READY and OFF. -/
def PartState.started (p : PartState) : Bool := !(p == .off || p == .starting)

/-- Panes of sash `k`, all of which satisfy or not `f`. -/
def anyOfSash (k : Nat) (f : Nat → Bool) : Bool := (List.range 16).any (fun n => f (paneOfSash k n))

/-- The pane is the ROOT or BACKUP_ROOT of a valid group. -/
def State.isRoot (s : State) (p : Nat) : Bool :=
  (List.range 16).any (fun g => (s.groupReg g).bit 31 && ((s.groupReg g).fld 4 10 == p || (s.groupReg g).fld 14 10 == p))

/-- The sash is open by the first row of R558: a task, a relay, or a group's root. -/
def State.sashUsed (s : State) (k : Nat) : Bool :=
  anyOfSash k (fun p => (s.pane p).hasTask || ((s.pane p).cr 0x844).bit 4 || s.isRoot p)

/-- A spare takeover runs into this sash (R135). -/
def State.sashSpare (s : State) (k : Nat) : Bool := s.takeovers.any (fun t => sashOf t.spare == k)

/-- A fault-free route of the image passes through strip `b`: the rows between the ends of an outgoing entry. -/
def State.routeThrough (s : State) (b : Nat) : Bool :=
  s.panes.any (fun e => e.2.hasTask && (List.range 64).any (fun n =>
    let w := e.2.cr (0x200 + 8 * n)
    let dst := (s.localEnd e.1 (w.fld 16 3) (postRouter w)).getD e.1
    w.bit 31 && decide (min (rowOf e.1) (rowOf dst) / 4 ≤ b) && decide (b ≤ max (rowOf e.1) (rowOf dst) / 4)))

/-- A mover descriptor submitted and not written back uses DRAM, or a stream request waits (R559). -/
def State.dramInUse (s : State) : Bool :=
  !s.net.reqs.isEmpty || s.movers.any (fun m => m.2.subs.any (fun d =>
    s.mvSpace (m.1 / 4) (m.1 % 4) d.slot 0 == .bulk .dram || s.mvSpace (m.1 / 4) (m.1 % 4) d.slot 2 == .bulk .dram))

/-- Domain `d` is locked open (R559). -/
def State.lockedOpen (s : State) (d : Nat) : Bool :=
  if d < 64 then s.part.started && (s.sashUsed d || s.sashSpare d)
  else if d < 72 then (List.range 4).any (fun m => !((SMap.get (fun _ => Mover.reset) s.movers ((d - 64) * 4 + m)).subs.isEmpty))
    || !((SMap.get (fun _ => []) s.keyholes (d - 64)).isEmpty)
  else if d < 80 then
    (List.range 8).any (fun k => (s.dom ((d - 72) * 8 + k)).st == .isOpen
      || anyOfSash ((d - 72) * 8 + k) (fun p => ((s.pane p).cr 0x844).bit 4)) || s.routeThrough (d - 72)
  else if d < 88 then false
  else if d < 90 then (s.rd (Config.dop (d - 88))).bit 0 && (s.part == .running || s.part == .holding || s.part == .aborted)
  else if d < 92 then false
  else if d < 98 then s.linkEn (d - 92) && s.part != .off
  else if d = 98 then s.dramInUse
  else if d < 101 then s.logs.queue.any (fun r => (s.placeLog r.producer).contains (d == 100))
  else if d < 106 then false
  else if d = 107 then s.part.started
  else s.part != .off

/-! Requests (R561, R562). -/

/-- Report an outcome in REQ_STATUS. -/
def State.reqOutcome (s : State) (d last : Nat) : State :=
  s.wr (Config.pwr + 4) (packF [(0, 3, last), (8, 8, d), (31, 1, 1)])

/-- A policy refusal: LAST 5, counted. -/
def State.policyRefusal (s : State) (d : Nat) : State := (s.bump (Config.pwr + 0x14) 16 1).reqOutcome d 5

/-- Judge a request by the first row of R561 that applies; `target` is none for code 3. -/
def State.powerReq (s : State) (d : Nat) (target : Option DomState) : State :=
  match target with
  | none => s.policyRefusal d
  | some t =>
    let x := s.dom d
    if !domainExists d then s.policyRefusal d
    else if s.lockedOpen d && t != .isOpen then s.policyRefusal d
    else if t == .ajar && decide (d ≥ 64) && (s.rd (Config.pwr + 8)).bit 0 then s.policyRefusal d
    else if t == .ajar && decide (d < 64) && decide (s.ajarOthers d + 1 > (s.rd (Config.pwr + 0xC)).fld 8 8) then
      s.policyRefusal d
    else if x.moving.isSome || x.replay then
      (s.setDom d { x with pend := some t }).reqOutcome d (if x.pend.isNone then 2 else 3)
    else if x.st == t then s.reqOutcome d 4
    else (s.setDom d { x with moving := some t }).reqOutcome d 1

/-- At the end of a transition: a latched wake comes first, and then the pending request, judged afresh (R562). -/
def State.takePending (s : State) (d : Nat) : State :=
  let x := s.dom d
  if x.replay then s
  else match x.pend with
    | none => s
    | some t => (s.setDom d { x with pend := none }).powerReq d (some t)

/-- POWER_REQ_OPEN. -/
def execPowerReqOpen (domain : BitVec 8) (s : State) : Host.Outcome State Fault Refusal :=
  .next (s.powerReq domain.toNat (some .isOpen))

/-- POWER_REQ_AJAR. -/
def execPowerReqAjar (domain : BitVec 8) (s : State) : Host.Outcome State Fault Refusal :=
  .next (s.powerReq domain.toNat (some .ajar))

/-- POWER_REQ_SHUT. -/
def execPowerReqShut (domain : BitVec 8) (s : State) : Host.Outcome State Fault Refusal :=
  .next (s.powerReq domain.toNat (some .shut))

/-! Entry (R563 to R565). -/

/-- A pane is busy (R564). -/
def State.paneBusy (s : State) (p : Nat) : Bool :=
  let q := s.pane p
  !(q.phase == .stall || q.phase == .evwait || (q.phase == .idle && !q.hasTask)) || decide (q.evUsed > 0) ||
    (s.keyhole (bayOf p)).any (fun r => r.pane == p && r.client == .pane)

/-- The first unit of domain `d` that refuses to stop, by the numbers of the model's log: panes by their place in the
sash, then movers, keyhole, FIFO lanes; 255 for a unit the command says was busy (R564). -/
def State.busyUnit (s : State) (d : Nat) (busy : Bool) : Option Nat :=
  let other := if busy then some 255 else none
  if d < 64 then (List.range 16).find? (fun n => s.paneBusy (paneOfSash d n))
  else if d < 72 then
    let b := d - 64
    match (List.range 4).find? (fun m =>
      let x := SMap.get (fun _ => Mover.reset) s.movers (b * 4 + m)
      x.subs.any (fun u => u.begun && u.status.isNone) || x.staged.isSome) with
    | some m => some m
    | none => if (s.keyhole b).any (fun r => r.begun.isSome) then some 4 else none
  else if d < 80 then (if s.mesh.isEmpty then none else other)
  else if d < 88 then
    (List.range 8).find? (fun l => !((SMap.get (fun _ => RxLane.reset) s.lanes ((d - 80) * 8 + l)).fifo.isEmpty))
  else if d < 90 then
    (List.range 64).find? (fun k => !((SMap.get (fun _ => DriveSlot.reset) s.drv ((d - 88) * 64 + k)).fifo.isEmpty))
  else if d = 101 then (if s.bridge.isSome then some 0 else other)
  else if 98 ≤ d ∧ d ≤ 100 then other
  else none

/-- The entry backs out (R565): BACKOUTS, bell source 29, the log event with the refusing unit, and LAST 6. The arrivals that the AON
block latched meanwhile reach the bell of the sash, which has not closed (R315; log 127). -/
def State.backOut (s : State) (d unit : Nat) : State :=
  let s1 := (s.bump (Config.pwr + 0x10) 16 1).edge allBells 29 d
  let s2 := ((s1.setDom d { s1.dom d with moving := none, replay := false }).logEv 0x7F11 [d, unit]).reqOutcome d 6
  if d < 64 then (s2.bellReplays d false).bellWaits d else s2

/-! Level sources of a domain (R294, R295, R557). -/

/-- The level sources that domain d drives and that are 1, each with its DETAIL. -/
def State.domLevels (s : State) (d : Nat) : List (Nat × Nat) :=
  if 80 ≤ d ∧ d < 88 then
    let g := d - 80
    let n := s.rd (Config.sip g + 0x10)
    let l := lowestNotice n
    if n &&& 0xFF#32 = 0 then [] else [(g, (s.rd (laneReg (8 * g + l) 8)).toNat + l * 2 ^ 9)]
  else if 88 ≤ d ∧ d < 90 then
    match ((List.range 64).find? (fun k => (s.underrunBits (d - 88)).testBit k)) with
    | some k => [(8 + (d - 88), 64 * (d - 88) + k)]
    | none => []
  else if d = 107 then (if s.bolt.warnLive then [(12, (s.warnFirst).getD 0)] else [])
  else if d = 106 then
    (if (s.rd (Config.transom + 0x18)).bit 2 then [(14, 0)] else []) ++
      (match s.severedList with
        | c :: _ => [(27, c)]
        | [] => [])
  else []

/-- The sources of a domain that is clamped or reset fall to 0. -/
def State.levelsFall (s : State) (d : Nat) : State := (s.domLevels d).foldl (fun s x => s.raise allBells x.1 .fall 0) s

/-- Those of a domain that comes back from ajar rise again. -/
def State.levelsRise (s : State) (d : Nat) : State := (s.domLevels d).foldl (fun s x => s.raise allBells x.1 .rise x.2) s

/-- DOMAIN_ENTRY: the running entry of a domain ends in ajar or shut, or backs out when a unit of an open domain refuses
(R563 to R565). A wake latched meanwhile, then the pending request, comes next (R562, R569). -/
def execDomainEntry (domain : BitVec 7) (busy : Bool) (s : State) : Host.Outcome State Fault Refusal :=
  let d := domain.toNat
  if !domainExists d then .fault .noSuchUnit
  else
    let x := s.dom d
    match x.moving with
    | none => .next s
    | some t =>
      if t == .isOpen then .next s
      else match (if x.st == .isOpen then s.busyUnit d busy else none) with
        | some u => .next ((s.backOut d u).takePending d)
        | none =>
          let s1 := if x.st == .isOpen then s.levelsFall d else s
          let s2 := if t == .shut && decide (72 ≤ d) && decide (d < 80) then s1.dropKeys (stripPanes (d - 72)) else s1
          .next ((s2.setDom d { x with st := t, moving := none, lost := x.lost || t == .shut }).takePending d)

/-! Exit (R566, R567). -/

/-- The registers from `a` up to `b` take their reset values. -/
def State.resetRegs (s : State) (a b : Nat) : State :=
  { s with reg := SMap.keep (fun k => k < a || b ≤ k) s.reg }

/-- The register at this offset of the pane control region lies in the sash, and not in the latch: the trap and event registers
(R24, R293, R319; log 111). -/
def sashReg (a : Nat) : Bool := decide (0xE00 ≤ a)

/-- A pane of a sash that was shut: the latch keeps its registers, which are not the sash's (R24); the rest starts as
after reset, memory zero (R567). -/
def Pane.afterShut (q : Pane) : Pane :=
  { Pane.reset with ctl := SMap.keep (fun a => !sashReg a) q.ctl, scrubPos := q.scrubPos, ceTotal := q.ceTotal,
                    ueTotal := q.ueTotal, tag := q.tag, lastOver := q.lastOver, pubs := q.pubs, faulty := q.faulty }

/-- The 16 panes of a sash after its wake: EVQ_CFG is the one image-derived register of the sash's side (R316, R566). -/
def State.reloadSash (s : State) (k : Nat) : State :=
  (List.range 16).foldl (fun s n =>
    let p := paneOfSash k n
    s.setPane p ((s.pane p).afterShut.setCr 0xF00 (s.evqCfg p))) s

/-- A retired pane stays out of every TARGETS mask of a bell that is loaded again (R312, R316). -/
def State.dropTargets (s : State) (k : Nat) : State :=
  ((List.range 16).filter (fun n => (s.pane (paneOfSash k n)).retired)).foldl (fun s n =>
    (List.range 8).foldl (fun s j => s.clrBits (Config.bell k + 8 * j + 4) (1#32 <<< n)) s) s

/-- A latch whose strip was shut or is reset (R24, R557): its registers and counters are lost, and the lintel loads them again, STATE as
it stands (R131, R135; log 111). The sash's side stays. -/
def State.reloadLatch (s : State) (p : Nat) : State :=
  s.modPane p (fun q =>
    (s.loadPane p { q with ctl := SMap.keep sashReg q.ctl, scrubPos := 0, lastOver := 0, faulty := 0, pubs := [] }).setCr 0
      ((q.cr 0) &&& 7#32))

/-- The routers and latches of strip b afresh: what its routers held is lost. -/
def State.reloadStrip (s : State) (b : Nat) : State :=
  let s1 := (stripPanes b).foldl State.reloadLatch s
  { s1 with mesh := s1.mesh.filter (fun m => bayOf m.dest != b && bayOf m.srcPane != b) }

/-- The lintel's reload of a domain that was shut (R566, R567). -/
def State.reload (s : State) (d : Nat) : State :=
  if d < 64 then
    (((s.reloadSash d).resetRegs (Config.bell d) (Config.bell d + 0x200)).loadBell d).dropTargets d
  else if d < 72 then
    let b := d - 64
    let s1 : State := { s with bufs := SMap.del s.bufs b, bufEcc := SMap.del s.bufEcc b,
                               movers := SMap.keep (fun k => k / 4 != b) s.movers,
                               streamF := SMap.keep (fun k => k / 256 != b) s.streamF }
    (((s1.resetRegs (Config.bay b) (Config.bay b + 0x1000)).resetRegs (Config.dist b) (Config.dist b + 0x1000)).loadBay
      b).loadDist b
  else if d < 80 then (s.reloadStrip (d - 72)).deriveKeys (stripPanes (d - 72))
  else if d < 88 then
    let g := d - 80
    ({ (s.resetRegs (Config.sip g) (Config.sip g + 0x400)) with
       lanes := SMap.keep (fun k => k / 8 != g) s.lanes, sipSeen := SMap.del s.sipSeen g } : State).loadSip g
  else if d < 90 then
    let g := d - 88
    ({ (s.resetRegs (Config.dop g) (Config.dop g + 0x800)) with drv := SMap.keep (fun k => k / 64 != g) s.drv } :
      State).loadDop g
  else if d < 92 then
    (s.resetRegs (Config.net (d - 90)) (Config.net (d - 90) + 0x1000)).loadNet (d - 90)
  else if d < 98 then
    let k := d - 92
    ({ (s.resetRegs (Config.wicket k) (Config.wicket k + 0x100)) with links := SMap.del s.links k } : State).loadWicket k
  else if d = 98 then { s with dram := [], dramEcc := [] }
  else s

/-- The pane rail of a sash without a task stands at its FLOOR while open (R572). -/
def State.idleRail (s : State) (k : Nat) : State :=
  let a := Config.pwr + 0x400 + 4 * k
  if anyOfSash k (fun p => (s.pane p).hasTask) then s else s.wrFld a 0 7 ((s.rd a).fld 8 7)

/-- A domain comes open: what was shut is zeroed and reloaded, with WAS_SHUT and a log event (R567); a sash's bell
resumes (R313, R314, R316); the crossings of a domain that was shut are re-armed with it (R628). -/
def State.comesOpen (s : State) (d : Nat) : State :=
  let x := s.dom d
  let s1 := s.setDom d { x with st := .isOpen, moving := none, lost := false, wasShut := x.wasShut || x.lost }
  let s2 := if x.lost then ((s1.reload d).plannedRearm d).logEv 0x7F10 [d] else if x.st == .isOpen then s1 else s1.levelsRise d
  if d < 64 then
    let s3 := s2.idleRail d
    if x.lost then s3.bellReload d else s3.bellReopen d
  else if d < 72 then s2.khBegin (d - 64)
  else s2

/-- DOMAIN_WAKE: the running wake of a domain ends (R566); then the pending request is judged (R562). -/
def execDomainWake (domain : BitVec 7) (s : State) : Host.Outcome State Fault Refusal :=
  let d := domain.toNat
  if !domainExists d then .fault .noSuchUnit
  else if (s.dom d).moving == some .isOpen then .next ((s.comesOpen d).takePending d)
  else .next s

/-- WAKE_ON_ACCESS: an access reaches a domain that is not open (R568, R569). -/
def execWakeOnAccess (domain : BitVec 7) (s : State) : Host.Outcome State Fault Refusal :=
  if !domainExists domain.toNat then .fault .noSuchUnit else .next (s.wake domain.toNat)

/-- WAKE_REPLAY: the AON block replays the wake it latched during an entry that has completed (R569). -/
def execWakeReplay (domain : BitVec 7) (s : State) : Host.Outcome State Fault Refusal :=
  let d := domain.toNat
  if !domainExists d then .fault .noSuchUnit
  else
    let x := s.dom d
    if x.replay && x.moving.isNone then
      if x.st == .isOpen then .next ((s.setDom d { x with replay := false }).takePending d)
      else .next ((s.setDom d { x with replay := false, moving := some .isOpen }).bump (Config.pwr + 0x1C) 16 1)
    else .next s

/-! Domain states at READY (R558, R581). -/

/-- The sash is held ajar, not only ajar by default: SASH.IDLE 1 in the image, a spare, an event-queue target, or bytes of
a LOAD section, which the start sequence notes under section 0, field 2. -/
def State.heldAjar (s : State) (k : Nat) : Bool :=
  s.field 0x12 0x13 k 0 9 == 1 || s.field 0 2 k 0 0 == 1 ||
    (List.range 8).any (fun j => s.targets k j != 0) || anyOfSash k (fun p => (s.pane p).role == 3)

/-- SASH.IDLE as a state. -/
def State.sashIdle (s : State) (k : Nat) : DomState :=
  if s.sashUsed k then .isOpen
  else match s.fv 0x12 0x13 k 0 with
    | 0 => .isOpen
    | 1 => .ajar
    | _ => .shut

/-- The sashes ajar only by default that stay ajar, lowest numbers first, within AJAR_LIMIT (R558). -/
def State.ajarByDefault (s : State) : List Nat :=
  let ajar := (List.range 64).filter (fun k => s.sashIdle k == .ajar)
  let kept := (ajar.filter s.heldAjar).length
  (ajar.filter (fun k => !s.heldAjar k)).take ((s.rd (Config.pwr + 0xC)).fld 8 8 - kept)

/-- GPIO line `l` is named by an IO entry with DIR not 0, a knock PIN, an enabled bell source's GPIO_SEL, or a SPI master
in use (R558, R647). -/
def State.lineUsed (s : State) (l : Nat) : Bool :=
  s.fv 0x18 1 l 0 != 0 || (List.range 7).any (fun k => s.fv 0x13 5 0 k == l) ||
    (List.range 64).any (fun b => (List.range 8).any (fun k =>
      s.srcEn b (48 + k) && (s.rd (Config.bell b + 0xC0 + k)).fld 0 6 == l)) ||
    (decide (l % 12 ≥ 8) && ((SMap.at? s.img (imgKey 0x18 0x10 (l / 12) 0)).isSome
      || (SMap.at? s.img (imgKey 0x18 0x11 (l / 12) 0)).isSome))

/-- The state R558 gives a domain. -/
def State.domTarget (s : State) (d : Nat) : DomState :=
  let use := fun (b : Bool) (other : DomState) => if b then DomState.isOpen else other
  if d < 64 then
    (if s.sashIdle d == .ajar && !s.heldAjar d && !s.ajarByDefault.contains d then .shut else s.sashIdle d)
  else if d < 72 then
    let b := d - 64
    use ((List.range 8).any (fun k => anyOfSash (b * 8 + k) (fun p => (s.pane p).hasTask))
      || (List.range 256).any (fun n => (s.streamA b n).bit 31) || (List.range 4).any (s.mvEn b)) .shut
  else if d < 80 then .isOpen
  else if d < 88 then use (s.sipEn (d - 80)) .shut
  else if d < 90 then use (s.dopEn (d - 88)) .shut
  else if d < 92 then use (s.netEn (d - 90)) .shut
  else if d < 98 then use (s.linkEn (d - 92)) .shut
  else if d = 98 then use s.dramUp .shut
  else if d < 101 then use ((s.fv 0x16 3 0 0 / 2 ^ (d - 99)) % 2 == 1) .shut
  else if d = 101 then use s.bridgeOpen .shut
  else if d < 106 then
    use ((List.range 12).any (fun i => s.lineUsed (12 * (d - 102) + i)))
      (if (s.rd (Config.pwr + 8)).bit 0 then .shut else .ajar)
  else .isOpen

/-- Put a domain in the state R558 gives it, at READY or after a cancelled shutdown. -/
def State.setTarget (s : State) (d : Nat) : State :=
  let t := s.domTarget d
  s.setDom d { s.dom d with st := t, moving := none, pend := none, replay := false,
                             lost := (s.dom d).lost || t == .shut }

/-! The slack governor (R573 to R575). -/

/-- The task panes of a sash that are neither retired nor halted (R575). -/
def State.governed (s : State) (k : Nat) : List Nat :=
  ((List.range 16).map (paneOfSash k)).filter (fun p =>
    let q := s.pane p
    q.hasTask && !q.retired && q.phase != .halted)

/-- s_i and T_i of a pane: slack and period, both in 2^-32 ns. -/
def State.slackRatio (s : State) (p : Nat) : Option (Int × Nat) :=
  (s.pane p).minSlack.map (fun m =>
    (m * 4294967296, s.mult (s.pane p).cls * ((s.rd (Config.transom + 4)).toNat * 2 ^ 32 + (s.rd (Config.transom + 8)).toNat)))

/-- The smaller of two ratios. -/
def minRatio (a b : Int × Nat) : Int × Nat := if a.1 * b.2 ≤ b.1 * a.2 then a else b

/-- Round 1,000 · num / den to the nearest integer, halves away from zero, saturated to 16 bits (SASH_W). -/
def perMille (x : Int × Nat) : Int :=
  let d := max x.2 1
  let n := (2000 * x.1.natAbs + d) / (2 * d)
  if x.1 < 0 then max (-32768) (-(n : Int)) else min 32767 (n : Int)

/-- One governor boundary of sash `k` (R573, R574). -/
def State.governSash (s : State) (k : Nat) : State :=
  let a := Config.pwr + 0x400 + 4 * k
  match (s.governed k).filterMap s.slackRatio with
  | [] => s
  | r :: rest =>
    let w := rest.foldl minRatio r
    let v := s.rd a
    let step := v.fld 0 7
    let target := v.fld 24 6
    let new :=
      if w.1 * 100 < target * w.2 ∧ step < v.fld 16 7 then step + 1
      else if w.1 * 100 > (target + 5) * w.2 ∧ step > v.fld 8 7 then step - 1
      else step
    let s1 := (s.wrFld a 0 7 new).wrFld (Config.pwr + 0x500 + 4 * k) 0 16 (BitVec.ofInt 16 (perMille w)).toNat
    let s2 := if new = step then s1 else s1.bump (Config.pwr + 0x600 + 4 * k) 16 1
    (s.governed k).foldl (fun s p => s.modPane p (fun q => { q with minSlack := none })) s2

/-- The slowest class among the tasks of sash k, where it has one (R573). -/
def State.slowest (s : State) (k : Nat) : Option Nat :=
  match s.governed k with
  | [] => none
  | l => some (l.foldl (fun c p => max c (s.pane p).cls) 0)

/-- The states in which the governor acts (R573). -/
def PartState.governs (p : PartState) : Bool := p == .running || p == .holding || p == .aborted

/-- GOVERNED: the governor of sash k acts, from its first governor boundary after RUNNING begins (R573, R580). -/
def State.governing (s : State) (k : Nat) : Bool :=
  s.part.governs && (match s.slowest k with
    | some c => decide (s.mult c ≤ s.tick)
    | none => false)

/-- The governor boundaries among the sashes at a boundary due for the classes of `due` (R573): those of the slowest
class among the tasks of the sash. -/
def State.govern (s : State) (due : Nat → Bool) : State :=
  if s.part.governs then
    (List.range 64).foldl (fun s k =>
      match s.slowest k with
      | some c => if due c then s.governSash k else s
      | none => s) s
  else s

end Sys2Proof.Machine
end

