-- ==== Sys2Proof/Machine/LifeCycle.lean ====
section
/-!
DEFINITION. The shutdown self-test and the life cycle (R477, R478, R607 to R622).
-/
namespace Sys2Proof.Machine

/-! The shutdown test (R617 to R621). -/

/-- Number of units of the shutdown test: 64 sashes, 8 bay fabrics, 8 strips, 10 groups of lane FIFOs, then hinges,
transom branch copies and bolt logic copies. -/
def testUnits : Nat := 93
/-- Block steps of a unit (R618). -/
def unitSteps (u : Nat) : Nat := if u < 64 then 16 else if u < 72 then 32 else 1

/-- The conditions as measured, in the SELFTEST registers (R612). -/
def State.showCond (s : State) (c : TestCond) : State :=
  let a := Config.selftest
  (((s.wr (a + 0xA0) (BitVec.ofNat 32 (c.vddMv % 65536))).wr (a + 0xA4) (BitVec.ofNat 32 (c.islandMv % 65536))).wr
    (a + 0xA8) ((BitVec.ofInt 16 c.ppm).setWidth 32)).wr (a + 0xAC) ((BitVec.ofInt 16 c.tj).setWidth 32)

/-- The test is skipped from here on: the untested units count as skipped (R612). -/
def State.skipTest (s : State) (why : Nat) : State :=
  ((s.setBits Config.selftest 8#32).wrFld Config.selftest 4 4 why)

/-- Pane p failed: FAIL_MAP and FAILED_PANES (R622). -/
def State.failPane (s : State) (p : Nat) : State :=
  let a := Config.selftest + 0x20 + 4 * (p / 32)
  if (s.rd a).bit (p % 32) then s
  else (s.setBits a (1#32 <<< (p % 32))).bump (Config.selftest + 4) 11 1

/-- Clear the results of the last test. -/
def State.clearTest (s : State) : State := s.resetRegs Config.selftest (Config.selftest + 0xA0)

/-- Words of pane memory from `a` whose contents are not trusted take free values (R619). -/
def State.untrust (s : State) (p a n : Nat) : State :=
  { (s.modPane p (fun q => (List.range n).foldl (fun q k => q.pokeW (a + 4 * k) (Config.freeWord (s.free + k))) q)) with
    free := s.free + n }

/-- Words of a bay buffer from `a` likewise. -/
def State.untrustBay (s : State) (b a n : Nat) : State :=
  { s with bufs := SMap.put s.bufs b ((List.range n).foldl (fun m k =>
             Memory.writeBytes m (a + 4 * k) (leBytes 4 (Config.freeWord (s.free + k)).toNat)) (s.buf b)),
           free := s.free + n }

/-- Note failing panes for retirement and for the record. -/
def State.shutFail (s : State) (l : List Nat) : State :=
  if l.isEmpty then s else { s with shut := { s.shut with failed := s.shut.failed ++ l, clean := false } }

/-- One step of the unit under test, with the elements that fail in it (R617 to R619). In the list of failed units a pane
is its number, and unit u of the order of R617 is 1,024 + u. -/
def State.testStep (s : State) (failed : List Nat) : State :=
  let u := s.shut.step
  let k := s.shut.sub
  if u < 64 then
    let ps := (failed.filter (fun x => decide (x < 16))).map (paneOfSash u)
    let s1 := ps.foldl (fun s p => (s.untrust p (4096 * k) 1024).failPane p) s
    s1.shutFail (ps ++ if failed.any (fun x => decide (x ≥ 16)) then [1024 + u] else [])
  else if failed.isEmpty then s
  else if u < 72 then
    ((s.untrustBay (u - 64) (65536 * k) 16384).setBits (Config.selftest + 8) (1#32 <<< (u - 64))).shutFail [1024 + u]
  else if u < 80 then
    let ps := failed.filter (fun p => bayOf p == u - 72 && decide (p < 1024))
    (ps.foldl (fun s p => s.failPane p) s).shutFail ps
  else if u < 90 then (s.setBits (Config.selftest + 8) (1#32 <<< (u - 80 + 8))).shutFail [1024 + u]
  else if u = 90 then
    (failed.foldl (fun s x => s.setBits (Config.selftest + 0xC) (1#32 <<< (x % 32))) s).shutFail [1024 + u]
  else (s.setBits (Config.selftest + 8) (1#32 <<< (u - 91 + 18))).shutFail [1024 + u]

/-- The next step, or the next unit. -/
def Shutdown.advance (x : Shutdown) : Shutdown :=
  if x.sub + 1 < unitSteps x.step then { x with sub := x.sub + 1 } else { x with step := x.step + 1, sub := 0 }

/-- A shutdown test is under way: SHUTTING-DOWN, and not past its end or cancelled. -/
def State.testing (s : State) : Bool := s.part == .shuttingDown && s.shut.cancellable

/-- SHUTDOWN_TEST: the next step, saved and restored, under conditions that hold; else the untested units are skipped
(R612, R617, R618). -/
def execShutdownTest (cond : TestCond) (failed : List Nat) (s : State) : Host.Outcome State Fault Refusal :=
  if !s.testing || decide (s.shut.step ≥ testUnits) then .next s
  else
    let s1 := if s.shut.step = 0 ∧ s.shut.sub = 0 then s.clearTest.wrFld Config.selftest 0 2 3 else s
    let s2 := s1.showCond cond
    if cond.fails ≠ 0 then
      .next { s2.skipTest cond.fails with shut := { s2.shut with step := testUnits, sub := 0, clean := false } }
    else
      let s3 := (s2.wrFld Config.selftest 8 8 s2.shut.sub).testStep failed
      .next { s3 with shut := s3.shut.advance }

/-- The final seal point, its checkpoint, and the end of the store's work (R494); a store that has stopped takes neither. -/
def State.finalSeal (s : State) : State :=
  if s.logs.stopped then s
  else
    let s1 := (s.sealNow true false State.producers).checkpoint
    { s1 with logs := { s1.logs with stopped := true } }

/-- The long power-off notification to the devices in service, the last before OFF (R494, R495). -/
def State.powerOff (s : State) : State :=
  { s with logs := s.upPorts.foldl (fun (l : LogStore) q => l.setPort q { l.port q with off := true }) s.logs }

/-- The shutdown can no longer be cancelled: DRIVE_KILL_N goes low (R364, R366). -/
def State.shutKill (s : State) : State := if s.bolt.mode == .killed then s else s.beginAction .killed (some 776)

/-- SHUTDOWN_TEST_END: the record goes to AON and, when the write succeeds, to NOR (R621); the final seal point, its checkpoint and the
power-off notification follow (R494), and OFF is due at the coming boundary. As the store takes nothing after it, the change to OFF
is written before the seal, with the tick number of that boundary (R41; log 138). -/
def execShutdownTestEnd (norOk : Bool) (elapsed : Nat) (s : State) : Host.Outcome State Fault Refusal :=
  if !s.testing || decide (s.shut.step < testUnits) then .next s
  else
    let r : ShutRecord := { deviceId := s.otp.deviceId, elapsed := max elapsed s.aon.elapsed, clean := s.shut.clean,
                            failed := s.shut.failed }
    let s0 := s.shutKill
    let s1 : State := { s0 with
      shut := { s.shut with cancellable := false }, aon := { s.aon with record := some r, elapsed := r.elapsed, ran := false },
      norRec := if norOk then some r else s.norRec }
    let s2 := (s1.wrFld Config.selftest 0 2 (if (s.rd Config.start).bit 4 then 2 else 1)).wrFld Config.selftest 2 1
      s.shut.clean.toNat
    let s3 := (s2.logEv 0x7F20 [r.clean.toNat, r.failed.length]).logState s2.nextTick .off [Cause.shutdownDone.logCode]
    .next (s3.finalSeal.powerOff.cause .shutdownDone)

/-- SHUTDOWN_CANCEL_REOPEN: after a cancelling RESUME every domain is back in its state of R558, and each task waits for
the first boundary of its class (R620). -/
def execShutdownCancelReopen (s : State) : Host.Outcome State Fault Refusal :=
  if !s.shut.holding || s.part == .shuttingDown then .next s
  else
    let s1 := (List.range 109).foldl (fun s d =>
      if s.domTarget d == .isOpen && (s.dom d).st != .isOpen then s.comesOpen d else s.setTarget d) s
    .next { s1 with shut := { s1.shut with holding := false, release := [0, 1, 2, 3] } }

/-! Life-cycle transitions (R609 to R611). -/

/-- The bytes of a token's command text: AKWRETN1 or AKWSCRP1. -/
def tokenText (scrap : Bool) : List Byte :=
  if scrap then [0x41#8, 0x4B#8, 0x57#8, 0x53#8, 0x43#8, 0x52#8, 0x50#8, 0x31#8]
  else [0x41#8, 0x4B#8, 0x57#8, 0x52#8, 0x45#8, 0x54#8, 0x4E#8, 0x31#8]

/-- LC_TOKEN as 64 bytes. -/
def State.lcToken (s : State) : List Byte :=
  (List.range 16).flatMap (fun i => Word.bytes (s.rd (Config.selftest + 0xC0 + 4 * i)))

/-- LC_STATUS.ERR of a command, in the order of its codes; 0 when it is accepted (R609, R611). -/
def State.lcErr (s : State) (scrap : Bool) : Nat :=
  if !edVerify Config.returnKey (tokenText scrap ++ leBytes 8 s.otp.deviceId) s.lcToken then 1
  else if s.part != .ready then 2
  else if scrap then (if s.otp.lc = 4 then 3 else 0)
  else if s.otp.lc = 2 then 0 else 3

/-- LC_CMD 1 or 2: the token is checked and the transition fused, due at the next reset (R609, R611). A transition fused
earlier cannot be undone. -/
def State.lcCmd (s : State) (scrap : Bool) : State :=
  let e := s.lcErr scrap
  let s1 := s.wrFld (Config.selftest + 0x104) 1 3 e
  if e = 0 then { s1.setBits (Config.selftest + 0x104) 1#32 with
    otp := { s.otp with fused := max s.otp.fused (if scrap then 4 else 3) } }
  else s1

/-- LC_RETURN. -/
def execLcReturn (s : State) : Host.Outcome State Fault Refusal := .next (s.lcCmd false)
/-- LC_SCRAP. -/
def execLcScrap (s : State) : Host.Outcome State Fault Refusal := .next (s.lcCmd true)

/-- CERTIFICATE_FUSE: in PROVISIONED the lintel fuses the certificate, of at most 2,048 bytes, and enters FIELD when it
verifies against the device key and the CA key in ROM (R478, R609). A certificate is fused once. -/
def execCertificateFuse (der : List Byte) (s : State) : Host.Outcome State Fault Refusal :=
  if s.otp.lc ≠ 1 ∨ !s.otp.cert.isEmpty ∨ der.isEmpty ∨ der.length > 2048 then .next s
  else
    let good := certVerify der ((s.deviceKey.map edPublic).getD []) s.otp.deviceId s.otp.stepping
    .next { s with otp := { s.otp with cert := der, lc := if good then 2 else 1, fused := if good then max s.otp.fused 2 else s.otp.fused } }

/-! The TAP (R608). -/

/-- The TAP takes an instruction only while RESET_N is held low. -/
def State.tapTake (s : State) (i : TapInstr) : State :=
  if s.resetLow then { s with tap := { s.tap with instr := i } } else s

/-- Private instructions answer in MANUFACTURE and RETURNED; elsewhere they act as BYPASS. -/
def State.tapPrivate (s : State) (i : TapInstr) : State :=
  s.tapTake (if s.otp.lc = 0 ∨ s.otp.lc = 3 then i else .bypass)

/-- A private instruction has its effect. -/
def State.tapOpen (s : State) : Bool := s.resetLow && (s.otp.lc == 0 || s.otp.lc == 3)

/-- TAP_BYPASS. -/
def execTapBypass (s : State) : Host.Outcome State Fault Refusal := .next (s.tapTake .bypass)
/-- TAP_IDCODE: the identification code can be shifted out. -/
def execTapIdcode (s : State) : Host.Outcome State Fault Refusal :=
  .next (if s.resetLow then { s.tapTake .idcode with rdata := Config.idcode.setWidth 64 } else s)
/-- TAP_SAMPLE_PRELOAD: the boundary cells are loaded. -/
def execTapSamplePreload (cells : List Bool) (s : State) : Host.Outcome State Fault Refusal :=
  .next (if s.resetLow then { s.tapTake .samplePreload with tap := { s.tap with instr := .samplePreload, cells := cells } }
    else s)
/-- TAP_EXTEST: the cells drive the pins. -/
def execTapExtest (s : State) : Host.Outcome State Fault Refusal := .next (s.tapTake .extest)
/-- TAP_SCAN_LOAD: scan patterns are loaded. -/
def execTapScanLoad (pattern : List Bool) (s : State) : Host.Outcome State Fault Refusal :=
  .next (if s.tapOpen then { s with tap := { s.tap with instr := .scanLoad, scan := pattern } } else s.tapPrivate .scanLoad)
/-- TAP_LOW_VOLTAGE_TEST: the tests run at 0.70 V against the golden values of that point (R614). -/
def execTapLowVoltageTest (fails : List Nat) (s : State) : Host.Outcome State Fault Refusal :=
  .next (if s.tapOpen then { s with tap := { s.tap with instr := .lowVoltage, fails := fails } }
    else s.tapPrivate .lowVoltage)
/-- TAP_PROVISION: in MANUFACTURE the two secrets are drawn and fused; PROVISIONED follows at the next reset (R477,
R609). Fused secrets cannot be drawn again. When the entropy source fails its health tests at a draw, nothing is fused. -/
def execTapProvision (devSeed paneSecret : Option (List Byte)) (s : State) : Host.Outcome State Fault Refusal :=
  .next (if s.resetLow && s.otp.lc == 0 && s.otp.fused == 0 then
      match devSeed, paneSecret with
      | some d, some q => { s with otp := { s.otp with devSeed := some (fitBytes 32 d), paneSecret := some (fitBytes 32 q),
                                                       fused := 1 } }
      | _, _ => s
    else s.tapPrivate .bypass)
/-- TAP_SCRAP: in MANUFACTURE and RETURNED the part is scrapped at the next reset (R609). -/
def execTapScrap (s : State) : Host.Outcome State Fault Refusal :=
  .next (if s.tapOpen then { s with otp := { s.otp with fused := 4 } } else s.tapPrivate .bypass)

end Sys2Proof.Machine
end

