-- ==== Sys2Proof/Machine/Ledger.lean ====
section
/-!
DEFINITION. Reports, the fault ledger and what the lintel does about a fault (R26 to R28, R124 to R138, R312, R413,
R575, R582 to R586).
-/
namespace Sys2Proof.Machine

/-! The copies of a task (R28, R459). -/

/-- The primary of a pane's task: the pane itself at ROLE 0, else the pane that names it as its twin or third copy. -/
def State.primaryOf (s : State) (p : Nat) : Nat :=
  let me := s.partNo * 1024 + p
  if (s.pane p).role = 0 then p
  else ((List.range 1024).find? (fun n => (s.pane n).role == 0 && (s.pane n).hasTask &&
    (s.fv 2 5 n 0 == me || s.fv 2 6 n 0 == me))).getD p

/-- A copy a task names, when it lies on this part. -/
def State.copyRef (s : State) (fld prim : Nat) : Option Nat :=
  let v := s.fv 2 fld prim 0
  if v = 0xFFFF ∨ v / 1024 ≠ s.partNo then none else some (v % 1024)

/-- TWIN, THIRD and SPARE of the task of primary `prim`. -/
def State.twinPane (s : State) (prim : Nat) : Option Nat := s.copyRef 5 prim
def State.thirdPane (s : State) (prim : Nat) : Option Nat := s.copyRef 6 prim
def State.sparePane (s : State) (prim : Nat) : Option Nat := s.copyRef 7 prim

/-- The panes of a task: primary, twin, third copy. -/
def State.copies (s : State) (prim : Nat) : List Nat :=
  prim :: ((s.twinPane prim).toList ++ (s.thirdPane prim).toList)

/-! The ledger (R586). -/

/-- Write an entry, in the ledger, and in the sealed log as an event of the same code. -/
def State.ledgerAdd (s : State) (code subject arg : Nat) : State :=
  let l := s.ledger ++ [{ code := code, subject := subject, arg := arg, tick := s.shownTick }]
  let kept := l.drop (l.length - 1024)
  ((({ s with ledger := kept } : State).bump Config.fault 32 1).wr (Config.fault + 4)
    (BitVec.ofNat 32 kept.length)).logEv code [subject, arg]

/-! FAULTED (R27, R39, R366, R369, R494). -/

/-- A fault puts the part in FAULTED: DRIVE_KILL_N and ABORT_OUT_N at once, the state at the next T0 boundary; before the
generator runs there is none to wait for. -/
def State.fatal (s : State) (c : Cause) : State :=
  if s.part == .off || s.part == .faulted then s
  else
    let s1 := s.boltFault.cause c
    if s1.gen.on then s1
    else { (s1.edge allBells 28 PartState.faulted.code).logState s1.tick .faulted (s1.causes.map Cause.logCode) with
           part := .faulted, causes := [] }

/-! Containment (R585). -/

/-- Copy c of slot d could still be qualified, but for this tick's word (R378). -/
def State.copyLeft (s : State) (d c : Nat) : Bool :=
  let src := s.slotSrc d c
  let p := src % 1024
  !s.suspect d c && (src / 1024 != s.partNo ||
    !((s.pane p).retired || (s.pane p).phase == .halted || s.retireDue.any (fun r => r.1 == p) ||
      s.bayFaulted (bayOf p) || s.hingeSuspect p))

/-- A spare takeover runs for slot d. -/
def State.slotTakeover (s : State) (d : Nat) : Bool :=
  (List.range (s.slotCopies d)).any (fun c => s.takeovers.any (fun t =>
    let p := s.slotSrc d c % 1024
    s.slotSrc d c / 1024 == s.partNo && (t.retired == p || t.twin == p || t.spare == p)))

/-- The first duplex or triplex slot with no copy left. -/
def State.slotLost (s : State) : Option Nat :=
  s.validSlots.find? (fun d => decide (s.slotCopies d > 1) &&
    !(List.range (s.slotCopies d)).any (s.copyLeft d) && !s.slotTakeover d)

/-- A pane that is retired, or is about to be. -/
def State.leaving (s : State) (p : Nat) : Bool := (s.pane p).retired || s.retireDue.any (fun r => r.1 == p)

/-- The first valid group with both its root and its backup root retired. -/
def State.groupLost (s : State) : Option Nat :=
  (List.range 16).find? (fun g => (s.groupReg g).bit 31 && s.leaving ((s.groupReg g).fld 4 10) &&
    s.leaving ((s.groupReg g).fld 14 10))

/-- Not contained: FAULTED_CAUSE takes the code of the fault, and the ledger its entry. -/
def State.notContained (s : State) (code arg : Nat) : State :=
  if s.causes.any (fun c => c == .ledger code) || s.part == .faulted then s
  else ((s.wrFld (Config.fault + 0x10) 0 16 code).ledgerAdd 0x0310 code arg).fatal (.ledger code)

/-- The test of R585 after the action on a fault of code `code`. -/
def State.contain (s : State) (code : Nat) : State :=
  match s.slotLost with
  | some d => s.notContained code d
  | none =>
    match s.groupLost with
    | some g => s.notContained code g
    | none => s

/-! Reports (R124, R582, R583). -/

/-- The latch of a pane whose hinge carries the report: that of the pane itself, or of the unit that found a suspect copy
(R582). -/
def State.reporterOf (s : State) (r : Report) : Option Nat :=
  match r with
  | .sramUe p => some p
  | .halt p => some p
  | .latchErr p => some p
  | .routerDead _ n => some n
  | .suspect _ arg | .suspectFar _ arg =>
    if arg / 65536 = 1 then some (arg % 1024)
    else if arg / 65536 = 2 then some ((s.groupReg (arg % 16)).fld 4 10) else none
  | _ => none

/-- A latch on another side of a dead router, the opposite side first, whose hinge is alive (R583). -/
def State.otherSide (s : State) (router reporter : Nat) : Option Nat :=
  let near := [2 * router - reporter, router - 1, router + 1, router - 32, router + 32]
  near.find? (fun n => decide (n < 1024) && (neighbourBit n router).isSome && n != reporter && !s.hingeDead (colOf n))

/-- Where a report goes: to the lintel; by another latch; or, with a dead hinge, with the done state of the next boundary
(R582). -/
def State.reportVia (s : State) (r : Report) : Option Report :=
  match s.reporterOf r with
  | none => some r
  | some n =>
    if !s.hingeDead (colOf n) then some r
    else match r with
      | .routerDead router rep => (s.otherSide router rep).map (fun x => .routerDead router x)
      | _ => none

/-- LATCH_REPORT: a report goes by its hinge to the lintel (R582). -/
def execLatchReport (internal : Option PaneNo) (k t : Nat) (s : State) : Host.Outcome State Fault Refusal :=
  let s0 := s.at t
  let k1 := if internal.isSome then s0.latchReps.length else k
  let s1 := match internal with
    | some p => (s0.modPane p.toNat (fun q => { q with faulty := 15 })).report (.latchErr p.toNat)
    | none => s0
  match s1.latchReps[k1]? with
  | none => .next s1
  | some r =>
    match s1.reportVia r.rep with
    | none => .next s1
    | some rep => .next (({ s1 with latchReps := s1.latchReps.eraseIdx k1 } : State).reportLintel rep)

/-! Actions (R584). -/

/-- A retirement is due: the pane, the code of its cause, and the earliest root close. -/
def State.retireAt (s : State) (p code at' : Nat) : State :=
  if (s.pane p).retired then s
  else match s.retireDue.find? (fun r => r.1 == p) with
    | some r => { s with retireDue := s.retireDue.map (fun x => if x.1 = p then (p, r.2.1, min r.2.2 at') else x) }
    | none => { s with retireDue := s.retireDue ++ [(p, code, at')] }

/-- A router is declared dead: what cannot pass it is lost (R124, R125). -/
def State.declareDead (s : State) (r : Nat) : State :=
  if s.deadRouters.contains r then s
  else ({ s with deadRouters := s.deadRouters ++ [r], mesh := s.mesh.filter (fun m => !s.crosses m r) } : State).edge
    allBells 18 r

/-- New routes are due for a dead router. -/
def State.routesAt (s : State) (r at' : Nat) : State :=
  if s.routedAround.contains r || s.routesDue.any (fun x => x.1 == r) then s
  else { s with routesDue := s.routesDue ++ [(r, at')] }

/-- A copy of a redundant unit has been masked: bolt copies are counted, and a second copy fault of one transom branch is
not contained (R358, R585). -/
def State.maskedAct (s : State) (bolt : Bool) (n : Nat) : State :=
  let s1 := s.ledgerAdd 0x030E bolt.toNat n
  if bolt then s1.bump (Config.bolt + 0x38) 16 1
  else if s.branchMasked.contains n then s1.notContained 0x030E n
  else { s1 with branchMasked := s1.branchMasked ++ [n] }

/-- What the lintel does about a report that it received at time `t0`, before the test of containment. A suspect copy on another
part is entered with its reference, and its retirement is for the lintel of its own part (log 41). The ledger code of a lost
part is not given, so it is a free value (log 2). -/
def State.reportAct (s : State) (r : Report) (t0 : Nat) : State × Nat :=
  match r with
  | .sramUe p =>
    let s1 := s.ledgerAdd 0x0301 p ((s.pane p).cr 0x48).toNat
    (if (s.pane p).ueTotal ≥ 2 then s1.retireAt p 0x0301 (t0 + 1000) else s1, 0x0301)
  | .halt p => ((s.ledgerAdd 0x0302 p ((s.pane p).cr 0xE04).toNat).retireAt p 0x0302 (t0 + 1000), 0x0302)
  | .latchErr p =>
    (((((s.ledgerAdd 0x030F p 0).retireAt p 0x030F (t0 + 1000))).declareDead p).routesAt p t0, 0x030F)
  | .routerDead p n => (((s.ledgerAdd 0x0304 p n).retireAt p 0x0304 (t0 + 1000)).routesAt p t0, 0x0304)
  | .suspect p arg => ((s.ledgerAdd 0x0306 p arg).retireAt p 0x0306 0, 0x0306)
  | .suspectFar r arg => (s.ledgerAdd 0x0306 r arg, 0x0306)
  | .hingeDead h => (s.ledgerAdd 0x0305 h 0, 0x0305)
  | .bayFaulted b => (s.ledgerAdd 0x030A b 0, 0x030A)
  | .masked k n => (s.maskedAct (k == 1) n, 0x030E)
  | .ceRate p n => (s.ledgerAdd 0x030D p n, 0x030D)
  | .partLost q => let d := s.draw; (d.2.notContained (d.1 % 65536) q, d.1 % 65536)

/-- LEDGER_ACTION: the lintel takes its oldest report, acts and tests containment (R584 to R586); or it records a redundant
copy that has been masked. -/
def execLedgerAction (masked : Option (Bool × Nat)) (t : Nat) (s : State) : Host.Outcome State Fault Refusal :=
  let s0 := s.at t
  match masked with
  | some (bolt, n) => .next ((s0.maskedAct bolt n).contain 0x030E)
  | none =>
    match s0.lintelReps with
    | [] => .next s0
    | r :: rest =>
      let a := ({ s0 with lintelReps := rest } : State).reportAct r.rep r.at'
      .next (a.1.contain a.2)

/-- The counters of one pane as the poll at time t reads them. -/
def State.pollPane (s : State) (t p : Nat) : State :=
  let total := (s.pane p).ceTotal
  let d := total - SMap.get (fun _ => 0) s.ceSeen p
  let win := ((SMap.get (fun _ => []) s.ceWin p).filter (fun x => decide (t < x.1 + 1000000000)))
    ++ (if d = 0 then [] else [(t, d)])
  let n := win.foldl (fun a x => a + x.2) 0
  let s1 : State := { s with ceSeen := SMap.set (fun _ => 0) s.ceSeen p total,
                             ceWin := SMap.set (fun _ => []) s.ceWin p win }
  if n > 1000 ∧ !s.ceRecorded.contains p then
    ({ s1 with ceRecorded := s1.ceRecorded ++ [p] } : State).reportLintel (.ceRate p n)
  else s1

/-- LATCH_COUNTER_POLL: every 1 ms the lintel reads the latch counters (R582, R584). -/
def execLatchCounterPoll (t : Nat) (s : State) : Host.Outcome State Fault Refusal :=
  .next ((SMap.keys s.panes).foldl (fun s p => s.pollPane t p) (s.at t))

/-- HINGE_HEARTBEAT: one exchange with a hinge (R583). -/
def execHingeHeartbeat (hinge : BitVec 5) (answered : Bool) (s : State) : Host.Outcome State Fault Refusal :=
  let h := hinge.toNat
  let n := if answered then 0 else SMap.get (fun _ => 0) s.missed h + 1
  .next { s with missed := SMap.set (fun _ => 0) s.missed h n }

/-- HINGE_DEAD: a hinge that has missed three heartbeats in a row is declared dead (R583). -/
def execHingeDead (hinge : BitVec 5) (t : Nat) (s : State) : Host.Outcome State Fault Refusal :=
  let h := hinge.toNat
  let s0 := s.at t
  if SMap.get (fun _ => 0) s0.missed h < 3 || s0.hingeDead h then .next s0
  else .next ((s0.setBits (Config.fault + 0xC) (1#32 <<< h)).reportLintel (.hingeDead h))

/-- LOCKSTEP_MISMATCH: FAULTED from any state but OFF; the store stops at once, and the ledger's entry is held in the AON
block for the next start (R27, R36, R494, R586). -/
def execLockstepMismatch (t : Nat) (s : State) : Host.Outcome State Fault Refusal :=
  let s0 := s.at t
  if s0.part == .off then .next s0
  else
    let s1 := (s0.wrFld (Config.fault + 0x10) 0 16 0x0311).fatal .lockstep
    .next { s1 with logs := { s1.logs with stopped := true }, logq := [],
                    aon := { s1.aon with lockEntry := some { code := 0x0311, subject := 0, arg := 0,
                                                              tick := s0.shownTick } } }

/-! New routes (R125 to R127). -/

/-- R121: flits of a channel with credit c and at most m messages per tick. -/
def flitsOf (c m : Nat) : Nat := m + (c + m) / 2

/-- Both routes of the message cross a dead router. -/
def State.needsRelay (s : State) (src dst : Nat) : Bool := !s.clear false src dst && !s.clear true src dst

/-- What the lintel assigns to relays: the flits each relay carries, and each channel's relay. -/
structure RelayPlan where
  loads : SMap Nat
  chans : SMap Nat
  deriving DecidableEq, Repr

/-- One channel of `f` flits from router `src` to router `dst`: its relay, while the relay's flits fit in 256; else the channel is
lost, 1,024. -/
def State.planChannel (s : State) (plan : RelayPlan) (key src dst f : Nat) : RelayPlan :=
  if !s.needsRelay src dst then plan
  else match s.relayFor src dst with
    | none => { plan with chans := SMap.put plan.chans key 1024 }
    | some r =>
      let n := SMap.get (fun _ => 0) plan.loads r + f
      if n ≤ 256 then { loads := SMap.put plan.loads r n, chans := SMap.put plan.chans key r }
      else { plan with chans := SMap.put plan.chans key 1024 }

/-- The entry is one of a REDUCE: its pane has a rank in the valid group that CHAN names, and PANE is the group's root. What PANE
holds in the address of a REDUCE the spec does not say (DESIGN CHOICE, log 124). -/
def State.reduceEntry (s : State) (p : Nat) (w : Word) : Bool :=
  let g := w.fld 0 6
  decide (g < 16) && !w.bit 19 && (s.groupReg g).bit 31 && ((s.pane p).redRank g).bit 7 && (s.groupReg g).fld 4 10 == w.fld 6 10

/-- Worst-case flits per tick of outgoing entry e of pane p (R121): a contribution counts as 2. -/
def State.entryFlits (s : State) (p e : Nat) : Nat :=
  if s.reduceEntry p ((s.pane p).cr (0x200 + 8 * e)) then 2 else flitsOf ((s.pane p).credit e) (s.fv 4 4 p e)

/-- One outgoing entry of a pane. -/
def State.planEntry (s : State) (p : Nat) (plan : RelayPlan) (e : Nat) : RelayPlan :=
  let w := (s.pane p).cr (0x200 + 8 * e)
  if !w.bit 31 then plan
  else match s.localEnd p (w.fld 16 3) (postRouter w) with
    | none => plan
    | some dst => s.planChannel plan (entryKey p e) p dst (s.entryFlits p e)

/-- One incoming channel of pane p: from each copy on another part it enters at the router of the link it comes by (R542). Its
credit and its messages, which only the other part's image gives, count as its SIZE (log 96). -/
def State.planFar (s : State) (p : Nat) (plan : RelayPlan) (c : Nat) : RelayPlan :=
  let q := s.pane p
  if !q.inValid c || q.inOrigin c != 0 then plan
  else (List.range 3).foldl (fun plan i =>
    let src := if i = 0 then q.inSrc c else if i = 1 then q.inTwinSrc c else q.inThirdSrc c
    if src / 1024 = s.partNo ∨ src = refNone ∨ (i = 2 ∧ !q.inThird c) then plan
    else match s.exitLink (src % 1024) (src / 1024) with
      | some k => s.planChannel plan (farKey p c i) (linkRouter k) p (flitsOf (q.inSize c) (q.inSize c))
      | none => plan) plan

/-- One distribution stream, one message a frame (R122, R130). -/
def State.planStream (s : State) (b : Nat) (plan : RelayPlan) (n : Nat) : RelayPlan :=
  let a := s.streamA b n
  let c := s.streamB b n
  if !a.bit 31 then plan
  else s.planChannel plan (distKey b n) (westRouter (a.fld 0 10)) (a.fld 0 10)
    (flitsOf (c.fld 5 10 * (c.fld 0 5 + 1)) (c.fld 5 10))

/-- One incoming channel of the lintel, whose one message a tick enters at router 00.00 (R71, R130). -/
def State.planLintel (s : State) (p : Nat) (plan : RelayPlan) (c : Nat) : RelayPlan :=
  let q := s.pane p
  if q.inValid c && q.inOrigin c == 2 then s.planChannel plan (lintelKey p c) 0 p (flitsOf (q.inSize c) 1) else plan

/-- The plan for every channel of the part. -/
def State.relayPlan (s : State) : RelayPlan :=
  let p0 := (SMap.keys s.panes).foldl (fun plan p => (List.range 64).foldl (s.planEntry p) plan) { loads := [], chans := [] }
  let p1 := (SMap.keys s.panes).foldl (fun plan p =>
    (List.range 64).foldl (s.planLintel p) ((List.range 64).foldl (s.planFar p) plan)) p0
  (List.range 8).foldl (fun plan b => (List.range 256).foldl (s.planStream b) plan) p1

/-- ROUTE.DEAD of the four neighbours of a dead router. -/
def State.markDead (s : State) (r : Nat) : State :=
  [r - 32, r + 32, r + 1, r - 1].foldl (fun s n =>
    match (if n < 1024 ∧ n ≠ r then neighbourBit n r else none) with
    | some b => s.modPane n (fun q => q.setCr 0x844 (q.cr 0x844 ||| (1#32 <<< b)))
    | none => s) s

/-- The channel of a key of the relay plan, for the ledger (R586): the sending pane, or the router at which the channel enters, and
the receiving pane * 64 + channel. -/
def State.keyChannel (s : State) (key : Nat) : Nat × Nat :=
  if key < 2 ^ 16 then
    let w := (s.pane (key / 64)).cr (0x200 + 8 * (key % 64))
    (key / 64, w.fld 6 10 * 64 + w.fld 0 6)
  else if key < 2 ^ 17 then
    let a := s.streamA ((key - 2 ^ 16) / 256) (key % 256)
    (westRouter (a.fld 0 10), a.fld 0 10 * 64 + a.fld 10 6)
  else if 2 ^ 19 ≤ key then (0, key - 2 ^ 19)
  else
    let pc := (key - 2 ^ 17) / 4
    let q := s.pane (pc / 64)
    let src := if key % 4 = 0 then q.inSrc (pc % 64) else if key % 4 = 1 then q.inTwinSrc (pc % 64) else q.inThirdSrc (pc % 64)
    (src, pc)

/-- Relay assignment after the routes changed: ROUTE.RELAY at each relay and at no other latch (R139), and code 0x030B for a channel
newly lost. -/
def State.assignRelays (s : State) : State :=
  let plan := s.relayPlan
  let s0 := (SMap.keys s.panes).foldl (fun s p =>
    if ((s.pane p).cr 0x844).bit 4 then s.modPane p (fun q => q.setCr 0x844 ((q.cr 0x844).withBit 4 false)) else s) s
  let s1 := plan.loads.foldl (fun s r => s.modPane r.1 (fun q => q.setCr 0x844 (q.cr 0x844 ||| 0x10#32))) s0
  let s2 := plan.chans.foldl (fun s c =>
    if c.2 = 1024 ∧ SMap.at? s.relays c.1 ≠ some 1024 then
      s.ledgerAdd 0x030B (s.keyChannel c.1).1 (s.keyChannel c.1).2
    else s) s1
  { s2 with relays := plan.chans }

/-- The new routes due at a boundary with root close `c` (R125). -/
def State.installRoutes (s : State) (c : Nat) : State :=
  let due := s.routesDue.filter (fun x => decide (x.2 + 1000 ≤ c))
  if due.isEmpty then s
  else
    let s1 : State := { s with routesDue := s.routesDue.filter (fun x => !decide (x.2 + 1000 ≤ c)),
                               routedAround := s.routedAround ++ due.map Prod.fst }
    (due.foldl (fun s x => s.markDead x.1) s1).assignRelays

/-- ROUTE_INSTALL: at the coming boundary the lintel installs the routes that are due. -/
def execRouteInstall (s : State) : Host.Outcome State Fault Refusal :=
  .next (if s.gen.on then s.early (fun s => s.installRoutes s.gen.nextNs) else s)

/-! Retirement (R128, R131, R312, R484). -/

/-- The outgoing entries of every pane that name pane `p` of this part, changed by `f`. -/
def State.mapEntriesTo (s : State) (p : Nat) (f : Word → Word) : State :=
  (SMap.keys s.panes).foldl (fun s n =>
    let q := s.pane n
    s.setPane n ((List.range 64).foldl (fun q e =>
      let w := q.cr (0x200 + 8 * e)
      if w.bit 31 && !w.bit 19 && w.fld 6 10 == p && w.fld 16 3 == s.partNo then q.setCr (0x200 + 8 * e) (f w) else q) q)) s

/-- A group whose root is retired moves to its backup; its coming result is held (R128, R117). -/
def State.moveRoots (s : State) (p : Nat) : State :=
  (List.range 16).foldl (fun s g =>
    let w := s.groupReg g
    if w.bit 31 && w.fld 4 10 == p then
      let b := w.fld 14 10
      let s1 : State := { s with redHeld := s.redHeld ++ [g] }
      if b = p || (s.pane b).retired then s1
      else (s1.wr (Config.transom + 0x100 + 4 * g) (w.withFld 4 10 b)).ledgerAdd 0x030C g b
    else s) s

/-- Requests of a retired pane that wait at its keyhole are discarded; the one in service completes (R484). -/
def State.dropRequests (s : State) (p : Nat) : State :=
  let b := bayOf p
  match s.keyhole b with
  | [] => s
  | r :: rest =>
    let gone := rest.filter (fun x => x.pane == p)
    gone.foldl (fun s _ => s.logEv 0x0506 [p]) (s.setKeyhole b (r :: rest.filter (fun x => x.pane != p)))

/-- The spare that can take the place of a retired pane: named by the task, ROLE 3, and neither leaving nor in use. -/
def State.freeSpare (s : State) (prim : Nat) : Option Nat :=
  (s.sparePane prim).bind (fun x =>
    if (s.pane x).role = 3 ∧ !s.leaving x ∧ !s.takeovers.any (fun t => t.spare == x) then some x else none)

/-- A takeover begins at the boundary that retires pane p, when another copy serves and a spare is free (R135, R382). The
sash of the spare is opened. R135 speaks of the boundary that starts tick B: where the pane is retired inside a class tick of a
slower task, B is the class tick in progress (DESIGN CHOICE, log 131). -/
def State.beginTakeover (s : State) (p prim : Nat) : State :=
  match (s.copies prim).find? (fun n => n != p && !s.leaving n), s.freeSpare prim with
  | some live, some x =>
    let t : Takeover := { retired := p, twin := live, spare := x, base := s.ordinal (s.pane p).cls s.nextTick, stage := 0,
                          log := [] }
    let d := s.dom (sashOf x)
    let s1 := if d.st == .isOpen then s else s.setDom (sashOf x) { d with moving := some .isOpen }
    (({ s1 with takeovers := s1.takeovers ++ [t] } : State).ledgerAdd 0x0307 x p).edge allBells 26 x
  | _, _ => s

/-- Retire pane p at a boundary, for a cause with ledger code `code` (R131). A pane with no task has no takeover. A REDUCE entry
that names an old root keeps its DISCARD after the group has moved to its backup root (R128 and R131 settle no more: DESIGN
CHOICE, log 130). -/
def State.retireNow (s : State) (p code : Nat) : State :=
  let s0 : State := { s with retireDue := s.retireDue.filter (fun r => r.1 != p) }
  if (s0.pane p).retired then s0
  else
    let prim := s0.primaryOf p
    let s1 := s0.modPane p (fun q =>
      { q.setCr 0 ((q.cr 0).withBit 2 true) with phase := if q.phase == .halted then .halted else .idle, entry := none, awaits := false })
    let s2 := s1.mapEntriesTo p (fun w => w.withBit 22 true)
    let s3 := (s2.bump (Config.fault + 8) 11 1).setBits (Config.fault + 0x20 + 4 * (p / 32)) (1#32 <<< (p % 32))
    let s4 := ((((s3.ledgerAdd 0x0303 p code).bellRetire p).moveRoots p).dropRequests p)
    let s5 := if (s4.pane p).hasTask then s4.beginTakeover p prim else s4
    s5.contain code

/-- The retirements due at a boundary with root close `c`. -/
def State.retirements (s : State) (c : Nat) : State :=
  (s.retireDue.filter (fun r => decide (r.2.2 ≤ c))).foldl (fun s r => s.retireNow r.1 r.2.1) s

/-- PANE_RETIREMENT: at the coming boundary the lintel retires pane p, when that is due. -/
def execPaneRetirement (p : PaneNo) (s : State) : Host.Outcome State Fault Refusal :=
  if !s.gen.on then .next s
  else match s.retireDue.find? (fun r => r.1 == p.toNat && decide (r.2.2 ≤ s.gen.nextNs)) with
    | some r => .next (s.early (fun s => s.retireNow r.1 r.2.1))
    | none => .next s

/-! Takeovers (R133 to R136, R382, R413, R572). -/

/-- Replace or remove the k-th takeover. -/
def State.setTakeover (s : State) (k : Nat) (t : Takeover) : State := { s with takeovers := s.takeovers.set k t }

/-- The class of the task. -/
def State.takeoverCls (s : State) (t : Takeover) : Nat := (s.pane t.retired).cls

/-- STATE_BASE and STATE_BYTES of the task. -/
def State.region (s : State) (t : Takeover) : Nat × Nat :=
  (s.fv 2 0xA (s.primaryOf t.twin) 0, s.fv 2 0xB (s.primaryOf t.twin) 0)

/-- The bulk copy of the state region into the spare (R135). -/
def State.takeoverCopy (s : State) (k : Nat) (t : Takeover) : State :=
  let r := s.region t
  let bytes := (s.pane t.twin).bytes r.1 r.2
  let s1 := s.modPane t.spare (fun q =>
    (wordsOf r.1 r.2).foldl (fun q a => q.setEcc a .clean) { q with sram := Memory.writeBytes q.sram r.1 bytes })
  s1.setTakeover k { t with stage := 1 }

/-- TAKEOVER_STATE_COPY: during tick B the latch of the serving copy copies the state region to the spare. -/
def execTakeoverStateCopy (k : Nat) (s : State) : Host.Outcome State Fault Refusal :=
  match s.takeovers[k]? with
  | none => .next s
  | some t =>
    if t.stage = 0 ∧ s.ticking ∧ s.ordinal (s.takeoverCls t) s.tick ≥ t.base then .next (s.takeoverCopy k t)
    else .next s

/-- Replay into the spare the writes logged in ticks before ordinal `o` (R135). More than 1,024 of them restart the copy from the
bulk copy step in tick `o`, and the ledger and the log take the restart; the twin serves on (R136). -/
def State.takeoverReplay (s : State) (k : Nat) (t : Takeover) (o : Nat) : State :=
  let old := t.log.filter (fun w => decide (w.tick < o))
  let rest := t.log.filter (fun w => !decide (w.tick < o))
  if old.length > 1024 then
    (s.setTakeover k { t with stage := 0, base := o, log := rest }).ledgerAdd 0x0309 t.spare old.length
  else
    (s.modPane t.spare (fun q => old.foldl (fun q w => (q.pokeW w.addr w.word).setEcc w.addr .clean) q)).setTakeover k
      { t with log := rest }

/-- The words logged in the tick before ordinal `o`. -/
def Takeover.lastLog (t : Takeover) (o : Nat) : Nat := (t.log.filter (fun w => w.tick + 1 == o)).length

/-- TAKEOVER_LOG_REPLAY: the log of the ticks before the current one is replayed into the spare (R135). -/
def execTakeoverLogReplay (k : Nat) (s : State) : Host.Outcome State Fault Refusal :=
  match s.takeovers[k]? with
  | none => .next s
  | some t => if t.stage = 0 then .next s else .next (s.takeoverReplay k t (s.ordinal (s.takeoverCls t) s.tick))

/-- Copy registers of one pane's control region to another, from `a`, `n` words `step` bytes apart. -/
def Pane.copyCtl (q src : Pane) (a n step : Nat) : Pane :=
  (List.range n).foldl (fun q i => q.setCr (a + step * i) (src.cr (a + step * i))) q

/-- The tables of the retired pane in the spare: entries with USED 0, incoming channels, subscriptions and ranks (R137). -/
def Pane.takeTables (q src : Pane) : Pane :=
  let q1 := ((q.copyCtl src 0x200 64 8).copyCtl src 0x400 256 4).copyCtl src 0x800 1 4
  let q2 := q1.copyCtl src 0x810 16 1
  (List.range 64).foldl (fun q e => q.setCr (0x204 + 8 * e) ((src.cr (0x204 + 8 * e)) &&& 0x3FF#32)) q2

/-- The entries that named the retired pane name the spare, DISCARD is clear, and the spare owns its movers (R135,
R413). -/
def State.takeoverRedirect (s : State) (k : Nat) (t : Takeover) : State :=
  let s1 := s.mapEntriesTo t.retired (fun w => (w.withFld 6 10 t.spare).withBit 22 false)
  let s2 := s1.modPane t.spare (fun q => q.takeTables (s1.pane t.retired))
  let s3 := (List.range 32).foldl (fun s i =>
    let a := Config.bay (i / 4) + 0x100 + 0x40 * (i % 4)
    if s.mvEn (i / 4) (i % 4) && s.mvOwner (i / 4) (i % 4) == t.retired then s.wr a ((s.rd a).withFld 0 10 t.spare) else s) s2
  s3.setTakeover k { t with stage := 2 }

/-- The boundary step of a takeover that redirects it, at the boundary that starts class tick `o`. -/
def State.redirectStep (s : State) (k o : Nat) : State :=
  match s.takeovers[k]? with
  | none => s
  | some t =>
    if t.stage = 1 ∧ o ≥ t.base + 2 then
      let s1 := s.takeoverReplay k t (o - 1)
      match s1.takeovers[k]? with
      | some t1 => if t1.stage = 1 then s1.takeoverRedirect k t1 else s1
      | none => s1
    else s

/-- TAKEOVER_REDIRECT, just before the boundary that starts tick B + 2. -/
def execTakeoverRedirect (k : Nat) (s : State) : Host.Outcome State Fault Refusal :=
  match s.takeovers[k]? with
  | none => .next s
  | some t =>
    if s.ticking && s.nextTick % s.mult (s.takeoverCls t) == 0 then
      .next (s.early (fun s => s.redirectStep k (s.ordinal (s.takeoverCls t) s.nextTick)))
    else .next s

/-- The sources of a copy list after the takeover: a retired primary's place goes to the serving copy and its place to
the spare; another retired copy's place goes to the spare. -/
def swapSrc (prim : Bool) (retired live spare : Nat) (l : List Nat) : List Nat :=
  if l.contains retired then
    l.map (fun x => if x = retired then (if prim ∧ l.contains live then live else spare)
                    else if x = live ∧ prim then spare else x)
  else l

/-- Incoming channels of every pane that named the retired sender. -/
def State.swapIncoming (s : State) (prim : Bool) (a b c : Nat) : State :=
  (SMap.keys s.panes).foldl (fun s n =>
    s.modPane n (fun q => (List.range 64).foldl (fun q k =>
      if q.inValid k then
        match swapSrc prim a b c ([q.inSrc k] ++ (if q.inShadow k then [q.inTwinSrc k] else [])
            ++ (if q.inThird k then [q.inThirdSrc k] else [])) with
        | x :: r => (q.setCr (0x408 + 16 * k) ((q.cr (0x408 + 16 * k)).withFld 0 13 x)).setCr (0x40C + 16 * k)
            (((q.cr (0x40C + 16 * k)).withFld 0 13 (r.headD (q.inTwinSrc k))).withFld 13 13 (r.getD 1 (q.inThirdSrc k)))
        | [] => q
      else q) q)) s

/-- Drive slots that named it: the sources, with the suspicion of the retired copy cleared and SOLE_COPY following the
serving copy (R382). -/
def State.swapSlots (s : State) (prim : Bool) (a b c : Nat) : State :=
  s.validSlots.foldl (fun s d =>
    let l := (List.range (s.slotCopies d)).map (s.slotSrc d)
    match l.idxOf? a with
    | none => s
    | some i =>
      let l' := swapSrc prim a b c l
      let s1 := (List.range l.length).foldl (fun s k =>
        s.wrFld (slotReg d (4 + 4 * k)) 0 13 (l'.getD k 0)) s
      let s2 := s1.clrBits (redReg d) (1#32 <<< (3 + i))
      match l'.idxOf? b with
      | some j => if s2.sole d then s2.wrFld (redReg d) 1 2 j else s2
      | none => s2) s

/-- A pane at its first open or at a takeover tick: every register of R181 is 0 but p0 and STATUS.RING, no frame is in
use, and control is at TICK_ENTRY (R184, R266). It waits for the open. -/
def Pane.fresh (q : Pane) (entry ring tag : Nat) : Pane :=
  { q with phase := .stall, awaits := true, pc := BitVec.ofNat 32 entry, g := Vector.replicate 32 0, lr := 0, pred := 1, acc0 := 0,
           acc1 := 0, lb := Vector.replicate 3 0, le := Vector.replicate 3 0, lc := Vector.replicate 3 0,
           status := BitVec.ofNat 32 (ring % 4 * 4096), frames := Vector.replicate 4 Frame.zero, fdepth := 0, sb := [],
           wreads := [], wstores := [], wrefused := [], loadWaits := false, entry := none, unacked := [], reduced := [], tag := tag,
           overClose := none, faulty := 0, mvLate := false, pubs := [] }

/-- The takeover completes at the boundary that starts class tick `o` (R135): the spare opens as the new copy, roles and
sources follow, and the image's TASK fields name the new copies. -/
def State.takeoverComplete (s : State) (k : Nat) (t : Takeover) (n : Nat) : State :=
  let prim := s.primaryOf t.twin
  let wasPrim := (s.pane t.retired).role == 0
  let newPrim := if wasPrim then t.twin else prim
  let role := if wasPrim then (s.pane t.twin).role else (s.pane t.retired).role
  let me := fun x => s.partNo * 1024 + x
  let img1 := (((SMap.put s.img (imgKey 2 5 newPrim 0) (if role = 1 then me t.spare else s.fv 2 5 prim 0)) : SMap Nat))
  let img2 := SMap.put img1 (imgKey 2 6 newPrim 0) (if role = 2 then me t.spare else s.fv 2 6 prim 0)
  let img3 := SMap.put (SMap.put (SMap.put img2 (imgKey 2 7 newPrim 0) 0xFFFF) (imgKey 2 0xA newPrim 0) (s.region t).1)
    (imgKey 2 0xB newPrim 0) (s.region t).2
  let img4 := if wasPrim then SMap.mapVal (fun k v =>
      if k / 2 ^ 24 = 5 * 65536 + 0x10 ∧ v = me t.retired then me t.twin else v) img3 else img3
  let s1 := (s.swapIncoming wasPrim (me t.retired) (me t.twin) (me t.spare)).swapSlots wasPrim (me t.retired) (me t.twin)
    (me t.spare)
  let s2 := (if wasPrim then s1.modPane t.twin (fun q => q.setCr 0 ((q.cr 0).withFld 0 2 0)) else s1).modPane t.spare
    (fun q => (((q.setCr 0 ((q.cr 0).withFld 0 2 role)).setCr 0x100 ((s.pane t.retired).cr 0x100)).fresh
      (s.fv 2 8 prim 0) (s.fv 2 9 prim 0) n))
  let a := Config.pwr + 0x400 + 4 * sashOf t.spare
  let mbs := SMap.mapVal (fun _ (m : Mailbox) => if m.owner = some prim then { m with owner := some newPrim } else m) s2.mbs
  let s3 : State := { s2 with img := img4, mbs := mbs, takeovers := s2.takeovers.eraseIdx k }
  ((s3.wrFld a 0 7 ((s3.rd a).fld 16 7)).ledgerAdd 0x0308 t.spare 0).edge allBells 26 (t.spare + 2 ^ 15)

/-- The boundary step that completes a takeover, at the boundary that starts class tick `o`, T0 tick `n`: the last log is
replayed between the WAITT retirement of the serving copy and the spare's open (R135). When the last log exceeds 128 words, that
tick's step repeats and the takeover moves one tick later (R136); so it does when the serving copy overruns the boundary, since
its writes of the tick are not all made (DEDUCED, log 136). -/
def State.completeStep (s : State) (k o n : Nat) : State :=
  match s.takeovers[k]? with
  | none => s
  | some t =>
    if t.stage = 2 ∧ o ≥ t.base + 3 then
      let s1 := s.takeoverReplay k t (o - 1)
      match s1.takeovers[k]? with
      | none => s1
      | some t1 =>
        if t1.stage ≠ 2 then s1
        else if t1.log.length > 128 ∨ (s.pane t.twin).tag < n then s1.setTakeover k { t1 with base := t1.base + 1 }
        else
          let s2 := s1.takeoverReplay k t1 o
          match s2.takeovers[k]? with
          | some t2 => s2.takeoverComplete k t2 n
          | none => s2
    else s

/-- TAKEOVER_COMPLETE, just before the boundary that starts tick B + 3, once the WAITT of the serving copy has retired. -/
def execTakeoverComplete (k : Nat) (s : State) : Host.Outcome State Fault Refusal :=
  match s.takeovers[k]? with
  | none => .next s
  | some t =>
    if s.ticking && s.nextTick % s.mult (s.takeoverCls t) == 0 && decide (s.nextTick ≤ (s.pane t.twin).tag) then
      .next (s.early (fun s => s.completeStep k (s.ordinal (s.takeoverCls t) s.nextTick) s.nextTick))
    else .next s

/-- What is left of a takeover's step at the boundary that starts T0 tick `n`. -/
def State.takeoverStep (s : State) (n k : Nat) : State :=
  match s.takeovers[k]? with
  | none => s
  | some t =>
    let c := s.takeoverCls t
    let o := s.ordinal c n
    if n % s.mult c ≠ 0 then s
    else if t.lastLog o > 1024 ∧ t.stage ≠ 0 then s.takeoverReplay k t o
    else if t.stage = 0 then (if o ≥ t.base + 1 then s.takeoverCopy k t else s)
    else if t.stage = 1 then s.redirectStep k o
    else s.completeStep k o n

/-- Every takeover's step at a boundary, the youngest first, so that one that completes moves none still to come. -/
def State.takeoverSteps (s : State) (n : Nat) : State :=
  (List.range s.takeovers.length).reverse.foldl (fun s k => s.takeoverStep n k) s

/-- A word that a serving copy wrote to its state region (R135). -/
def State.logTakeover (s : State) (p a : Nat) : State :=
  if s.takeovers.isEmpty then s
  else { s with takeovers := s.takeovers.map (fun t =>
    let r := s.region t
    if t.twin = p ∧ r.1 ≤ a ∧ a < r.1 + r.2 then
      { t with log := t.log ++ [{ tick := s.ordinal (s.takeoverCls t) (s.pane p).tag, addr := a / 4 * 4,
                                  word := (s.pane p).peekW (a / 4 * 4) }] }
    else t) }

end Sys2Proof.Machine
end

