-- ==== Sys2Proof/Machine/Tick.lean ====
section
/-!
DEFINITION. The tick generator and its sources (R42 to R51).
-/
namespace Sys2Proof.Machine

/-- TICK_STATUS. -/
def tickStatus : Nat := Config.transom + 0x18
/-- TICK_STATUS.LOCKED, HOLDOVER and SLEWING. -/
def State.tickLocked (s : State) : Bool := (s.rd tickStatus).bit 0
def State.holdover (s : State) : Bool := (s.rd tickStatus).bit 1
def State.slewing (s : State) : Bool := (s.rd tickStatus).bit 4
/-- TIMING.T0_SOURCE (R42). -/
def State.tickSrc (s : State) : Nat := (s.rd Config.transom).fld 0 2
/-- The nominal T0 period in units of 2^-32 ns (R44). -/
def State.nominal (s : State) : Nat := (s.rd (Config.transom + 4)).toNat * 2 ^ 32 + (s.rd (Config.transom + 8)).toNat

/-- The phase error of an edge that asks for root close `e`: from the nearer of the coming edge and the last one. -/
def State.phaseErr (s : State) (e : Nat) : Int :=
  let a : Int := (e : Int) - s.gen.nextNs
  let b : Int := (e : Int) - s.lastC
  if b.natAbs < a.natAbs then b else a

/-- A time between two edges, in ns, that a source within 200 ppm of the nominal period can have (R46). -/
def State.legalIvl (s : State) (d : Nat) : Bool :=
  decide ((((d * 2 ^ 32 : Nat) : Int) - s.nominal).natAbs ≤ s.nominal * 200 / 1000000 + 2 ^ 32)

/-- A period in units of 2^-32 ns, held within 200 ppm of the nominal one (R46, R50). -/
def State.heldPeriod (s : State) (p : Nat) : Nat :=
  let n := s.nominal
  let d := n * 200 / 1000000
  max (n - d) (min (n + d) p)

/-- An edge counts as the next of a row when it comes within 100 ns of the period that the edges before predict (R49): the
time between the last two of the row, or, at the start of a row and after a time that no legal source has (a missing edge), the
period the generator tracked last. What the edges predict after a missing one is not in the spec: DESIGN CHOICE, log 118. -/
def Gen.consistent (g : Gen) (e : Nat) : Bool :=
  match g.seenEdge with
  | none => false
  | some l => decide (((e : Int) - l - (g.ivl.getD ((g.period + 2 ^ 31) / 2 ^ 32))).natAbs ≤ 100)

/-- Note an edge in the row of R49. -/
def State.seeEdge (s : State) (e : Nat) : Gen :=
  let g := s.gen
  { g with seenEdge := some e, good := if g.consistent e then g.good + 1 else 0,
           ivl := (g.seenEdge.map (fun l => e - l)).filter s.legalIvl }

/-- Take an edge as accepted: the generator tracks the time between it and the last accepted one (R45, R47). -/
def State.trackEdge (s : State) (e : Nat) : Gen :=
  let g := s.gen
  { g with lastEdge := some e,
           period := match g.lastEdge with
             | some l => if s.legalIvl (e - l) then s.heldPeriod ((e - l) * 2 ^ 32) else g.period
             | none => g.period }

/-- The time by which the generator's edges lead the source's, ns, below one period. -/
def State.lead (s : State) (e : Nat) : Nat :=
  let p := max s.gen.period 1
  ((((e * 2 ^ 32 : Nat) : Int) - s.gen.next) % (p : Int)).toNat / 2 ^ 32

/-- A lead that lies within the capture window of R45, from either side. -/
def State.leadNear (s : State) (d : Nat) : Bool :=
  decide (d ≤ 100) || decide (d * 2 ^ 32 + 100 * 2 ^ 32 ≥ s.gen.period)

/-- An edge while the phase error is slewed out (R49): within 100 ns of the tracked period after the last accepted one it is
tracked, and the error still to be removed is measured again; outside, it is a stray. -/
def State.slewEdge (s : State) (e : Nat) : State :=
  let ok := match s.gen.lastEdge with
    | some l => decide (((e : Int) - l - ((s.gen.period + 2 ^ 31) / 2 ^ 32 : Nat)).natAbs ≤ 100)
    | none => true
  if !ok then s.bump (Config.transom + 0x1C) 16 1
  else
    let s1 : State := { s with gen := s.trackEdge e }
    let d := s1.lead e
    if s1.leadNear d then
      ({ s1 with gen := { s1.gen with slew := 0 } } : State).wr tickStatus (((s1.rd tickStatus).withBit 0 true).withBit 4 false)
    else { s1 with gen := { s1.gen with slew := d } }

/-- An edge of the source that asks for root close `e` (R45, R49): accepted within 100 ns of the prediction, steering by
at most 2 ns and tracked; else a stray, which changes nothing else while the generator is locked. In holdover, and before the
first lock outside the window, an edge counts in the row of R49 (log 57). -/
def State.sourceAt (s : State) (e : Nat) : State :=
  if s.slewing then s.slewEdge e
  else if s.holdover then { s with gen := s.seeEdge e }
  else
    let err := s.phaseErr e
    if err.natAbs ≤ 100 then
      ({ s with gen := { s.trackEdge e with steer := max (-2) (min 2 err) } } : State).setBits tickStatus 1#32
    else
      let s1 : State := if s.tickLocked then s else { s with gen := s.seeEdge e }
      s1.bump (Config.transom + 0x1C) 16 1

/-- The crossing an edge of the source passes, if any (R634), and the time from the edge to its root close (R42). With
source 0 the edges are those of 802.1AS time (R51). Markers have a row of their own. -/
def sourceOf (src : Nat) : Option Nat × Nat :=
  if src = 1 then (some 107, 60) else if src = 2 then (some 80, 200) else (none, 0)

/-- FS_DIV, 1 to 256 (R42, R85). -/
def State.fsDiv (s : State) : Nat := (s.rd Config.transom).fld 8 8 + 1

/-- An edge of source 0 (R51, R512): the part has 802.1AS time, and time t is an instant, to the ns, at which it is an integer
multiple of the nominal period. -/
def State.timeEdge (s : State) (t : Nat) : Bool :=
  s.hasTime && decide (((((t : Int) + s.timeOff) * 2 ^ 32 + 2 ^ 31) % ((max s.nominal 1 : Nat) : Int)) < 2 ^ 32)

/-- SOURCE_EDGE: an edge of the tick source at time t (R42, R45, R51, R632). Under source 2 it is a frame sync of group 0 at the
ball, and every FS_DIV-th one counts, from the start of the generator on (log 119). -/
def execSourceEdge (t : Nat) (s : State) : Host.Outcome State Fault Refusal :=
  let s0 := s.at t
  let src := s0.tickSrc
  if !s0.gen.on || src == 3 || (src == 0 && !s0.timeEdge t) then .next s0
  else match (sourceOf src).1 with
    | some c =>
      if s0.severed c then .next (s0.discards c 1)
      else if src = 2 ∧ s0.gen.fs + 1 < s0.fsDiv then .next { s0 with gen := { s0.gen with fs := s0.gen.fs + 1 } }
      else .next (({ s0 with gen := { s0.gen with fs := 0 } } : State).sourceAt (t + (sourceOf src).2))
    | none => .next (s0.sourceAt t)

/-- TICK_SOURCE_LOSS: no edge accepted for 1.5 nominal periods (R47, R48): the generator goes on at its last tracked period, and
the row of R49 starts at the last accepted edge. The model's log code is 0x7F03 (log 23). -/
def execTickSourceLoss (t : Nat) (s : State) : Host.Outcome State Fault Refusal :=
  let s0 := s.at t
  match s0.gen.lastEdge with
  | none => .next s0
  | some l =>
    if !s0.gen.on || s0.holdover || (s0.now - l) * 2 ^ 33 < 3 * s0.nominal then .next s0
    else
      let st := ((s0.rd tickStatus).withBit 0 false).withBit 1 true
      let s1 := ({ s0 with gen := { s0.gen with good := 0, steer := 0, slew := 0, seenEdge := some l, ivl := none } } : State).wr tickStatus
        ((st.withBit 2 true).withBit 4 false)
      let s2 := if (s0.rd tickStatus).bit 2 then s1 else s1.raise allBells 14 .rise 0
      .next (s2.logEv 0x7F03 [])

/-- TICK_RELOCK: after 16 consecutive good edges the generator relocks at their period; a phase error beyond the window of R45
is removed by lengthening periods (R49). -/
def execTickRelock (s : State) : Host.Outcome State Fault Refusal :=
  match s.gen.seenEdge with
  | none => .next s
  | some e =>
    if !s.gen.on || s.tickLocked || s.slewing || decide (s.gen.good < 16) then .next s
    else
      let s1 : State := { s with gen := { s.gen with
        lastEdge := some e, period := s.heldPeriod ((s.gen.ivl.map (· * 2 ^ 32)).getD s.gen.period) } }
      let d := s1.lead e
      let near := s1.leadNear d
      let st := (((s.rd tickStatus).withBit 0 near).withBit 1 false).withBit 3 true
      .next ((({ s1 with gen := { s1.gen with slew := if near then 0 else d } } : State).wr tickStatus
        (st.withBit 4 (!near))).edge allBells 15 0)

/-- Lengthening of the coming period: at most 50 ns, until the error is within 100 ns (R49). -/
def Gen.stretch (g : Gen) : Nat := if g.slew ≤ 100 then 0 else min 50 g.slew

/-- The generator issues an edge and places the next, one tracked period on (R44, R45, R47, R49). -/
def State.advance (s : State) : State :=
  let g := s.gen
  let k := g.stretch
  let next := ((g.next + g.period + k * 2 ^ 32 : Nat) : Int) + g.steer * 2 ^ 32
  let s1 : State := { s with gen := { g with next := next.toNat, steer := 0, slew := g.slew - k } }
  let s2 := if s.holdover then s1.bump (Config.transom + 0x20) 32 1 else s1
  if s.slewing && decide (s2.gen.slew ≤ 100) then
    ({ s2 with gen := { s2.gen with slew := 0 } } : State).wr tickStatus
      (((s2.rd tickStatus).withBit 0 true).withBit 4 false)
  else s2

end Sys2Proof.Machine
end

