-- ==== Sys2Proof/Machine/Wicket.lean ====
section
/-!
DEFINITION. Wicket links and multi-part boards (R531 to R555).
-/
namespace Sys2Proof.Machine

/-! Links (R535 to R537, R550 to R552). -/

/-- Link k of the state. -/
def State.link (s : State) (k : Nat) : Link := SMap.get (fun _ => Link.reset) s.links k
/-- Replace it. -/
def State.setLink (s : State) (k : Nat) (x : Link) : State := { s with links := SMap.put s.links k x }

/-- A link enters a state, with its bell source (R294, R535). -/
def State.linkTo (s : State) (k v : Nat) : State :=
  if s.linkState k = v then s else (s.wrFld (Config.wicket k + 4) 0 3 v).edge allBells (56 + k) v

/-- The link refuses, with WHY. -/
def State.refuseLink (s : State) (k why : Nat) : State := (s.linkTo k 5).wrFld (Config.wicket k + 4) 3 2 why

/-- The configuration exchange agrees (R537). -/
def State.sameBoard (s : State) (k : Nat) (x : PeerInfo) : Bool :=
  x.boardId == s.boardId && x.parts == s.parts && x.topology == s.topology && x.master == s.master &&
    x.period == s.nominal && x.n1 == s.divider 1 && x.n2 == s.divider 2 && x.n3 == s.divider 3 &&
    x.part == s.linkPeer k && x.link == (s.rd (Config.wicket k)).fld 4 3

/-- A part of the board is present (BOARD.STATUS.PRESENT). -/
def State.markPresent (s : State) (q : Nat) : State :=
  if q = s.partNo then s else s.setBits (Config.board + 4) (1#32 <<< q)

/-- The link comes UP: traffic at once when it was never UP, else as R551 states. -/
def State.linkUp (s : State) (k t : Nat) (again : Bool) : State :=
  let s1 := ((s.linkTo k 3).markPresent (s.linkPeer k)).setLink k
    { s.link k with steps := 5, upAt := t, lastIn := t, lastOut := t, crcFails := [] }
  if again then s1 else s1.wrFld (Config.wicket k + 4) 5 1 1

/-- The text that one end signs (R536): AKWWKT01, then its own challenge and the other's, and their DEVICE_IDs in that order, 8 bytes
each (the order is the model's, log 151). -/
def linkText (mine theirs : List Byte) (me them : Nat) : List Byte :=
  [0x41#8, 0x4B#8, 0x57#8, 0x57#8, 0x4B#8, 0x54#8, 0x30#8, 0x31#8] ++ fitBytes 32 mine ++ fitBytes 32 theirs ++ leBytes 8 me ++ leBytes 8 them

/-- The other end passes R536: its certificate is the device CA's, its conformance level is this part's, and it has signed. -/
def State.peerGenuine (s : State) (k : Nat) (x : PeerInfo) : Bool :=
  match Cert.read x.cert with
  | some c => edVerify Config.caKey c.tbs c.sig && c.conformance == 1 &&
      edVerify c.pub (linkText x.challenge (s.link k).challenge x.deviceId s.otp.deviceId) x.signature
  | none => false

/-- AUTHENTICATING begins: this end draws its challenge and sends it with its certificate (R536). -/
def State.sayHello (s : State) (k : Nat) : State :=
  let c := freeBytes 32 s.free
  { s.setLink k { s.link k with challenge := c } with free := s.free + 32, ctlOut := s.ctlOut ++ [(k, .hello s.otp.cert c)] }

/-- Its own signature for the other end. -/
def State.sayProof (s : State) (k : Nat) (x : PeerInfo) : State :=
  match s.deviceKey with
  | some d => { s with ctlOut := s.ctlOut ++
      [(k, .proof (edSign d (linkText (s.link k).challenge x.challenge s.otp.deviceId x.deviceId)))] }
  | none => s

/-- One step of training (R535). A link that was UP shows DOWN while it retrains. -/
def State.trainStep (s : State) (k : Nat) (x : PeerInfo) (t : Nat) : State :=
  let l := s.link k
  let again := s.linkState k == 4
  match l.steps with
  | 0 | 1 => s.setLink k { l with steps := l.steps + 1 }
  | 2 =>
    let s1 := ((s.setLink k { l with steps := 3 }).wrFld (Config.wicket k + 8) 0 16 x.latency).sayHello k
    if again then s1 else s1.linkTo k 2
  | 3 =>
    if s.otp.cert.isEmpty || s.deviceKey.isNone || !s.peerGenuine k x then (s.sayProof k x).refuseLink k 1
    else
      (((s.sayProof k x).setLink k { l with steps := 4 }).wr (Config.wicket k + 0xC) (BitVec.ofNat 32 x.deviceId)).wr
        (Config.wicket k + 0x10) (BitVec.ofNat 32 (x.deviceId / 2 ^ 32))
  | 4 => if s.sameBoard k x then s.linkUp k t again else s.refuseLink k 2
  | _ => s

/-- LINK_TRAINING: the next step of a link that trains: TRAINING, AUTHENTICATING, or DOWN, whose retraining re-arms its crossing first
(R628). -/
def execLinkTraining (link : BitVec 3) (peer : PeerInfo) (t : Nat) (s : State) : Host.Outcome State Fault Refusal :=
  let k := link.toNat
  let s0 := s.at t
  if k ≥ 6 then .fault .noSuchUnit
  else if !s0.linkEn k || s0.part == .off then .next s0
  else if s0.severed (92 + k) then .next (if s0.linkState k == 4 then s0.plannedRearm (92 + k) else s0)
  else if s0.linkState k == 1 || s0.linkState k == 2 || s0.linkState k == 4 then .next (s0.trainStep k peer s0.now)
  else .next s0

/-- A part is lost (R547, R552): BOARD.STATUS, and a fault for the ledger. -/
def State.losePart (s : State) (q : Nat) : State :=
  if (s.rd (Config.board + 4)).bit (8 + q) then s
  else ((s.clrBits (Config.board + 4) (1#32 <<< q)).setBits (Config.board + 4) (1#32 <<< (8 + q))).reportLintel (.partLost q)

/-- No link of an adjacency is UP. -/
def State.adjacencyDown (s : State) (q : Nat) : Bool :=
  (List.range 6).all (fun k => !(s.linkEn k && s.linkPeer k == q && s.linkState k == 3))

/-- A way to part `q` carries traffic (R542, R552). -/
def State.reaches (s : State) (q : Nat) : Bool := (s.waysTo q).any (fun l => !(s.carrying l).isEmpty)

/-- The parts lost when the adjacency with `q` goes down (R552): those that can no longer reach the master. On a ring of
more than five parts the neighbour is one of them when its shortest way to the master leads through this part. -/
def State.lostWith (s : State) (q : Nat) : List Nat :=
  let me := s.partNo
  let n := s.parts
  if me = s.master then (List.range n).filter (fun x => x != me && !s.reaches x)
  else if !s.reaches s.master then [me]
  else if s.topology = 2 ∧ n ≥ 6 then
    let fwd := (s.master + n - q) % n
    let via := if 2 * fwd ≤ n then (q + 1) % n else (q + n - 1) % n
    if via = me then [q] else []
  else []

/-- Hops from part `p` to part `q` (R542). -/
def State.hops (s : State) (p q : Nat) : Nat :=
  let n := s.parts
  match s.topology with
  | 1 => if p = q then 0 else 1
  | 2 => min ((q + n - p) % n) ((p + n - q) % n)
  | 3 => min ((q % 4 + 4 - p % 4) % 4) ((p % 4 + 4 - q % 4) % 4) + (if p / 4 % 2 = q / 4 % 2 then 0 else 1)
  | _ => 0

/-- The link a follower takes markers from: T0_LINK while it is UP, else its twin (R540). -/
def State.markerLink (s : State) : Nat :=
  let l := (s.rd Config.transom).fld 4 3
  if s.linkState l = 3 then l
  else ((List.range 6).find? (fun k => k != l && s.linkEn k && s.linkPeer k == s.linkPeer l && s.linkState k == 3)).getD l

/-- MARKERS shows that link. -/
def State.showMarkers (s : State) : State :=
  (List.range 6).foldl (fun s k =>
    s.wrFld (Config.wicket k + 4) 6 1 (s.master != s.partNo && k == s.markerLink && s.linkState k == 3).toNat) s

/-- A link goes DOWN (R540, R550, R552): what is on its way over it is lost. -/
def State.linkLost (s : State) (k : Nat) : State :=
  let q := s.linkPeer k
  let s1 := ((s.linkTo k 4).bump (Config.wicket k + 0x20) 16 1).wrFld (Config.wicket k + 4) 5 1 0
  let s2 : State := { s1.setLink k Link.reset with wicketOut := s1.wicketOut.filter (fun x => x.1 != k),
                                                   ctlOut := s1.ctlOut.filter (fun x => x.1 != k) }
  let s3 := s2.showMarkers
  if s3.adjacencyDown q then (s3.lostWith q).foldl (fun s x => s.losePart x) s3 else s3

/-- LINK_DOWN: block lock lost on a lane, 16 failed control blocks within 1 us, or none for 300 ns (R550). -/
def execLinkDown (link : BitVec 3) (lockLost : Bool) (t : Nat) (s : State) : Host.Outcome State Fault Refusal :=
  let k := link.toNat
  let s0 := s.at t
  if k ≥ 6 then .fault .noSuchUnit
  else if s0.linkState k != 3 then .next s0
  else
    let l := s0.link k
    if lockLost || decide (l.crcFails.length ≥ 16) || decide (s0.now ≥ l.lastIn + 300) then .next (s0.linkLost k)
    else .next s0

/-- Links that carry traffic again at a boundary with root close `c` (R551). -/
def State.restoreLink (s : State) (c k : Nat) : State :=
  if s.linkState k == 3 && !s.linkCarries k && decide ((s.link k).upAt + 1000 ≤ c) then s.wrFld (Config.wicket k + 4) 5 1 1
  else s

/-- LINK_RESTORE, just before the boundary. -/
def execLinkRestore (link : BitVec 3) (s : State) : Host.Outcome State Fault Refusal :=
  if link.toNat ≥ 6 then .fault .noSuchUnit
  else .next (if s.gen.on then s.restoreLink s.gen.nextNs link.toNat else s)

/-- A control block arrives on a link (R532, R550): false when its CRC fails. -/
def State.ctlArrive (s : State) (k t : Nat) (good : Bool) : State :=
  let l := s.link k
  if good then s.setLink k { l with lastIn := t }
  else
    (s.setLink k { l with crcFails := (l.crcFails.filter (fun x => decide (t < x + 1000))) ++ [t] }).bump
      (Config.wicket k + 0x1C) 16 1

/-- IDLE_CONTROL_BLOCK: sent when 100 ns have passed without one, or received, with its CRC good or not (R532). -/
def execIdleControlBlock (link : BitVec 3) (received : Option Bool) (t : Nat) (s : State) :
    Host.Outcome State Fault Refusal :=
  let k := link.toNat
  let s0 := s.at t
  if k ≥ 6 then .fault .noSuchUnit
  else if s0.linkState k != 3 then .next s0
  else if s0.severed (92 + k) then .next (if received.isSome then s0.discards (92 + k) 1 else s0)
  else match received with
    | some good => .next (s0.ctlArrive k s0.now good)
    | none =>
      let l := s0.link k
      if s0.now < l.lastOut + 100 then .next s0
      else .next { s0.setLink k { l with lastOut := s0.now } with ctlOut := s0.ctlOut ++ [(k, .idle)] }

/-! The board digest (R538). -/

/-- A declaration of D(p, q): four 16-bit fields, as a number that sorts by them in turn. -/
def declNum (a b c d : Nat) : Nat := ((a % 65536 * 65536 + b % 65536) * 65536 + c % 65536) * 65536 + d % 65536

/-- Insert into a rising list. -/
def insertNum (x : Nat) : List Nat → List Nat
  | [] => [x]
  | y :: r => if x ≤ y then x :: y :: r else y :: insertNum x r

/-- The declarations by which this part's pane `p` posts to part `q`, or receives from it. -/
def State.paneDecls (s : State) (q p : Nat) : List Nat :=
  let x := s.pane p
  let me := s.partNo * 1024 + p
  (List.range 64).flatMap (fun n =>
    let w := x.cr (0x200 + 8 * n)
    let out := if w.bit 31 && w.fld 16 3 == q then
        [if w.bit 19 then declNum me (0x8000 + w.fld 6 7) 0 (w.fld 20 2)
         else declNum me (q * 1024 + w.fld 6 10) (w.fld 0 6) (w.fld 20 2)] else []
    let srcs := if x.inValid n && x.inOrigin n == 0 then
        [x.inSrc n] ++ (if x.inShadow n then [x.inTwinSrc n] else []) ++ (if x.inThird n then [x.inThirdSrc n] else [])
      else []
    out ++ (srcs.filter (fun r => r / 1024 == q)).map (fun r => declNum r me n (x.inClass n)))

/-- The declarations of the drive slots with a sender on part `q`. -/
def State.slotDecls (s : State) (q : Nat) : List Nat :=
  s.validSlots.flatMap (fun d =>
    (((List.range (s.slotCopies d)).map (s.slotSrc d)).filter (fun r => r / 1024 == q)).map (fun r =>
      declNum r (0x8000 + d) 0 (s.slotClass d)))

/-- The contributors of cross-part groups on this part or part `q`. -/
def State.groupDecls (s : State) (q : Nat) : List Nat :=
  (List.range 16).flatMap (fun g =>
    if (s.groupReg g).bit 31 && (s.groupReg g).bit 3 then
      (((List.range 64).map (s.contributor g)).filter (fun r =>
        r != 0xFFFF && (r / 1024 == q || r / 1024 == s.partNo))).map (fun r =>
          declNum r g ((s.groupReg g).fld 0 3) (SMap.get (fun _ => 0) s.groupCls g))
    else [])

/-- D(p, q) for this part and part `q` (R538). -/
def State.boardDigest (s : State) (q : Nat) : List Byte :=
  let l := (SMap.keys s.panes).flatMap (s.paneDecls q) ++ s.slotDecls q ++ s.groupDecls q
  sha256 ((l.foldr insertNum []).flatMap (fun n =>
    leBytes 2 (n / 2 ^ 48) ++ leBytes 2 (n / 2 ^ 32) ++ leBytes 2 (n / 2 ^ 16) ++ leBytes 2 n))

/-- Every adjacency has a link UP. -/
def State.boardUp (s : State) : Bool := (List.range 6).all (fun k => !s.linkEn k || !s.adjacencyDown (s.linkPeer k))

/-- BOARD_DIGEST_EXCHANGE: the digest of part `part` arrives, and this part's own goes to it (R538). The model's log code is 0x7F05 (log 23). -/
def execBoardDigestExchange (part : BitVec 3) (digest : List Byte) (s : State) : Host.Outcome State Fault Refusal :=
  let q := part.toNat
  if q = s.partNo ∨ q ≥ s.parts ∨ !s.boardUp then .next s
  else
    let s1 : State := { s.markPresent q with ctlOut := s.ctlOut ++ (match s.exitLink q 0 with
      | some l => [(l, .digest q (s.boardDigest q))]
      | none => []) }
    if digest = s1.boardDigest q then .next { s1 with digestOk := if s1.digestOk.contains q then s1.digestOk else s1.digestOk ++ [q] }
    else .next ((s1.setBits (Config.board + 4) 0x10000#32).logEv 0x7F05 [s.partNo, q])

/-! Markers (R539, R540). -/

/-- TICK_MARKER_SEND: the master sends the marker of the coming edge on each link that is UP, 1,000 ns before it. -/
def execTickMarkerSend (t : Nat) (s : State) : Host.Outcome State Fault Refusal :=
  let s0 := s.at t
  if s0.parts < 2 || s0.master != s0.partNo || !s0.gen.on || s0.now + 1000 < s0.gen.nextNs then .next s0
  else .next { s0 with ctlOut := s0.ctlOut ++ ((List.range 6).filter (fun k => s0.linkState k == 3)).map (fun k =>
    (k, .marker (1000 * 16) (s0.nextTick % 65536))) }

/-- TICK_MARKER_ARRIVAL: LEAD less this link's latency sets the follower's root close, and the marker goes on, less the
residence, to the links of the next hop away from the master (R539). -/
def execTickMarkerArrival (link : BitVec 3) (lead tick residence t : Nat) (s : State) : Host.Outcome State Fault Refusal :=
  let k := link.toNat
  let s0 := s.at t
  if k ≥ 6 then .fault .noSuchUnit
  else if s0.linkState k != 3 then .next s0
  else if s0.severed (92 + k) then .next (s0.discards (92 + k) 1)
  else
    let s1 := s0.ctlArrive k s0.now true
    if s1.master == s1.partNo || k != s1.markerLink then .next s1
    else
      let here := lead - (s1.rd (Config.wicket k + 8)).fld 0 16
      let e := t + (here + 8) / 16
      let on := (List.range 6).filter (fun j => s1.linkState j == 3 &&
        s1.hops (s1.linkPeer j) s1.master == s1.hops s1.partNo s1.master + 1)
      let s2 : State := { s1 with ctlOut := s1.ctlOut ++ on.map (fun j => (j, .marker (here - residence) tick)) }
      let s3 := s2.showMarkers
      if !s3.gen.on || s3.tickSrc != 3 then .next s3
      else
        let err := s3.phaseErr e
        let s4 := s3.sourceAt e
        .next (if err.natAbs ≤ 100 && s4.tickLocked then s4.wrFld (Config.board + 8) 0 16 (BitVec.ofInt 16 err).toNat else s4)

/-! Agreement tokens (R545 to R549). -/

/-- What the receiver adds for a token's event field (R549). -/
def State.remoteEvents (s : State) (e : Nat) : State :=
  let b := Config.board
  if s.parts ≤ 4 then
    let c25 := e % 16
    let c13 := e / 16 % 16
    let c28 := e / 256 % 16
    let s1 := ((s.bump (b + 0x14) 16 c25).bump (b + 0x18) 16 c13).bump (b + 0x1C) 16 c28
    if c25 = 15 ∨ c13 = 15 ∨ c28 = 15 then s1.setBits (b + 4) 0x40000#32 else s1
  else if e % 2 = 1 then (s.bump (b + 0x20) 16 1).setBits (b + 4) 0x40000#32
  else s

/-- Parts whose tokens a boundary waits for. -/
def State.tokenParts (s : State) : List Nat :=
  (List.range s.parts).filter (fun q => q != s.partNo && (s.rd (Config.board + 4)).bit q)

/-- AGREEMENT_TOKEN: the token of part `part` for the coming boundary arrives at time t (R545, R546, R549). AGREE_WORST is
measured from an instant the spec only bounds, so the length of a step is a free value (log 2). -/
def execAgreementToken (part : BitVec 3) (token : Token) (t : Nat) (s : State) : Host.Outcome State Fault Refusal :=
  let q := part.toNat
  let s0 := s.at t
  if q = s0.partNo ∨ q ≥ s0.parts ∨ (s0.rd (Config.board + 4)).bit (8 + q) ∨ token.tick % 16 ≠ s0.nextTick % 16
      ∨ s0.lateNow.contains q then .next s0
  else
    let s1 := (s0.markPresent q).remoteEvents token.event
    let s2 : State := { s1 with tokens := SMap.put s1.tokens q token, tokenLate := SMap.del s1.tokenLate q }
    if s2.tokenParts.all (fun x => (SMap.at? s2.tokens x).isSome) then
      let d := s2.draw
      let a := Config.board + 0xC
      .next (d.2.wrFld a 0 16 (max ((d.2.rd a).fld 0 16) (d.1 % 301)))
    else .next s2

/-- A token is late (R547). The model's log code is 0x7F04 (log 23). -/
def State.lateToken (s : State) (q : Nat) : State :=
  if (SMap.at? s.tokens q).isSome || s.lateNow.contains q || !s.tokenParts.contains q then s
  else
    let n := SMap.get (fun _ => 0) s.tokenLate q + 1
    let s1 : State := { s with lateNow := s.lateNow ++ [q], tokenLate := SMap.put s.tokenLate q n }
    let s2 := (s1.bump (Config.board + 0x10) 16 1).logEv 0x7F04 [q]
    if n ≥ 2 then s2.losePart q else s2

/-- TOKEN_LATE: part `part`'s token has not arrived by C + 580 ns. -/
def execTokenLate (part : BitVec 3) (s : State) : Host.Outcome State Fault Refusal := .next (s.lateToken part.toNat)

/-- This part's event field since its last token (R549). -/
def State.eventField (s : State) : Nat :=
  let e := s.tokenEvents
  if s.parts ≤ 4 then min e.1 15 + 16 * min e.2.1 15 + 256 * min e.2.2 15
  else if e.1 + e.2.1 + e.2.2 > 0 then 1 else 0

/-! Cross-part messages (R532, R542). -/

/-- What a link error does to a message that arrives on link k (R93). -/
def State.linkFlit (s : State) (k : Nat) (e : LinkErr) (m : Msg) : Option Msg × State :=
  match e with
  | .none => (some m, s)
  | .corrected => (some m, s.bump (Config.wicket k + 0x14) 16 1)
  | .payload j =>
    let hit := fun i => i / 2 == j
    let n := ((List.range m.words.length).filter hit).length
    (some { m with poison := (List.range m.words.length).map (fun i => hit i || m.poison.getD i false) },
     s.bump (Config.wicket k + 0x18) 16 n)
  | .header => (none, s.bump (Config.wicket k + 0x18) 16 1)

/-- A message leaves by its exit link; with no way left it is lost (R542, R552). An acknowledgement goes by the reverse
path, so the pane that posted chooses the twin. -/
def State.leave (s : State) (m : Msg) : State :=
  match s.exitLink m.poster m.dev with
  | some l => { s with wicketOut := s.wicketOut ++ [(l, m)] }
  | none => s

/-- The key of an incoming message's channel in the relay plan (R127). -/
def State.farKeyOf (s : State) (m : Msg) : Nat :=
  farKey (m.dest % 1024) m.chan (((s.pane (m.dest % 1024)).copyOf m.chan (m.srcDev * 1024 + m.srcPane)).getD 0)

/-- A message enters the mesh at the entry router of link k, and goes on under R126 (R542). -/
def State.enterMesh (s : State) (k : Nat) (m : Msg) : State :=
  let m1 := { m with start := some (linkRouter k), relay := none }
  match s.msgEnd m1 with
  | some dst => s.injectOn (m.kind == .ack && m.vn) m1 (linkRouter k) dst (m.kind == .post && s.relayLost (s.farKeyOf m))
  | none => s

/-- WICKET_FORWARD: a cross-part message on this part's mesh leaves by its exit link; or one that arrives on link `link` is
forwarded from link to link, or enters the mesh of its own part. -/
def execWicketForward (src : MsgFrom) (link : BitVec 3) (e : LinkErr) (s : State) : Host.Outcome State Fault Refusal :=
  match src with
  | .mesh k =>
    match s.mesh[k]? with
    | some m => if m.dev == s.partNo || m.relay.isSome then .next s else .next (({ s with mesh := s.mesh.eraseIdx k } : State).leave m)
    | none => .next s
  | .wicket m =>
    let k := link.toNat
    if k ≥ 6 then .fault .noSuchUnit
    else if !s.linkCarries k then .next s
    else if s.severed (92 + k) then .next (s.discards (92 + k) (max m.words.length 1))
    else match s.linkFlit k e m with
      | (none, s1) => .next s1
      | (some m', s1) => .next (if m'.dev == s1.partNo then s1.enterMesh k m' else s1.leave m')

end Sys2Proof.Machine
end

