-- ==== Sys2Proof/Machine/Access.lean ====
section
/-!
DEFINITION. Register accesses of every kind (R12 to R17): the live views, the reads that clear or latch, the writes and
what they set off; the latch aperture (R597); and publications for a result mailbox (R601, R602).
-/
namespace Sys2Proof.Machine

/-! Live views: registers computed from the state. -/

/-- Word i of a byte string, 0 beyond its end. -/
def wordAt (l : List Byte) (i : Nat) : Word := BitVec.ofNat 32 (leNat ((l.drop (4 * i)).take 4))

/-- IDENT.PART (R504). -/
def State.identPart (s : State) : Word :=
  packF [(0, 8, s.otp.stepping), (8, 8, 1), (16, 3, s.otp.lc), (19, 1, s.otp.devSeed.isSome.toNat),
         (20, 1, (!s.otp.cert.isEmpty).toNat), (21, 1, s.rosterOk.toNat)]

/-- IDENT: what comes from OTP (R504). -/
def State.identView (s : State) (o : Nat) : Option Word :=
  if o = 0 then some (BitVec.ofNat 32 s.otp.deviceId)
  else if o = 4 then some (BitVec.ofNat 32 (s.otp.deviceId / 2 ^ 32))
  else if o = 8 then some s.identPart
  else if 0x20 ≤ o ∧ o < 0x40 then
    some (wordAt ((s.otp.devSeed.map edPublic).getD []) ((o - 0x20) / 4))
  else if 0x60 ≤ o ∧ o < 0x80 then some (wordAt s.fingerprint ((o - 0x60) / 4))
  else if o = 0x80 then some (BitVec.ofNat 32 (min s.otp.cert.length 2048))
  else if o = 0x88 then some (wordAt s.otp.cert ((s.rd (Config.ident + 0x84)).fld 0 9))
  else none

/-- START.STATUS with its live bit BRIDGE_OPEN, and the selected record of the clamp report (R443). -/
def State.startView (s : State) (o : Nat) : Option Word :=
  if o = 0 then some ((s.rd Config.start).withBit 10 s.bridgeOpen)
  else if 0x30 ≤ o ∧ o < 0x40 then
    some (match s.clamps[(s.rd (Config.start + 0x2C)).fld 0 12]? with
      | some r => if o = 0x30 then r.w0 else if o = 0x34 then r.w1 else if o = 0x38 then r.w2 else r.w3
      | none => 0)
  else none

/-- TICKNO_LO and STAMP_LO (R85). -/
def State.transomView (s : State) (o : Nat) : Option Word :=
  if o = 0x28 then some (BitVec.ofNat 32 s.shownTick)
  else if o = 0x30 then some (BitVec.ofNat 32 (s.stamps.getD 0 0))
  else none

/-- The bolt's live registers (R390). ABORT_IN and DOOR show the filtered states once the bolt samples its inputs, and until then the
reset value 0 (R365; log 128). -/
def State.boltView (s : State) (o : Nat) : Option Word :=
  let b := s.bolt
  let e := s.bent ((o - 0x100) / 32)
  if o = 0 then
    some (packF [(0, 3, b.mode.code), (3, 1, s.killLow.toNat), (4, 1, b.abortOut.toNat),
      (5, 1, (s.acquires && (b.abortIn.asserted || s.severed 108)).toNat),
      (6, 1, (s.acquires && (b.door.asserted || s.severed 108)).toNat),
      (7, 1, b.warnLive.toNat), (8, 1, b.rampDone.toNat)])
  else if o = 0x10 then some (BitVec.ofNat 32 b.tripTick)
  else if o = 0x18 then some (match s.warnFirst with
    | some n => packF [(0, 12, n), (31, 1, 1)]
    | none => 0)
  else if 0x40 ≤ o ∧ o < 0x50 then
    some (packF ((List.range 32).map (fun k => (k, 1, (s.sole ((o - 0x40) / 4 * 32 + k)).toNat))))
  else if 0x100 ≤ o ∧ o < 0x900 ∧ o % 32 = 0x14 then some (BitVec.ofInt 32 e.prev)
  else if 0x100 ≤ o ∧ o < 0x900 ∧ o % 32 = 0x18 then some (packF [(0, 8, e.run), (8, 2, e.kind)])
  else none

/-- The bell of sash k (R318). -/
def State.bellView (s : State) (k o : Nat) : Option Word :=
  let b := s.bellOf k
  if o < 0x40 ∧ o % 8 = 4 then
    some (s.rd (Config.bell k + o) ||| packF [(16, 4, b.nextTgt.getD (o / 8) 0), (20, 3, b.nextSrc.getD (o / 8) 0),
      (23, 1, (b.heldOff.getLsbD (o / 8)).toNat)])
  else if o = 0x48 then some (BitVec.ofNat 32 b.pend.toNat)
  else if o = 0x4C then some (BitVec.ofNat 32 (b.pend.toNat / 2 ^ 32))
  else if o = 0x50 then some (BitVec.ofNat 32 b.live.toNat)
  else if o = 0x54 then some (BitVec.ofNat 32 (b.live.toNat / 2 ^ 32))
  else if 0x80 ≤ o ∧ o < 0xC0 then some (BitVec.ofNat 32 (SMap.get (fun _ => 0) b.count (o - 0x80)))
  else none

/-- A sample-input group (R354): FS_OK needs a frame start within 1.5 nominal periods. A frame's last bit
within 1 us is a clock edge; without one, whether the bit clock ran is a free value (log 2). -/
def State.sipView (s : State) (g o : Nat) : Option Word :=
  let within := fun (f : Nat × Nat → Nat) (n : Nat) => match SMap.at? s.sipSeen g with
    | some t => decide (s.now ≤ f t + n)
    | none => false
  let x := s.lane (8 * g + (o - 0x100) / 0x40)
  if o = 8 then
    some (if !s.sipEn g then 0
      else packF [(0, 1, (within Prod.snd 1000 || Config.clkOk g s.free).toNat),
                  (1, 1, (within Prod.fst (3 * s.nominal / 2 ^ 33)).toNat)])
  else if 0x100 ≤ o ∧ o % 0x40 = 4 then
    some (packF [(0, 9, x.fifo.length), (16, 9, (x.fifo.filter (fun e => e.fin)).length), (25, 1, x.armed.toNat)])
  else none

/-- MV_STATE of the movers of bay b (R415). -/
def State.bayView (s : State) (b o : Nat) : Option Word :=
  if 0x100 ≤ o ∧ o % 0x40 = 8 then
    let x := s.mover b ((o - 0x100) / 0x40)
    some (packF [(0, 4, x.next), (4, 5, x.subs.length), (9, 1, (x.subs.any (fun d => d.begun && d.status.isNone)).toNat),
                 (10, 1, x.staged.isSome.toNat)])
  else none

/-- PWR (R580). PENDING has codes of its own: 1 ajar, 2 shut, 3 open. -/
def State.pwrView (s : State) (o : Nat) : Option Word :=
  if o = 0xC then
    some ((s.rd (Config.pwr + 0xC)).withFld 16 8 ((List.range 64).filter (fun k => (s.dom k).st == .ajar)).length)
  else if 0x100 ≤ o ∧ o < 0x2B4 then
    let d := (o - 0x100) / 4
    let x := s.dom d
    let p := match x.pend with
      | some .ajar => 1
      | some .shut => 2
      | some .isOpen => 3
      | none => 0
    some (packF [(0, 2, x.st.code), (2, 2, p), (4, 1, x.moving.isSome.toNat), (5, 1, (s.lockedOpen d).toNat),
                 (6, 1, x.wasShut.toNat), (7, 1, x.replay.toNat)])
  else if 0x400 ≤ o ∧ o < 0x500 then
    some ((s.rd (Config.pwr + o)).withBit 30 (s.governing ((o - 0x400) / 4)))
  else none

/-- The selected ledger entry (R586, R587). -/
def State.faultView (s : State) (o : Nat) : Option Word :=
  if 0x104 ≤ o ∧ o < 0x114 then
    some (match s.ledger[(s.rd (Config.fault + 0x100)).fld 0 10]? with
      | some e => if o = 0x104 then packF [(0, 16, e.code), (16, 16, e.subject)]
        else if o = 0x108 then BitVec.ofNat 32 e.arg
        else if o = 0x10C then BitVec.ofNat 32 e.tick else BitVec.ofNat 32 (e.tick / 2 ^ 32)
      | none => 0)
  else none

/-- SEVERED of the CROSS block (R640). -/
def State.crossView (s : State) (o : Nat) : Option Word :=
  if 0x10 ≤ o ∧ o < 0x20 then
    some (packF ((List.range 32).map (fun k =>
      let c := (o - 0x10) / 4 * 32 + k
      (k, 1, (decide (c < 109) && s.severed c).toNat))))
  else none

/-- The computed value of the device register at address a, if it has one. -/
def State.devView (s : State) (a : Nat) : Option Word :=
  match blockOf a with
  | none => none
  | some b =>
    let o := b.offset a
    let k := (a - b.base) / b.stride
    if b.base = Config.ident then s.identView o
    else if b.base = Config.start then s.startView o
    else if b.base = Config.transom then s.transomView o
    else if b.base = Config.bolt then s.boltView o
    else if b.base = Config.bell 0 then s.bellView k o
    else if b.base = Config.sip 0 then s.sipView k o
    else if b.base = Config.bay 0 then s.bayView k o
    else if b.base = Config.pwr then s.pwrView o
    else if b.base = Config.fault then s.faultView o
    else if b.base = Config.cross then s.crossView o
    else if a = Config.board + 4 then some ((s.rd a).withBit 17 s.boardLocked)
    else if a = Config.dram + 0x44 then some (BitVec.ofNat 32 (max ((s.rd a).fld 0 16) (Config.wheelWorst s.free % 65536)))
    else none

/-- The computed value of a pane control register, if it has one. -/
def State.paneView (s : State) (p o : Nat) : Option Word :=
  let q := s.pane p
  if o = 0 then some ((q.cr 0).withBit 3 (q.phase == .stall))
  else if o = 4 then
    some (packF [(0, 3, q.sb.length), (4, 2, (q.wreads.filter (fun r => r.status == .waiting)).length)])
  else if o = 0x110 then some (BitVec.ofNat 32 q.lastOver)
  else if o = 0xF04 then some (packF [(0, 8, q.evWr), (8, 8, q.evClaim), (16, 8, q.evFree)])
  else if o = 0xF08 then
    some (packF [(0, 4, q.evStack.length), (4, 1, ((q.cr 0xF08).bit 4).toNat),
                 (5, 1, (decide (q.evSlots > 0) && !q.evRoom).toNat), (6, 1, q.interrupt.toNat)])
  else if o = 0xF0C then some (BitVec.ofNat 32 (q.evSeq % 65536))
  else if 0xF10 ≤ o ∧ o < 0xF30 then
    some (match q.evStack.reverse[(o - 0xF10) / 4]? with
      | some t => packF [(0, 8, t.slot), (8, 3, t.prio), (11, 3, t.depth)]
      | none => 0)
  else if o = 0xF30 then some (BitVec.ofNat 32 (s.bellOf (sashOf p)).live.toNat)
  else if o = 0xF34 then some (BitVec.ofNat 32 ((s.bellOf (sashOf p)).live.toNat / 2 ^ 32))
  else none

/-! Reads (R12, R14, R85, R87, R390). -/

/-- A read that draws on a free value uses it up. -/
def State.spend (s : State) (a : Nat) : State :=
  if a = Config.dram + 0x44 then { s.wr a ((s.devView a).getD 0) with free := s.free + 1 }
  else if Config.sip 0 ≤ a ∧ a < Config.sip 8 ∧ a % 0x400 = 8 then { s with free := s.free + 1 }
  else s

/-- A register whose read latches another one: the address of that one, and what it takes. -/
def State.latchOf (s : State) (a : Nat) : Option (Nat × Nat) :=
  if a = Config.transom + 0x28 then some (Config.transom + 0x2C, s.shownTick / 2 ^ 32)
  else if a = Config.transom + 0x30 then some (Config.transom + 0x34, s.stamps.getD 0 0 / 2 ^ 32)
  else if a = Config.bolt + 0x10 then some (Config.bolt + 0x14, s.bolt.tripTick / 2 ^ 32)
  else none

/-- Read the device register at address a; an increment `inc` coincides with the read. -/
def State.devRead (s : State) (a : Nat) (inc : Word) : Word × State :=
  match (blockOf a).bind (fun b => b.regs.find? (fun r => r.covers false (b.offset a) 1)) with
  | none => (0, s)
  | some r =>
    let v := (s.devView a).getD (s.rd a)
    let s1 := match s.latchOf a with
      | some (h, x) => s.wr h (BitVec.ofNat 32 x)
      | none => s.spend a
    (v, if r.kind = .rc then s1.wr a (r.afterRead (s1.rd a) inc) else s1)

/-- Read the register of pane p's control region at offset o. -/
def State.paneRead (s : State) (p o : Nat) (inc : Word) : Word × State :=
  match paneRegOf false o 1 with
  | none => (0, s)
  | some r =>
    let v := (s.paneView p o).getD ((s.pane p).cr o)
    (v, if r.kind = .rc then s.modPane p (fun q => q.setCr o (r.afterRead (q.cr o) inc))
        else if o = 0x110 then s.modPane p (fun q => q.setCr 0x114 (BitVec.ofNat 32 (q.lastOver / 2 ^ 32)))
        else s)

/-! Writes. -/

/-- A source follows a register's bits: it rises with the first and falls with the last. -/
def State.levelOf (s : State) (src : Nat) (old new : Bool) (detail : Nat) : State :=
  if !old && new then s.raise allBells src .rise detail
  else if old && !new then s.raise allBells src .fall 0 else s

/-- What follows a write to the device register at address a, beside its bits (R85, R297, R330, R332, R353, R561, R609); hardware
sets the bits `hw` in the same access (R13). -/
def State.afterWrite (s old : State) (a : Nat) (v hw : Word) : State :=
  match blockOf a with
  | none => s
  | some b =>
    let o := b.offset a
    let k := (a - b.base) / b.stride
    if b.base = Config.transom then
      if o = 0xC ∨ o = 0x10 ∨ o = 0x14 then (if (s.rd a).fld 0 16 = 0 then s.wr a 1 else s)
      else if o = 0x18 then
        let s1 := s.levelOf 14 ((old.rd a).bit 2) ((s.rd a).bit 2) 0
        if hw.bit 3 && !(old.rd a).bit 3 then s1.edge allBells 15 0 else s1
      else s
    else if b.base = Config.sip 0 then
      if o = 0xC then s.flush k (v.fld 0 8)
      else if o = 0x10 then
        s.levelOf k (old.rd a != 0) (s.rd a != 0) ((s.rd (laneReg (8 * k + lowestNotice (s.rd a)) 8)).toNat
          + lowestNotice (s.rd a) * 2 ^ 9)
      else if 0x100 ≤ o ∧ o % 0x40 = 0 then
        let l := 8 * k + (o - 0x100) / 0x40
        s.watermark l (s.lane l).fifo.length (s.lane l).fifo.length
      else s
    else if b.base = Config.dop 0 then
      if o = 8 ∨ o = 0xC then s.levelOf (8 + k) (old.underrunBits k != 0) (s.underrunBits k != 0)
        (64 * k + ((List.range 64).find? (fun j => (s.underrunBits k).testBit j)).getD 0) else s
    else if b.base = Config.pwr then
      if o = 0 then s.powerReq (v.fld 0 8)
        (if v.fld 8 2 = 0 then some .isOpen else if v.fld 8 2 = 1 then some .ajar else if v.fld 8 2 = 2 then some .shut else none)
      else if 0x100 ≤ o ∧ o < 0x2B4 then
        let x := s.dom ((o - 0x100) / 4)
        s.setDom ((o - 0x100) / 4) { x with wasShut := (x.wasShut && !v.bit 6) || hw.bit 6 }
      else s
    else if a = Config.selftest + 0x100 then
      if v.fld 0 2 = 1 then s.lcCmd false else if v.fld 0 2 = 2 then s.lcCmd true else s
    else s

/-- Write the device register at address a; hardware sets the bits `hw` in the same access (R13). -/
def State.devWrite (s : State) (a : Nat) (v hw : Word) : State :=
  match (blockOf a).bind (fun b => b.regs.find? (fun r => r.covers false (b.offset a) 1)) with
  | none => s
  | some r => (s.wr a (r.write s.locked (s.rd a) v hw)).afterWrite s a v hw

/-- MB_PUB (R602): words staged for a mailbox, tagged; a later write in the same tick replaces the earlier. -/
def Pane.publish (q : Pane) (v : Word) : Pane :=
  let ws := (List.range (v.fld 8 4 + 1)).map (fun i => q.cr (0x900 + 4 * i))
  { q.setCr 0x944 1 with
    pubs := q.pubs.filter (fun x => x.tag != q.tag) ++ [{ mailbox := v.fld 0 5, words := ws, tag := q.tag }] }

/-- Mailbox m. -/
def State.mb (s : State) (m : Nat) : Mailbox := SMap.get (fun _ => Mailbox.reset) s.mbs m

/-- A write of MB_PUB by pane p: refused when another task owns the mailbox (R602, R603). -/
def State.publish (s : State) (p : Nat) (v : Word) : State :=
  match (s.mb (v.fld 0 5)).owner with
  | some o => s.modPane p (fun q => if o = s.primaryOf p then q.publish v else q.setCr 0x944 3)
  | none => s.modPane p (fun q => q.publish v)

/-- The weights of ARB: a written 0 is stored as 1 (R120). -/
def arbFix (v : Word) : Word := packF ((List.range 7).map (fun k => (4 * k, 4, max (v.fld (4 * k) 4) 1)))

/-- Write the register of pane p's control region at offset o (R87, R120, R484, R514, R602). -/
def State.paneWrite (s : State) (p o : Nat) (v hw : Word) : State :=
  match paneRegOf false o 1 with
  | none => s
  | some r =>
    let s1 := s.modPane p (fun q => q.setCr o (r.write s.locked (q.cr o) v hw))
    if o = 0x118 then (if v.bit 0 then s1.modPane p (fun q => q.setCr 0x108 0x7FFFFFFF#32) else s1)
    else if o = 0x840 then s1.modPane p (fun q => q.setCr 0x840 (arbFix (q.cr 0x840)))
    else if o = 0x88C then s1.khGo p (v.fld 0 4)
    else if o = 0x8CC then s1.stGo p (v.fld 0 6)
    else if o = 0x940 then s1.publish p v
    else s1

/-! Addresses of the device management region, with the latch aperture (R592, R597). -/

/-- The pane and the offset of an address in the latch aperture. -/
def apertureOf (a : Nat) : Option (Nat × Nat) :=
  if 0xF8000000 ≤ a ∧ a < 0xF8400000 then some ((a - 0xF8000000) / 0x1000, (a - 0xF8000000) % 0x1000) else none

/-- The domain in which the register at an address lies (R556). -/
def regDomain (a : Nat) : Nat :=
  match apertureOf a with
  | some (p, _) => 72 + bayOf p
  | none =>
    match blockOf a with
    | none => 106
    | some b =>
      let k := (a - b.base) / b.stride
      if b.base = Config.bell 0 then k
      else if b.base = Config.sip 0 then 80 + k
      else if b.base = Config.dop 0 then 88 + k
      else if b.base = Config.dist 0 ∨ b.base = Config.bay 0 then 64 + k
      else if b.base = Config.dram then 98
      else if b.base = Config.net 0 then 90 + k
      else if b.base = Config.wicket 0 then 92 + k
      else if b.base = Config.bolt then 107
      else 106

/-- The register that an access of n bytes by the lintel or the sill port reaches at address a. -/
def mgmtRegOf (a n : Nat) : Option Reg :=
  match apertureOf a with
  | some (_, o) => paneRegOf true o n
  | none => devRegOf true a n

/-- Read a register for the lintel or the sill port. -/
def State.mgmtRead (s : State) (a : Nat) (inc : Word) : Word × State :=
  match apertureOf a with
  | some (p, o) => s.paneRead p o inc
  | none => s.devRead a inc

/-- Write a register for the lintel or the sill port. -/
def State.mgmtWrite (s : State) (a : Nat) (v hw : Word) : State :=
  match apertureOf a with
  | some (p, o) => s.paneWrite p o v hw
  | none => s.devWrite a v hw

/-- The block answers: the part is not in OFF, and the register's domain is open. -/
def State.answers (s : State) (a : Nat) : Bool := s.part != .off && s.domOpen (regDomain a)

/-- A register access to a domain that is not open waits and asks for its wake (R568); in OFF nothing answers. -/
def State.reach (s : State) (a : Nat) (f : State → State) : State :=
  if s.part == .off then s else if s.domOpen (regDomain a) then f s else s.wake (regDomain a)

/-- A read command: the value stands in `rdata`. -/
def State.readReg (s : State) (a : Nat) (inc : Word) : State :=
  s.reach a (fun s => { (s.mgmtRead a inc).2 with rdata := (s.mgmtRead a inc).1.setWidth 64 })

/-! The commands. -/

/-- READ_CLEAR: a read of the register at `a`, with an increment `inc` that coincides with it (R14). An address with no
four-byte register answers nothing. -/
def execReadClear (a inc : Word) (s : State) : Host.Outcome State Fault Refusal :=
  .next (if (mgmtRegOf a.toNat 4).isSome then s.readReg a.toNat inc else s)

/-- REGISTER_WRITE: a write of `v` to the register at `a`, in its own width, while hardware sets the bits `hw` (R12, R13,
R15, R17). -/
def execRegisterWrite (a v hw : Word) (s : State) : Host.Outcome State Fault Refusal :=
  .next (if (mgmtRegOf a.toNat 4).isSome || (mgmtRegOf a.toNat 1).isSome then
      s.reach a.toNat (fun s => s.mgmtWrite a.toNat v hw)
    else s)

/-- TICKNO_LO_READ (R85). -/
def execTicknoLoRead (s : State) : Host.Outcome State Fault Refusal := .next (s.readReg (Config.transom + 0x28) 0)

/-- STAMP_LO_READ (R85). -/
def execStampLoRead (s : State) : Host.Outcome State Fault Refusal := .next (s.readReg (Config.transom + 0x30) 0)

/-- TRIP_TICK_LO_READ (R390). -/
def execTripTickLoRead (s : State) : Host.Outcome State Fault Refusal := .next (s.readReg (Config.bolt + 0x10) 0)

/-- LAST_OVERRUN_LO_READ of pane p (R87). -/
def execLastOverrunLoRead (p : PaneNo) (s : State) : Host.Outcome State Fault Refusal :=
  .next (s.readReg (Config.aperture p.toNat + 0x110) 0)

/-- SLACK_RESET of pane p: a 1 is written (R87). -/
def execSlackReset (p : PaneNo) (s : State) : Host.Outcome State Fault Refusal :=
  .next (s.reach (Config.aperture p.toNat) (fun s => s.paneWrite p.toNat 0x118 1 0))

/-- MAILBOX_PUBLISH: `v` is written to MB_PUB of pane p, by its ring 0 or ring 1 code (R601, R602). -/
def execMailboxPublish (p : PaneNo) (v : Word) (s : State) : Host.Outcome State Fault Refusal :=
  .next (s.reach (Config.aperture p.toNat) (fun s => s.paneWrite p.toNat 0x940 v 0))

end Sys2Proof.Machine
end

