-- ==== Sys2Proof/Machine/Sill.lean ====
section
/-!
DEFINITION. The sill port: its frames, the sill block, the window, and the NOR bridge (R439, R440, R588 to R600, R605).
-/
namespace Sys2Proof.Machine

/-! Status bytes and CRC (R590, R595). -/

/-- Status bytes: OK, WAIT, ERR and CRC. -/
def stOk : Byte := 0x51#8
def stWait : Byte := 0x52#8
def stErr : Byte := 0x54#8
def stCrc : Byte := 0x58#8

/-- `n` steps of CRC-8 with polynomial 0x07. -/
def crc8Steps : Nat → Byte → Byte
  | 0, c => c
  | n + 1, c => crc8Steps n (if c.getLsbD 7 then (c <<< 1) ^^^ 0x07#8 else c <<< 1)

/-- CRC-8 of a byte string, from 0x00 (R595). -/
def crc8 (l : List Byte) : Byte := l.foldl (fun c b => crc8Steps 8 (c ^^^ b)) 0

/-- CFG.CRC and CFG.TURN. -/
def State.sillCrc (s : State) : Bool := (s.srd 4).bit 0
def State.sillTurn (s : State) : Nat := max ((s.srd 4).fld 1 3) 1

/-- What a frame returns goes out on SILL_MISO. -/
def State.sendMiso (s : State) (l : List Byte) : State := { s with miso := l }

/-- A failed CRC from the master (R595). -/
def State.crcErr (s : State) : State := s.swr 0x24 (BitVec.ofNat 32 (satAdd 16 (s.srd 0x24).toNat 1))

/-- A SCRAPPED part answers only its identity and state registers (R420). -/
def State.sillOpen (s : State) (a : Nat) : Bool := s.otp.lc != 4 || (decide (8 ≤ a) && decide (a < 0x18))

/-! The sill block (R596, R605). -/

/-- The sill latch of mailbox m. -/
def State.latchedMb (s : State) (m : Nat) : Mailbox := SMap.get (fun _ => Mailbox.reset) s.mbLatch m

/-- MB_STATUS. -/
def Mailbox.status (x : Mailbox) : Word :=
  packF [(0, 1, x.ready.toNat), (1, 1, x.held.toNat), (2, 1, x.twin.toNat), (16, 10, x.owner.getD 0)]

/-- A read of MB_STATUS[m] latches the snapshot (R605). -/
def State.latchMb (s : State) (m : Nat) : State := { s with mbLatch := SMap.put s.mbLatch m (s.mb m) }

/-- A word of a mailbox block, by its offset in the block. -/
def State.mbWord (s : State) (m o : Nat) : Word :=
  let x := s.latchedMb m
  if o = 0 then (s.mb m).status
  else if o = 4 then BitVec.ofNat 32 x.seq
  else if o = 8 then BitVec.ofNat 32 x.tick
  else if o = 0xC then BitVec.ofNat 32 (x.tick / 2 ^ 32)
  else if o = 0x10 then BitVec.ofNat 32 x.words.length
  else if 0x40 ≤ o then x.words.getD ((o - 0x40) / 4) 0
  else 0

/-- SILL.STATE (R596). -/
def State.sillState (s : State) : Word :=
  packF [(0, 3, s.part.code), (3, 1, ((s.rd Config.start).bit 6).toNat), (4, 4, (s.rd Config.start).fld 0 4),
         (8, 4, (s.rd Config.cross).fld 0 4)]

/-- The address is implemented in the sill block; the unlisted words of a mailbox block count (R596). -/
def sillHas (a : Nat) : Bool := (sillRegOf a).isSome || (decide (0x1000 ≤ a) && decide (a < 0x2000))

/-- Read an implemented word of the sill block: RC fields clear, TICK_LO and MB_STATUS latch (R596, R605). -/
def State.sillRead (s : State) (a : Nat) : Word × State :=
  if 0x1000 ≤ a ∧ a < 0x2000 then
    let m := (a - 0x1000) / 0x80
    let o := a % 0x80
    (s.mbWord m o, if o = 0 then s.latchMb m else s)
  else if a = 8 then (BitVec.ofNat 32 s.otp.deviceId, s)
  else if a = 0xC then (BitVec.ofNat 32 (s.otp.deviceId / 2 ^ 32), s)
  else if a = 0x10 then (s.identPart, s)
  else if a = 0x14 then (s.sillState, s)
  else if a = 0x18 then (BitVec.ofNat 32 s.shownTick, s.swr 0x1C (BitVec.ofNat 32 (s.shownTick / 2 ^ 32)))
  else if a = 0x24 ∨ a = 0x28 then (s.srd a, s.swr a 0)
  else (s.srd a, s)

/-! The NOR bridge (R439, R440, R599, R600). A byte of the device is kept complemented, so that erased NOR lists
nothing. -/

/-- A byte of the NOR device. -/
def State.norByte (s : State) (a : Nat) : Byte := ~~~(s.nor.read a)
/-- Bytes of the device. -/
def State.norBytes (s : State) (a n : Nat) : List Byte := (Memory.readBytes s.nor a n).map (fun b => ~~~b)
/-- Write bytes. -/
def State.norWrite (s : State) (a : Nat) (l : List Byte) : State :=
  { s with nor := Memory.writeBytes s.nor a (l.map (fun b => ~~~b)) }

/-- Set ERR, BUSY and DONE of BR_STATUS. -/
def State.brShow (s : State) (err : Nat) (busy done : Bool) : State :=
  let w := ((s.srd 0x104).withFld 2 4 err).withBit 1 busy
  s.swr 0x104 (if done then w.withBit 31 true else w)

/-- Open the bridge: in READY only; the xSPI domain opens first (R439, R599). -/
def State.brOpen (s : State) : State :=
  if s.part != .ready then s.brShow 6 ((s.srd 0x104).bit 1) false
  else
    let s1 := if s.domOpen 101 then s else s.comesOpen 101
    s1.swr 0x104 ((s1.srd 0x104).withBit 0 true)

/-- Close it: at once, or when the running operation has ended. -/
def State.brClose (s : State) : State :=
  match s.bridge with
  | some b => { s with bridge := some { b with closing := true } }
  | none => (s.swr 0x104 ((s.srd 0x104).withBit 0 false)).setTarget 101

/-- The first row of R600 that applies before the operation runs; none where it runs. -/
def State.brCheck (s : State) (op addr len : Nat) : Option Nat :=
  let d := s.norSize
  let n := if op = 3 then 65536 else len
  if !s.bridgeOpen then some 6
  else if s.bridge.isSome then some 3
  else if addr + n > d then some 1
  else if op ≠ 1 ∧ addr + n > d - 1048576 then some 2
  else if op = 2 ∧ addr % 256 + len > 256 then some 2
  else if op = 3 ∧ addr % 65536 ≠ 0 then some 2
  else none

/-- A write to BR_OP (R600). An operation that a row turns away ends at once, but one turned away by a running one is
discarded. With the xSPI crossing severed the device gets no command (R636). -/
def State.brOp (s : State) (op : Nat) : State :=
  if op = 0 ∨ op > 3 then s
  else
    let addr := (s.srd 0x108).fld 0 28
    let len := (s.srd 0x10C).fld 0 9
    match s.brCheck op addr len with
    | some 3 => s.brShow 3 true false
    | some e => s.brShow e false true
    | none => { (if s.severed 101 then s.discards 101 1 else s).brShow 0 true false with bridge := some { op := op, addr := addr, len := len, closing := false, lost := s.severed 101 } }

/-- Fill BR_BUF from byte 0: 256 bytes at most. -/
def State.brFill (s : State) (l : List Byte) : State :=
  (List.range l.length).foldl (fun s k =>
    if k ≥ 256 then s else s.swr (0x200 + k / 4 * 4) ((s.srd (0x200 + k / 4 * 4)).withFld (8 * (k % 4)) 8 (l.getD k 0).toNat)) s

/-- The bytes of BR_BUF. -/
def State.brBuf (s : State) : List Byte := (List.range 64).flatMap (fun i => Word.bytes (s.srd (0x200 + 4 * i)))

/-- The effect of an operation that ends well. -/
def State.brDo (s : State) (b : BridgeOp) : State :=
  if b.op = 1 then s.brFill (s.norBytes b.addr b.len)
  else if b.op = 2 then s.norWrite b.addr (s.brBuf.take b.len)
  else { s with nor := SMap.keep (fun a => decide (a < b.addr) || decide (b.addr + 65536 ≤ a)) s.nor }

/-- The running operation ends with ERR 0, 4 or 5. -/
def State.brEnd (s : State) (err : Nat) : State :=
  match s.bridge with
  | none => s
  | some b =>
    let s1 := if err = 0 then s.brDo b else s
    let s2 : State := (({ s1 with bridge := none } : State).brShow err false true)
    if b.closing then s2.brClose else s2

/-- BRIDGE_OPEN: a write of 1 to BR_CTL. -/
def execBridgeOpen (s : State) : Host.Outcome State Fault Refusal := .next (s.sillCmd State.brOpen)
/-- BRIDGE_CLOSE: a write of 2 to BR_CTL. -/
def execBridgeClose (s : State) : Host.Outcome State Fault Refusal := .next (s.sillCmd State.brClose)
/-- BRIDGE_READ: a write of 1 to BR_OP. -/
def execBridgeRead (s : State) : Host.Outcome State Fault Refusal := .next (s.sillCmd (fun s => s.brOp 1))
/-- BRIDGE_PROGRAM: a write of 2 to BR_OP. -/
def execBridgeProgram (s : State) : Host.Outcome State Fault Refusal := .next (s.sillCmd (fun s => s.brOp 2))
/-- BRIDGE_ERASE: a write of 3 to BR_OP. -/
def execBridgeErase (s : State) : Host.Outcome State Fault Refusal := .next (s.sillCmd (fun s => s.brOp 3))

/-- BRIDGE_OP_COMPLETE: the device ends the operation, with a failure it reports, or it has not ended in time (R600). A read
knows no failure. An operation whose command a severed crossing discarded ends only as late (R636, log 152). A closed xSPI domain is
woken first (R568). -/
def execBridgeOpComplete (failed late : Bool) (s : State) : Host.Outcome State Fault Refusal :=
  match s.bridge with
  | none => .next s
  | some b =>
    if !s.domOpen 101 then .next (s.wake 101)
    else if b.lost then .next (if late then s.brEnd 5 else s)
    else .next (s.brEnd (if b.op = 1 then 0 else if failed then 4 else if late then 5 else 0))

/-! Writes to the sill block (R593, R596, R598 to R600). -/

/-- A held result is discarded and counted (R593). -/
def State.dropHeld (s : State) : State :=
  if s.winHeld.isEmpty then s
  else { s.swr 0x28 (BitVec.ofNat 32 (satAdd 16 (s.srd 0x28).toNat s.winHeld.length)) with winHeld := [] }

/-- Write an implemented word of the sill block. -/
def State.sillWrite (s : State) (a : Nat) (v : Word) : State :=
  if a = 0x48 then s.sillKnock v
  else if a = 0x100 then (if v.fld 0 2 = 1 then s.brOpen else if v.fld 0 2 = 2 then s.brClose else s)
  else if a = 0x110 then s.brOp (v.fld 0 2)
  else if 0x200 ≤ a ∧ a < 0x300 ∧ (s.srd 0x104).bit 1 then s
  else match sillRegOf a with
    | none => s
    | some r =>
      let s1 := if a = 0x20 then s.dropHeld else s
      let w := r.write false (s1.srd a) v 0
      s1.swr a (if a = 4 then w.withFld 1 3 (max (w.fld 1 3) 1) else w)

/-! The window (R592, R593, R597). -/

/-- The device management address that a sill address of the window reaches. -/
def State.winAddr (s : State) (a : Nat) : Nat := 0xF0000000 + (s.srd 0x20).fld 0 13 * 0x8000 + (a - 0x8000)

/-- The window permits the address: in STARTING only the IDENT and START blocks (R592); a register must stand there, or
registers of one byte; one of more than 32 bits does not count (R590). -/
def State.winPermits (s : State) (a : Nat) : Bool :=
  s.otp.lc != 4 && ((mgmtRegOf a 4).isSome || (mgmtRegOf a 1).isSome) &&
    (s.part != .starting || (decide (0xF0000000 ≤ a) && decide (a < 0xF0004000)))

/-- Read a word at a device management address: one register, or four of one byte. -/
def State.winRead (s : State) (a : Nat) : Word × State :=
  if (mgmtRegOf a 4).isSome then s.mgmtRead a 0
  else
    let b := fun k => (s.mgmtRead (a + k) 0).1.toNat % 256
    (BitVec.ofNat 32 (b 0 + b 1 * 2 ^ 8 + b 2 * 2 ^ 16 + b 3 * 2 ^ 24), s)

/-- Write a word. -/
def State.winWrite (s : State) (a : Nat) (v : Word) : State :=
  if (mgmtRegOf a 4).isSome then s.mgmtWrite a v 0
  else (List.range 4).foldl (fun s k => s.mgmtWrite (a + k) (BitVec.ofNat 32 (v.fld (8 * k) 8)) 0) s

/-- Complete the outstanding access, when its domain is open: the result of a read, or none for a write. -/
def State.winRun (s : State) (x : WinAccess) : Option (Option Word × State) :=
  if !s.domOpen (regDomain x.addr) then none
  else
    let s1 : State := { s with winBusy := none }
    match x.data with
    | some v => some (none, s1.winWrite x.addr v)
    | none => some (some (s1.winRead x.addr).1, (s1.winRead x.addr).2)

/-- SILL_WINDOW_ACCESS: the outstanding access completes; a read's result is held (R593). -/
def execSillWindowAccess (s : State) : Host.Outcome State Fault Refusal :=
  match s.winBusy with
  | none => .next s
  | some x =>
    match s.winRun x with
    | none => .next (s.wake (regDomain x.addr))
    | some (some w, s1) => .next { s1 with winHeld := SMap.put s1.winHeld x.sillAddr w }
    | some (none, s1) => .next s1

/-- A window read; `done`: it completes by the end of TURN. The word, and the status. -/
def State.winReadFrame (s : State) (a : Nat) (done : Bool) : Word × Byte × State :=
  if s.winBusy.isSome then (0, stWait, s)
  else match SMap.at? s.winHeld a with
    | some w => (w, stOk, { s with winHeld := SMap.del s.winHeld a })
    | none =>
      let x : WinAccess := { sillAddr := a, addr := s.winAddr a, data := none }
      if !s.winPermits x.addr then (0, stErr, s)
      else if done then
        match s.winRun x with
        | some (some w, s1) => (w, stOk, s1)
        | _ => (0, stWait, ({ s with winBusy := some x } : State).wake (regDomain x.addr))
      else (0, stWait, { s with winBusy := some x })

/-- A window write; `done`: it completes by the time its status byte begins. -/
def State.winWriteFrame (s : State) (a : Nat) (v : Word) (done : Bool) : Byte × State :=
  if s.winBusy.isSome then (stWait, s)
  else
    let x : WinAccess := { sillAddr := a, addr := s.winAddr a, data := some v }
    let s1 := s.dropHeld
    if !s1.winPermits x.addr then (stErr, s1)
    else if done then
      match s1.winRun x with
      | some (_, s2) => (stOk, s2)
      | none => (stWait, ({ s1 with winBusy := some x } : State).wake (regDomain x.addr))
    else (stWait, { s1 with winBusy := some x })

/-! Frames (R589 to R591, R594, R595). -/

/-- Read word k of a frame that began at `a`: a burst stays within the sill block (R591). -/
def State.readWord (s : State) (a k : Nat) (done : Bool) : Word × Byte × State :=
  let w := a + 4 * k
  if a % 4 ≠ 0 then (0, stErr, s)
  else if w ≥ 0x8000 then (if k = 0 then s.winReadFrame w done else (0, stErr, s))
  else if sillHas w && s.sillOpen w then ((s.sillRead w).1, stOk, (s.sillRead w).2)
  else (0, stErr, s)

/-- A word with its status, and their CRC when it is enabled. -/
def State.framed (s : State) (w : Word) (st : Byte) : List Byte :=
  let l := Word.bytes w ++ [st]
  if s.sillCrc then l ++ [crc8 l] else l

/-- The words of a read frame. -/
def readWords (a : Nat) (done : Bool) : Nat → Nat → State → List Byte × State
  | 0, _, s => ([], s)
  | n + 1, k, s =>
    let r := s.readWord a k done
    let t := readWords a done n (k + 1) r.2.2
    (s.framed r.1 r.2.1 ++ t.1, t.2)

/-- SILL_READ: command 0x0B with ADDR and, when enabled, a CRC; `n` words are clocked out (R589, R591). The bytes of TURN are
undefined, and so is the word beside a status of CRC: free values (log 2). -/
def execSillRead (addr : BitVec 16) (crc : Byte) (n : Nat) (done : Bool) (s : State) : Host.Outcome State Fault Refusal :=
  if !s.sillUp then .next (s.sendMiso [])
  else if s.severed 106 then .next ((s.discards 106 n).sendMiso [])
  else
    let turn := freeBytes s.sillTurn s.free
    let s1 : State := { s with free := s.free + s.sillTurn }
    if s1.sillCrc && crc != crc8 ([0x0B#8] ++ leBytes 2 addr.toNat) then
      let w := Config.freeWord s1.free
      .next (({ s1 with free := s1.free + 1 } : State).crcErr.sendMiso (turn ++ s1.framed w stCrc))
    else
      let r := readWords addr.toNat done n 0 s1
      .next (r.2.sendMiso (turn ++ r.1))

/-- Write word k of a frame that began at `a`. -/
def State.writeWord (s : State) (a k : Nat) (v : Word) (crc : Byte) (done : Bool) : Byte × State :=
  let w := a + 4 * k
  if s.sillCrc && crc != crc8 ([0x02#8] ++ leBytes 2 a ++ Word.bytes v) then (stCrc, s.crcErr)
  else if a % 4 ≠ 0 then (stErr, s)
  else if w ≥ 0x8000 then (if k = 0 then s.winWriteFrame w v done else (stErr, s))
  else if sillHas w && s.sillOpen w then (stOk, s.sillWrite w v)
  else (stErr, s)

/-- The words of a write frame. -/
def writeWords (a : Nat) (done : Bool) : Nat → List (Word × Byte) → State → List Byte × State
  | _, [], s => ([], s)
  | k, x :: rest, s =>
    let r := s.writeWord a k x.1 x.2 done
    let t := writeWords a done (k + 1) rest r.2
    ((if s.sillCrc then [r.1, crc8 [r.1]] else [r.1]) ++ t.1, t.2)

/-- SILL_WRITE: command 0x02 with ADDR and the whole words that arrive, each with its CRC byte (R589, R593, R594). -/
def execSillWrite (addr : BitVec 16) (words : List (Word × Byte)) (done : Bool) (s : State) :
    Host.Outcome State Fault Refusal :=
  if !s.sillUp then .next (s.sendMiso [])
  else if s.severed 106 then .next ((s.discards 106 words.length).sendMiso [])
  else
    let r := writeWords addr.toNat done 0 words s
    .next (r.2.sendMiso r.1)

/-- SILL_STATUS: command 0x05. -/
def execSillStatus (s : State) : Host.Outcome State Fault Refusal :=
  .next (s.sillEvent (fun s => s.sendMiso [if s.winBusy.isSome then stWait else stOk]) (s.sendMiso []))

/-- SILL_BAD_COMMAND: a command byte of no frame form (R589). -/
def execSillBadCommand (cmd : Byte) (s : State) : Host.Outcome State Fault Refusal :=
  .next (if cmd = 0x0B ∨ cmd = 0x02 ∨ cmd = 0x05 then s
    else s.sillEvent (fun s => s.sendMiso [stErr]) (s.sendMiso []))

/-- MB_STATUS_READ: a sill read of MB_STATUS[m] (R605). -/
def execMbStatusRead (m : BitVec 5) (s : State) : Host.Outcome State Fault Refusal :=
  if !s.sillTakes || s.severed 106 then .next s.sillDrop
  else
    let r := s.sillRead (0x1000 + 0x80 * m.toNat)
    .next { r.2 with rdata := r.1.setWidth 64 }

/-- TICK_LO_READ: a sill read of TICK_LO (R596). -/
def execTickLoRead (s : State) : Host.Outcome State Fault Refusal :=
  if !s.sillTakes || s.severed 106 then .next s.sillDrop
  else
    let r := s.sillRead 0x18
    .next { r.2 with rdata := r.1.setWidth 64 }

end Sys2Proof.Machine
end

