-- ==== Sys2Proof/Machine/LoadStore.lean ====
section
/-!
DEFINITION. Loads and stores, the store buffer and the window accesses (R148 to R170, R243, R244, R391, R401, R402).
-/
namespace Sys2Proof.Machine

open Sys2Proof (Instr)

/-! The checks (R161 to R166, R287, R401). -/

/-- The regions of R161 that an address may lie in. -/
inductive Place where
  | sram
  | inbox
  | ctl
  | buf
  | dram
  | dev
  | none
  deriving DecidableEq, Repr

/-- The region of an address. -/
def placeOf (a : Nat) : Place :=
  if a < 0xE000 then .sram
  else if a < 0xF000 then .inbox
  else if 0x10000 ≤ a ∧ a < 0x11000 then .ctl
  else if 0x10000000 ≤ a ∧ a < 0x10200000 then .buf
  else if 0x40000000 ≤ a ∧ a < 0x80000000 then .dram
  else if 0xF0000000 ≤ a then .dev
  else .none

/-- The DRAM offset of a window address (R401). -/
def Pane.dramOff (q : Pane) (a : Nat) : Nat := (q.cr 0x30).fld 0 7 * 67108864 + (a - 0x40000000)

/-- The trap and cause for an access of n bytes to local SRAM: the first byte that is not permitted decides. R166 gives cause 1 to
a region with no permitted access, and none to a read where the ring may only write: cause 1 there too (DESIGN CHOICE, log 133). -/
def Pane.sramFault (q : Pane) (a n : Nat) (wr : Bool) : Option (Nat × Nat) :=
  if a + n > 0xE000 then some (2, 0)
  else
    ((List.range n).find? (fun i => if wr then !q.canWrite q.ring (a + i) else !q.canRead q.ring (a + i))).map
      (fun i => (3, if wr && q.canRead q.ring (a + i) then 2 else 1))

/-- The trap and cause for an access to a control region: the register's own width at its own address, then the rings
that have the region, and an address with no register (R161, R165, R166). -/
def regFault (whole touched allowed : Bool) : Option (Nat × Nat) :=
  if whole then (if allowed then none else some (3, 1))
  else if touched then some (2, 0)
  else some (3, if allowed then 0 else 1)

/-- The trap and cause of a load or store of n bytes at a, in the order of R287: alignment, then permission. -/
def State.accessFault (s : State) (q : Pane) (a n : Nat) (wr : Bool) : Option (Nat × Nat) :=
  match placeOf a with
  | .sram => q.sramFault a n wr
  | .inbox => if a % n ≠ 0 then some (2, 0) else if wr then some (3, 2) else none
  | .ctl =>
    regFault (paneRegOf true (a - 0x10000) n).isSome
      ((List.range n).any (fun i => (paneRegOf false (a - 0x10000 + i) 1).isSome)) (decide (q.ring ≤ 1))
  | .dev =>
    if (apertureOf a).isSome then some (3, if q.ring = 0 then 0 else 1)
    else regFault (devRegOf true a n).isSome ((List.range n).any (fun i => (devRegOf false (a + i) 1).isSome))
      (decide (q.ring = 0))
  | .buf => if a % n ≠ 0 then some (2, 0) else if wr && q.ring == 3 then some (3, 2) else none
  | .dram =>
    if a % n ≠ 0 then some (2, 0)
    else if q.dramOff a ≥ s.bulkSize .dram then some (3, 0)
    else if wr && q.ring == 3 then some (3, 2) else none
  | .none => some (3, 0)

/-- The trap of a load or store (R286): EADDR is its address, and WR marks a store. -/
def Pane.accessTrap (q : Pane) (f : Nat × Nat) (a : Word) (wr : Bool) : Trap := { q.mkTrap f.1 f.2 a with wr := wr }

/-! Windows (R391, R401). -/

/-- The bulk memory and the offset that a window address of pane p reaches. -/
def Pane.window (q : Pane) (p a : Nat) : Bulk × Nat :=
  if a < 0x40000000 then (.buf (bayOf p), a - 0x10000000) else (.dram, q.dramOff a)

/-- The bulk memory of a window address already resolved. -/
def bulkAt (p a : Nat) : Bulk := if a < 0x40000000 then .buf (bayOf p) else .dram

/-- The domain behind a bulk memory (R556). -/
def Bulk.domain : Bulk → Nat
  | .buf b => 64 + b
  | .dram => 98

/-- Two window accesses share a byte. -/
def winShare (x xn o y yn o' : Nat) : Bool :=
  (decide (x < 0x40000000) == decide (y < 0x40000000)) && decide (o < o' + yn) && decide (o' < o + xn)

/-! The store buffer as a load sees it (R154). -/

/-- The buffer, youngest first, as a misaligned load of n bytes at a sees it: a split store of the same address and size
forwards both its parts, and any other overlap waits. -/
def splitLook (a n : Nat) : List SbEntry → SbHit
  | [] => .memory
  | e :: rest =>
    if e.addr < a + n ∧ a < e.addr + e.size then
      match rest with
      | f :: _ =>
        if f.split ∧ e.split ∧ f.addr = a ∧ e.addr = a + f.size ∧ f.size + e.size = n then
          .forward (f.data + e.data * 2 ^ (8 * f.size))
        else .wait
      | [] => .wait
    else splitLook a n rest

/-- What a load of n bytes at a finds in the store buffer. -/
def Pane.lookup (q : Pane) (a n : Nat) : SbHit := if a % n = 0 then q.sbLook a n else splitLook a n q.sb.reverse

/-! Loads. -/

/-- The value a load of n bytes gives its first register. -/
def extendTo (n : Nat) (sgn : Bool) (v : Nat) : Word :=
  match n, sgn with
  | 1, true => sextTo32 (BitVec.ofNat 8 v)
  | 1, false => BitVec.ofNat 32 (v % 256)
  | 2, true => sextTo32 (BitVec.ofNat 16 v)
  | 2, false => BitVec.ofNat 32 (v % 65536)
  | _, _ => BitVec.ofNat 32 v

/-- The registers after a load: the base updated, then the destination or the pair written (R213, R243). -/
def Pane.loaded (q : Pane) (rt ra : RegNo) (m : Bool) (off : BitVec 10) (n : Nat) (sgn : Bool) (v : Nat) : Pane :=
  let q1 := { (q.postMod ra m off).setGr rt (extendTo n sgn v) with loadWaits := false }
  if n = 8 then q1.setGr (rt + 1) (BitVec.ofNat 32 (v / 2 ^ 32)) else q1

/-- A load that waits on a partial overlap is counted once (R154). -/
def Pane.waitOn (q : Pane) : Pane := if q.loadWaits then q else { q.bump 0x54 16 1 with loadWaits := true }

/-- A load from local SRAM or the front inbox (R154, R168, R169). -/
def loadLocal (p : Nat) (a n : Nat) (done : Pane → Nat → Pane) (s : State) (q : Pane) : Effect :=
  match q.lookup a n with
  | .wait => .stay (s.setPane p q.waitOn)
  | .forward v => .done (s.setPane p (done q v))
  | .memory =>
    match q.firstUe a n with
    | some w => .trap (s.foundUe p w false) (q.mkTrap 4 1 (BitVec.ofNat 32 w))
    | none => .done ((s.correctRead p a n).modPane p (fun q => done q (q.peek a n)))

/-- Ask for the wake of a domain that is not open (R568). -/
def State.rouse (s : State) (d : Nat) : State := if s.domOpen d then s else s.wake d

/-- The number of outstanding window reads. -/
def Pane.outstanding (q : Pane) : Nat := (q.wreads.filter (fun r => r.status == .waiting)).length

/-- A load from a window (R148, R149, R154): a window read, when fewer than three are outstanding. -/
def loadWindow (p a n : Nat) (rt ra : RegNo) (m : Bool) (off : BitVec 10) (sgn : Bool) (s : State) (q : Pane) : Effect :=
  match q.lookup a n with
  | .wait => .stay (s.setPane p q.waitOn)
  | .forward v => .done (s.setPane p (q.loaded rt ra m off n sgn v))
  | .memory =>
    if q.outstanding ≥ 3 then .stay s
    else
      let w := q.window p a
      let rt2 := if n = 8 then some (rt + 1) else none
      let old := (q.wreads.map (WRead.detach rt)).map (fun x => match rt2 with
        | some r => x.detach r
        | none => x)
      let new : WRead := { addr := a, size := n, dest := if rt = 0 then none else some rt, dest2 := rt2, signed := sgn,
                           status := .waiting, df := false, off := w.2 }
      .done ((s.setPane p { (q.postMod ra m off) with wreads := old ++ [new], loadWaits := false }).rouse w.1.domain)

/-- A load from the pane control region (R155). -/
def loadCtl (p a : Nat) (done : Pane → Nat → Pane) (s : State) (q : Pane) : Effect :=
  if !q.drained then .stay s
  else
    let r := s.paneRead p (a - 0x10000) 0
    .done (r.2.modPane p (fun q => done q r.1.toNat))

/-- A load from the device management region (R155); RXDATA is its one register of 64 bits (R329). -/
def loadDev (p a n : Nat) (done : Pane → Nat → Pane) (s : State) (q : Pane) : Effect :=
  if !q.drained then .stay s
  else if !s.domOpen (regDomain a) then .stay (s.wake (regDomain a))
  else if n = 8 then
    let r := s.readRx ((a - Config.sip 0) / 0x400 * 8 + (a % 0x400 - 0x110) / 0x40)
    .done (r.2.modPane p (fun q => done q r.1.toNat))
  else
    let r := s.devRead a 0
    .done (r.2.modPane p (fun q => done q r.1.toNat))

/-- A load of n bytes (R243, R244). -/
def loadBody (p : Nat) (n : Nat) (sgn : Bool) (rt ra : RegNo) (m : Bool) (off : BitVec 10) (s : State) (q : Pane) : Effect :=
  let ea := q.ea ra m off
  let a := ea.toNat
  let done := fun (q : Pane) v => q.loaded rt ra m off n sgn v
  match s.accessFault q a n false with
  | some f => .trap s (q.accessTrap f ea false)
  | none =>
    match placeOf a with
    | .sram => loadLocal p a n done s q
    | .inbox => loadLocal p a n done s q
    | .ctl => loadCtl p a done s q
    | .dev => loadDev p a n done s q
    | _ => loadWindow p a n rt ra m off sgn s q

/-- A load instruction. -/
def loadOp (i : Instr) (p : PaneNo) (gd : BitVec 4) (n : Nat) (sgn : Bool) (rt ra : RegNo) (m : Bool) (off : BitVec 10)
    (s : State) : Host.Outcome State Fault Refusal :=
  .next (s.issue i p gd anyRing [ra] (loadBody p.toNat n sgn rt ra m off))

/-- LB (R243). -/
def execLb (p : PaneNo) (gd : BitVec 4) (rt ra : RegNo) (m : Bool) (off : BitVec 10) (s : State) :
    Host.Outcome State Fault Refusal := loadOp (.lb p gd rt ra m off) p gd 1 true rt ra m off s
/-- LBU (R243). -/
def execLbu (p : PaneNo) (gd : BitVec 4) (rt ra : RegNo) (m : Bool) (off : BitVec 10) (s : State) :
    Host.Outcome State Fault Refusal := loadOp (.lbu p gd rt ra m off) p gd 1 false rt ra m off s
/-- LH (R243). -/
def execLh (p : PaneNo) (gd : BitVec 4) (rt ra : RegNo) (m : Bool) (off : BitVec 10) (s : State) :
    Host.Outcome State Fault Refusal := loadOp (.lh p gd rt ra m off) p gd 2 true rt ra m off s
/-- LHU (R243). -/
def execLhu (p : PaneNo) (gd : BitVec 4) (rt ra : RegNo) (m : Bool) (off : BitVec 10) (s : State) :
    Host.Outcome State Fault Refusal := loadOp (.lhu p gd rt ra m off) p gd 2 false rt ra m off s
/-- LW (R243). -/
def execLw (p : PaneNo) (gd : BitVec 4) (rt ra : RegNo) (m : Bool) (off : BitVec 10) (s : State) :
    Host.Outcome State Fault Refusal := loadOp (.lw p gd rt ra m off) p gd 4 false rt ra m off s
/-- LWP (R243). -/
def execLwp (p : PaneNo) (gd : BitVec 4) (rt ra : RegNo) (m : Bool) (off : BitVec 10) (s : State) :
    Host.Outcome State Fault Refusal := loadOp (.lwp p gd rt ra m off) p gd 8 false rt ra m off s

/-! Stores. -/

/-- The parts a store enters the buffer as (R152, R153): one, or two that meet at the multiple of its size. Where no two aligned
parts of 1, 2, 4 or 8 bytes cover it (a word at offset 1), R152 and R153 cannot both hold, and a part of 3, 5, 6 or 7 bytes
stands (DESIGN CHOICE, log 132). -/
def sbParts (a n v : Nat) : List SbEntry :=
  if a % n = 0 then [{ addr := a, size := n, data := v, split := false }]
  else
    let k := n - a % n
    [{ addr := a, size := k, data := v % 2 ^ (8 * k), split := true },
     { addr := a + k, size := n - k, data := v / 2 ^ (8 * k), split := true }]

/-- The store's bytes overlap the fetch window, the next two instructions in fetch order (R159). -/
def Pane.snooped (q : Pane) (a n : Nat) : Bool :=
  let w1 := q.retire.pc.toNat
  let w2 := q.retire.retire.pc.toNat
  (decide (a < w1 + 4) && decide (w1 < a + n)) || (decide (a < w2 + 4) && decide (w2 < a + n))

/-- A store into the buffer; one that finds too few free entries waits (R148, R153, R159). -/
def storeBuffered (p a n v : Nat) (ra : RegNo) (m : Bool) (off : BitVec 10) (s : State) (q : Pane) : Effect :=
  let parts := sbParts a n v
  if q.sb.length + parts.length > 4 then .stay s
  else
    let q1 := if q.snooped a n then q.bump 0x50 16 1 else q
    .done (s.setPane p { (q1.postMod ra m off) with sb := q1.sb ++ parts })

/-- A store to the pane control region or to device management (R155). One to KH_GO or ST_GO waits until every store before it has reached its
memory (R484, R514). -/
def storeReg (p a v : Nat) (ra : RegNo) (m : Bool) (off : BitVec 10) (s : State) (q : Pane) : Effect :=
  if !q.drained then .stay s
  else if (a = 0x1088C ∨ a = 0x108CC) ∧ !q.settled then .stay s
  else if placeOf a = .ctl then
    .done ((s.paneWrite p (a - 0x10000) (BitVec.ofNat 32 v) 0).modPane p (fun q => q.postMod ra m off))
  else if !s.domOpen (regDomain a) then .stay (s.wake (regDomain a))
  else .done ((s.devWrite a (BitVec.ofNat 32 v) 0).modPane p (fun q => q.postMod ra m off))

/-- The bytes a store of n bytes takes from its registers (R243). -/
def Pane.storeData (q : Pane) (rt : RegNo) (n : Nat) : Nat :=
  if n = 8 then (q.gr rt).toNat + (q.gr (rt + 1)).toNat * 2 ^ 32 else (q.gr rt).toNat % 2 ^ (8 * n)

/-- A store of n bytes (R157, R243). -/
def storeBody (p : Nat) (n : Nat) (rt ra : RegNo) (m : Bool) (off : BitVec 10) (s : State) (q : Pane) : Effect :=
  let ea := q.ea ra m off
  let a := ea.toNat
  match s.accessFault q a n true with
  | some f => .trap s (q.accessTrap f ea true)
  | none =>
    if placeOf a = .ctl ∨ placeOf a = .dev then storeReg p a (q.storeData rt n) ra m off s q
    else storeBuffered p a n (q.storeData rt n) ra m off s q

/-- A store instruction; SWP reads two registers. -/
def storeOp (i : Instr) (p : PaneNo) (gd : BitVec 4) (n : Nat) (rt ra : RegNo) (m : Bool) (off : BitVec 10) (s : State) :
    Host.Outcome State Fault Refusal :=
  .next (s.issue i p gd anyRing (if n = 8 then [ra, rt, rt + 1] else [ra, rt]) (storeBody p.toNat n rt ra m off))

/-- SB (R243). -/
def execSb (p : PaneNo) (gd : BitVec 4) (rt ra : RegNo) (m : Bool) (off : BitVec 10) (s : State) :
    Host.Outcome State Fault Refusal := storeOp (.sb p gd rt ra m off) p gd 1 rt ra m off s
/-- SH (R243). -/
def execSh (p : PaneNo) (gd : BitVec 4) (rt ra : RegNo) (m : Bool) (off : BitVec 10) (s : State) :
    Host.Outcome State Fault Refusal := storeOp (.sh p gd rt ra m off) p gd 2 rt ra m off s
/-- SW (R243). -/
def execSw (p : PaneNo) (gd : BitVec 4) (rt ra : RegNo) (m : Bool) (off : BitVec 10) (s : State) :
    Host.Outcome State Fault Refusal := storeOp (.sw p gd rt ra m off) p gd 4 rt ra m off s
/-- SWP (R243). -/
def execSwp (p : PaneNo) (gd : BitVec 4) (rt ra : RegNo) (m : Bool) (off : BitVec 10) (s : State) :
    Host.Outcome State Fault Refusal := storeOp (.swp p gd rt ra m off) p gd 8 rt ra m off s

/-! Drains and window answers. -/

/-- A word the drain of [a, a + n) touched is noted for a takeover (R135). -/
def State.drained (s : State) (p a n : Nat) : State := (wordsOf a n).foldl (fun s w => s.logTakeover p w) s

/-- The oldest buffered store drains: into SRAM, or out to its window; a window store does not pass an outstanding window
read of the same bytes (R152, R154, R170). -/
def State.drainOldest (s : State) (p : Nat) : State :=
  let q := s.pane p
  match q.sb with
  | [] => s
  | e :: rest =>
    if placeOf e.addr = .sram then
      (((s.mergeReads p (q.merges e.addr e.size)).modPane p
        (fun q => { q.drainPart e.addr e.size e.data with sb := rest })).drained p e.addr e.size)
    else
      let w := q.window p e.addr
      if q.wreads.any (fun r => r.status == .waiting && winShare r.addr r.size r.off e.addr e.size w.2) then s
      else
        (s.setPane p { q with
          sb := rest,
          wstores := q.wstores ++ [{ addr := e.addr, size := e.size, data := e.data, df := e.df, tag := q.tag,
                                     off := w.2 }] }).rouse w.1.domain

/-- STORE_DRAIN of pane p at time t (R152). -/
def execStoreDrain (p : PaneNo) (t : Nat) (s : State) : Host.Outcome State Fault Refusal :=
  let s1 := s.at t
  .next (if s1.paneUp p.toNat then (s1.drainOldest p.toNat).poll p.toNat else s1)

/-- Write the destinations of a window read. -/
def Pane.deliver (q : Pane) (r : WRead) (v : Nat) : Pane :=
  let q1 := match r.dest with
    | some d => q.setGr d (extendTo r.size r.signed v)
    | none => q
  match r.dest2 with
  | some d => q1.setGr d (BitVec.ofNat 32 (v / 2 ^ 32))
  | none => q1

/-- Replace window read number k. -/
def Pane.setWread (q : Pane) (k : Nat) (r : WRead) : Pane := { q with wreads := q.wreads.set k r }

/-- A window read is answered (R149, R150, R391, R402): an uncorrectable word or a refusal marks it, and the trap comes at
the points of R150. It does not pass a window store of the same bytes that left before it. -/
def State.returnRead (s : State) (p k : Nat) : State :=
  let q := s.pane p
  match q.wreads[k]? with
  | none => s
  | some r =>
    let b := bulkAt p r.addr
    if r.status != .waiting || q.wstores.any (fun w => winShare r.addr r.size r.off w.addr w.size w.off) then s
    else if !s.domOpen b.domain then s.wake b.domain
    else if b == .dram && s.dramRefuses then
      let s1 := if s.severed 98 then s.discards 98 1 else s
      s1.modPane p (fun q => q.setWread k { r with status := .refused })
    else
      match s.bulkRead b r.off r.size with
      | (none, s1) => s1.modPane p (fun q => q.setWread k { r with status := .uncorrectable })
      | (some v, s1) => s1.modPane p (fun q => { q with wreads := q.wreads.eraseIdx k }.deliver r v)

/-- WINDOW_READ_RETURN: window read k of pane p is answered at time t. -/
def execWindowReadReturn (p : PaneNo) (k t : Nat) (s : State) : Host.Outcome State Fault Refusal :=
  .next (((s.at t).returnRead p.toNat k).poll p.toNat)

/-- The oldest window store sent is accepted or refused (R151, R391, R402, R404). -/
def State.answerStore (s : State) (p : Nat) : State :=
  let q := s.pane p
  match q.wstores with
  | [] => s
  | w :: rest =>
    let b := bulkAt p w.addr
    if !s.domOpen b.domain then s.wake b.domain
    else
      let q1 := { q with wstores := rest }
      let refused := s.setPane p { q1 with wrefused := q.wrefused ++ [{ addr := w.addr, df := w.df }] }
      match b with
      | .dram =>
        if s.dramRefuses then (if s.severed 98 then refused.discards 98 1 else refused)
        else (s.setPane p q1).bulkWrite b w.off w.size w.data
      | .buf bay =>
        if s.ringForeign bay p w.off w.size then refused.bump (Config.bay bay + 0x2C) 16 1
        else ((s.setPane p q1).bulkWrite b w.off w.size w.data).mvSubmit bay w.off w.size w.tag

/-- WINDOW_STORE_RESULT: the oldest window store sent by pane p is answered at time t. -/
def execWindowStoreResult (p : PaneNo) (t : Nat) (s : State) : Host.Outcome State Fault Refusal :=
  .next (((s.at t).answerStore p.toNat).poll p.toNat)

end Sys2Proof.Machine
end

