-- ==== Sys2Proof/Machine/Block.lean ====
section
/-!
DEFINITION. The block instructions (R201, R251 to R260).
-/
namespace Sys2Proof.Machine

open Sys2Proof (Instr)

/-- What a block instruction does, with its operands read (R251): the count, the elements or bytes of a full step, the
alignment of its addresses, the byte ranges the steps from RC = i on touch (address, length, read, written), the ranges
step i of m elements reads, in their order, and what it writes to registers and memory. -/
structure BlockOp where
  n : Nat
  per : Nat
  aligned : List (Nat × Nat)
  touches : Nat → List (Nat × Nat × Bool × Bool)
  reads : Nat → Nat → List (Nat × Nat)
  work : Nat → Nat → Pane → Pane
  writes : Nat → Nat → List (Nat × Nat)

/-- The permission of a byte for a block instruction (R252): the cause, and whether a write failed. -/
def Pane.blockByte (q : Pane) (a : Nat) (rd wr : Bool) : Option (Nat × Bool) :=
  let canR := decide (a < 0xF000) && q.canRead q.ring a
  if rd && !canR then some (1, false)
  else if wr && !(decide (a < 0xF000) && q.canWrite q.ring a) then some (if canR then 2 else 1, true)
  else none

/-- The byte `k` past a base: addresses wrap (R220). -/
def blockAt (base k : Nat) : Nat := (base + k) % 2 ^ 32

/-- The first of the `n` bytes from `a` up that fails; past the front inbox every byte does, up to the wrap. -/
def Pane.blockRange (q : Pane) (a n : Nat) (rd wr : Bool) : Option (Nat × Nat × Bool) :=
  ((List.range (min n 61441)).find? (fun i => (q.blockByte (blockAt a i) rd wr).isSome)).bind
    (fun i => (q.blockByte (blockAt a i) rd wr).map (fun c => (blockAt a i, c.1, c.2)))

/-- The checks of R252, for the steps from RC on. -/
def Pane.blockFault (q : Pane) (b : BlockOp) : Option Trap :=
  match b.aligned.find? (fun x => x.1 % x.2 != 0) with
  | some x => some (q.mkTrap 2 3 (BitVec.ofNat 32 x.1))
  | none =>
    ((b.touches q.rc).findSome? (fun x => q.blockRange x.1 x.2.1 x.2.2.1 x.2.2.2)).map
      (fun f => { q.mkTrap 3 f.2.1 (BitVec.ofNat 32 f.1) with wr := f.2.2 })

/-- Run up to k steps from RC on (R255, R257): the instruction is interrupted after them, unless it has completed. -/
def blockRun (p : Nat) (b : BlockOp) : Nat → State → Effect
  | 0, s =>
    let q := s.pane p
    if q.rc ≥ b.n then .done (s.setPane p (q.setRc 0)) else .stay s
  | k + 1, s =>
    let q := s.pane p
    let i := q.rc
    if i ≥ b.n then .done (s.setPane p (q.setRc 0))
    else
      let m := min b.per (b.n - i)
      match (b.reads i m).findSome? (fun r => q.firstUe r.1 r.2) with
      | some w => .trap (s.foundUe p w false) (q.mkTrap 4 1 (BitVec.ofNat 32 w))
      | none =>
        let s0 := (b.reads i m).foldl (fun s r => s.correctRead p r.1 r.2) s
        let s1 := s0.mergeReads p ((b.writes i m).flatMap (fun r => (q.merges r.1 r.2).filter
          (fun w => !(b.reads i m).any (fun x => (wordsOf x.1 x.2).contains w))))
        let s2 := s1.modPane p (fun q => (b.work i m q).setRc (i + m))
        blockRun p b k ((b.writes i m).foldl (fun s r => s.drained p r.1 r.2) s2)

/-- A block instruction: nothing is left when RC ≥ n (R256); the checks, the wait of R253, and the steps. -/
def blockBody (p : Nat) (op : Pane → BlockOp) (k : Nat) (s : State) (q : Pane) : Effect :=
  let b := op q
  if q.rc ≥ b.n then .done (s.setPane p (q.setRc 0))
  else match q.blockFault b with
    | some t => .trap s t
    | none => if !q.drained then .stay s else blockRun p b k s

/-- A block instruction, interrupted after k steps if it has not completed. -/
def blockOp (i : Instr) (p : PaneNo) (gd : BitVec 4) (srcs : List RegNo) (op : Pane → BlockOp) (k : Nat) (s : State) :
    Host.Outcome State Fault Refusal :=
  .next (s.issue i p gd anyRing srcs (blockBody p.toNat op k))

/-! The vector forms. -/

/-- A vector operation on x at g[RA] and y in RB, of elements of `e` bytes; `y` is written when `wr` (R251). -/
def vecOp (q : Pane) (ra rb : RegNo) (e per : Nat) (wr : Bool) (work : Nat → Nat → Nat → Nat → Pane → Pane) : BlockOp :=
  let x := (q.gr ra).toNat
  let y := (q.gr rb).fld 0 16
  let n := (q.gr rb).fld 16 16
  { n := n, per := per, aligned := [(x, e), (y, e)],
    touches := fun i => [(blockAt x (e * i), e * (n - i), true, false), (blockAt y (e * i), e * (n - i), true, wr)],
    reads := fun i m => (List.range m).flatMap (fun j => [(blockAt x (e * (i + j)), e), (blockAt y (e * (i + j)), e)]),
    work := work x y,
    writes := fun i m => if wr then [(blockAt y (e * i), e * m)] else [] }

/-- A signed halfword of pane memory. -/
def Pane.half (q : Pane) (a : Nat) : Int := (BitVec.ofNat 16 (q.peek a 2)).toInt

/-- VDOT.H: one step (R188, R258). -/
def vdotH (acc x y i m : Nat) (q : Pane) : Pane :=
  let sum := (List.range m).foldl (fun t j => t + q.half (blockAt x (2 * (i + j))) * q.half (blockAt y (2 * (i + j)))) (q.acc acc).toInt
  (q.setAcc acc (accWrap sum).1).stick 2 (accWrap sum).2

/-- VDOT.F: one element (R258). -/
def vdotF (rd : RegNo) (x y i _m : Nat) (q : Pane) : Pane :=
  let r := fFma (q.peekW (blockAt x (4 * i))) (q.peekW (blockAt y (4 * i))) (q.gr rd)
  (q.setGr rd r.bits).stickF r

/-- VMAC.H: one element (R258). -/
def vmacH1 (rd : RegNo) (x y i : Nat) (q : Pane) : Pane :=
  let t := (loH (q.gr rd) * q.half (blockAt x (2 * i)) + 16384) / 32768
  let r := q.half (blockAt y (2 * i)) + t
  let c := max (-32768) (min 32767 r)
  (q.drainPart (blockAt y (2 * i)) 2 (BitVec.ofInt 16 c).toNat).stick 0 (decide (c ≠ r))

/-- VMAC.H: one step, in increasing i. -/
def vmacH (rd : RegNo) (x y i m : Nat) (q : Pane) : Pane :=
  (List.range m).foldl (fun q j => vmacH1 rd x y (i + j) q) q

/-- VMAC.F: one element (R258). -/
def vmacF (rd : RegNo) (x y i _m : Nat) (q : Pane) : Pane :=
  let r := fFma (q.gr rd) (q.peekW (blockAt x (4 * i))) (q.peekW (blockAt y (4 * i)))
  (q.drainPart (blockAt y (4 * i)) 4 r.bits.toNat).stickF r

/-- VDOT.H accRD, RA, RB. -/
def execVdotH (p : PaneNo) (gd : BitVec 4) (acc ra rb : RegNo) (k : Nat) (s : State) : Host.Outcome State Fault Refusal :=
  blockOp (.vdotH p gd acc ra rb k) p gd [ra, rb] (fun q => vecOp q ra rb 2 2 false (vdotH acc.toNat)) k s
/-- VDOT.F RD, RA, RB. -/
def execVdotF (p : PaneNo) (gd : BitVec 4) (rd ra rb : RegNo) (k : Nat) (s : State) : Host.Outcome State Fault Refusal :=
  blockOp (.vdotF p gd rd ra rb k) p gd [rd, ra, rb] (fun q => vecOp q ra rb 4 1 false (vdotF rd)) k s
/-- VMAC.H RD, RA, RB. -/
def execVmacH (p : PaneNo) (gd : BitVec 4) (rd ra rb : RegNo) (k : Nat) (s : State) : Host.Outcome State Fault Refusal :=
  blockOp (.vmacH p gd rd ra rb k) p gd [rd, ra, rb] (fun q => vecOp q ra rb 2 2 true (vmacH rd)) k s
/-- VMAC.F RD, RA, RB. -/
def execVmacF (p : PaneNo) (gd : BitVec 4) (rd ra rb : RegNo) (k : Nat) (s : State) : Host.Outcome State Fault Refusal :=
  blockOp (.vmacF p gd rd ra rb k) p gd [rd, ra, rb] (fun q => vecOp q ra rb 4 1 true (vmacF rd)) k s

/-! The byte forms. -/

/-- BMOV copies downward (R259); the end of the source wraps (R220). -/
def bmovDown (src dst n : Nat) : Bool := decide (src < dst) && decide (dst < blockAt src n)

/-- The first byte of step i of m bytes, relative to the range. -/
def bmovAt (src dst n i m : Nat) : Nat := if bmovDown src dst n then n - i - m else i

/-- BMOV (R259). -/
def bmov (q : Pane) (rd ra rb : RegNo) : BlockOp :=
  let src := (q.gr ra).toNat
  let dst := (q.gr rd).toNat
  let n := (q.gr rb).toNat
  let at0 := fun i m => bmovAt src dst n i m
  { n := n, per := 8, aligned := [],
    touches := fun i => [(blockAt src (at0 i (n - i)), n - i, true, false), (blockAt dst (at0 i (n - i)), n - i, false, true)],
    reads := fun i m => [(blockAt src (at0 i m), m)],
    work := fun i m q => q.drainPart (blockAt dst (at0 i m)) m (q.peek (blockAt src (at0 i m)) m),
    writes := fun i m => [(blockAt dst (at0 i m), m)] }

/-- The bytes of a fill: each byte of the pattern by its address (R258). -/
def fillBytes (pat : Word) (a m : Nat) : Nat :=
  leNat ((List.range m).map (fun j => BitVec.ofNat 8 (pat.fld (8 * ((a + j) % 4)) 8)))

/-- BFILL. -/
def bfill (q : Pane) (rd ra rb : RegNo) : BlockOp :=
  let dst := (q.gr rd).toNat
  let pat := q.gr ra
  let n := (q.gr rb).toNat
  { n := n, per := 8, aligned := [],
    touches := fun i => [(blockAt dst i, n - i, false, true)],
    reads := fun _ _ => [],
    work := fun i m q => q.drainPart (blockAt dst i) m (fillBytes pat (blockAt dst i) m),
    writes := fun i m => [(blockAt dst i, m)] }

/-- BCRC (R260). -/
def bcrc (q : Pane) (rd ra rb : RegNo) : BlockOp :=
  let src := (q.gr ra).toNat
  let n := (q.gr rb).toNat
  { n := n, per := 4, aligned := [],
    touches := fun i => [(blockAt src i, n - i, true, false)],
    reads := fun i m => [(blockAt src i, m)],
    work := fun i m q => q.setGr rd (crc32cReg (q.gr rd) (q.bytes (blockAt src i) m)),
    writes := fun _ _ => [] }

/-- BMOV RD, RA, RB. -/
def execBmov (p : PaneNo) (gd : BitVec 4) (rd ra rb : RegNo) (k : Nat) (s : State) : Host.Outcome State Fault Refusal :=
  blockOp (.bmov p gd rd ra rb k) p gd [rd, ra, rb] (fun q => bmov q rd ra rb) k s
/-- BFILL RD, RA, RB. -/
def execBfill (p : PaneNo) (gd : BitVec 4) (rd ra rb : RegNo) (k : Nat) (s : State) : Host.Outcome State Fault Refusal :=
  blockOp (.bfill p gd rd ra rb k) p gd [rd, ra, rb] (fun q => bfill q rd ra rb) k s
/-- BCRC RD, RA, RB. -/
def execBcrc (p : PaneNo) (gd : BitVec 4) (rd ra rb : RegNo) (k : Nat) (s : State) : Host.Outcome State Fault Refusal :=
  blockOp (.bcrc p gd rd ra rb k) p gd [rd, ra, rb] (fun q => bcrc q rd ra rb) k s

end Sys2Proof.Machine
end

