-- ==== Sys2Proof/Machine/Resets.lean ====
section
/-!
DEFINITION. Resets, supplies and GPIO inputs (R71, R294, R577, R623 to R629, R650 to R654).
-/
namespace Sys2Proof.Machine

/-! Resets of the part (R623 to R625). -/

/-- A medium keeps what is written to it. -/
def LogStore.kept (x : LogStore) : LogStore := { LogStore.reset with port0 := x.port0, port1 := x.port1 }

/-- A pin's level stays; both inputs count as asserted (R365). -/
def Interlock.kept (x : Interlock) : Interlock := { high := x.high, since := 0, asserted := true }

/-- What no reset of the part changes (R625): OTP, NOR, eMMC and DRAM contents, the levels of the pins, the commands
waiting, and the model's own counter of free values. -/
def State.keepAcross (s : State) : State :=
  { State.reset with
    otp := { s.otp with lc := s.otp.fused }, nor := s.nor, norRec := s.norRec, norSize := s.norSize,
    logs := s.logs.kept, dram := s.dram, dramEcc := s.dramEcc, gpio := s.gpio,
    bolt := { Bolt.reset with abortIn := s.bolt.abortIn.kept, door := s.bolt.door.kept },
    lostSupplies := s.lostSupplies, refLost := s.refLost, free := s.free, pending := s.pending }

/-- The cause a reset records: the lowest code when sources act together, that is, while reset is held (R623). -/
def State.causeWith (s : State) (code : Nat) : Nat := if s.inReset then min ((s.rd Config.cross).fld 0 4) code else code

/-- A power-on reset, code 0: AON and the TAP are reset too. -/
def State.powerOn (s : State) : State := s.keepAcross

/-- A reset by code 1 to 3: AON, the TAP and the counters of R577 and R640 stay. A reset that joins one still held is not
counted again. -/
def State.resetBy (s : State) (code : Nat) : State :=
  let s1 : State := { s.keepAcross with aon := s.aon, tap := s.tap }
  let n := satAdd 16 (s.rd (Config.cross + 4)).toNat (if s.inReset then 0 else 1)
  ((s1.wr Config.cross (BitVec.ofNat 32 (s.causeWith code))).wr (Config.cross + 4) (BitVec.ofNat 32 n)).wr
    (Config.pwr + 0x20) (s.rd (Config.pwr + 0x20))

/-- POWER_ON_RESET. -/
def execPowerOnReset (s : State) : Host.Outcome State Fault Refusal := .next s.powerOn

/-- RESET_PIN: a pulse below 100 ns never resets the part, one of 1 us always does, and one between may (R624). -/
def execResetPin (ns : Nat) (takes stillLow : Bool) (s : State) : Host.Outcome State Fault Refusal :=
  if ns ≥ 1000 || (decide (ns ≥ 100) && takes) then .next { s.resetBy 1 with resetLow := stillLow }
  else .next s

/-- AON_BROWNOUT: the draw exceeds the limit of the regulator's mode (R576, R577). -/
def execAonBrownout (draw : Nat) (s : State) : Host.Outcome State Fault Refusal :=
  let limit := if (s.rd (Config.pwr + 0xC)).bit 0 then 25000 else 150000
  if draw > limit then .next ((s.resetBy 2).bump (Config.pwr + 0x20) 16 1) else .next s

/-- CORE_BROWNOUT: VDD_CORE below 0.89 V for 2 us or longer (R623). -/
def execCoreBrownout (ns : Nat) (s : State) : Host.Outcome State Fault Refusal :=
  if ns ≥ 2000 then .next (s.resetBy 3) else .next s

/-! Resets of domains (R627). -/

/-- Register blocks of the manager domain (R556). -/
def managerBlocks : List (Nat × Nat) :=
  [(0xF0000000, 0x1000), (Config.start, 0x1000), (Config.transom, 0x1000), (Config.logstore, 0x1000), (Config.knock, 0x1000),
   (Config.board, 0x100), (Config.pwr, 0x1000), (Config.fault, 0x1000), (Config.selftest, 0x1000), (Config.cross, 0x1000)]

/-- A pane whose sash is reset keeps the contents of its memory, and its event queue and priority stack, which are bell state that
only a part reset or a wake from shut resets (R316). -/
def Pane.keepMemory (q old : Pane) : Pane :=
  { q with sram := old.sram, ecc := old.ecc, rewrite := old.rewrite, ctl := SMap.keep (fun a => !sashReg a || decide (0xF00 ≤ a)) old.ctl,
           evWr := old.evWr, evUnclaimed := old.evUnclaimed, evUsed := old.evUsed, evDone := old.evDone, evSeq := old.evSeq,
           evStack := old.evStack }

/-- The reset of domain d: its registers take their reset values, those whose reset is the image the image's, and its
units start afresh; memories keep their contents, and messages at its routers are lost. A keyhole takes the requests that wait for it
up afresh (log 139). Of a sash the bell stays as it is
(R316). -/
def State.resetDomain (s : State) (d : Nat) : State :=
  if d < 64 then
    (List.range 16).foldl (fun s n => s.modPane (paneOfSash d n) (fun q => q.afterShut.keepMemory q)) s
  else if d < 72 then
    let b := d - 64
    let s1 : State := { s with movers := SMap.keep (fun k => k / 4 != b) s.movers,
                               keyholes := SMap.mapVal (fun k (l : List KhReq) => if k = b then l.map (fun r => { r with begun := none })
                                 else l) s.keyholes,
                               streamF := SMap.keep (fun k => k / 256 != b) s.streamF }
    ((((s1.resetRegs (Config.bay b) (Config.bay b + 0x1000)).resetRegs (Config.dist b) (Config.dist b + 0x1000)).loadBay
      b).loadDist b).khBegin b
  else if d < 92 then s.reload d
  else if d < 98 then
    let k := d - 92
    ((if s.linkState k = 3 then s.linkLost k else s).reload d)
  else if d = 98 then s.resetRegs Config.dram (Config.dram + 0x1000)
  else if d = 106 then
    let s1 := managerBlocks.foldl (fun s b => s.resetRegs b.1 (b.1 + b.2)) s
    { s1 with gen := State.reset.gen }
  else if d = 107 then
    ({ (s.resetRegs Config.bolt (Config.bolt + 0x4000)) with
       bolt := { Bolt.reset with abortIn := { s.bolt.abortIn.kept with since := s.now },
                                 door := { s.bolt.door.kept with since := s.now } } } : State).loadBolt
  else s

/-- The epoch bits of the crossings of domain d toggle at its side: the sender of what comes in, the receiver of what
goes out (R634, R635). -/
def State.toggleEpochs (s : State) (d : Nat) : State :=
  ((List.range 109).filter (fun c => crossDomain c == d)).foldl (fun s c =>
    let a := Config.cross + 0x100 + 4 * c
    s.wr a (s.rd a ^^^ (if 64 ≤ c ∧ c < 80 ∨ c = 88 ∨ c = 89 then 4#32 else 8#32))) s

/-- A domain is reset alone, and held in reset while its rail is low. -/
def State.railReset (s : State) (d : Nat) : State :=
  let s1 := ((s.levelsFall d).resetDomain d).toggleEpochs d
  { s1 with railLow := if s1.railLow.contains d then s1.railLow else s1.railLow ++ [d] }

/-- DOMAIN_RAIL_RESET: the rail supervisor of an open domain resets it (R627). The AON domain's is the detector of
VDD_AON, which resets the part (R623). -/
def execDomainRailReset (domain : BitVec 7) (t : Nat) (s : State) : Host.Outcome State Fault Refusal :=
  let d := domain.toNat
  if !domainExists d then .fault .noSuchUnit
  else if d = 108 then .next s.powerOn
  else if s.inReset || !s.domOpen d then .next s
  else .next ((s.at t).railReset d)

/-! Supplies (R629, R654). -/

/-- An Ethernet port or a wicket link loses its link. -/
def State.serdesDown (s : State) : State :=
  let s1 := [0, 1].foldl (fun s q =>
    if (s.rd (Config.net q + 0x24)).bit 0 then
      ((s.wrFld (Config.net q + 0x24) 0 1 0).chooseTimePort).portEvent q 2
    else s) s
  (List.range 6).foldl (fun s k => if s.linkState k = 3 then s.linkLost k else s) s1

/-- Crossings a to b - 1. -/
def crossings (a b : Nat) : List Nat := (List.range (b - a)).map (· + a)

/-- Note a supply as lost. -/
def State.noteLost (s : State) (n : Nat) : State :=
  { s with lostSupplies := if s.lostSupplies.contains n then s.lostSupplies else s.lostSupplies ++ [n] }

/-- Domains are reset with a lost supply, and their crossings sever. -/
def State.loseDomains (s : State) (ds cs : List Nat) : State := (ds.foldl State.railReset s).sever cs

/-- SUPPLY_LOSS, row by row of R654, while the part runs; in OFF after an orderly shutdown every supply but VDD_AON may go (R653). -/
def execSupplyLoss (supply : BitVec 4) (t : Nat) (s : State) : Host.Outcome State Fault Refusal :=
  let n := supply.toNat
  let s1 := (s.at t).noteLost n
  if n > 11 then .fault .noSuchUnit
  else if n = 0 then .next s1.powerOn
  else if s.inReset || s.part == .off then .next s1
  else if n = 1 then .next (s1.resetBy 3)
  else if n = 2 then .next ({ s1 with refLost := true }.serdesDown)
  else if n ≤ 4 then .next (s1.serdesDown.loseDomains (crossings 90 98) (crossings 90 98))
  else if n = 5 then
    .next (({ s1 with bolt := { s1.bolt with kill := true } } : State).sever [99, 100, 101, 106, 107, 108])
  else if n = 6 then .next (s1.loseDomains (crossings 80 90) (crossings 0 90))
  else if n ≤ 10 then .next (s1.loseDomains [102 + (n - 7)] [102 + (n - 7)])
  else .next s1

/-- The domains that supply n held in reset. -/
def supplyDomains (n : Nat) : List Nat :=
  if n = 3 ∨ n = 4 then crossings 90 98 else if n = 6 then crossings 80 90 else if 7 ≤ n ∧ n ≤ 10 then [102 + (n - 7)] else []

/-- A supply still lost holds domain d in reset. -/
def State.heldBySupply (s : State) (d : Nat) : Bool := s.lostSupplies.any (fun n => (supplyDomains n).contains d)

/-- SUPPLY_RETURN: a rail is back within range, and the domain resets it held are released (R627, R654). A domain also
held by a supply that is still lost stays in reset. -/
def execSupplyReturn (rail : Rail) (t : Nat) (s : State) : Host.Outcome State Fault Refusal :=
  let s1 := s.at t
  match rail with
  | .domain d =>
    if !domainExists d then .fault .noSuchUnit
    else .next { s1 with railLow := if s1.heldBySupply d then s1.railLow else s1.railLow.filter (fun x => x != d) }
  | .supply n =>
    if n > 11 then .fault .noSuchUnit
    else
      let s2 : State := { s1 with lostSupplies := s1.lostSupplies.filter (fun x => x != n),
                                  refLost := if n = 2 then false else s1.refLost }
      .next { s2 with railLow := s2.railLow.filter (fun d => !(supplyDomains n).contains d || s2.heldBySupply d) }

/-- REFERENCE_FAILURE: the PLL runs free within 2 %, and sampling goes on (R629). -/
def execReferenceFailure (t : Nat) (s : State) : Host.Outcome State Fault Refusal :=
  .next { s.at t with refLost := true }

/-! GPIO inputs (R71, R294, R520, R557, R636). -/

/-- The bank of line l is sampled: its domain is open and out of reset, and its crossing is not severed. -/
def State.bankSampled (s : State) (l : Nat) : Bool :=
  let d := 102 + l / 12
  s.part.boltUp && s.domOpen d && !s.railLow.contains d && !s.severed d

/-- The levels as sampled at the close of a boundary (R71); a bank that is not sampled keeps its last ones. -/
def State.sampleGpio (s : State) : State :=
  { s with gpioIn := (List.range 48).foldl (fun v l =>
      if s.bankSampled l then
        (if s.gpio.getLsbD l then v ||| (1#48 <<< l) else v &&& ~~~(1#48 <<< l))
      else v) s.gpioIn }

/-- The bells whose source 48 + k selects this edge of line l: LINE, and EDGE 0 rising, 1 falling, 2 both. -/
def State.edgeBells (s : State) (l k : Nat) (level : Bool) : BitVec 64 :=
  (List.range 64).foldl (fun m b =>
    let w := s.rd (Config.bell b + 0xC0 + k)
    if s.srcEn b (48 + k) && w.fld 0 6 == l && (w.fld 6 2 == 2 || (w.fld 6 2 == 0 && level) || (w.fld 6 2 == 1 && !level))
    then m ||| oneBell b else m) 0

/-- GPIO_EDGE: line l is at a new level at time t. -/
def execGpioEdge (line : BitVec 6) (level : Bool) (t : Nat) (s : State) : Host.Outcome State Fault Refusal :=
  let l := line.toNat
  let s1 := s.at t
  if l ≥ 48 then .fault .noSuchUnit
  else if s1.gpio.getLsbD l = level then .next s1
  else
    let bit := 1#48 <<< l
    let s2 : State := { s1 with gpio := if level then s1.gpio ||| bit else s1.gpio &&& ~~~bit }
    if s2.severed (102 + l / 12) then .next (s2.discards (102 + l / 12) 1)
    else if !s2.bankSampled l then .next s2
    else
      let s3 : State := { s2 with gpioHigh := if level then SMap.put s2.gpioHigh l s2.now else SMap.del s2.gpioHigh l }
      .next ((List.range 8).foldl (fun s k =>
        let m := s.edgeBells l k level
        if m = 0 then s else s.edge m (48 + k) level.toNat) s3)

end Sys2Proof.Machine
end

