-- ==== Sys2Proof/Machine/Commit.lean ====
section
/-!
DEFINITION. The commit of a boundary: which copies are qualified, the channels, the mailboxes and the distribution
streams (R59 to R68, R71, R76 to R79, R335, R379, R526, R602 to R604).
-/
namespace Sys2Proof.Machine

/-! What a boundary fixes (R52 to R54, R56). -/

/-- A boundary: its root close, the tick number it starts, and the count its dividers go by. -/
structure Bnd where
  close : Nat
  n : Nat
  div : Nat
  deriving DecidableEq, Repr

/-- The coming boundary; once its steps run, the running one. -/
def State.bnd (s : State) : Bnd :=
  { close := s.gen.nextNs, n := s.nextTick, div := if s.ticking then s.nextTick else s.readyBnd }

/-- It is a boundary of class k (R52, R54). -/
def State.due (s : State) (b : Bnd) (k : Nat) : Bool := b.div % s.mult k == 0

/-! Done states and qualification (R77, R79, R411, R545 to R547, R582). -/

/-- A pane of this part has not overrun at the boundary: its WAITT has retired, and no mover descriptor of its task is late.
A pane with no task does not overrun. -/
def State.inTime (s : State) (b : Bnd) (p : Nat) : Bool :=
  let q := s.pane p
  !q.hasTask || (decide (q.tag ≥ b.n) && !q.mvLate)

/-- The panes of part `part` that this part knows as senders to it, rising: the index of their DONE bits (R545). -/
def State.sendersOf (s : State) (part : Nat) : List Nat :=
  let chans := (SMap.keys s.panes).flatMap (fun p =>
    let q := s.pane p
    (List.range 64).flatMap (fun c =>
      if q.inValid c && q.inOrigin c == 0 then
        [q.inSrc c] ++ (if q.inTwinSrc c = refNone then [] else [q.inTwinSrc c]) ++ (if q.inThird c then [q.inThirdSrc c] else [])
      else []))
  let slots := s.validSlots.flatMap (fun d => (List.range (s.slotCopies d)).map (s.slotSrc d))
  (((chans ++ slots).filter (fun r => r / 1024 == part)).map (· % 1024)).foldr insertNum [] |>.eraseDups

/-- The DONE bit of a sender on another part (R545, R547). A sender on a part that the board does not have never overruns. -/
def State.remoteDone (s : State) (src : Nat) : Bool :=
  let part := src / 1024
  if part ≥ s.parts then true
  else match SMap.at? s.tokens part, (s.sendersOf part).idxOf? (src % 1024) with
    | some t, some j => t.done.getLsbD j
    | _, _ => false

/-- A sender has not overrun, and its pane is not retired (R76, R131). -/
def State.srcDone (s : State) (b : Bnd) (src : Nat) : Bool :=
  if src / 1024 = s.partNo then s.inTime b (src % 1024) && !(s.pane (src % 1024)).retired else s.remoteDone src

/-- A sender is qualified for a boundary of class k: also, its latch reported no uncorrectable error and no halt in the tick
of that class (R77, R79). -/
def State.qualified (s : State) (b : Bnd) (k src : Nat) : Bool :=
  s.srcDone b src && (src / 1024 != s.partNo || !(s.pane (src % 1024)).faulty.getLsbD k)

/-! One channel (R66, R67, R76, R77, R79). -/

/-- The contents of a copy's back half: the slots, 0 at or beyond its count, and the count (R67, R79). -/
def BackHalf.contents (h : BackHalf) (size : Nat) : List Word :=
  (List.range size).map (fun i => if i < h.count then SMap.get (fun _ => 0#32) h.words i else 0#32)
    ++ [BitVec.ofNat 32 h.count]

/-- What a commit delivers. -/
structure Committed where
  /-- The slots and the count; none for HOLD. -/
  words : Option (List Word)
  twin : Bool
  poison : Bool
  dissent : Bool
  /-- The out-voted copy. -/
  suspect : Option Nat
  deriving DecidableEq, Repr

/-- The previous contents stay (R76). -/
def Committed.hold : Committed := { words := none, twin := false, poison := false, dissent := false, suspect := none }

/-- The value that at least two of three share, else the first (R79). -/
def majority (a b c : Word) : Word := if b = c then b else a

/-- The three values of each slot all differ in at least one slot. -/
def allDiffer : List Word → List Word → List Word → Bool
  | a :: x, b :: y, c :: z => (a != b && b != c && a != c) || allDiffer x y z
  | _, _, _ => false

/-- Copy `i` of three is out-voted in some slot. -/
def outVoted (i : Nat) : List Word → List Word → List Word → Bool
  | a :: x, b :: y, c :: z =>
    (if i = 0 then b == c && a != b else if i = 1 then a == c && b != a else a == b && c != a) || outVoted i x y z
  | _, _, _ => false

/-- Slot by slot majority. -/
def majorities : List Word → List Word → List Word → List Word
  | a :: x, b :: y, c :: z => majority a b c :: majorities x y z
  | _, _, _ => []

/-- The vote over three qualified copies (R79, first four rows). The count is voted like a slot and every slot keeps its own
voted value, also one at or beyond the voted count: R67, by which such slots read 0, and R79 do not meet there (DESIGN CHOICE,
log 120). -/
def voteThree (a b c : List Word) : List Word × Bool × Option Nat :=
  let out := majorities a b c
  let losers := (List.range 3).filter (fun i => outVoted i a b c)
  (out, allDiffer a b c || !losers.isEmpty, if allDiffer a b c then none else match losers with
    | [i] => some i
    | _ => none)

/-- TWIN under R79 (R67): some slot took a value that the primary did not post. Each list is the slots and then the count, which
is no slot. -/
def tookOther (out prim : List Word) : Bool := out.dropLast != prim.dropLast

/-- The commit of a triplex sender's copies (R79); each is its contents and its poison, or none when it is not qualified. `prim` is
what the primary posted, qualified or not. -/
def voteCopies (prim : List Word) (l : List (Option (List Word × Bool))) : Committed :=
  let q := ((List.range 3).filterMap (fun i => (l.getD i none).map (fun x => (i, x))))
  match q with
  | [] => .hold
  | [(_, x)] => { words := some x.1, twin := tookOther x.1 prim, poison := x.2, dissent := false, suspect := none }
  | [(_, x), (_, y)] =>
    { words := some x.1, twin := tookOther x.1 prim, poison := x.2, dissent := x.1 != y.1, suspect := none }
  | (_, x) :: (_, y) :: (_, z) :: _ =>
    let v := voteThree x.1 y.1 z.1
    let from' := fun (i : Nat) => v.2.2 != some i
    { words := some v.1, twin := tookOther v.1 prim, dissent := v.2.1, suspect := v.2.2,
      poison := (from' 0 && x.2) || (from' 1 && y.2 && x.1 != v.1) || (from' 2 && z.2 && x.1 != v.1 && y.1 != v.1) }

/-- The commit of a channel fed by panes. -/
def State.judgeChannel (s : State) (b : Bnd) (q : Pane) (c : Nat) : Committed :=
  let x := q.chanOf c
  let k := q.inClass c
  let size := q.inSize c
  let one := fun (twin : Bool) (h : BackHalf) =>
    ({ words := some (h.contents size), twin := twin, poison := h.poison, dissent := false, suspect := none } : Committed)
  if q.inThird c then
    let copy := fun (src : Nat) (h : BackHalf) =>
      if s.qualified b k src then some (h.contents size, h.poison) else none
    voteCopies (x.back.contents size) [copy (q.inSrc c) x.back, copy (q.inTwinSrc c) x.backTwin, copy (q.inThirdSrc c) x.backThird]
  else if q.inShadow c then
    if s.qualified b k (q.inSrc c) then one false x.back
    else if s.srcDone b (q.inTwinSrc c) then one true x.backTwin
    else .hold
  else if s.srcDone b (q.inSrc c) then one false x.back
  else .hold

/-- What the lintel's channels carry: GPIO levels, or MARK's count and tick (R71, R526). The message enters at router 00.00 and is lost
where no way leads round a dead router (R126, R130). -/
def State.feedWords (s : State) (p c : Nat) : List Word :=
  if !s.arrives 0 p (lintelKey p c) then []
  else match s.fv 4 0x19 p c with
  | 1 => [s.gpioIn.setWidth 32, (s.gpioIn >>> 32).setWidth 32]
  | 2 => [s.rd (Config.knock + 0x84), BitVec.ofNat 32 s.net.markTick, BitVec.ofNat 32 (s.net.markTick / 2 ^ 32)]
  | _ => []

/-- Words written by a latch: fresh check bits. -/
def Pane.latchWords (q : Pane) (a : Nat) : List Word → Pane
  | [] => q
  | w :: r => Pane.latchWords ((q.pokeW a w).setEcc a .clean) (a + 4) r

/-- The address of a channel's status word (R100). -/
def Pane.chanAddr (q : Pane) (c : Nat) : Nat := 0xE000 + 4 * (q.inRegion c).fld 0 10

/-- HELD_RUN after one more commit with HELD = 1. -/
def heldRun (st : Word) : Nat := if st.bit 16 then satAdd 4 (st.fld 20 4) 1 else 1

/-- The status word of held contents (R67, R119): the fields that describe the contents stay. -/
def heldStatus (st : Word) : Word := ((st.withBit 16 true).withFld 20 4 (heldRun st))

/-- The front of channel c after a commit (R67, R100, R101). -/
def Pane.commitFront (q : Pane) (c : Nat) (r : Committed) : Pane :=
  let a := q.chanAddr c
  let late := (q.chanOf c).late
  match r.words with
  | none => (q.latchWords a [(heldStatus (q.peekW a)).withBit 19 late])
  | some l =>
    let size := q.inSize c
    let st := BitVec.ofNat 32 ((l.getD size 0#32).toNat % 65536 + r.twin.toNat * 2 ^ 17 + r.poison.toNat * 2 ^ 18
      + late.toNat * 2 ^ 19 + r.dissent.toNat * 2 ^ 24)
    q.latchWords a (st :: l.take size)

/-- The words of a lintel channel as contents. -/
def feedContents (l : List Word) (size : Nat) : List Word :=
  let l1 := l.take size
  l1 ++ List.replicate (size - l1.length) 0#32 ++ [BitVec.ofNat 32 l1.length]

/-- Channel c of pane p commits (R66): the front, and a report of an out-voted copy (R79, R584). -/
def State.commitChannel (s : State) (b : Bnd) (p c : Nat) : State :=
  let q := s.pane p
  let r := match q.inOrigin c with
    | 0 => s.judgeChannel b q c
    | 1 =>
      let h := (q.chanOf c).back
      { words := some (h.contents (q.inSize c)), twin := false, poison := h.poison, dissent := false, suspect := none }
    | _ => { words := some (feedContents (s.feedWords p c) (q.inSize c)), twin := false, poison := false, dissent := false,
             suspect := none }
  let s1 := s.setPane p (q.commitFront c r)
  match r.suspect with
  | none => s1
  | some i =>
    let src := if i = 0 then q.inSrc c else if i = 1 then q.inTwinSrc c else q.inThirdSrc c
    s1.report (s.suspectOf src (0x10000 + s.partNo * 1024 + p))

/-- What is due for class k commits: not at the first boundary of the class after a cancelled shutdown, which only releases
its tasks (R620). -/
def State.classCommits (s : State) (commits : Bool) (k : Nat) : Bool := commits && !s.shut.release.contains k

/-- The front of a channel at that boundary: the contents before SHUTTING-DOWN, held (R620). -/
def Pane.holdFront (q : Pane) (c : Nat) : Pane :=
  let a := q.chanAddr c
  q.latchWords a [((q.peekW a).withBit 16 true).withFld 20 4 1]

/-- A channel's boundary, which is one of its IN_CLASS (R60): an image whose IN_CLASS is faster than the class of the sender or of
the receiver passes R462, and the spec gives no outcome for it, so the model goes by IN_CLASS alone (DESIGN CHOICE, log 121). It
commits, unless nothing commits (R617, R620), and empty back halves for its next tick. -/
def State.channelStep (s : State) (b : Bnd) (commits : Bool) (p c : Nat) : State :=
  let q := s.pane p
  let k := q.inClass c
  if !q.inValid c || !s.due b k then s
  else
    let s1 := if s.classCommits commits k then s.commitChannel b p c
      else if s.shut.release.contains k then s.modPane p (fun q => q.holdFront c) else s
    s1.modPane p (fun q => q.setChan c ChanState.empty)

/-- Every channel due at the boundary. -/
def State.channels (s : State) (b : Bnd) (commits : Bool) : State :=
  (SMap.keys s.panes).foldl (fun s p =>
    ((List.range 64).filter (s.pane p).inValid).foldl (fun s c => s.channelStep b commits p c) s) s

/-! Distribution streams (R335, R379). -/

/-- A stream's class tick ends: SHORT when it took fewer frames than FRAMES. -/
def State.streamStep (s : State) (b : Bnd) (commits : Bool) (bay n : Nat) : State :=
  let a := s.streamA bay n
  let c := s.streamB bay n
  if !a.bit 31 || !s.due b (c.fld 16 2) then s
  else
    let f := SMap.get (fun _ => 0) s.streamF (bay * 256 + n)
    let s1 : State := { s with streamF := SMap.del s.streamF (bay * 256 + n) }
    if s.classCommits commits (c.fld 16 2) && decide (f < c.fld 5 10) then s1.bump (Config.dist bay + 8) 16 1 else s1

/-- Every stream due at the boundary. -/
def State.streams (s : State) (b : Bnd) (commits : Bool) : State :=
  (List.range 8).foldl (fun s bay => (List.range 256).foldl (fun s n => s.streamStep b commits bay n) s) s

/-- A bay whose engine has not taken a whole frame that this close counted (R337, R379). -/
def State.bayMissed (s : State) (bay : Nat) : Bool :=
  !s.bayFaulted bay && s.domOpen (64 + bay) && (List.range 64).any (fun l =>
    s.laneMode l == 1 && !(s.streamsOf bay l).isEmpty
      && decide ((s.lane l).takenBy bay < (wholeFrames [] (s.lane l).fifo).length))

/-- The transom marks the bay faulted, and the lintel records it (R379, R584). -/
def State.markBay (s : State) (bay : Nat) : State :=
  (List.range 64).foldl (fun s l => if s.laneMode l = 1 then s.releaseTaken l else s)
    ((s.setBits (Config.bolt + 0x50) (1#32 <<< bay)).reportLintel (.bayFaulted bay))

/-- The marks of a boundary. -/
def State.markBays (s : State) : State :=
  (List.range 8).foldl (fun s bay => if s.bayMissed bay then s.markBay bay else s) s

/-! Mailboxes (R602 to R604). -/

/-- The publication of pane p for mailbox m and the tick that the boundary ends: tagged with the pane's last class tick. -/
def State.pubFor (s : State) (b : Bnd) (m p : Nat) : Option Pub :=
  let q := s.pane p
  q.pubs.find? (fun x => x.mailbox == m && decide (x.tag < b.n) && decide (x.tag + s.mult q.cls ≥ b.n))

/-- The copies of a task that are qualified at its class's boundary. -/
def State.goodCopies (s : State) (b : Bnd) (prim : Nat) : List Nat :=
  (s.copies prim).filter (fun p => s.qualified b (s.pane prim).cls (s.partNo * 1024 + p))

/-- The primaries that publish to mailbox m at this boundary, rising. -/
def State.publishers (s : State) (b : Bnd) (m : Nat) : List Nat :=
  ((((SMap.keys s.panes).filter (fun p => (s.pane p).pubs.any (fun x => x.mailbox == m))).map s.primaryOf).foldr insertNum
    []).eraseDups.filter (fun prim => s.due b (s.pane prim).cls && s.classCommits true (s.pane prim).cls &&
      (s.goodCopies b prim).any (fun p => (s.pubFor b m p).isSome))

/-- Replace it. -/
def State.setMb (s : State) (m : Nat) (x : Mailbox) : State := { s with mbs := SMap.put s.mbs m x }

/-- The owner's class boundary (R604). -/
def State.mailboxJudge (s : State) (b : Bnd) (m prim : Nat) : State :=
  let x := s.mb m
  let good := s.goodCopies b prim
  match good.find? (fun p => (s.pubFor b m p).isSome) with
  | some p =>
    match s.pubFor b m p with
    | some u =>
      (s.setMb m { x with owner := some prim, ready := true, held := false, twin := p != prim, seq := (x.seq + 1) % 2 ^ 32,
                          tick := u.tag, words := u.words }).modPane p (fun q => q.setCr 0x944 2)
    | none => s
  | none => s.setMb m { x with held := good.isEmpty }

/-- Mailbox m at a boundary: an unowned one goes to the lowest publishing task; then the owner's tick is judged (R603). -/
def State.mailboxStep (s : State) (b : Bnd) (m : Nat) : State :=
  match (s.mb m).owner with
  | some prim => if s.due b (s.pane prim).cls && s.classCommits true (s.pane prim).cls then s.mailboxJudge b m prim else s
  | none =>
    match s.publishers b m with
    | prim :: _ => s.mailboxJudge b m prim
    | [] => s

/-- The publications of pane p that this boundary has judged are gone; one for a mailbox that another task owns sets
MB_RESULT to 3 (R602, R603). -/
def State.spendPubs (s : State) (b : Bnd) (p : Nat) : State :=
  let q := s.pane p
  if !s.due b q.cls then s
  else
    let foreign := q.pubs.any (fun x => decide (x.tag < b.n) && match (s.mb x.mailbox).owner with
      | some o => o != s.primaryOf p
      | none => false)
    let q1 : Pane := { q with pubs := q.pubs.filter (fun x => !decide (x.tag < b.n)) }
    s.setPane p (if foreign then q1.setCr 0x944 3 else q1)

/-- The mailboxes at a boundary. -/
def State.mailboxes (s : State) (b : Bnd) (commits : Bool) : State :=
  let s1 := if commits then (List.range 32).foldl (fun s m => s.mailboxStep b m) s else s
  ((SMap.keys s1.panes).filter (fun p => !(s1.pane p).pubs.isEmpty)).foldl (fun s p => s.spendPubs b p) s1

end Sys2Proof.Machine
end

