-- ==== Sys2Proof/Machine/Reduce.lean ====
section
/-!
DEFINITION. Reductions: leaves, the balanced tree, the agreement tokens, and the results (R105, R111 to R119, R545 to R547).
-/
namespace Sys2Proof.Machine

/-! Nodes (R113 to R115). -/

/-- The identity of an operation (R113). -/
def redIdentity (op : Nat) : Word :=
  match op with
  | 1 => 0x80000000#32
  | 2 => 0x80000000#32
  | 3 => 0x7FFFFFFF#32
  | 4 => 0xFF800000#32
  | 5 => 0x7F800000#32
  | _ => 0#32

/-- The value of a node or a leaf, with V and NV so far. -/
structure Node where
  word : Word
  v : Bool
  nv : Bool
  deriving DecidableEq, Repr

/-- A leaf. -/
def Node.leaf (w : Word) : Node := { word := w, v := false, nv := false }

/-- A binary32 node: a NaN input or an invalid sum gives the canonical NaN with NV; an overflow sets V (R115). -/
def floatNode (f : Word → Word → FRes) (a b : Word) : Node :=
  if isNaN a || isNaN b then { word := canonNaN, v := false, nv := true }
  else
    let r := f a b
    { word := r.bits, v := r.ovf, nv := r.nv }

/-- op(a, b) of R113. -/
def redOp (op : Nat) (a b : Word) : Node :=
  match op with
  | 0 => { word := a + b, v := decide ((a + b).toInt ≠ a.toInt + b.toInt), nv := false }
  | 1 => floatNode fAdd a b
  | 2 => .leaf (if a.toInt ≥ b.toInt then a else b)
  | 3 => .leaf (if a.toInt ≤ b.toInt then a else b)
  | 4 => floatNode (fun a b => FRes.ok (if fKey a ≥ fKey b then a else b)) a b
  | 5 => floatNode (fun a b => FRes.ok (if fKey a ≤ fKey b then a else b)) a b
  | _ => .leaf (a ||| b)

/-- A node over two nodes. -/
def Node.join (op : Nat) (a b : Node) : Node :=
  let r := redOp op a.word b.word
  { r with v := a.v || b.v || r.v, nv := a.nv || b.nv || r.nv }

/-- The tree over 2^k leaves (R114). -/
def redTree (op : Nat) : Nat → List Node → Node
  | 0, l => l.headD (.leaf (redIdentity op))
  | k + 1, l => (redTree op k (l.take (2 ^ k))).join op (redTree op k (l.drop (2 ^ k)))

/-! One part's share (R111, R116, R117). -/

/-- A rank of this part at a boundary. -/
structure Leaf where
  held : Bool
  /-- The contribution taken, if any. -/
  word : Option Word
  twin : Bool
  suspect : Option Nat
  deriving DecidableEq, Repr

/-- The contribution of a copy at a rank (R116). -/
def State.redAt (s : State) (g r role : Nat) : Option Contribution := SMap.at? s.red (g * 256 + r * 4 + role)

/-- A copy's contribution as a channel of one slot (R116). -/
def State.redCopy (s : State) (b : Bnd) (k g r role p : Nat) : Option (List Word × Bool) :=
  if !s.qualified b k (s.partNo * 1024 + p) then none
  else match s.redAt g r role with
    | some c => some ([c.word, 1#32], c.poison)
    | none => some ([0#32, 0#32], false)

/-- The leaf of the rank whose primary is pane `p` (R116). TWIN: it took a contribution that is not the primary's (R119). -/
def State.redLeaf (s : State) (b : Bnd) (k g r p : Nat) : Leaf :=
  let shadow := ((s.pane p).cr 0x100).fld 0 2 == 1
  let one := fun (role : Nat) => ({ held := false, word := (s.redAt g r role).map (·.word),
                                    twin := role != 0 && (s.redAt g r role).isSome, suspect := none } : Leaf)
  let ok := fun (x : Nat) => s.qualified b k (s.partNo * 1024 + x)
  match s.twinPane p, s.thirdPane p, shadow with
  | some t, some u, true =>
    let prim := match s.redAt g r 0 with
      | some c => [c.word, 1#32]
      | none => [0#32, 0#32]
    let v := voteCopies prim [s.redCopy b k g r 0 p, s.redCopy b k g r 1 t, s.redCopy b k g r 2 u]
    match v.words with
    | none => { held := true, word := none, twin := false, suspect := none }
    | some l =>
      { held := false, word := if l.getD 1 0#32 = 0#32 then none else some (l.headD 0#32),
        twin := (!ok p || l != prim) && l.getD 1 0#32 != 0#32,
        suspect := v.suspect.map (fun i => if i = 0 then p else if i = 1 then t else u) }
  | some t, _, true => if ok p then one 0 else if ok t then one 1 else { held := true, word := none, twin := false, suspect := none }
  | _, _, _ => if ok p then one 0 else { held := true, word := none, twin := false, suspect := none }

/-- This part's share of a group. -/
structure Partial where
  node : Node
  held : Bool
  count : Nat
  twin : Bool
  poison : Bool
  missing : Bool
  suspects : List Nat
  deriving DecidableEq, Repr

/-- The ranks of group g on this part, with the primaries. -/
def State.ranks (s : State) (g : Nat) : List (Nat × Nat) :=
  (List.range 64).filterMap (fun r =>
    let c := s.contributor g r
    if c = 0xFFFF ∨ c / 1024 ≠ s.partNo then none else some (r, c % 1024))

/-- OP of group g. -/
def State.groupOp (s : State) (g : Nat) : Nat := (s.groupReg g).fld 0 3
/-- Group g combines across parts. -/
def State.groupCross (s : State) (g : Nat) : Bool := (s.groupReg g).bit 3

/-- The share of group g at a boundary of its class. -/
def State.redPartial (s : State) (b : Bnd) (g : Nat) : Partial :=
  let ls := (s.ranks g).map (fun x => (x.1, s.redLeaf b (s.groupClass g) g x.1 x.2))
  let leafAt := fun (r : Nat) => ((ls.find? (fun x => x.1 == r)).bind (fun x => x.2.word)).getD (redIdentity (s.groupOp g))
  { node := redTree (s.groupOp g) 6 ((List.range 64).map (fun r => Node.leaf (leafAt r))),
    held := s.redHeld.contains g || ls.any (fun x => x.2.held),
    count := (ls.filter (fun x => x.2.word.isSome)).length,
    twin := ls.any (fun x => x.2.twin),
    poison := s.red.any (fun e => e.1 / 256 == g && e.2.poison),
    missing := ls.any (fun x => !x.2.held && x.2.word.isNone),
    suspects := ls.filterMap (fun x => x.2.suspect) }

/-! Agreement tokens (R545 to R547). -/

/-- The board's cross-part groups, by their index in a token. -/
def State.crossGroups (s : State) : List Nat :=
  (List.range 16).filter (fun g => (s.groupReg g).bit 31 && s.groupCross g)

/-- The cross-part sending panes of this part, rising, twins and third copies included. -/
def State.crossSenders (s : State) : List Nat :=
  (SMap.keys s.panes).filter (fun p => (List.range 64).any (fun n =>
    let w := (s.pane p).cr (0x200 + 8 * n)
    w.bit 31 && w.fld 16 3 != s.partNo))

/-- A mask from a list of flags. -/
def maskOf (l : List Bool) : Nat := l.foldr (fun x a => x.toNat + 2 * a) 0

/-- This part's token for a boundary. Groups whose class has no boundary here send the identity. -/
def State.ownToken (s : State) (b : Bnd) : Token :=
  let ps := s.crossGroups.map (fun g => (g, if s.due b (s.groupClass g) then some (s.redPartial b g) else none))
  let bits := fun (f : Partial → Bool) => maskOf (ps.map (fun x => (x.2.map f).getD false))
  { tick := b.n % 16, readyFlags := s.readyFlags, event := s.eventField, held := bits (·.held), twin := bits (·.twin),
    poison := bits (·.poison), missing := bits (·.missing), v := bits (·.node.v), nv := bits (·.node.nv),
    done := BitVec.ofNat 64 (maskOf ((s.crossSenders.take 64).map (fun p => s.qualified b (s.pane p).cls (s.partNo * 1024 + p)))),
    partials := ps.map (fun x => (x.2.map (·.node.word)).getD 0#32),
    counts := ps.map (fun x => (x.2.map (·.count)).getD 0) }

/-- The token goes to every other part, and the event counts start afresh (R545, R549). -/
def State.sendTokens (s : State) (b : Bnd) : State :=
  if s.parts < 2 then s
  else
    let t := s.ownToken b
    let links := (List.range s.parts).filterMap (fun p => if p = s.partNo then none else s.exitLink p 0)
    { s with ctlOut := s.ctlOut ++ links.map (fun l => (l, .token t.flits)), tokenEvents := (0, 0, 0),
             readySeen := s.tokens.foldl (fun a x => a ||| x.2.readyFlags) t.readyFlags }

/-! Results (R117 to R119). -/

/-- The share of another part in group number `j` of the tokens: held when its token is late (R547); the identity from an
absent part (R546). -/
def State.farPartial (s : State) (op j q : Nat) : Partial :=
  let none' : Partial := { node := .leaf (redIdentity op), held := false, count := 0, twin := false, poison := false,
                           missing := false, suspects := [] }
  match SMap.at? s.tokens q with
  | some t =>
    { node := { word := t.partials.getD j (redIdentity op), v := t.v.testBit j, nv := t.nv.testBit j },
      held := t.held.testBit j, count := t.counts.getD j 0, twin := t.twin.testBit j, poison := t.poison.testBit j,
      missing := t.missing.testBit j, suspects := [] }
  | none => if s.lateNow.contains q then { none' with held := true } else none'

/-- The group's share over all parts (R112, R114, R546). -/
def State.redWhole (s : State) (b : Bnd) (g : Nat) : Partial :=
  let own := s.redPartial b g
  match (if s.groupCross g then s.crossGroups.idxOf? g else none) with
  | none => own
  | some j =>
    let all := (List.range 8).map (fun q => if q = s.partNo then own else s.farPartial (s.groupOp g) j q)
    { node := redTree (s.groupOp g) 3 (all.map (·.node)), held := all.any (·.held),
      count := all.foldl (fun a x => a + x.count) 0, twin := all.any (·.twin), poison := all.any (·.poison),
      missing := all.any (·.missing), suspects := own.suspects }

/-- The result and status that a boundary gives (R117, R119). -/
def redStatus (old : Word × Word) (x : Partial) : Word × Word :=
  if x.held then (old.1, heldStatus old.2)
  else (x.node.word, BitVec.ofNat 32 (x.count % 65536 + x.twin.toNat * 2 ^ 17 + x.poison.toNat * 2 ^ 18
    + x.missing.toNat * 2 ^ 19 + x.node.v.toNat * 2 ^ 24 + x.node.nv.toNat * 2 ^ 25))

/-- The latches of the subscribers write the result area (R105, R118). -/
def State.redDeliver (s : State) (g : Nat) (r : Word × Word) : State :=
  (SMap.keys s.panes).foldl (fun s p =>
    if ((s.pane p).cr 0x800).bit g then s.modPane p (fun q => q.latchWords (0xEF80 + 8 * g) [r.1, r.2]) else s) s

/-- A copy that a leaf vote makes suspect is reported by the root's latch (R116, R584). -/
def State.redSuspects (s : State) (g : Nat) (l : List Nat) : State :=
  l.foldl (fun s p => s.report (.suspect p (0x20000 + g))) s

/-- Group g at a boundary of its class; the root's slots are empty for its next tick. -/
def State.groupStep (s : State) (b : Bnd) (commits : Bool) (g : Nat) : State :=
  if !(s.groupReg g).bit 31 || !s.due b (s.groupClass g) then s
  else
    let s1 := if !s.classCommits commits (s.groupClass g) then s
      else
        let x := s.redWhole b g
        let r := redStatus (SMap.get (fun _ => (0#32, 0#32)) s.redRes g) x
        (({ s with redRes := SMap.put s.redRes g r } : State).redDeliver g r).redSuspects g x.suspects
    { s1 with red := SMap.keep (fun k => k / 256 != g) s1.red, redHeld := s1.redHeld.filter (· != g) }

/-- Every group due at the boundary. -/
def State.groups (s : State) (b : Bnd) (commits : Bool) : State :=
  (List.range 16).foldl (fun s g => s.groupStep b commits g) s

end Sys2Proof.Machine
end

