-- ==== Sys2Proof/Machine/Boundary.lean ====
section
/-!
DEFINITION. BOUNDARY: close, gather, decision, agreement, commit, drive check, state change and open (R35 to R41, R53, R54,
R56 to R88, R371, R376, R523, R545, R572, R573, R617, R620), and the knocks, which are decided there.
-/
namespace Sys2Proof.Machine

/-! Close and gather (R56). -/

/-- A frame that its port has not sent before the next close went out at its release point (R83, R350; log 25). -/
def State.releaseFrames (s : State) : State :=
  s.drvDue.foldl (fun s g => s.sendFrame g [] []) s

/-- The close: late tokens and late mover descriptors, the taps on the frames counted, and the GPIO levels (R71, R371, R411,
R547). -/
def State.closeStep (s : State) : State :=
  let s1 := (List.range s.parts).foldl (fun s q => s.lateToken q) s.releaseFrames
  let s2 := (List.range 32).foldl (fun s k => s.mvJudge (k / 4) (k % 4)) s1
  let s3 := s2.boltTaps
  { s3 with lanes := SMap.mapVal (fun _ (x : RxLane) => { x with frames := [] }) s3.lanes }.sampleGpio

/-- Reports whose latch has no live hinge come with its done state (R582). -/
def State.gatherReports (s : State) : State :=
  let direct := s.latchReps.filter (fun r => (s.reportVia r.rep).isNone)
  { s with latchReps := s.latchReps.filter (fun r => (s.reportVia r.rep).isSome),
           lintelReps := s.lintelReps ++ direct.map (fun r => { r with at' := s.now }) }

/-- The gather, and what the lintel does at this boundary: routes, retirements, links and crossings (R125, R131, R551,
R637). -/
def State.gatherStep (s : State) (b : Bnd) : State :=
  let s1 := ((s.gatherReports.installRoutes b.close).retirements b.close)
  ((List.range 6).foldl (fun s k => s.restoreLink b.close k) s1).rearmAll b.close

/-! Overruns and slack (R63, R75, R76, R80, R87). -/

/-- Overruns are counted, and channels, groups and mailboxes commit, while tasks run (R617, R620). -/
def PartState.commits (p : PartState) : Bool := p == .running || p == .holding || p == .aborted || p == .faulted

/-- The close of pane p at this boundary (R56). -/
def State.paneClose (s : State) (b : Bnd) (p : Nat) : Nat := b.close + Config.closeSkew p s.free

/-- The task of pane p is judged at this boundary. -/
def State.judgedAt (s : State) (b : Bnd) (p : Nat) : Bool :=
  let q := s.pane p
  q.hasTask && s.due b q.cls && !s.shut.release.contains q.cls

/-- Pane p overruns: in time it is not, or it is retired and no copy of its task is left (R75, R132). -/
def State.overruns (s : State) (b : Bnd) (p : Nat) : Bool :=
  let q := s.pane p
  s.judgedAt b p && (if q.retired then q.role == 0 && (s.copies p).all (fun x => (s.pane x).retired) else !s.inTime b p)

/-- The panes that overrun, rising. -/
def State.overrunList (s : State) (b : Bnd) : List Nat := (SMap.keys s.panes).filter (s.overruns b)

/-- An overrun with policy ABORT is a trip with cause 771 (R76, R364). -/
def State.abortPolicies (s : State) (l : List Nat) : State :=
  l.foldl (fun s p => if ((s.pane p).cr 0x100).fld 0 2 = 2 then s.latchTrip 771 0 else s) s

/-- The slack of a pane in time, or of one whose WAITT has not retired (R75); a pane that overruns gives up the
acknowledgements of the ticks that end (R63). -/
def State.slackStep (s : State) (b : Bnd) (p : Nat) : State :=
  let q := s.pane p
  if !s.judgedAt b p || q.retired then s
  else if q.tag ≥ b.n then s.setPane p (q.takeSlack (res2 (s.paneClose b p - q.retireT) : Nat)).keepSlack
  else
    s.setPane p { ((q.bump 0x10C 32 1).takeSlack (-2)).keepSlack with
      overClose := some (s.paneClose b p), unacked := q.unacked.filter (fun u => decide (u.tag ≥ b.n)) }

/-- One overrun in the registers and at its sash's bell (R85, R87, R294). -/
def State.overrunNote (s : State) (b : Bnd) (p : Nat) : State :=
  let s1 := s.modPane p (fun q =>
    let q1 := if q.retired then q.bump 0x10C 32 1 else q
    { q1 with lastOver := b.n })
  s1.paneEdge p 24

/-- The ledger of a boundary. -/
def State.ledgerStep (s : State) (b : Bnd) (overran : List Nat) : State :=
  let s1 := (SMap.keys s.panes).foldl (fun s p => s.slackStep b p) s
  let s2 := overran.foldl (fun s p => s.overrunNote b p) s1
  let s3 := (s2.wrFld (Config.transom + 0x40) 0 11 overran.length).bump (Config.transom + 0x44) 32 overran.length
  if overran.isEmpty then s3
  else ({ s3 with tokenEvents := (s3.tokenEvents.1 + 1, s3.tokenEvents.2.1, s3.tokenEvents.2.2) } : State).edge allBells 25
    overran.length

/-! The state change (R36 to R41). -/

/-- The state a cause leads to from the present one (R36, R38). -/
def State.causeTarget (s : State) : Cause → Option PartState
  | .knock .start => if s.part == .ready then some .running else none
  | .knock .hold => if s.part == .running then some .holding else none
  | .knock .resume =>
    if s.part == .holding then some .running
    else if s.part == .shuttingDown && s.shut.cancellable then
      some (if s.shut.before == .running then .holding else s.shut.before)
    else none
  | .knock .abort => if s.part == .running || s.part == .holding then some .aborted else none
  | .bolt _ => if s.part == .running || s.part == .holding then some .aborted else none
  | .knock .shutdown =>
    if s.part == .ready || s.part == .running || s.part == .holding || s.part == .aborted then some .shuttingDown else none
  | .knock .mark => none
  | .knock .report => none
  | .shutdownDone => if s.part == .shuttingDown then some .off else none
  | .lockstep => if s.part == .faulted then none else some .faulted
  | .ledger _ => if s.part == .faulted then none else some .faulted

/-- The order of R40; READY, to which only a cancelled shutdown leads, comes last. -/
def PartState.rank : PartState → Nat
  | .off => 0
  | .faulted => 1
  | .aborted => 2
  | .shuttingDown => 3
  | .holding => 4
  | .running => 5
  | .ready => 6
  | .starting => 7

/-- The target that comes first (R40). -/
def State.nextState (s : State) : Option PartState :=
  (s.causes.filterMap s.causeTarget).foldl (fun a t => match a with
    | none => some t
    | some u => if t.rank < u.rank then some t else some u) none

/-- The causes of the change, and those superseded, in the log (R40, R41). -/
def State.logChange (s : State) (t : PartState) (causes : List (Cause × Option PartState)) : State :=
  let s1 := s.logState s.tick t ((causes.filter (fun c => c.2 == some t)).map (fun c => c.1.logCode))
  (causes.filter (fun c => c.2.isSome && c.2 != some t)).foldl (fun s c => s.logEv 0x01F0 [0, c.1.logCode]) s1

/-- A pane at the boundary at which RUNNING takes effect (R68, R88, R107, R118): inboxes, status words and ledger cleared. -/
def Pane.cleared (q : Pane) : Pane :=
  let q1 := (((((q.setCr 0x104 0).setCr 0x108 0x7FFFFFFF#32).setCr 0x10C 0).setCr 0x110 0).setCr 0x114 0).setCr 0x11C 0
  let q2 := (List.range 64).foldl (fun q n => q.setCr (0x204 + 8 * n) ((q.cr (0x204 + 8 * n)).withFld 16 10 0)) q1
  { q2 with sram := SMap.keep (fun a => decide (a < 0xE000)) q.sram, ecc := SMap.keep (fun w => decide (w < 0x3800)) q.ecc,
            chan := [], minSlack := none, lastOver := 0, overClose := none, mvLate := false, faulty := 0, pubs := [],
            reduced := [], unacked := [] }

/-- The rail of a sash with a task stands at its CEILING (R572). -/
def State.ceilings (s : State) : State :=
  (List.range 64).foldl (fun s k =>
    let a := Config.pwr + 0x400 + 4 * k
    if anyOfSash k (fun p => (s.pane p).hasTask) then s.wrFld a 0 7 ((s.rd a).fld 16 7) else s) s

/-- Pane p at the start of RUNNING: its task opens at TICK_ENTRY with its registers zero (R184, R266). -/
def State.startPane (s : State) (p : Nat) : State :=
  let q := (s.pane p).cleared
  s.setPane p (if q.hasTask && !q.retired then q.fresh (s.fv 2 8 p 0) (s.fv 2 9 p 0) 0 else q)

/-- RUNNING takes effect from READY; its tick numbers go on where the count of READY's boundaries stands (R15, R53, R68, R88, R118, R336, R351, R360, R363, R366, R406, R572, R604). -/
def State.startRun (s : State) : State :=
  let s1 : State := { s with part := .running, locked := true, tick := 0, red := [], redHeld := [], redRes := [], held := [],
                             streamF := [], mbs := [], movers := SMap.mapVal (fun _ (m : Mover) => { m with next := 0 }) s.movers,
                             net := { s.net with knocks := s.net.knocks.map (fun x => { x with due := x.due.map (fun d => d - s.readyBnd) }) } }
  (((SMap.keys s1.panes).foldl (fun s p => s.startPane p) s1).wrFld (Config.transom + 0x40) 0 11 0).boltStart.ceilings.dropEarly

/-- SHUTTING-DOWN takes effect (R440, R617): drives send 0, and the bridge closes. -/
def State.startShutdown (s : State) : State :=
  let s1 : State := { s with shut := { before := s.part, cancellable := true, step := 0, sub := 0, failed := [], clean := true,
                                       holding := false, release := [] } }
  { s1.boltShutdown.brClose with part := .shuttingDown }

/-- A RESUME cancels the shutdown (R376, R619, R620): panes marked by the test are retired now; the ledger code of their
cause is not given, so it is a free value (log 2). -/
def State.cancelShutdown (s : State) (t : PartState) : State :=
  let d := s.draw
  let marked := s.shut.failed.filter (fun p => decide (p < 1024))
  let s1 := marked.foldl (fun s p => s.retireNow p (d.1 % 65536)) d.2
  { s1.boltCancel t with part := t, shut := { s1.shut with cancellable := false, holding := true, failed := [] } }

/-- OFF after an orderly shutdown (R560): every domain but AON is shut, and no tick is issued. -/
def State.goOff (s : State) : State :=
  let s1 := (List.range 108).foldl (fun s d =>
    s.setDom d { s.dom d with st := .shut, moving := none, pend := none, replay := false, lost := true }) s
  { (s1.dropKeys (List.range 1024)) with part := .off, gen := { s1.gen with on := false }, drvDue := [], bolt := { s1.bolt with kill := true } }

/-- The effects of a change to state t (R36, R39). -/
def State.changeTo (s : State) (t : PartState) : State :=
  if s.part == .shuttingDown && t != .off && t != .faulted then s.cancelShutdown t
  else match t with
    | .running => if s.part == .ready then s.startRun else { s.boltResume with part := .running }
    | .holding => { s.boltHold with part := .holding }
    | .aborted => { s with part := .aborted, bolt := { s.bolt with abortOut := true } }
    | .shuttingDown => s.startShutdown
    | .off => s.goOff
    | _ => { s with part := t }

/-- The change at a boundary: the log, bell source 28 and an announcement (R40, R41, R294, R519). A FAULTED that is no
lockstep mismatch takes the final seal point (R494). -/
def State.stateStep (s : State) : State :=
  let causes := s.causes.map (fun c => (c, s.causeTarget c))
  match s.nextState with
  | none => { s with causes := [] }
  | some t =>
    let s1 := (({ s with causes := [] } : State).changeTo t).logChange t causes
    let s2 := (({ s1 with tokenEvents := (s1.tokenEvents.1, s1.tokenEvents.2.1, s1.tokenEvents.2.2 + 1) } : State).edge
      allBells 28 t.code).announce
    if t == .faulted && !s2.logs.stopped then s2.finalSeal else s2

/-! The drive check (R345, R359, R371, R382). -/

/-- Drive slots are resolved and evaluated in these states (R359), also while a cancelled shutdown still holds the panes (R620;
log 44). -/
def State.drives (s : State) : Bool := s.part == .running || s.part == .holding || s.part == .aborted

/-- A drive sender is qualified for its word (R378). -/
def State.driveOk (s : State) (b : Bnd) (src : Nat) : Bool :=
  if src / 1024 = s.partNo then
    s.qualified b (s.pane (src % 1024)).cls src && !s.hingeSuspect (src % 1024)
  else s.remoteDone src

/-- Resolution, the drive entries, the ramp's limit, and the trips taken at the drive check. -/
def State.driveStep (s : State) (b : Bnd) : State :=
  if !s.drives then s.spendSlots b.n
  else
    let s1 := if s.nextState == some .running then s.resumePrev else s
    (s1.driveCheck (s1.srcDone b) (s1.driveOk b) b.n).takeTrips.rampLimit

/-! The open (R69, R70, R73, R74, R80, R620). -/

/-- Pane p at the open: one whose WAITT has retired goes on into the new tick, and a handler of its stall returns there (R74, R281).
After a cancelled shutdown its tag jumps to it. TKS takes the stamp of this boundary also at a first open and at a takeover
tick: R184 and R202 give 0 there, R70 the stamp of the boundary that opened the tick, and the model follows R70 (DESIGN
CHOICE, log 135). -/
def State.openPane (s : State) (b : Bnd) (p : Nat) : State :=
  let q := s.pane p
  let k := q.cls
  if !q.hasTask || q.retired || !s.due b k || s.part == .shuttingDown || s.part == .off || s.shut.holding || !q.awaits then s
  else if s.shut.release.contains k || q.tag = b.n then
    s.setPane p { s.moveTag q b.n with awaits := false, tks := s.stamps.getD k 0,
                                       phase := if q.phase == .stall then .run else q.phase }
  else s

/-- The marks of the tick that ends are cleared: the fault flags of the classes that have a boundary (R79), and late
descriptors. -/
def State.clearMarks (s : State) (b : Bnd) (p : Nat) : State :=
  s.modPane p (fun q =>
    { q with mvLate := false, faulty := (List.range 4).foldl (fun f k => if s.due b k then f &&& ~~~(1#4 <<< k) else f) q.faulty })

/-- The open of a boundary: the copies between movers and stalled panes first (R408), then the panes; a WAITT that waited only for what its pane gave
up retires (R63). -/
def State.openStep (s : State) (b : Bnd) : State :=
  let s1 := (List.range 32).foldl (fun s k => (s.mvStageRead (k / 4) (k % 4)).mvPaneWrite (k / 4) (k % 4)) s
  let s2 := (SMap.keys s1.panes).foldl (fun s p => (s.openPane b p).clearMarks b p) s1
  let s3 := (SMap.keys s2.panes).foldl (fun s p => if (s.pane p).phase == .waitt || (s.pane p).phase == .waittIn then s.poll p else s) s2
  { s3 with shut := { s3.shut with release := if s3.shut.holding then s3.shut.release
                                                else s3.shut.release.filter (fun k => !s3.due b k) } }

/-! The boundary. -/

/-- The first boundary of READY (R357, R492, R518, R519, R572). -/
def State.firstBoundary (s : State) : State :=
  if s.part == .ready && s.readyBnd == 0 then
    let s1 : State := { s.boltOpen.ceilings with net := { s.net with eph := some (freeBytes 32 s.free) }, free := s.free + 32 }
    ({ s1 with logs := { s1.logs with sealAt := s1.now + s1.sealPeriod } } : State).announce
  else s

/-- The stamps of the classes that have a boundary (R70). -/
def State.stampStep (s : State) (b : Bnd) (stamp : Nat) : State :=
  { s with stamps := (List.range 4).foldl (fun v k => if s.due b k then v.setIfInBounds k stamp else v) s.stamps }

/-- TICK_OUT (R86): it rises 10 ns after the root close, within 3 ns, and stays high for 1 us or half a period, whichever is
shorter. Where in the 6 ns the edge falls is a free value (log 2). -/
def State.tickOutStep (s : State) (b : Bnd) : State :=
  let r := s.rd (Config.transom + 0x38)
  let rise := b.close + 7 + Config.freeNat s.free % 7
  if r.bit 2 && s.due b (r.fld 0 2) then { s with tickOut := some (rise, rise + min 1000 (s.nominal / 2 ^ 33)) } else s

/-- Overrun accounting and the commit, unless SHUTTING-DOWN takes effect, which an ABORT of the same boundary forestalls
(R40, R617): no pane overruns then, and OVERRUN_LAST is 0 (R85). -/
def State.commitStep (s : State) (b : Bnd) (overran : List Nat) : State :=
  let commits := s.part.commits && !s.shut.holding && s.nextState != some .shuttingDown
  let s1 := if commits then s.ledgerStep b overran else s.wrFld (Config.transom + 0x40) 0 11 0
  let s2 := ((s1.channels b commits).groups b commits).mailboxes b commits
  let s3 := (List.range 32).foldl (fun s k => s.mvBack (k / 4) (k % 4)) (s2.streams b commits)
  if commits then s3.markBays else s3

/-- Close to drive check (R56, R57, R371). -/
def State.firstHalf (s : State) (b : Bnd) : State :=
  let s1 := (s.firstBoundary.closeStep.gatherStep b).decideKnocks.takeTrips.sendTokens b
  let overran := if s1.part.commits && !s1.shut.holding then s1.overrunList b else []
  ((s1.abortPolicies overran).driveStep b).commitStep b overran

/-- State change to open. A boundary at which RUNNING takes effect is one of every class (R53). -/
def State.secondHalf (s : State) (b0 : Bnd) (stamp : Nat) : State :=
  let s1 := s.stateStep
  if s1.part == .off then s1.tickOutStep b0
  else
    let b := s1.bnd
    ((((s1.stampStep b stamp).frameWrite.govern (s1.due b)).takeoverSteps b.n).openStep b).tickOutStep b

/-- What is left of a boundary: the generator goes on to the next edge. -/
def State.endBoundary (s : State) (close : Nat) : State :=
  let s1 : State := { s with inBnd := false, lastC := close, tokens := [], lateNow := [], free := s.free + 1,
                             readyBnd := if s.locked then s.readyBnd else s.readyBnd + 1 }
  if s1.part == .off then s1 else s1.advance

/-- Run the coming boundary. -/
def State.boundary (s : State) : State :=
  if !s.gen.on then s
  else
    let stamp := s.nextStamp
    let s0 := s.at s.gen.nextNs
    let s1 : State := { s0 with tick := s0.nextTick, inBnd := true }
    let b := s1.bnd
    (((s1.stampStep b stamp).firstHalf b).secondHalf b stamp).endBoundary b.close

/-- BOUNDARY (R56). -/
def execBoundary (s : State) : Host.Outcome State Fault Refusal := .next s.boundary

/-! The knock rows: a pending knock that is due at the coming boundary is decided there (R523). -/

/-- Knock k is pending and due at the coming boundary. -/
def State.knockComing (s : State) (k : Knock) : Bool :=
  s.gen.on && s.net.knocks.any (fun x => x.knock == k && s.knockDue x)

/-- Decide one knock of the coming boundary now, the rest of it later (log 25). -/
def State.knockEarly (s : State) (k : Knock) : State :=
  if !s.knockComing k then s
  else
    s.early (fun s =>
      let l := s.net.knocks.filter (fun x => x.knock == k)
      let s1 : State := { s with net := { s.net with knocks := s.net.knocks.filter (fun x => x.knock != k) } }
      (l.foldl (fun s x => s.decideKnock x) s1).showPending)

/-- START: READY to RUNNING at its boundary, or refused (R36, R441). -/
def execStart (s : State) : Host.Outcome State Fault Refusal := .next (if s.knockComing .start then s.boundary else s)
/-- HOLD: RUNNING to HOLDING at its boundary (R36, R376). -/
def execHold (s : State) : Host.Outcome State Fault Refusal := .next (if s.knockComing .hold then s.boundary else s)
/-- RESUME: HOLDING to RUNNING, or a shutdown cancelled, at its boundary (R36, R38, R620). -/
def execResume (s : State) : Host.Outcome State Fault Refusal := .next (if s.knockComing .resume then s.boundary else s)
/-- SHUTDOWN: to SHUTTING-DOWN at its boundary (R36, R617). -/
def execShutdown (s : State) : Host.Outcome State Fault Refusal := .next (if s.knockComing .shutdown then s.boundary else s)
/-- ABORT: a trip with cause 770, decided for the coming boundary (R36, R526). -/
def execAbort (s : State) : Host.Outcome State Fault Refusal := .next (s.knockEarly .abort)
/-- MARK (R526). -/
def execMark (s : State) : Host.Outcome State Fault Refusal := .next (s.knockEarly .mark)
/-- REPORT (R526). -/
def execReport (s : State) : Host.Outcome State Fault Refusal := .next (s.knockEarly .report)

end Sys2Proof.Machine
end

