-- ==== Sys2Proof/Machine/Clamp.lean ====
section
/-!
DEFINITION. The clamp report (R434 to R436, R669) and the reading of an image: slots, header, section table and section
bodies (R423 to R428, R444 to R451, R466, R467).
-/
namespace Sys2Proof.Machine

/-! The clamp report. -/

/-- One action of stages 2 to 10 (R434): SEV is 0 NOTE, 1 CLAMPED, 2 DEFAULTED, 3 REFUSED. -/
structure ClampAct where
  stage : Nat
  sev : Nat
  reason : Nat
  sec : Nat
  fld : Nat
  idx : Nat
  sub : Nat
  vin : Nat
  vout : Nat
  crit : Bool
  deriving DecidableEq, Repr

/-- The record of an action. -/
def ClampAct.record (a : ClampAct) : ClampRec :=
  { w0 := packF [(0, 2, a.sev), (2, 1, a.crit.toNat), (4, 4, a.stage), (8, 8, a.sec), (16, 16, a.fld)],
    w1 := packF [(0, 16, a.idx), (16, 8, a.sub), (24, 8, a.reason)],
    w2 := BitVec.ofNat 32 a.vin, w3 := BitVec.ofNat 32 a.vout }

/-- The NOTE that stands in record 4,095 once more than 4,096 actions occurred: `n` actions have no record of their own
(R436). -/
def overflowRec (stage n : Nat) : ClampRec :=
  ClampAct.record { stage := stage, sev := 0, reason := 16, sec := 0, fld := 0xFFFF, idx := 0, sub := 0, vin := n, vout := 0,
                    crit := false }

/-- Actions without a record, by the report: none while it is not full or its last record is an action's (R436). -/
def State.unrecorded (s : State) : Nat :=
  match s.clamps[4095]? with
  | some r => if r.w1.fld 24 8 = 16 then r.w2.toNat else 0
  | none => 0

/-- The counter of a severity, N_NOTE to N_REFUSED (R443). -/
def sevCounter (sev : Nat) : Nat := Config.start + 0x14 + 4 * sev

/-- Write one action to the report and count it, stored or not (R434, R436). -/
def State.clamp (s : State) (a : ClampAct) : State :=
  let s1 := s.bump (sevCounter a.sev) 16 1
  let s2 := if a.crit && (a.sev == 1 || a.sev == 2) then s1.bump (Config.start + 0x24) 16 1 else s1
  if s2.clamps.length < 4096 then { s2 with clamps := s2.clamps ++ [a.record] }
  else
    let n := if s2.unrecorded = 0 then 2 else s2.unrecorded + 1
    { s2 with clamps := s2.clamps.set 4095 (overflowRec a.stage n) }

/-- Write several actions, in order. -/
def State.clampAll (s : State) (l : List ClampAct) : State := l.foldl State.clamp s

/-- A section holds a critical field (R431); every record about a LOAD section carries CRIT (R466). -/
def secCrit (sec : Nat) : Bool := sec == 3 || schema.any (fun f => f.sec == sec && f.crit)

/-- CRIT of a record about a field, or about a whole section (R431). -/
def critOf (sec fld : Nat) : Bool :=
  match fieldSpec sec fld with
  | some f => f.crit
  | none => secCrit sec

/-- An action about a field of the schema. -/
def fieldAct (stage sev reason sec fld idx sub vin vout : Nat) : ClampAct :=
  { stage := stage, sev := sev, reason := reason, sec := sec, fld := fld, idx := idx, sub := sub, vin := vin, vout := vout,
    crit := critOf sec fld }

/-- An action about a whole section or about none. -/
def secAct (stage sev reason sec idx : Nat) : ClampAct := fieldAct stage sev reason sec 0xFFFF idx 0 0 0

/-! Bytes of the NOR device (R423). -/

/-- `n` bytes upward from `a`, of a memory whose entries below `a` are gone. -/
def sliceFrom : Nat → Nat → Memory → List Byte
  | 0, _, _ => []
  | n + 1, a, [] => zeroByte a :: sliceFrom n (a + 1) []
  | n + 1, a, (k, v) :: r => if k = a then v :: sliceFrom n (a + 1) r else zeroByte a :: sliceFrom n (a + 1) ((k, v) :: r)

/-- `n` bytes of a memory from `a`, read in one pass. -/
def Memory.slice (m : Memory) (a n : Nat) : List Byte := sliceFrom n a (m.dropWhile (fun e => decide (e.1 < a)))

/-- The little-endian word at offset `o` of a byte string. -/
def wordOfBytes (l : List Byte) (o : Nat) : Nat := leNat ((l.drop o).take 4)

/-- The bytes of a slot: D is the size of the device. -/
def slotBytes (d : Nat) : Nat := min (64 * 1048576) (d / 2 - 1048576)
/-- The start of slot k. -/
def slotStart (d k : Nat) : Nat := if k = 0 then 0 else d / 2

/-- The 32-byte entries and the header of a slot, as read (R445, R448). -/
structure Slot where
  base : Nat
  size : Nat
  /-- The 128 bytes of the header. -/
  head : List Byte
  /-- The bytes of the section table. -/
  table : List Byte
  deriving DecidableEq, Repr

/-- Word n of the header, by its offset. -/
def Slot.word (x : Slot) (o : Nat) : Nat := wordOfBytes x.head o
/-- SEQ, IMAGE_BYTES, SECTIONS and TABLE_OFF. -/
def Slot.seq (x : Slot) : Nat := x.word 8
def Slot.bytes (x : Slot) : Nat := x.word 0x10
def Slot.sections (x : Slot) : Nat := x.word 0x14 % 65536
def Slot.tableOff (x : Slot) : Nat := x.word 0x18
/-- The section table ends here. -/
def Slot.tableEnd (x : Slot) : Nat := x.tableOff + 48 * x.sections

/-- Section table unreadable (code 3 of R424). -/
def Slot.tableBad (x : Slot) : Bool :=
  x.tableOff % 16 != 0 || decide (x.tableOff < 0x80) || decide (x.sections > 1024) || decide (x.tableEnd > x.bytes) ||
    decide (x.tableEnd > x.size)

/-- Bytes of the NOR device, which is kept complemented (R600), read in one pass. -/
def State.norSlice (s : State) (a n : Nat) : List Byte := (s.nor.slice a n).map (fun b => ~~~b)

/-- Read slot k of the NOR device of size `d`. -/
def State.readSlot (s : State) (d k : Nat) : Slot :=
  let x : Slot := { base := slotStart d k, size := slotBytes d, head := s.norSlice (slotStart d k) 128, table := [] }
  if x.tableBad then x else { x with table := s.norSlice (x.base + x.tableOff) (48 * x.sections) }

/-! The signature (R426, R427). -/

/-- SIG_PRESENT. -/
def Slot.signed (x : Slot) : Bool := bitsOf (x.word 0x24) 7 1 == 1
/-- SIG_KEY. -/
def Slot.key (x : Slot) : Nat := x.word 0x24 % 4
/-- What the signature covers: the SHA-256 of header bytes 0x00 to 0x3F and the section table (R446). -/
def Slot.digest (x : Slot) : List Byte := sha256 (x.head.take 64 ++ x.table)

/-- The signature verifies under the fused key that SIG_KEY names. -/
def State.sigVerifies (s : State) (x : Slot) : Bool :=
  x.signed && match s.otp.signKeys[x.key]? with
    | some h => decide (sha256 (Config.imageKey h) = h) && edVerify (Config.imageKey h) x.digest (x.head.drop 64)
    | none => false

/-- The key SIG_KEY names is revoked. -/
def State.sigRevoked (s : State) (x : Slot) : Bool := s.otp.revoked.getLsbD x.key

/-- Signature checking is enforced: SIGN_REQUIRED, and never in MANUFACTURE (R426). -/
def State.sigEnforced (s : State) : Bool := s.otp.signRequired && s.otp.lc != 0

/-- A signature verified under a key that is not revoked (START.STATUS.SIGNED). -/
def State.sigGood (s : State) (x : Slot) : Bool := s.sigVerifies x && !s.sigRevoked x

/-- The stepping bounds of the header exclude this part's stepping. -/
def State.steppingOut (s : State) (x : Slot) : Bool :=
  let lo := x.word 0xC % 256
  let hi := x.word 0xC / 256 % 256
  (lo != 0 && decide (s.otp.stepping < lo)) || (hi != 0xFF && decide (hi < s.otp.stepping))

/-- The slot's code: the first failing check of R424. -/
def State.slotCode (s : State) (x : Slot) : Nat :=
  if x.word 0 ≠ 0x4E574B41 then 1
  else if (crc32c (x.head.take 0x3C)).toNat ≠ x.word 0x3C then 2
  else if x.tableBad || (crc32c x.table).toNat != x.word 0x1C then 3
  else if x.word 4 % 65536 ≠ 0x0101 then 4
  else if s.steppingOut x then 5
  else if x.bytes > x.size then 6
  else if s.sigEnforced && !s.sigVerifies x then 7
  else if s.sigEnforced && s.sigRevoked x then 8
  else 0

/-- Words of the header with reserved bits, by offset and mask (R445). -/
def headerReserved : List (Nat × Nat) :=
  [(4, 0xFFFF0000), (0xC, 0xFFFE0000), (0x14, 0xFFFF0000), (0x24, 0xFFFFFF7C), (0x38, 0xFFFFFFFF)]

/-- The NOTEs of R447, header first. -/
def Slot.reservedNotes (x : Slot) : List ClampAct :=
  let keep := fun (w m : Nat) => w - (w &&& m)
  (headerReserved.filter (fun r => x.word r.1 &&& r.2 != 0)).map (fun r =>
    { fieldAct 4 0 3 0 0xFFFF 0 0 (x.word r.1) (keep (x.word r.1) r.2) with crit := false }) ++
  ((List.range x.sections).filter (fun i => wordOfBytes x.table (48 * i) / 65536 != 0)).map (fun i =>
    let w := wordOfBytes x.table (48 * i)
    fieldAct 4 0 3 (w % 256) 0xFFFF i 0 w (w % 65536))

/-! Sections (R428, R448 to R450). -/

/-- One entry of the section table. -/
structure SecEntry where
  typ : Nat
  sformat : Nat
  off : Nat
  len : Nat
  crc : Nat
  sha : List Byte
  deriving DecidableEq, Repr

/-- The entries of the table. -/
def Slot.entries (x : Slot) : List SecEntry :=
  (List.range x.sections).map (fun i =>
    let l := (x.table.drop (48 * i)).take 48
    { typ := wordOfBytes l 0 % 256, sformat := wordOfBytes l 0 / 256 % 256, off := wordOfBytes l 4, len := wordOfBytes l 8,
      crc := wordOfBytes l 12, sha := (l.drop 16).take 32 })

/-- A section known at CL1 (R450). -/
def secKnown (t : Nat) : Bool := decide (1 ≤ t) && decide (t ≤ 0x18)
/-- A section type that allows many instances. -/
def secMany (t : Nat) : Bool := t == 3 || t == 0x11

/-- The ranges [a, a + n) and [b, b + m) share a byte. -/
def meets (a n b m : Nat) : Bool := decide (n > 0) && decide (m > 0) && decide (a < b + m) && decide (b < a + n)

/-- Entry i breaks a placement rule of R449. -/
def Slot.misplaced (x : Slot) (es : List SecEntry) (i : Nat) (e : SecEntry) : Bool :=
  e.sformat != 1 || e.off % 16 != 0 || e.len % 4 != 0 || decide (e.off + e.len > x.bytes) || meets e.off e.len 0 128 ||
    meets e.off e.len x.tableOff (48 * x.sections) ||
    (List.range es.length).any (fun j => j != i && match es[j]? with
      | some f => meets e.off e.len f.off f.len
      | none => false)

/-- The layout of a LOAD body cannot be read, or its length differs from what its words give (R466). -/
def loadBad (l : List Byte) : Bool :=
  let addr := wordOfBytes l 0
  let n := wordOfBytes l 4
  let p := wordOfBytes l 8
  decide (l.length < 12) || addr % 4 != 0 || n % 4 != 0 || decide (n < 4) || decide (n > 57344) || decide (p < 1) ||
    decide (p > 1024) || (p % 2 == 1 && leNat ((l.drop (12 + 2 * p)).take 2) != 0xFFFF) ||
    l.length != 12 + 4 * ((p + 1) / 2) + n

/-- The same of a DRAM_LOAD body (R467). -/
def dramLoadBad (l : List Byte) : Bool :=
  decide (l.length < 12) || wordOfBytes l 0 % 8 != 0 || wordOfBytes l 8 % 8 != 0 || l.length != 12 + wordOfBytes l 8

/-- A section that is loaded: its type, its blob number among the sections of its type, and its body. -/
structure SecBody where
  typ : Nat
  blob : Nat
  body : List Byte
  deriving DecidableEq, Repr

/-- Judge entry i (R428): its type, then whether it repeats one, then its CRC and its hash. `sig`: a signature verified. -/
def State.judgeSection (s : State) (x : Slot) (sig : Bool) (es : List SecEntry) (i : Nat) (e : SecEntry) :
    Option SecBody × Option ClampAct :=
  let blob := ((es.take i).filter (fun f => f.typ == e.typ)).length
  let idx := if secMany e.typ then blob else 0
  if !secKnown e.typ then (none, some (secAct 5 0 6 e.typ 0))
  else if !secMany e.typ && decide (blob > 0) then (none, some (secAct 5 0 7 e.typ 0))
  else if x.misplaced es i e then (none, some (secAct 5 2 4 e.typ idx))
  else
    let body := s.norSlice (x.base + e.off) e.len
    if (crc32c body).toNat ≠ e.crc || (e.typ == 3 && loadBad body) || (e.typ == 0x11 && dramLoadBad body) then
      (none, some (secAct 5 2 4 e.typ idx))
    else if sha256 body ≠ e.sha then (none, some (secAct 5 (if sig then 3 else 2) 5 e.typ idx))
    else (some { typ := e.typ, blob := blob, body := body }, none)

/-- Stage 5: the sections of the chosen image, in table order. -/
def State.judgeSections (s : State) (x : Slot) (sig : Bool) : List SecBody × List ClampAct :=
  let es := x.entries
  let r := (List.range es.length).map (fun i => match es[i]? with
    | some e => s.judgeSection x sig es i e
    | none => (none, none))
  (r.filterMap Prod.fst, r.filterMap Prod.snd)

end Sys2Proof.Machine
end

