-- ==== Sys2Proof/Machine/Fields.lean ====
section
/-!
DEFINITION. Stage 7 of the start sequence: field entries, the single-field outcomes, and the outcomes a schema entry names
itself (R429 to R431, R451 to R457, R647).
-/
namespace Sys2Proof.Machine

/-! Entries (R451). -/

/-- One field entry. -/
structure FieldEntry where
  fld : Nat
  sub : Nat
  nw : Nat
  reserved : Bool
  idx : Nat
  val : Nat
  deriving DecidableEq, Repr

/-- The words of a body. -/
def bodyWords : Nat → List Byte → List Nat
  | 0, _ => []
  | n + 1, l => leNat (l.take 4) :: bodyWords n (l.drop 4)

/-- The number that words spell, least significant first (R452). -/
def wordsNat : List Nat → Nat
  | [] => 0
  | w :: r => w + 4294967296 * wordsNat r

/-- The entries of a body, and whether one runs past its end (R453). -/
def parseEntries : Nat → List Nat → List FieldEntry × Bool
  | 0, l => ([], !l.isEmpty)
  | _ + 1, [] => ([], false)
  | _ + 1, [_] => ([], true)
  | n + 1, w0 :: w1 :: r =>
    let nw := bitsOf w0 24 4
    if r.length < nw then ([], true)
    else
      let e : FieldEntry := { fld := w0 % 65536, sub := bitsOf w0 16 8, nw := nw,
                              reserved := bitsOf w0 28 4 != 0 || w1 / 65536 != 0, idx := w1 % 65536,
                              val := wordsNat (r.take nw) }
      let x := parseEntries n (r.drop nw)
      (e :: x.1, x.2)

/-- The place of a field's subject in the order of a section: field, INDEX, SUB. -/
def orderKey (fld idx sub : Nat) : Nat := (fld * 65536 + idx) * 256 + sub

/-- Insert by a key, before the first larger one. -/
def insertBy {α : Type} (key : α → Nat) (x : α) : List α → List α
  | [] => [x]
  | y :: r => if key x ≤ key y then x :: y :: r else y :: insertBy key x r

/-- A stable sort by a key. -/
def sortBy {α : Type} (key : α → Nat) (l : List α) : List α := l.foldr (insertBy key) []

/-! Single-field outcomes (R429). -/

/-- A field's loaded value, and the severity and reason of its record. -/
abbrev Outcome := Nat × Option (Nat × Nat)

/-- Clamped to a numeric range. -/
def clampNum (lo hi v : Nat) : Outcome :=
  if v > hi then (hi, some (1, 1)) else if v < lo then (lo, some (1, 2)) else (v, none)

/-- A code outside its set. -/
def dflt3 (d : Nat) : Outcome := (d, some (2, 3))

/-- The own outcome of a field (R317, R338, R389, R414, R461, R463, R473 to R476). A code above those R389 and R414 name
takes the same outcome. -/
def ownOutcome (sec fld : Nat) (v d : Nat) : Outcome :=
  match sec, fld with
  | 4, 1 => if v > 0xFFFFF then dflt3 0 else (v, none)
  | 5, 2 => if v > 6 then dflt3 d else (v, none)
  | 9, 1 => if v = 1 then (2, some (1, 2)) else clampNum 0 8 v
  | 0xA, 6 => if v > 47 then dflt3 0 else (v, none)
  | 0xA, 7 => if v = 3 then (0, some (1, 1)) else clampNum 0 2 v
  | 0xC, 7 => if v = 0 then dflt3 d else clampNum 1 991 v
  | 0xE, 0x24 => clampNum 1 255 v
  | 0xE, 0x44 => clampNum 1 255 v
  | 0xE, 0x25 => clampNum 4 16 v
  | 0xE, 0x45 => clampNum 4 16 v
  | 0xE, _ => if v > 2 then dflt3 0 else (v, none)
  | 0xF, 1 => if v = 13 ∨ v = 14 then dflt3 15 else if v > 15 then dflt3 d else (v, none)
  | 0x10, 1 => if v > 4 then dflt3 0 else (v, none)
  | 0x10, 3 => if 8 < v ∧ v < 15 then dflt3 15 else if v > 15 then dflt3 d else (v, none)
  | 0x12, 2 =>
    let t := (BitVec.ofNat 32 v).toInt
    if t > 125 then (125, some (1, 1)) else if t < -40 then (4294967256, some (1, 2)) else (v, none)
  | 0x13, 5 => if v > 47 ∧ v ≠ 0xFF then dflt3 0xFF else (v, none)
  | 0x14, 3 => if v % 2 = 1 ∨ v ≥ 2 ^ 48 then dflt3 d else (v, none)
  | 0x14, 0xA => if v > 1000000000 then dflt3 d else if 0 < v ∧ v < 10000 then (10000, some (1, 2)) else (v, none)
  | _, _ => (v, none)

/-- The outcome of a value alone. `d`: the field's default for the subject. -/
def judgeField (f : Fld) (v d : Nat) : Outcome :=
  match f.rng with
  | .num lo hi => clampNum lo hi v
  | .codes hi => if v > hi then dflt3 d else (v, none)
  | .paneRef => if v > 8191 ∧ v ≠ 0xFFFF then dflt3 d else (v, none)
  | .aligned k hi =>
    if v > hi then (hi, some (1, 1)) else if v % 2 ^ k ≠ 0 then (v / 2 ^ k * 2 ^ k, some (1, 2)) else (v, none)
  | .any => (v, none)
  | .own => ownOutcome f.sec f.id v d

/-! Loading the sections. -/

/-- Write a loaded value. -/
def State.setF (s : State) (sec fld idx sub v : Nat) : State := { s with img := SMap.put s.img (imgKey sec fld idx sub) v }

/-- The value read from flash (R434). -/
def State.rawOf (s : State) (sec fld idx sub : Nat) : Nat :=
  match SMap.at? s.imgRaw (imgKey sec fld idx sub), SMap.at? s.img (imgKey sec fld idx sub) with
  | some v, _ => v
  | none, some v => v
  | none, none => SMap.get (fun _ => s.fv sec fld idx sub) s.imgRaw (imgKey sec fld 0xFFFF sub)

/-- Load a value in place of the one read from flash, which is kept for the records (R430, R434). -/
def State.loadF (s : State) (sec fld idx sub v : Nat) : State :=
  if v = s.fv sec fld idx sub then s
  else { s.setF sec fld idx sub v with imgRaw := SMap.put s.imgRaw (imgKey sec fld idx sub) (s.rawOf sec fld idx sub) }

/-- The subjects the image names for a field, an INDEX of 0xFFFF naming every one (R455). -/
def State.given (s : State) (sec fld : Nat) : List (Nat × Nat) :=
  let ks := (s.img.filter (fun e => e.1 / 2 ^ 24 == sec * 65536 + fld)).map (fun e => (e.1 / 256 % 65536, e.1 % 256))
  let wide := ks.filter (fun k => k.1 == 0xFFFF)
  match wide, fieldSpec sec fld with
  | [], _ => ks
  | _, none => ks
  | _, some f =>
    (List.range (f.idxMax + 1)).flatMap (fun i =>
      ((List.range (f.subMax + 1)).filter (fun j => ks.contains (i, j) || wide.contains (0xFFFF, j))).map (fun j => (i, j)))

/-- The subjects at which a flag field is given as 1. -/
def State.flagged (s : State) (sec fld : Nat) : List (Nat × Nat) :=
  (s.given sec fld).filter (fun k => s.fv sec fld k.1 k.2 == 1)

/-- Default of a field for a subject, as far as one can be given here. -/
def State.dfltOf (s : State) (f : Fld) (idx sub : Nat) : Nat :=
  if f.sec = 0x14 ∧ f.id = 3 then s.defaultMac idx
  else if f.sec = 0xF ∧ f.id = 1 ∨ f.sec = 0x10 ∧ f.id = 3 then wheelDefault f.sec sub
  else f.dflt

/-- A GPIO line belongs to a SPI master in use (R647): `ms` are the masters in use. -/
def spiLine (ms : List Nat) (l : Nat) : Bool := decide (l % 12 ≥ 8) && ms.contains (l / 12)

/-- What stage 7 gathers: the loaded values, the actions with their place, and the entries whose outcome makes a subject
not valid, by section, field, INDEX and SUB. -/
structure Stage7 where
  st : State
  acts : List ClampAct
  post : List (Nat × Nat × Nat × Nat)

/-- The entry is well formed for its field (R453). -/
def FieldEntry.good (e : FieldEntry) (f : Fld) : Bool :=
  !e.reserved && e.nw == f.nw && decide (e.sub ≤ f.subMax) && (decide (e.idx ≤ f.idxMax) || (f.all && e.idx == 0xFFFF))

/-- The SPI masters for which an IO section holds an entry. -/
def spiMasters (es : List FieldEntry) : List Nat :=
  (es.filter (fun e => match fieldSpec 0x18 e.fld with
    | some f => (e.fld == 0x10 || e.fld == 0x11) && e.good f
    | none => false)).map FieldEntry.idx

/-- A key that decodes, where the field is a KEY (R475). -/
def keyBad (sec fld v : Nat) : Bool := sec == 0x13 && fld == 2 && !edDecodes (leBytes 32 v)

/-- Load one entry, in its order. `seen`: the field subjects already loaded from this section (R454). -/
def Stage7.entry (x : Stage7) (sec : Nat) (ms : List Nat) (seen : Bool) (e : FieldEntry) : Stage7 :=
  let note := fun (sev reason : Nat) => { x with acts := x.acts ++ [fieldAct 7 sev reason sec e.fld e.idx e.sub e.val 0] }
  match fieldSpec sec e.fld with
  | none => { x with acts := x.acts ++ [{ fieldAct 7 0 3 sec e.fld e.idx e.sub e.val 0 with crit := false }] }
  | some f =>
    if !e.good f then note 2 3
    else if seen then note 0 12
    else if sec == 0x18 && decide (e.fld ≤ 3) && spiLine ms e.idx then note 0 12
    else if keyBad sec e.fld e.val then note 2 3
    else
      let d := x.st.dfltOf f e.idx e.sub
      let o := if sec = 0x18 ∧ e.fld = 1 ∧ e.val = 2 ∧ e.idx % 12 ≥ 4 then ((0, some (2, 12)) : Outcome)
               else judgeField f e.val d
      let st0 := x.st.setF sec e.fld e.idx e.sub o.1
      let st : State := if o.1 = e.val then st0
        else { st0 with imgRaw := SMap.put st0.imgRaw (imgKey sec e.fld e.idx e.sub) e.val }
      let bad := (sec = 4 ∧ e.fld = 1 ∧ e.val > 0xFFFFF) ∨ (sec = 5 ∧ e.fld = 2 ∧ e.val = 7) ∨
        (sec = 0xC ∧ e.fld = 7 ∧ e.val = 0) ∨ (sec = 0xA ∧ e.fld = 6 ∧ e.val > 47)
      { st := st,
        acts := match o.2 with
          | some r => x.acts ++ [fieldAct 7 r.1 r.2 sec e.fld e.idx e.sub e.val o.1]
          | none => x.acts,
        post := if bad then x.post ++ [(sec, e.fld, e.idx, e.sub)] else x.post }

/-- Load entries that are in order: one of a run of equal subjects is loaded, the first that is well formed (R454). -/
def Stage7.entries (sec : Nat) (ms : List Nat) : Stage7 → Option Nat → List FieldEntry → Stage7
  | x, _, [] => x
  | x, last, e :: r =>
    let k := orderKey e.fld e.idx e.sub
    let good := match fieldSpec sec e.fld with
      | some f => e.good f
      | none => false
    Stage7.entries sec ms (x.entry sec ms (last == some k) e) (if good then some k else last) r

/-- Load one section. -/
def Stage7.section (x : Stage7) (b : SecBody) : Stage7 :=
  let w := bodyWords (b.body.length / 4) b.body
  let p := parseEntries w.length w
  let es := sortBy (fun (e : FieldEntry) => orderKey e.fld e.idx e.sub) p.1
  let y := Stage7.entries b.typ (if b.typ = 0x18 then spiMasters es else []) x none es
  if p.2 then { y with acts := y.acts ++ [secAct 7 2 3 b.typ 0] } else y

/-- Subjects of an entry's INDEX that no entry of their own names. -/
def State.subjectsOf (s : State) (sec fld idx sub : Nat) : List Nat :=
  if idx ≠ 0xFFFF then [idx]
  else match fieldSpec sec fld with
    | some f => (List.range (f.idxMax + 1)).filter (fun i => (SMap.at? s.img (imgKey sec fld i sub)).isNone)
    | none => []

/-- The source of GPIO selector `sub` of sash `i` is disabled. -/
def State.gpioOff (s : State) (i sub : Nat) : State :=
  let en := s.fv 0xA 5 i 0
  s.setF 0xA 5 i 0 (en - (en &&& 2 ^ (48 + sub)))

/-- A subject is loaded as not valid. -/
def State.notValid (s : State) (p : Nat × Nat × Nat × Nat) : State :=
  let sub := p.2.2.2
  (s.subjectsOf p.1 p.2.1 p.2.2.1 sub).foldl (fun s i =>
    match p.1 with
    | 4 => s.setF 4 5 i sub 0
    | 5 => s.setF 5 1 i 0 0
    | 0xC => s.setF 0xC 9 i sub 0
    | _ => s.gpioOff i sub) s

/-! Outcomes that a schema entry names with another field (R458, R461, R463, R474, R476, R647). -/

/-- Replace a value, with its record. -/
def Stage7.change (x : Stage7) (sev reason sec fld idx sub v : Nat) : Stage7 :=
  { x with st := x.st.loadF sec fld idx sub v,
           acts := x.acts ++ [fieldAct 7 sev reason sec fld idx sub (x.st.rawOf sec fld idx sub) v] }

/-- The SPI masters in use, by the loaded image. -/
def State.spiInUse (s : State) : List Nat := ((s.given 0x18 0x10) ++ (s.given 0x18 0x11)).map Prod.fst

/-- The own outcomes that name another field. -/
def Stage7.own (x : Stage7) : Stage7 :=
  let s := x.st
  let parts := s.fv 0x17 2 0 0
  let x1 := if parts = 1 ∧ s.fv 1 1 0 0 = 3 then x.change 2 12 1 1 0 0 0 else x
  let x2 := (s.given 4 4).foldl (fun x k =>
    if x.st.fv 4 4 k.1 k.2 > x.st.fv 4 3 k.1 k.2 then x.change 1 12 4 4 k.1 k.2 (x.st.fv 4 3 k.1 k.2) else x) x1
  let x3 := if parts = 1 then (s.flagged 5 4).foldl (fun x k => x.change 1 12 5 4 k.1 k.2 0) x2 else x2
  let x4 := (s.given 5 6).foldl (fun x k =>
    if x.st.fv 5 6 k.1 0 = x.st.fv 5 5 k.1 0 then x.change 0 0 5 6 k.1 0 (x.st.fv 5 5 k.1 0) else x) x3
  let ms := s.spiInUse
  let x5 := (s.given 0xA 6).foldl (fun x k =>
    if spiLine ms (x.st.fv 0xA 6 k.1 k.2) then
      { (x.change 2 12 0xA 6 k.1 k.2 (x.st.fv 0xA 6 k.1 k.2)) with st := x.st.gpioOff k.1 k.2 } else x) x4
  let x6 := (s.given 0x12 0x11).foldl (fun x k =>
    if x.st.fv 0x12 0x11 k.1 0 < x.st.fv 0x12 0x10 k.1 0 then x.change 1 12 0x12 0x11 k.1 0 (x.st.fv 0x12 0x10 k.1 0) else x) x5
  let x7 := (s.given 0x13 5).foldl (fun x k =>
    if spiLine ms (x.st.fv 0x13 5 0 k.2) then x.change 2 12 0x13 5 0 k.2 0xFF else x) x6
  if s.fv 0x17 1 0 0 ≥ parts then x7.change 3 12 0x17 1 0 0 (s.fv 0x17 1 0 0) else x7

/-- The place of an action in the report: section by its position in the table, field, INDEX, SUB (R429). -/
def actPlace (order : List Nat) (a : ClampAct) : Nat :=
  ((order.idxOf? a.sec).getD order.length) * 2 ^ 40 + orderKey a.fld a.idx a.sub

/-- Stage 7 over the loaded field sections. -/
def State.stage7 (s : State) (secs : List SecBody) : State :=
  let fs := secs.filter (fun b => !secMany b.typ)
  let x1 := fs.foldl Stage7.section { st := s, acts := [], post := [] }
  let x2 := { x1 with st := x1.post.foldl State.notValid x1.st }
  let x3 := x2.own
  x3.st.clampAll (sortBy (actPlace (fs.map SecBody.typ)) x3.acts)

/-! LOAD sections (R466). -/

/-- A LOAD section as read. -/
structure LoadBlob where
  blob : Nat
  addr : Nat
  panes : List Nat
  data : List Byte
  deriving DecidableEq, Repr

/-- The halfwords of the pane list. -/
def paneList : Nat → List Byte → List Nat
  | 0, _ => []
  | n + 1, l => leNat (l.take 2) :: paneList n (l.drop 2)

/-- Read a LOAD body. -/
def SecBody.load (b : SecBody) : LoadBlob :=
  let p := wordOfBytes b.body 8
  { blob := b.blob, addr := wordOfBytes b.body 0, panes := paneList p (b.body.drop 12),
    data := b.body.drop (12 + 4 * ((p + 1) / 2)) }

/-- Its end. -/
def LoadBlob.fin (l : LoadBlob) : Nat := l.addr + l.data.length

/-- Two blobs write the same byte of one pane: the first such pane. -/
def LoadBlob.clash (a b : LoadBlob) : Option Nat :=
  if meets a.addr a.data.length b.addr b.data.length then a.panes.find? (fun p => b.panes.contains p) else none

/-- A record about a LOAD section. -/
def loadAct (sev reason blob sub vin vout : Nat) : ClampAct := fieldAct 10 sev reason 3 0xFFFF blob sub vin vout

/-- Judge the LOAD sections in order: those applied, and the actions. A section is held against every earlier one, applied or not;
`seen` are those. -/
def judgeLoads : List LoadBlob → List LoadBlob → List LoadBlob × List ClampAct
  | _, [] => ([], [])
  | seen, l :: r =>
    let far := if l.fin > 0xE000 then [loadAct 3 9 l.blob 0 l.fin 0xE000] else []
    let big := (l.panes.filter (fun p => decide (p > 1023))).map (fun p => loadAct 3 9 l.blob 0 p 0)
    let twice := (l.panes.zipIdx.filter (fun x => (l.panes.take x.2).contains x.1)).map (fun x => loadAct 0 0 l.blob 0 x.1 0)
    let hit := seen.filterMap (fun d => (l.clash d).map (fun p => loadAct 3 9 l.blob d.blob p 0))
    let x := judgeLoads (seen ++ [l]) r
    (if far.isEmpty && big.isEmpty && hit.isEmpty then l :: x.1 else x.1, far ++ big ++ twice ++ hit ++ x.2)

/-- The bytes of a blob go to each of its panes. -/
def State.applyLoad (s : State) (l : LoadBlob) : State :=
  l.panes.foldl (fun s p => s.modPane p (fun q => { q with sram := Memory.writeBytes q.sram l.addr l.data })) s

/-- A DRAM_LOAD section: its blob number, offset and data (R467). -/
structure DramBlob where
  blob : Nat
  off : Nat
  data : List Byte
  deriving DecidableEq, Repr

/-- Read a DRAM_LOAD body. -/
def SecBody.dram (b : SecBody) : DramBlob :=
  { blob := b.blob, off := wordOfBytes b.body 0 + wordOfBytes b.body 4 % 2 * 4294967296, data := b.body.drop 12 }

/-- A record about a DRAM_LOAD section. -/
def dramAct (reason blob sub vin vout : Nat) : ClampAct := fieldAct 10 3 reason 0x11 0xFFFF blob sub vin vout

/-- Judge the DRAM_LOAD sections, each against every earlier one, applied or not: `up` is whether the controller serves, `usable`
the bytes it serves. -/
def judgeDram (up : Bool) (usable : Nat) : List DramBlob → List DramBlob → List DramBlob × List ClampAct
  | _, [] => ([], [])
  | seen, d :: r =>
    let acts :=
      if !up then [dramAct 13 d.blob 0 d.off 0]
      else (if d.off + d.data.length > usable then [dramAct 9 d.blob 0 d.off 0] else []) ++
        (seen.filter (fun e => meets d.off d.data.length e.off e.data.length)).map (fun e => dramAct 9 d.blob e.blob d.off 0)
    let x := judgeDram up usable (seen ++ [d]) r
    (if acts.isEmpty then d :: x.1 else x.1, acts ++ x.2)

end Sys2Proof.Machine
end

