-- ==== Sys2Proof/Machine/Checks.lean ====
section
/-!
DEFINITION. Stage 9 of the start sequence: checks 1 to 5 of R432, with the derived channel fields of R462.
-/
namespace Sys2Proof.Machine

/-- Write one stage 9 action about a field. -/
def State.rec9 (s : State) (sev reason sec fld idx sub vin vout : Nat) : State :=
  s.clamp (fieldAct 9 sev reason sec fld idx sub vin vout)

/-- A record about a value that stays as it is: as read from flash, and as loaded (R434). -/
def State.told9 (s : State) (sev reason sec fld idx sub : Nat) : State :=
  s.rec9 sev reason sec fld idx sub (s.rawOf sec fld idx sub) (s.fv sec fld idx sub)

/-- A breach whose value stays as it is: REFUSED. -/
def State.refused9 (s : State) (reason sec fld idx sub : Nat) : State := s.told9 3 reason sec fld idx sub

/-- A NOTE about a field's value. -/
def State.note9 (s : State) (sec fld idx sub : Nat) : State := s.told9 0 0 sec fld idx sub

/-- A value replaced, with its record. -/
def State.load9 (s : State) (sev reason sec fld idx sub v : Nat) : State :=
  (s.loadF sec fld idx sub v).rec9 sev reason sec fld idx sub (s.rawOf sec fld idx sub) v

/-! Tasks and copies. -/

/-- BOARD.PART and BOARD.PARTS. -/
def State.imgPart (s : State) : Nat := s.fv 0x17 1 0 0
def State.imgParts (s : State) : Nat := s.fv 0x17 2 0 0

/-- The pane reference of a pane of this part (R456). -/
def State.refOf (s : State) (p : Nat) : Nat := s.imgPart * 1024 + p

/-- The pane of this part that a reference names. -/
def State.mine (s : State) (r : Nat) : Option Nat :=
  if r = 0xFFFF ∨ r / 1024 ≠ s.imgPart then none else some (r % 1024)

/-- Panes with a task, rising. -/
def State.taskPanes (s : State) : List Nat := (s.flagged 2 1).map Prod.fst
/-- The primaries among them. -/
def State.primaries (s : State) : List Nat := s.taskPanes.filter (fun p => s.fv 2 4 p 0 == 0)
/-- The copies of a task, by their references: the primary, and its twin and third copy, on this part or another (R456, R460). -/
def State.copyRefs (s : State) (p : Nat) : List Nat := [s.refOf p, s.fv 2 5 p 0, s.fv 2 6 p 0].filter (fun r => r != 0xFFFF)
/-- The spare of a task. -/
def State.spareOf (s : State) (p : Nat) : Option Nat := s.mine (s.fv 2 7 p 0)

/-- Two panes, by their references, lie in different sashes and on different hinges (R29), as panes of two parts do. -/
def apart (p q : Nat) : Bool :=
  p / 1024 != q / 1024 || (sashOf (p % 1024) != sashOf (q % 1024) && colOf (p % 1024) != colOf (q % 1024))

/-- The bay of a pane reference, with its part. -/
def bayRef (r : Nat) : Nat := r / 1024 * 8 + bayOf (r % 1024)

/-- Panes that a placement of R29 or R30 allows together: pairwise apart, and three of them across two bays. -/
def placed (l : List Nat) : Bool :=
  l.zipIdx.all (fun x => (l.take x.2).all (apart x.1)) &&
    (decide (l.length < 3) || l.any (fun p => bayRef p != bayRef (l.headD 0)))

/-! Routes (R91, R129, R130, R542). -/

/-- The numbers from a to b. -/
def span (a b : Nat) : List Nat :=
  if a ≤ b then (List.range (b - a + 1)).map (fun i => a + i) else (List.range (a - b + 1)).map (fun i => a - i)

/-- The routers of the VN0 route, in order: X first (R91). -/
def vn0Route (a b : Nat) : List Nat :=
  (span (colOf a) (colOf b)).map (fun x => rowOf a * 32 + x) ++ (span (rowOf a) (rowOf b)).tail.map (fun y => y * 32 + colOf b)

/-- The routers of the VN1 route, in order: Y first. -/
def vn1Route (a b : Nat) : List Nat :=
  (span (rowOf a) (rowOf b)).map (fun y => y * 32 + colOf a) ++ (span (colOf a) (colOf b)).tail.map (fun x => rowOf b * 32 + x)

/-- The link on the fault-free path from a pane to part `dev` (R542). -/
def State.planLink (s : State) (pane dev : Nat) : Option Nat :=
  match s.waysTo dev with
  | l :: _ => if pane % 2 = 0 then l.head? else l.getLast?
  | [] => none

/-- Where a post address leaves the mesh of this part: the receiving pane, the drive entry, or the entry router of the
exit link. -/
def State.planEnd (s : State) (p d : Nat) : Option Nat :=
  if bitsOf d 16 3 ≠ s.imgPart then (s.planLink p (bitsOf d 16 3)).map linkRouter
  else if bitsOf d 19 1 = 1 then some (driveRouter (bitsOf d 12 1) (bitsOf d 15 1))
  else some (bitsOf d 6 10)

/-- The valid outgoing entries of a pane: entry and DEST. -/
def State.outsOf (s : State) (p : Nat) : List (Nat × Nat) :=
  ((s.flagged 4 5).filter (fun k => k.1 == p)).map (fun k => (k.2, s.fv 4 1 p k.2))

/-- DEST without ENTRY of a drive post, which is the same DEST for R129. -/
def destKey (d : Nat) : Nat := if bitsOf d 19 1 = 1 then d - bitsOf d 15 1 * 32768 else d

/-- The receiving pane of an address, where it is one of this part. -/
def State.receiver (s : State) (d : Nat) : Option Nat :=
  if bitsOf d 19 1 = 0 ∧ bitsOf d 16 3 = s.imgPart then some (bitsOf d 6 10) else none

/-- The link by which a post from a pane comes to part `dev` on the fault-free path (R534, R542). -/
def State.landingLink (s : State) (pane dev : Nat) : Option Nat :=
  (s.planLink pane dev).map (fun k =>
    if s.fv 0x17 3 0 0 = 1 then s.fv 0x17 0x12 0 k
    else if s.fv 0x17 3 0 0 = 3 ∧ s.imgPart / 4 ≠ dev / 4 then 4 + pane % 2
    else [2, 3, 0, 1, 4, 5].getD k 0)

/-- The routers of an entry's fault-free route, as references: on this part, and on the destination part from the entry router of
the link to the receiving pane or the drive entry (R91, R130, R542). -/
def State.routeOf (s : State) (a d : Nat) : List Nat :=
  let dev := bitsOf d 16 3
  match s.planEnd a d with
  | none => []
  | some e =>
    (vn0Route a e).map s.refOf ++
      (if dev = s.imgPart then []
       else match s.landingLink a dev with
         | none => []
         | some k =>
           (vn0Route (linkRouter k)
             (if bitsOf d 19 1 = 1 then driveRouter (bitsOf d 12 1) (bitsOf d 15 1) else bitsOf d 6 10)).map
             (fun r => dev * 1024 + r))

/-- The routes from `a` and `b` to the ends of addresses `da` and `db`, of the same DEST, share a router that R129 forbids. -/
def State.routesMeet (s : State) (a da b db : Nat) : Bool :=
  let stop := bitsOf da 16 3 * 1024 + bitsOf da 6 10
  let other := s.routeOf b db
  (s.routeOf a da).any (fun r => other.contains r && r != s.refOf a && r != s.refOf b && (bitsOf da 19 1 == 1 || r != stop))

/-- The entries of the first of two copies whose route meets that of a partner in the other (R129), one for each pair that does,
with the pane whose entries they are. A copy is its pane and the pane whose outgoing entries it has. -/
def State.pairClash (s : State) (x y : Nat × Nat) : List (Nat × Nat × Nat) :=
  (s.outsOf x.2).flatMap (fun e =>
    ((s.outsOf y.2).filter (fun f => destKey e.2 == destKey f.2 && s.routesMeet x.1 e.2 y.1 f.2)).map (fun _ => (x.2, e)))

/-- Every clash of two copies. -/
def State.copyClash (s : State) (l : List Nat) : List (Nat × Nat × Nat) :=
  l.zipIdx.flatMap (fun x => (l.take x.2).flatMap (fun y => s.pairClash (y, y) (x.1, x.1)))

/-- Every clash of a spare in the place of copy k with another copy (R134). -/
def State.spareClash (s : State) (l : List Nat) (x k : Nat) : List (Nat × Nat × Nat) :=
  (l.eraseIdx k).flatMap (fun c => s.pairClash (x, l.getD k 0) (c, c))

/-- Record every clash of routes. -/
def State.clashes9 (s : State) (l : List (Nat × Nat × Nat)) : State :=
  l.foldl (fun s c => s.told9 3 8 4 1 c.1 c.2.1) s

/-! Check 1: placement (R29 to R31, R129, R134), reason 8. -/

/-- Check 1 on the task of primary p: the placement of its copies, wherever they lie, the routes of those on this part, whose
entries this image holds, and the same with the spare in each copy's place. The second subject is 1 for the twin, 2 for the third
copy, 3 for the spare. -/
def State.check1 (s : State) (p : Nat) : State :=
  let cs := s.copyRefs p
  let twin := s.fv 2 5 p 0
  let third := s.fv 2 6 p 0
  let spare := s.fv 2 7 p 0
  let note := fun (s : State) fld sub => s.rec9 3 8 2 fld p sub (s.rawOf 2 fld p 0) (s.fv 2 fld p 0)
  let s1 := if twin = 0xFFFF ∨ apart (s.refOf p) twin then s else note s 5 1
  let s2 := if third = 0xFFFF ∨ (apart (s.refOf p) third ∧ (twin = 0xFFFF ∨ (apart twin third ∧
    cs.any (fun c => bayRef c != bayRef (s.refOf p))))) then s1 else note s1 6 2
  let here := cs.filterMap s.mine
  let s3 := s2.clashes9 (s.copyClash here)
  if spare = 0xFFFF ∨ cs.length < 2 then s3
  else
    let s4 := if (List.range cs.length).all (fun k => placed (cs.set k spare)) then s3 else note s3 7 3
    match s.mine spare with
    | none => s4
    | some x => s4.clashes9 ((List.range here.length).flatMap (s.spareClash here x))

/-! Check 2: one code image (R133, R466), reason 8. -/

/-- The valid regions of a pane with an attribute bit of `m`, as first byte and end. -/
def State.regionsWith (s : State) (p m : Nat) : List (Nat × Nat) :=
  ((List.range 8).filter (fun n => s.fv 7 4 p n == 1 && s.fv 7 3 p n &&& m != 0)).map (fun n =>
    (s.fv 7 1 p n * 256, s.fv 7 2 p n * 256 + 256))

/-- The 256-byte blocks of its X regions. -/
def State.xBlocks (s : State) (p : Nat) : List Nat :=
  (List.range 224).filter (fun k => (s.regionsWith p 1).any (fun r => decide (r.1 ≤ 256 * k) && decide (256 * k < r.2)))

/-- Every byte from `a` up to `b` lies in one of the ranges. -/
def covers : Nat → List (Nat × Nat) → Nat → Nat → Bool
  | 0, _, a, b => decide (b ≤ a)
  | n + 1, l, a, b =>
    decide (b ≤ a) || match l.find? (fun r => decide (r.1 ≤ a) && decide (a < r.2)) with
      | some r => covers n l r.2 b
      | none => false

/-- Two panes share one code image (R466). -/
def State.shareCode (s : State) (loads : List LoadBlob) (p q : Nat) : Bool :=
  let bs := s.xBlocks p
  let spans := ((loads.filter (fun l => l.panes.contains p && l.panes.contains q)).map (fun l => (l.addr, l.fin)))
  bs == s.xBlocks q &&
    loads.all (fun l => l.panes.contains p == l.panes.contains q || bs.all (fun k => !meets l.addr l.data.length (256 * k) 256)) &&
    bs.all (fun k => covers (spans.length + 1) spans (256 * k) (256 * k + 256))

/-- Check 2 on the task of primary p. -/
def State.check2 (loads : List LoadBlob) (s : State) (p : Nat) : State :=
  match s.spareOf p with
  | some x => if s.shareCode loads p x then s else s.refused9 8 2 7 p 0
  | none => s

/-- Check 3: SHADOW on a task with no twin (R78). -/
def State.check3 (s : State) (p : Nat) : State :=
  if s.fv 2 3 p 0 = 1 ∧ s.fv 2 5 p 0 = 0xFFFF then s.load9 1 12 2 3 p 0 0 else s

/-! Roles (R460, R538). -/

/-- A named pane of this part has the role, and as a copy a task of the primary's class. -/
def State.checkRole (s : State) (p fld role : Nat) : State :=
  match s.mine (s.fv 2 fld p 0) with
  | none => s
  | some c =>
    let s1 := if s.fv 2 4 c 0 = role then s else s.refused9 12 2 fld p 0
    if role = 3 ∨ (s.fv 2 1 c 0 = 1 ∧ s.fv 2 2 c 0 = s.fv 2 2 p 0) then s1 else s1.refused9 12 2 fld p 0

/-- The panes with ROLE 0 that name a copy or a spare (R460). -/
def State.namers (s : State) : List Nat :=
  let l := ((s.given 2 5) ++ (s.given 2 6) ++ (s.given 2 7)).map Prod.fst
  (List.range 1024).filter (fun p => l.contains p && s.fv 2 4 p 0 == 0)

/-- R460 on pane p with ROLE 0. -/
def State.check460 (s : State) (p : Nat) : State :=
  let s1 := ((s.checkRole p 5 1).checkRole p 6 2).checkRole p 7 3
  if s.fv 2 7 p 0 ≠ 0xFFFF ∧ s.fv 2 0xA p 0 + s.fv 2 0xB p 0 > 0xE000 then s1.refused9 12 2 0xA p 0 else s1

/-- A pane with ROLE 3 runs no task yet. -/
def State.spareIdle (s : State) (p : Nat) : State := if s.fv 2 4 p 0 = 3 then s.load9 0 0 2 1 p 0 0 else s

/-- References to parts at or above PARTS (R538), field by field. -/
def State.checkRefs (s : State) : State :=
  (schema.filter (fun f => f.rng == .paneRef)).foldl (fun s f =>
    (s.given f.sec f.id).foldl (fun s k =>
      let v := s.fv f.sec f.id k.1 k.2
      if v ≠ 0xFFFF ∧ v / 1024 ≥ s.imgParts then s.refused9 12 f.sec f.id k.1 k.2 else s) s) s

/-! Channels (R130, R462). -/

/-- The policy of a pane that a reference names: none on another part, whose image this part does not hold. -/
def State.policyOf (s : State) (r : Nat) : Option Nat :=
  if r = 0xFFFF then some 0 else (s.mine r).map (fun p => s.fv 2 3 p 0)

/-- The source a channel of ORIGIN 1 or 2 takes: its entry router. -/
def State.entryRouter (s : State) (p origin : Nat) : Nat := s.refOf (if origin = 1 then rowOf p * 32 else 0)

/-- One of SRC and TWIN_SRC of a channel of ORIGIN 1 or 2. -/
def State.deriveSrc (s : State) (fld p c v : Nat) : State :=
  if (s.given 4 fld).contains (p, c) then s.load9 0 0 4 fld p c v else s.setF 4 fld p c v

/-- The derived fields of valid incoming channel c of pane p. THIRD is kept under the model's own identifier 0x30. -/
def State.derive (s : State) (p c : Nat) : State :=
  let o := s.fv 4 0x15 p c
  if o ≠ 0 then
    let e := s.entryRouter p o
    ((((s.deriveSrc 0x16 p c e).deriveSrc 0x17 p c e).setF 4 0x14 p c 0).setF 4 0x30 p c 0)
  else
    match s.policyOf (s.fv 4 0x16 p c) with
    | none => s.setF 4 0x30 p c (s.fv 4 0x14 p c == 1 && s.fv 4 0x1B p c != 0xFFFF).toNat
    | some pol =>
      let sh := (pol == 1).toNat
      let s1 := if s.fv 4 0x14 p c = sh then s else s.load9 1 12 4 0x14 p c sh
      let third := match s.mine (s.fv 4 0x16 p c) with
        | some q => if s.fv 2 4 q 0 = 0 then s.fv 2 6 q 0 else 0xFFFF
        | none => 0xFFFF
      if pol = 1 ∧ third ≠ 0xFFFF then
        let s2 := s1.setF 4 0x30 p c 1
        if s.fv 4 0x1B p c = third then s2 else s2.refused9 12 4 0x1B p c
      else s1.setF 4 0x30 p c 0

/-- The entry's address is one REDUCE uses: its pane has a rank in the group, whose root the address names (R247). What PANE
holds in the address of a REDUCE the spec does not say (DESIGN CHOICE, log 124). -/
def State.isReduceEntry (s : State) (p d : Nat) : Bool :=
  let g := d % 64
  decide (g < 16) && s.fv 5 1 g 0 == 1 && s.fv 5 5 g 0 == bitsOf d 6 10 && (s.rankOf g p).isSome

/-- Outgoing entry n of pane p against the channel it names (R462). An entry of a REDUCE names a group in CHAN, and needs no
channel; where a channel of that number takes its sender, it is checked as every other (DESIGN CHOICE, log 94). -/
def State.checkOut (s : State) (p n : Nat) : State :=
  let d := s.fv 4 1 p n
  if bitsOf d 19 1 = 1 ∨ bitsOf d 16 3 ≠ s.imgPart then s
  else
    let r := bitsOf d 6 10
    let c := d % 64
    let me := s.refOf p
    let named := s.fv 4 0x16 r c = me ∨ s.fv 4 0x17 r c = me ∨ (s.field 4 0x30 r c 0 = 1 ∧ s.fv 4 0x1B r c = me)
    if s.fv 4 0x18 r c ≠ 1 ∨ ¬ named then (if s.isReduceEntry p d then s else s.refused9 12 4 1 p n)
    else
      let s1 := if s.fv 4 2 p n = max (s.fv 2 2 p 0) (s.fv 4 0x13 r c) then s else s.refused9 12 4 2 p n
      if s.fv 4 3 p n > s.fv 4 0x11 r c then s1.refused9 9 4 3 p n else s1

/-- Contributors and ranks of group g: a pane named at two ranks, a copy of a named task counting at its task's (R463). -/
def State.checkGroup (s : State) (g : Nat) : State :=
  let named := (List.range 64).filter (fun r => s.contributor g r != 0xFFFF)
  let copyAt := fun (c : Nat) => named.any (fun r => match s.mine (s.contributor g r) with
    | some q => s.fv 2 4 q 0 == 0 && (s.fv 2 5 q 0 == c || s.fv 2 6 q 0 == c)
    | none => false)
  named.foldl (fun s' r =>
    let c := s.contributor g r
    if named.any (fun q => decide (q < r) && s.contributor g q == c) || copyAt c then s'.refused9 12 5 0x10 g r else s') s

/-- The checks between checks 3 and 4. -/
def State.checkBetween (s : State) : State :=
  let s1 := s.namers.foldl State.check460 s
  let s2 := (s1.taskPanes.foldl State.spareIdle s1).checkRefs
  let s3 := (s2.flagged 4 0x18).foldl (fun s k => s.derive k.1 k.2) s2
  let s4 := (s3.flagged 4 5).foldl (fun s k => s.checkOut k.1 k.2) s3
  ((s4.given 5 0x10).map Prod.fst).eraseDups.foldl State.checkGroup s4

/-! Check 4: inbox regions, local regions, gates, queues (R102, R164, R269, R317). -/

/-- The inbox regions of channel c: field of the base, and the base. -/
def State.inboxRegions (s : State) (p c : Nat) : List (Nat × Nat) :=
  [(0x10, s.fv 4 0x10 p c)] ++ (if s.fv 4 0x14 p c = 1 then [(0x12, s.fv 4 0x12 p c)] else []) ++
    (if s.field 4 0x30 p c 0 = 1 then [(0x1A, s.fv 4 0x1A p c)] else [])

/-- R102 on pane p, whose valid channels are `cs`: each region that leaves words 0 to 991 or overlaps an earlier one. -/
def State.checkInbox (s : State) (p : Nat) (cs : List Nat) : State :=
  let l := cs.flatMap (fun c => (s.inboxRegions p c).map (fun r => (c, r.1, r.2, s.fv 4 0x11 p c + 1)))
  l.zipIdx.foldl (fun s' x =>
    let r := x.1
    if r.2.2.1 + r.2.2.2 > 992 || (l.take x.2).any (fun e => meets r.2.2.1 r.2.2.2 e.2.2.1 e.2.2.2) then
      s'.refused9 9 4 r.2.1 p r.1
    else s') s

/-- R164 on descriptor n of pane p. -/
def State.checkRegion (s : State) (p n : Nat) : State :=
  if s.fv 7 1 p n > s.fv 7 2 p n then
    (s.loadF 7 4 p n 0).told9 2 9 7 1 p n
  else
    let at' := s.fv 7 3 p n
    let s1 := (List.range n).foldl (fun s' m =>
      if s.fv 7 4 p m = 1 ∧ s.fv 7 1 p m ≤ s.fv 7 2 p n ∧ s.fv 7 1 p n ≤ s.fv 7 2 p m then
        s'.rec9 3 9 7 1 p m n n else s') s
    let s2 := if at' % 2 = 1 ∧ at' &&& 0x14 ≠ 0 then s1.load9 1 9 7 3 p n (at' - (at' &&& 0x14)) else s1
    if at' % 2 = 1 ∧ at' &&& 0x20 ≠ 0 then s2.refused9 9 7 3 p n else s2

/-- The word at `a` lies in an X region of pane p. -/
def State.inX (s : State) (p a : Nat) : Bool :=
  (s.regionsWith p 1).any (fun r => decide (r.1 ≤ a) && decide (a + 4 ≤ r.2))

/-- R269 on descriptor n of pane p. -/
def State.checkGate (s : State) (p n : Nat) : State :=
  let s1 := if s.inX p (s.fv 8 1 p n) then s else s.refused9 9 8 1 p n
  let s2 := if (n ≤ 8 ∨ n = 16) ∧ s.fv 8 3 p n ≥ 2 then s1.load9 1 12 8 3 p n 1 else s1
  let s3 := if 9 ≤ n ∧ n ≤ 15 then s2.load9 2 12 8 6 p n 0 else s2
  let call := s3.fv 8 5 p n
  let keep := call / 2 ^ s3.fv 8 3 p n * 2 ^ s3.fv 8 3 p n
  let s4 := if keep = call then s3 else s3.load9 1 12 8 5 p n keep
  if n ≤ 16 ∧ call ≠ 0 then s4.load9 0 0 8 5 p n 0 else s4

/-- The numbers 0 to 8 and 16 that have no valid descriptor on pane p, as a mask. -/
def State.missingGates (s : State) (p : Nat) : Nat :=
  (((List.range 9) ++ [16]).filter (fun n => s.fv 8 6 p n != 1)).foldl (fun m n => m + 2 ^ n) 0

/-- A task's pane: TICK_ENTRY in an X region, and the gates an entry needs. -/
def State.checkTask (s : State) (p : Nat) : State :=
  if s.inX p (s.fv 2 8 p 0) then s else s.refused9 9 2 8 p 0

/-- The NOTE on missing descriptors. -/
def State.noteGates (s : State) (p : Nat) : State :=
  if s.missingGates p = 0 then s else s.rec9 0 0 8 0xFFFF p 0 (s.missingGates p) 0

/-- R317 on the event queue of pane p. -/
def State.checkQueue (s : State) (p : Nat) : State :=
  let a := 16 * s.fv 9 2 p 0
  let n := 16 * 2 ^ s.fv 9 1 p 0
  if s.fv 9 1 p 0 = 0 then s
  else
    let s1 := if a + n > 0xE000 then s.refused9 9 9 2 p 0 else s
    (List.range 8).foldl (fun s' k =>
      if s.fv 7 4 p k = 1 ∧ s.fv 7 3 p k &&& 0x35 ≠ 0 ∧
          meets a n (s.fv 7 1 p k * 256) ((s.fv 7 2 p k + 1 - s.fv 7 1 p k) * 256) then
        s'.rec9 3 9 9 2 p k (s.fv 9 2 p 0) (s.fv 9 2 p 0) else s') s1

/-- R317 on group j of the bell of sash k. -/
def State.checkTargets (s : State) (k j : Nat) : State :=
  let t := s.fv 0xA 4 k j
  let bits := (List.range 16).filter (fun n => t.testBit n)
  let live := bits.filter (fun n => s.fv 9 1 (paneOfSash k n) 0 != 0)
  let s1 := if live.length = bits.length then s else s.load9 1 12 0xA 4 k j (live.foldl (fun m n => m + 2 ^ n) 0)
  let s2 := live.foldl (fun s n =>
    if s.fv 8 6 (paneOfSash k n) 16 = 1 then s else s.rec9 0 0 0xA 4 k j (paneOfSash k n) (paneOfSash k n)) s1
  if live.isEmpty && s.fv 0xA 5 k 0 / 2 ^ (8 * j) % 256 != 0 then s2.rec9 0 0 0xA 5 k j (s.fv 0xA 5 k 0) (s.fv 0xA 5 k 0) else s2

/-- Distinct first subjects, in order. -/
def firsts (l : List (Nat × Nat)) : List Nat := (l.map Prod.fst).eraseDups

/-- Check 4. -/
def State.check4 (s : State) : State :=
  let ch := s.flagged 4 0x18
  let s1 := (firsts ch).foldl (fun s p => s.checkInbox p ((ch.filter (fun k => k.1 == p)).map Prod.snd)) s
  let s2 := (s1.flagged 7 4).foldl (fun s k => s.checkRegion k.1 k.2) s1
  let s3 := s2.taskPanes.foldl State.checkTask s2
  let s4 := (s3.flagged 8 6).foldl (fun s k => s.checkGate k.1 k.2) s3
  let s5 := s4.taskPanes.foldl State.noteGates s4
  let s6 := ((s5.given 9 1).map Prod.fst).foldl State.checkQueue s5
  (List.range 64).foldl (fun s k => (List.range 8).foldl (fun s j => s.checkTargets k j) s) s6

/-! Check 5: drive credits, slot sources and mirrors (R344, R352, R471), reason 12. -/

/-- The lane of a drive slot is enabled, and its slot lies below the group's SLOTS. -/
def State.slotOnLane (s : State) (d : Nat) : Bool :=
  (s.fv 0xD 4 (d / 64) 0).testBit (d / 8 % 8) && decide (d % 8 < s.fv 0xD 2 (d / 64) 0)

/-- The sources COPIES names. -/
def State.slotSources (s : State) (d : Nat) : List Nat :=
  (List.range (s.fv 0xD 0x11 d 0 + 1)).map (fun k => s.fv 0xD (0x13 + k) d 0)

/-- R471 on a valid slot. -/
def State.checkSlot (s : State) (d : Nat) : State :=
  if s.slotOnLane d && (s.slotSources d).all (fun r => r != 0xFFFF) then s else s.refused9 12 0xD 0x10 d 0

/-- R344 on an outgoing entry with D = 1 to a slot of this part. -/
def State.checkDrive (s : State) (p n : Nat) : State :=
  let d := s.fv 4 1 p n
  if bitsOf d 19 1 = 0 then s
  else
    let k := bitsOf d 6 7
    let s1 := if s.fv 4 3 p n = 1 then s else s.load9 1 12 4 3 p n 1
    if bitsOf d 16 3 ≠ s.imgPart then s1
    else
      let s2 := if s.fv 4 2 p n = s.fv 0xD 0x12 k 0 then s1 else s1.refused9 12 4 2 p n
      if (s.slotSources k).contains (s.refOf p) then s2 else s2.refused9 12 4 1 p n

/-- R352 on a mirrored slot; `ms` are the mirrored slots. -/
def State.checkMirror (s : State) (ms : List Nat) (d : Nat) : State :=
  let t := s.fv 0xD 0x16 d 0
  let good := s.fv 0xD 0x10 t 0 != 1 && ms.all (fun e => e == d || s.fv 0xD 0x16 e 0 != t) && s.fv 0xD 1 (t / 64) 0 == 1 &&
    s.slotOnLane t && t / 8 != d / 8
  if good then s else s.refused9 12 0xD 0x16 d 0

/-- Check 5. -/
def State.check5 (s : State) : State :=
  let s1 := ((s.flagged 0xD 0x10).map Prod.fst).foldl State.checkSlot s
  let s2 := (s1.flagged 4 5).foldl (fun s k => s.checkDrive k.1 k.2) s1
  let ms := (s2.flagged 0xD 0x17).map Prod.fst
  ms.foldl (fun s d => s.checkMirror ms d) s2

end Sys2Proof.Machine
end

