-- ==== Sys2Proof/Machine/Budget.lean ====
section
/-!
DEFINITION. Stage 9 of the start sequence: checks 6 to 12 of R432, and the start checks of power, network and board
(R527, R553, R581).
-/
namespace Sys2Proof.Machine

/-! The shortest period (R50). -/

/-- The shortest T0 period, in units of 2^-32 ns / 10,000, exactly (R50). -/
def State.shortest (s : State) : Nat := s.fv 1 4 0 0 * 9998 - 20000 * 4294967296

/-- The denominator of those units. -/
def shortDen : Nat := 10000 * 4294967296

/-- A fraction a / b of the usable T0 time with a guard, rounded down (R58, R122, R544). -/
def State.usablePart (s : State) (guard a b : Nat) : Nat := (s.shortest - guard * shortDen) * a / (b * shortDen)

/-- The guard of the image (R57). -/
def State.imgGuard (s : State) : Nat := if s.crossPart then 700 else 400

/-! Check 6: drive frames (R341), reason 10. -/

/-- The bit clock period of a RATE code, in ps (R339). -/
def bitPs : Nat → Nat
  | 0 => 40000
  | 1 => 20000
  | 2 => 10000
  | 3 => 8000
  | 4 => 5000
  | _ => 4000

/-- R341 on a group. -/
def State.check6 (s : State) (g : Nat) : State :=
  let ps := (3 + 32 * s.fv 0xD 2 g 0 + 1) * bitPs (s.fv 0xD 3 g 0)
  if ps * shortDen > s.shortest * 1000 then
    s.rec9 3 10 0xD 2 g 0 (ps / 1000) (s.shortest / shortDen) else s

/-! Check 7: distribution streams (R338), reason 9. -/

/-- R338 on stream n of bay b, FRAMES apart, which stage 7 judges. -/
def State.check7 (s : State) (b n : Nat) : State :=
  let f := fun k => s.fv 0xC k b n
  let s1 := if f 5 + f 6 > s.fv 0xB 2 (f 3) 0 then s.refused9 9 0xC 5 b n else s
  if s.fv 0xB 1 (f 3) 0 ≠ 1 ∨ s.fv 0xB 0x10 (f 3) (f 4) ≠ 1 then
    (s1.loadF 0xC 9 b n 0).told9 2 12 0xC 4 b n
  else
    let s2 := if bayOf (f 1) = b then s1 else s1.refused9 9 0xC 1 b n
    let s3 := if s.fv 4 0x18 (f 1) (f 2) = 1 ∧ s.fv 4 0x15 (f 1) (f 2) = 1 ∧ s.fv 4 0x13 (f 1) (f 2) = f 8 then s2
              else s2.refused9 9 0xC 2 b n
    if s.fv 4 0x11 (f 1) (f 2) < f 7 * f 6 then s3.refused9 9 4 0x11 (f 1) (f 2) else s3

/-! Check 8: flits per link direction (R121, R122, R138, R544), reason 10. -/

/-- Loads by link direction: router * 16 + port. Ports out: 0 to the pane, 1 north, 2 south, 3 east, 4 west; in from an
edge 6 to 9; in from the pane 5. -/
abbrev Loads := SMap Nat

/-- Add `f` flits to a key. -/
def Loads.add (m : Loads) (k f : Nat) : Loads := SMap.put m k (SMap.get (fun _ => 0) m k + f)

/-- The port of router `a` toward neighbour `b`. -/
def portTo (a b : Nat) : Nat := if b + 32 = a then 1 else if b = a + 32 then 2 else if b = a + 1 then 3 else 4

/-- Add `f` flits along the routers of a route. -/
def Loads.along (f : Nat) : Loads → List Nat → Loads
  | m, a :: b :: r => Loads.along f (m.add (a * 16 + portTo a b) f) (b :: r)
  | m, _ => m

/-- The edge port at which a unit meets the mesh at a router (R130, R533): its outward port. -/
def edgePort (r : Nat) : Nat := if colOf r = 31 then 3 else if colOf r = 0 then 4 else if rowOf r = 0 then 1 else 2

/-- One end of a path: a pane at a router, or a unit at an edge port. -/
structure PathEnd where
  router : Nat
  port : Option Nat
  deriving DecidableEq, Repr

/-- Flits into the mesh at an end. -/
def Loads.enter (m : Loads) (e : PathEnd) (f : Nat) : Loads :=
  m.add (e.router * 16 + (match e.port with
    | some p => p + 5
    | none => 5)) f

/-- Flits out of the mesh at an end. -/
def Loads.exit (m : Loads) (e : PathEnd) (f : Nat) : Loads := m.add (e.router * 16 + e.port.getD 0) f

/-- `f` flits from a to b and `acks` back, each on the routes `way` gives (R92, R97, R121). -/
def Loads.flow (m : Loads) (way : Nat → Nat → List Nat) (a b : PathEnd) (f acks : Nat) : Loads :=
  let m1 := ((m.enter a f).along f (way a.router b.router)).exit b f
  ((m1.enter b acks).along acks (way b.router a.router)).exit a acks

/-- A pane as an end. -/
def paneEnd (p : Nat) : PathEnd := { router := p, port := none }
/-- A drive entry, a link entry or a west port as an end. -/
def edgeEnd (r p : Nat) : PathEnd := { router := r, port := some p }

/-- Outgoing entry n of pane p. A reduction entry counts with its group. -/
def State.loadOfEntry (s : State) (m : Loads) (p n : Nat) : Loads :=
  let d := s.fv 4 1 p n
  let k := s.fv 4 4 p n
  let f := flitsOf (s.fv 4 3 p n) k
  if s.isReduceEntry p d then m
  else match s.planEnd p d with
    | none => m
    | some e =>
      let stop := match s.receiver d with
        | some r => paneEnd r
        | none => edgeEnd e (edgePort e)
      m.flow vn0Route (paneEnd p) stop f k

/-- Contributions of group g: every named pane of this part and its copies, to the root. -/
def State.loadOfGroup (s : State) (m : Loads) (g : Nat) : Loads :=
  ((List.range 1024).filter (fun p => (s.rankOf g p).isSome)).foldl (fun m p =>
    m.flow vn0Route (paneEnd p) (paneEnd (s.fv 5 5 g 0)) 2 1) m

/-- A distribution stream: one message a frame. -/
def State.loadOfStream (s : State) (m : Loads) (b n : Nat) : Loads :=
  let p := s.fv 0xC 1 b n
  let k := s.fv 0xC 7 b n
  m.flow vn0Route (edgeEnd (westRouter p) 4) (paneEnd p) (flitsOf (k * s.fv 0xC 6 b n) k) k

/-- An incoming channel that no entry of this part shows: one from another part, its credit counted as its SIZE, and a FEED
channel of the lintel, two words in one message. -/
def State.loadOfChannel (s : State) (m : Loads) (p c : Nat) : Loads :=
  let src := s.fv 4 0x16 p c
  let n := s.fv 4 0x11 p c
  if s.fv 4 0x15 p c = 2 ∧ s.fv 4 0x19 p c ≠ 0 then m.flow vn0Route (edgeEnd 0 1) (paneEnd p) (flitsOf 2 1) 1
  else if s.fv 4 0x15 p c = 0 ∧ src ≠ 0xFFFF ∧ src / 1024 ≠ s.imgPart then
    match s.planLink (src % 1024) (src / 1024) with
    | some k => m.flow vn0Route (edgeEnd (linkRouter k) (edgePort (linkRouter k))) (paneEnd p) (flitsOf n n) n
    | none => m
  else m

/-- The state copy of a task with a spare and a twin, on VN1 (R92, R138). -/
def State.loadOfCopy (s : State) (m : Loads) (p : Nat) : Loads :=
  match s.spareOf p, s.mine (s.fv 2 5 p 0) with
  | some x, some t =>
    let c := (s.fv 2 0xB p 0 + 3) / 4
    let k := (c + 63) / 64
    if c = 0 then m else m.flow vn1Route (paneEnd t) (paneEnd x) (flitsOf c k) k
  | _, _ => m

/-- Every load of the image on the mesh. -/
def State.meshLoads (s : State) : Loads :=
  let m1 := (s.flagged 4 5).foldl (fun m k => s.loadOfEntry m k.1 k.2) []
  let m2 := ((s.flagged 5 1).map Prod.fst).foldl s.loadOfGroup m1
  let m3 := (s.flagged 0xC 9).foldl (fun m k => s.loadOfStream m k.1 k.2) m2
  let m4 := (s.flagged 4 0x18).foldl (fun m k => s.loadOfChannel m k.1 k.2) m3
  s.primaries.foldl s.loadOfCopy m4

/-- The direction a record names: 0 local, 1 north, 2 south, 3 east, 4 west. -/
def dirOf (port : Nat) : Nat := if port = 5 then 0 else if port > 5 then port - 5 else port

/-- R122 over every link direction and local port. -/
def State.checkMesh (s : State) : State :=
  let lim := s.usablePart s.imgGuard 54 100
  s.meshLoads.foldl (fun s e =>
    if e.2 > lim then
      s.clamp { fieldAct 9 3 10 0 0xFFFF (e.1 / 16) (dirOf (e.1 % 16)) e.2 lim with crit := false } else s) s

/-- Flits out of and into the part by each wicket link (R544): link * 2 and link * 2 + 1. -/
def State.linkLoads (s : State) : Loads :=
  let m1 := (s.flagged 4 5).foldl (fun (m : Loads) k =>
    let d := s.fv 4 1 k.1 k.2
    if bitsOf d 16 3 = s.imgPart ∨ s.isReduceEntry k.1 d then m
    else match s.planLink k.1 (bitsOf d 16 3) with
      | some l => (m.add (2 * l) (flitsOf (s.fv 4 3 k.1 k.2) (s.fv 4 4 k.1 k.2))).add (2 * l + 1) (s.fv 4 4 k.1 k.2)
      | none => m) []
  (s.flagged 4 0x18).foldl (fun (m : Loads) k =>
    let src := s.fv 4 0x16 k.1 k.2
    let n := s.fv 4 0x11 k.1 k.2
    if s.fv 4 0x15 k.1 k.2 ≠ 0 ∨ src = 0xFFFF ∨ src / 1024 = s.imgPart then m
    else match s.planLink (src % 1024) (src / 1024) with
      | some l => (m.add (2 * l + 1) (flitsOf n n)).add (2 * l) n
      | none => m) m1

/-- R544. -/
def State.checkLinks (s : State) : State :=
  let lim := s.usablePart 700 804 10000
  s.linkLoads.foldl (fun s e => if e.2 > lim then s.rec9 3 10 0x17 0xFFFF 0 (e.1 / 2) e.2 lim else s) s

/-! Check 9: movers, wheels and DRAM (R398, R414). -/

/-- A bay whose wheel gives a sash or a mover no slot: the codes missing. -/
def State.wheelMissing (s : State) (sec idx n entries : Nat) : List Nat :=
  let fld := if sec = 0xF then 1 else 3
  (List.range n).filter (fun c => (List.range entries).all (fun e => s.fv sec fld idx e != c))

/-- An enabled mover of bay b, with the rings of the enabled movers below it. -/
def State.checkMover (s : State) (b m : Nat) : State :=
  let f := fun k => s.fv 0xF k b m
  let s1 := if bayOf (f 0x10) = b then s else s.refused9 9 0xF 0x10 b m
  let s2 := (List.range m).foldl (fun s' k =>
    if s.fv 0xF 0x12 b k = 1 ∧ s.fv 0xF 0x11 b k = f 0x11 then s'.rec9 3 9 0xF 0x11 b m (f 0x11) (f 0x11) else s') s1
  if !s.dramUp && decide (f 0x13 < f 0x14) then s2.refused9 13 0xF 0x14 b m else s2

/-- The DRAM range of mover m of bay b. -/
def State.checkRange (s : State) (b m : Nat) : State :=
  let usable := (s.rd (Config.dram + 8)).fld 8 8
  let s1 := if s.fv 0xF 0x14 b m > usable then s.load9 1 9 0xF 0x14 b m usable else s
  if s1.fv 0xF 0x13 b m ≥ s1.fv 0xF 0x14 b m then (s1.loadF 0xF 0x14 b m 0).load9 2 9 0xF 0x13 b m 0
  else s1

/-- Check 9. -/
def State.check9 (s : State) : State :=
  let s1 := (List.range 8).foldl (fun s b =>
    (s.wheelMissing 0xF b 12 32).foldl (fun s c => s.rec9 0 0 0xF 1 b c 0 0) s) s
  let s2 := (s1.wheelMissing 0x10 0 8 64).foldl (fun s c => s.rec9 0 0 0x10 3 0 c 0 0) s1
  let inst := (s2.rd (Config.dram + 8)).fld 0 8
  let s3 := if s2.fv 0x10 5 0 0 > inst then s2.refused9 (if !s2.dramUp then 13 else 9) 0x10 5 0 0 else s2
  let s4 := (s3.flagged 0xF 0x12).foldl (fun s k => s.checkMover k.1 k.2) s3
  (((s4.given 0xF 0x13) ++ (s4.given 0xF 0x14)).eraseDups).foldl (fun s k => s.checkRange k.1 k.2) s4

/-! Checks 10 and 11: power (R175, R433, R558, R578, R579, R581). -/

/-- Sashes with a task. -/
def State.taskSashes (s : State) : List Nat := (List.range 64).filter (fun k => s.taskPanes.any (fun p => sashOf p == k))

/-- Check 10 on a sash with a task. -/
def State.check10 (s : State) (k : Nat) : State :=
  if s.fv 0x12 0x10 k 0 ≥ 10 then s
  else
    let s1 := s.load9 1 2 0x12 0x10 k 0 10
    if s1.fv 0x12 0x11 k 0 < 10 then s1.load9 1 12 0x12 0x11 k 0 10 else s1

/-- A sash holds a spare, an event-queue target or a LOAD section (R581). -/
def State.sashHolds (s : State) (k : Nat) : Bool :=
  s.field 0 2 k 0 0 == 1 || (List.range 8).any (fun j => s.fv 0xA 4 k j != 0) || anyOfSash k (fun p => s.fv 2 4 p 0 == 3)

/-- R581 on sash k. -/
def State.checkIdle (s : State) (k : Nat) : State :=
  if s.taskSashes.contains k then (if (s.given 0x12 0x13).contains (k, 0) then s.note9 0x12 0x13 k 0 else s)
  else if s.fv 0x12 0x13 k 0 = 2 && s.sashHolds k then s.load9 1 12 0x12 0x13 k 0 1 else s

/-- The registers as stage 10 would load them, with the AJAR_LIMIT in force from READY (R578). -/
def State.trial (s : State) : State :=
  let t := s.loadAll
  t.wrFld (Config.pwr + 0xC) 8 8 (ajarLimit t.tjMax (t.fv 0x12 3 0 0 == 1))

/-- The maximum of an open domain, in units of 1/810,000 mW (R579). -/
def State.domainMax (s : State) (d : Nat) : Nat :=
  if d < 64 then 105 * (550 + 5 * s.fv 0x12 0x11 d 0) * (550 + 5 * s.fv 0x12 0x11 d 0)
  else 810000 * (if d < 72 then 100 else if d < 80 then 160 else if d < 90 then 40 else if d < 92 then 150
    else if d < 98 then 90 else if d = 98 then 1300 else if d < 101 then 60 else if d = 101 then 30
    else if d < 106 then 40 else if d = 106 then 200 else if d = 107 then 60
    else if s.fv 0x12 3 0 0 = 1 then 45 else 270)

/-- The bound of R433, in the same units. -/
def State.powerBound (s t : State) : Nat :=
  ((List.range 109).filter (fun d => t.domTarget d == .isOpen)).foldl (fun n d => n + s.domainMax d) 0

/-- Check 11, with the checks of R581 before it. -/
def State.check11 (s : State) : State :=
  let s1 := (List.range 64).foldl State.checkIdle s
  let t := s1.trial
  let low := s1.fv 0x12 3 0 0 == 1
  let s2 := if low then (((List.range 4).map (fun b => 102 + b)).filter (fun d => t.domTarget d == .shut)).foldl
      (fun s d => s.rec9 0 0 0x12 3 0 d 1 1) s1 else s1
  let s3 := if s1.powerBound t > s1.fv 0x12 1 0 0 * 810000 then s2.refused9 11 0x12 1 0 0 else s2
  let n := ((List.range 64).filter (fun k => t.domTarget k == .ajar)).length
  let lim := ajarLimit t.tjMax low
  if n > lim then s3.rec9 3 11 0x12 0x13 0 0 n lim else s3

/-! Check 12: the bolt (R389). -/

/-- R389 on a valid tap. -/
def State.checkTap (s : State) (i : Nat) : State :=
  let g := s.fv 0xE 0x10 i 0
  let s1 := if s.fv 0xE 0x12 i 0 ≥ s.fv 0xB 2 g 0 then s.refused9 12 0xE 0x12 i 0 else s
  if s.fv 0xB 1 g 0 = 1 then s1 else (s1.loadF 0xE 0x15 i 0 0).told9 2 12 0xE 0x10 i 0

/-- The bays whose engines feed a pane of this part. -/
def State.feedBays (s : State) (r : Nat) : List Nat :=
  ((s.flagged 0xC 9).filter (fun k => s.mine r == some (s.fv 0xC 1 k.1 k.2))).map Prod.fst

/-- R389 on a drive slot. -/
def State.checkDriveLimits (s : State) (d : Nat) : State :=
  if s.fv 0xD 0x10 d 0 = 1 then
    let s1 := if s.fv 0xE 0x47 d 0 = 0 then s.note9 0xE 0x47 d 0 else s
    let a := s.feedBays (s.fv 0xD 0x13 d 0)
    let b := s.feedBays (s.fv 0xD 0x14 d 0)
    if s.fv 0xD 0x11 d 0 = 1 ∧ a.any b.contains then s1.note9 0xD 0x11 d 0 else s1
  else if [0x40, 0x41, 0x42].any (fun f => s.fv 0xE f d 0 != 0) then s.note9 0xE 0x40 d 0 else s

/-- Check 12. -/
def State.check12 (s : State) : State :=
  let s1 := ((s.flagged 0xE 0x15).map Prod.fst).foldl State.checkTap s
  (List.range 128).foldl State.checkDriveLimits s1

/-! Network and knocks (R513, R527). -/

/-- R527 on a valid stream. -/
def State.checkStream (s : State) (k : Nat) : State :=
  let q := s.fv 0x15 2 k 0
  let off := fun fld => (s.loadF 0x15 1 k 0 0).told9 2 12 0x15 fld k 0
  if s.fv 0x14 1 q 0 = 0 then off 2
  else if s.strV4 k ∧ s.fv 0x14 6 q 0 = 0 then off 5
  else
    let s1 := if s.fv 0x15 7 k 0 = 1 ∧ (SMap.at? s.img (imgKey 0x13 2 0 0)).isNone then s.load9 2 12 0x15 7 k 0 0 else s
    if s.fv 2 1 (s.fv 0x15 4 k 0) 0 = 1 then s1 else s1.note9 0x15 4 k 0

/-- R527 on the PIN of knock k. -/
def State.checkPin (s : State) (k : Nat) : State :=
  let l := s.fv 0x13 5 0 k
  if l = 0xFF then s
  else if s.fv 0x18 1 l 0 ≠ 0 then s.load9 2 12 0x13 5 0 k 0xFF
  else if (List.range k).any (fun j => s.fv 0x13 5 0 j == l) then s.note9 0x13 5 0 k else s

/-- The intervals of port q's gate list, up to the first that is zero (R513). -/
def State.gclIntervals (s : State) (q : Nat) : List Nat :=
  ((List.range 64).map (fun e => s.fv 0x14 0x10 q e / 256)).takeWhile (fun v => v != 0)

/-- The NOTE on a gate list whose intervals do not sum to the cycle. -/
def State.checkGcl (s : State) (q : Nat) : State :=
  let l := s.gclIntervals q
  let n := l.foldl (· + ·) 0
  if s.fv 0x14 0xA q 0 ≠ 0 ∧ l ≠ [] ∧ n ≠ s.fv 0x14 0xA q 0 then s.rec9 0 0 0x14 0x10 q 0 n (s.fv 0x14 0xA q 0) else s

/-- The checks of R527. -/
def State.checkNet (s : State) : State :=
  let s1 := ((s.flagged 0x15 1).map Prod.fst).foldl State.checkStream s
  (List.range 2).foldl State.checkGcl ((List.range 7).foldl State.checkPin s1)

/-! The board (R534, R545, R553). -/

/-- TOPOLOGY suits PARTS (R534). -/
def topologyFits (t n : Nat) : Bool :=
  match t with
  | 0 => n == 1
  | 1 => n == 2
  | 2 => decide (3 ≤ n)
  | _ => n == 8

/-- The peer of link k and the peer's links that may answer it; none for a link the topology does not use (R534). -/
def State.linkRole (s : State) (k : Nat) : Option (Nat × List Nat) :=
  let p := s.imgPart
  let n := s.imgParts
  let other := [2, 3, 0, 1, 4, 5].getD k 0
  match s.fv 0x17 3 0 0 with
  | 0 => none
  | 1 => some (1 - p, [0, 1, 2, 3, 4, 5])
  | 2 => if k < 2 then some ((p + 1) % n, [other]) else if k < 4 then some ((p + n - 1) % n, [other]) else none
  | _ =>
    let r := p / 4
    let c := p % 4
    if k < 2 then some (4 * r + (c + 1) % 4, [other]) else if k < 4 then some (4 * r + (c + 3) % 4, [other])
    else some (4 * (1 - r) + c, [other])

/-- R534 on link k: on a pair any two or more links are used; elsewhere each link the table names. -/
def State.checkLink (s : State) (k : Nat) : State :=
  match s.linkRole k with
  | none => if s.fv 0x17 0x10 0 k = 1 then s.refused9 8 0x17 0x10 0 k else s
  | some r =>
    if s.fv 0x17 0x10 0 k = 0 then (if s.fv 0x17 3 0 0 = 1 then s else s.refused9 8 0x17 0x10 0 k)
    else
      let s1 := if s.fv 0x17 0x11 0 k = r.1 then s else s.refused9 8 0x17 0x11 0 k
      if r.2.contains (s.fv 0x17 0x12 0 k) then s1 else s1.refused9 8 0x17 0x12 0 k

/-- The links on the first hop toward the master. -/
def State.firstHop (s : State) : List Nat := (s.waysTo (s.fv 0x17 4 0 0)).headD []

/-- R553 on the tick source of a part of a board. -/
def State.checkMaster (s : State) : State :=
  if s.imgParts < 2 then s
  else if s.fv 0x17 4 0 0 = s.imgPart then (if s.fv 1 1 0 0 = 3 then s.refused9 12 1 1 0 0 else s)
  else if s.fv 1 1 0 0 ≠ 3 then s.refused9 12 1 1 0 0
  else if s.firstHop.contains (s.fv 1 2 0 0) then s else s.refused9 12 1 2 0 0

/-- Cross-part sending panes, twins and third copies included. -/
def State.imgSenders (s : State) : List Nat :=
  firsts ((s.flagged 4 5).filter (fun k => bitsOf (s.fv 4 1 k.1 k.2) 16 3 != s.imgPart))

/-- The limits of R545. -/
def State.checkTokens (s : State) : State :=
  let n := s.imgSenders.length
  let g := ((s.flagged 5 1).filter (fun k => s.fv 5 4 k.1 0 == 1)).length
  let s1 := if n > 64 then s.rec9 3 10 4 1 0 0 n 64 else s
  if g > 8 then s1.rec9 3 10 5 4 0 0 g 8 else s1

/-- The checks of R553, the wicket loads apart, which check 8 makes. -/
def State.checkBoard (s : State) : State :=
  let s1 := if topologyFits (s.fv 0x17 3 0 0) s.imgParts then s else s.refused9 12 0x17 3 0 0
  let s2 := (List.range 6).foldl State.checkLink s1
  let few := s2.fv 0x17 3 0 0 = 1 ∧ ((List.range 6).filter (fun k => s2.fv 0x17 0x10 0 k == 1)).length < 2
  let s3 := if few then s2.refused9 8 0x17 0x10 0 0 else s2
  s3.checkMaster.checkTokens

/-! Stage 9 as a whole (R432). -/

/-- The cross checks in their order. The board's registers are loaded first, for the paths between parts. -/
def State.stage9 (s : State) (loads : List LoadBlob) : State :=
  let s0 := ((List.range 6).foldl State.loadWicket s).loadBoard
  let s1 := s0.primaries.foldl State.check1 s0
  let s2 := s1.primaries.foldl (State.check2 loads) s1
  let s3 := (s2.primaries.foldl State.check3 s2).checkBetween.check4.check5
  let s4 := (List.range 2).foldl State.check6 s3
  let s5 := (s4.flagged 0xC 9).foldl (fun s k => s.check7 k.1 k.2) s4
  let s6 := s5.checkMesh.checkLinks.check9
  let s7 := (s6.taskSashes.foldl State.check10 s6).check11
  s7.check12.checkNet.checkBoard

end Sys2Proof.Machine
end

