-- ==== Sys2Proof/Machine/Start.lean ====
section
/-!
DEFINITION. The start sequence from reset release to READY (R417 to R443): self-test, slot choice, field checks, cross
checks, loading, log recovery and the entry to READY.
-/
namespace Sys2Proof.Machine

/-! Stage 2: the self-test (R422, R612 to R616). -/

/-- The AON elapsed counter at this start. -/
def State.aonNow (s : State) (env : StartEnv) : Nat := max env.elapsed s.aon.elapsed

/-- The quick path: AON holds a clean record of this part less than 72 h old, NOR holds its copy, and the part has not run since it
was written (R422). An AON domain that lost power holds no record. -/
def State.quickPath (s : State) (env : StartEnv) : Bool :=
  match s.aon.record with
  | some r => !s.aon.ran && r.clean && decide (s.aonNow env - r.elapsed < 72 * 3600) && r.deviceId == s.otp.deviceId && s.norRec == some r
  | none => false

/-- The units whose tests run on the path (R613, R616). -/
def testedFails (quick skipped : Bool) (l : List (Nat × Nat)) : List (Nat × Nat) :=
  if skipped then [] else l.filter (fun u => !quick || decide (u.1 ≥ 9))

/-- One failing unit in the SELFTEST registers (R622). -/
def State.showFail (s : State) (u : Nat × Nat) : State :=
  let a := Config.selftest
  let set := fun (o k : Nat) => s.setBits (a + o) (1#32 <<< k)
  if u.1 ≤ 4 then s.failPane (u.2 % 1024)
  else if u.1 = 5 then s
  else if u.1 = 6 then set 8 (u.2 % 8)
  else if u.1 = 7 then set 8 (8 + u.2 % 8)
  else if u.1 = 8 then set 8 (16 + u.2 % 2)
  else if u.1 = 9 then set 0xC (u.2 % 32)
  else if u.1 = 10 then set 8 18
  else set 8 19

/-- The record of a skip: DEFAULTED, reason 15, critical (R615). -/
def skipAct (why : Nat) : ClampAct :=
  { stage := 2, sev := 2, reason := 15, sec := 0, fld := 0xFFFF, idx := 0, sub := 0, vin := why, vout := 0, crit := true }

/-- Stage 2: conditions, tests and their registers. The failing units come back for stage 10. -/
def State.stage2 (s : State) (env : StartEnv) : State × List (Nat × Nat) :=
  let a := Config.selftest
  let quick := s.quickPath env
  let skipped := decide (env.cond.fails ≠ 0)
  let fs := testedFails quick skipped env.fails
  let s1 := (s.showCond env.cond).wr (a + 0xB0) (match s.aon.record with
    | some r => BitVec.ofNat 32 (s.aonNow env - r.elapsed)
    | none => 0xFFFFFFFF#32)
  let s2 := (s1.wrFld a 0 2 (if skipped then 0 else if quick then 1 else 2)).wrFld Config.start 4 1 (!quick).toNat
  let s3 := if skipped then (s2.skipTest env.cond.fails).clamp (skipAct env.cond.fails) else s2
  let s4 := match env.cut with
    | some c => if skipped || c.fails == 0 then s3 else ((s3.showCond c).skipTest c.fails).clamp (skipAct c.fails)
    | none => s3
  let s5 := fs.foldl State.showFail s4
  let clean := !skipped && fs.isEmpty && (match env.cut with
    | some c => c.fails == 0
    | none => true)
  ({ s5.wrFld a 2 1 clean.toNat with aon := { s5.aon with elapsed := s.aonNow env } }, fs)

/-! Stages 3, 4 and 6: the slots (R423 to R427). -/

/-- The two slots and their codes. -/
def State.slots (s : State) (env : StartEnv) : List (Slot × Nat) :=
  (List.range 2).map (fun k =>
    let x := s.readSlot env.norBytes k
    let dead := decide (env.norBytes < 4 * 1048576) || (if k = 0 then env.readFail.1 else env.readFail.2)
    (x, if dead then 9 else s.slotCode x))

/-- The slot chosen: the higher sequence number of the valid ones, slot 0 when they are equal (R425). -/
def chooseSlot (l : List (Slot × Nat)) : Option Nat :=
  match l with
  | [a, b] =>
    if a.2 = 0 then (if b.2 = 0 ∧ b.1.seq > a.1.seq then some 1 else some 0)
    else if b.2 = 0 then some 1 else none
  | _ => none

/-- Sequence number shown for a slot: 0 where its header is unreadable. -/
def shownSeq (x : Slot × Nat) : Nat := if x.2 = 1 ∨ x.2 = 9 then 0 else x.1.seq

/-- Stages 3 and 4: START registers and records of the choice (R425, R438, R447). -/
def State.stage4 (s : State) (l : List (Slot × Nat)) : State :=
  let a := Config.start
  let code := fun k => (l.map Prod.snd).getD k 9
  let seq := fun k => BitVec.ofNat 32 ((l.map shownSeq).getD k 0)
  let s1 := (((s.wr (a + 8) (packF [(0, 4, code 0), (4, 4, code 1)])).wr (a + 0xC) (seq 0)).wr (a + 0x10) (seq 1)).wrFld a 8 1
    s.sigEnforced.toNat
  let rec4 := fun (s : State) (sev reason vin : Nat) => s.clamp { fieldAct 4 sev reason 0 0xFFFF 0 0 vin 0 with crit := false }
  match chooseSlot l with
  | none => rec4 s1 3 14 (code 0 + 16 * code 1)
  | some k =>
    match l[k]? with
    | none => s1
    | some x =>
      let tie := l.all (fun y => y.2 == 0 && y.1.seq == x.1.seq)
      let s2 := if tie then rec4 s1 0 0 x.1.seq else s1
      let good := s.sigGood x.1
      let strict := bitsOf (x.1.word 0xC) 16 1
      let s3 := ((((s2.wrFld a 5 1 k).wrFld a 6 1 1).wrFld a 7 1 good.toNat).wrFld a 9 1 strict).wr (a + 4) (seq k)
      (s3.clampAll x.1.reservedNotes).setF 0 1 0 0 (x.1.word 0x20)

/-- Stage 6: an image signature that fails while none is enforced is a NOTE (R427). -/
def State.stage6 (s : State) (x : Slot) : State :=
  if x.signed && !s.sigEnforced && !s.sigGood x then s.clamp { fieldAct 6 0 0 0 0xFFFF 0 0 0 0 with crit := false } else s

/-! Stage 8: DRAM and the log store (R398, R499 to R501). -/

/-- DRAM trained and zeroed: STATUS and SIZE (R397, R398). -/
def State.stage8Dram (s : State) (env : StartEnv) : State :=
  let a := Config.dram
  let up := decide (env.dramUnits > 0) && env.dramTrains
  let st := if env.dramUnits = 0 then 0 else if env.dramTrains then 2 else 3
  let n := if up then env.dramUnits else 0
  let s1 := (s.wr (a + 4) (packF [(0, 2, st), (3, 1, up.toNat)])).wr (a + 8) (packF [(0, 8, n), (8, 8, n * 7 / 8)])
  if up then { s1 with dram := [], dramEcc := [] } else s1

/-- The medium found at a port: the one known, where its size agrees. -/
def Emmc.found (e : Emmc) (cap : Nat) : Emmc := if e.cap = cap then { e with off := false } else { Emmc.none with cap := cap }

/-- STATUS.PORT of a port. -/
def portStatus (enabled : Bool) (e : Emmc) : Nat := if !enabled then 3 else if e.cap = 0 then 0 else 1

/-- The ports and the mode (R497, R506). -/
def State.openStore (s : State) (env : StartEnv) : State :=
  let en := s.fv 0x16 3 0 0
  let l : LogStore := { s.logs with port0 := s.logs.port0.found env.emmc.1, port1 := s.logs.port1.found env.emmc.2 }
  ({ s with logs := l } : State).wr Config.logstore
    (packF [(0, 2, portStatus (en.testBit 0) l.port0), (2, 2, portStatus (en.testBit 1) l.port1), (4, 2, s.fv 0x16 2 0 0)])

/-- The recovery scan: the chains so far, and the read position of each port (R500). -/
structure Scan where
  chains : SMap Chain
  at0 : Nat
  at1 : Nat
  deriving DecidableEq, Repr

/-- The chain of a producer in the scan. -/
def Scan.chain (x : Scan) (p : Nat) : Chain := ({ LogStore.reset with chains := x.chains } : LogStore).chain p
/-- Move one port's position on. -/
def Scan.skip (x : Scan) (q : Bool) : Scan := if q then { x with at1 := x.at1 + 1 } else { x with at0 := x.at0 + 1 }

/-- The block at a port's position extends its chain; or it is the copy of one that has extended it, on the other port. -/
def Scan.take (x : Scan) (base : Scan) (q : Bool) (e : Emmc) : Option Scan :=
  match SMap.at? e.ring (if q then x.at1 else x.at0) with
  | none => none
  | some b =>
    let c := x.chain b.producer
    if b.good && b.seq == c.next && b.prev == c.head then
      let c1 : Chain := { c with head := sha256 b.body, next := c.next + 1, run := b.run, last := if q then x.at1 else x.at0 }
      some { (x.skip q) with chains := SMap.put x.chains b.producer c1 }
    else if b.good && decide (b.seq < c.next) && decide ((base.chain b.producer).next ≤ b.seq) then some (x.skip q)
    else none

/-- Read the rings forward until no port's next block extends a chain. -/
def scanRings (base : Scan) (p0 p1 : Option Emmc) : Nat → Scan → Scan
  | 0, x => x
  | n + 1, x =>
    match p0.bind (x.take base false) with
    | some y => scanRings base p0 p1 n y
    | none =>
      match p1.bind (x.take base true) with
      | some y => scanRings base p0 p1 n y
      | none => x

/-- The valid checkpoint with the higher CP_SEQ of the ports in service. -/
def State.lastCheckpoint (s : State) : Option Checkpoint :=
  (s.upPorts.filterMap (fun q => (s.logs.port q).cp)).foldl (fun r c => match r with
    | some d => if c.cpSeq > d.cpSeq then some c else some d
    | none => some c) none

/-- Producers with an unsealed tail. -/
def LogStore.tails (l : LogStore) : List Nat := (l.chains.filter (fun e => decide (e.2.sealedTo < e.2.next))).map Prod.fst

/-- Blocks of the tails. -/
def LogStore.tailBlocks (l : LogStore) : Nat := l.chains.foldl (fun n e => n + (e.2.next - e.2.sealedTo)) 0

/-- Recovery of a formatted store (R499, R500). -/
def State.recover (s : State) : State :=
  let cp := s.lastCheckpoint
  let pos := fun (q : Bool) => (((s.logs.port q).cp).map (·.wp)).getD 0
  let base : Scan := { chains := (cp.map (·.chains)).getD [], at0 := pos false, at1 := pos true }
  let up := fun (q : Bool) => if s.emmcUp q then some (s.logs.port q) else none
  let x := scanRings base (up false) (up true) (s.logs.port0.ring.length + s.logs.port1.ring.length) base
  let l : LogStore := { s.logs with chains := x.chains, count := x.at0 + x.at1, port0 := { s.logs.port0 with wp := x.at0 },
                                    port1 := { s.logs.port1 with wp := x.at1 } }
  let s1 := ({ s with logs := l } : State).wr (Config.logstore + 4) (BitVec.ofNat 32 ((cp.map (·.run)).getD 1 + 1))
  let n := l.tailBlocks
  ((s1.wrFld Config.logstore 8 1 (if n = 0 then 0 else 1)).wr (Config.logstore + 0x18) (BitVec.ofNat 32 n)).logFree

/-- Stage 8, beside DRAM: the store is formatted when no enabled port has a valid superblock, and else recovered. -/
def State.stage8Log (s : State) (env : StartEnv) : State :=
  let s1 := s.openStore env
  if s1.upPorts.isEmpty then s1
  else if s1.upPorts.all (fun q => (s1.logs.port q).super.isNone) then s1.formatStore s1.fingerprint
  else s1.recover

/-! Roles of failing panes (R615). -/

/-- The pane holds a role: a task, a spare, or the root of a group. -/
def State.holdsRole (s : State) (p : Nat) : Bool :=
  s.fv 2 1 p 0 == 1 || s.primaries.any (fun q => s.spareOf q == some p) ||
    (s.flagged 5 1).any (fun g => s.fv 5 5 g.1 0 == p || s.fv 5 6 g.1 0 == p)

/-- The spare that covers a pane's role, the failing panes apart. -/
def State.coveredBy (s : State) (bad : List Nat) (p : Nat) : Option Nat :=
  (s.primaries.filter (fun q => ((s.copyRefs q).filterMap s.mine).contains p)).findSome? (fun q =>
    match s.spareOf q with
    | some x => if bad.contains x then none else some x
    | none => none)

/-- A loaded value once the spare x holds the role of pane p: references, post addresses and roots follow. -/
def State.renamed (s : State) (p x : Nat) (k v : Nat) : Nat :=
  let sec := k / 2 ^ 40
  let fld := k / 2 ^ 24 % 65536
  if sec = 4 ∧ fld = 1 then
    (if bitsOf v 19 1 = 0 ∧ bitsOf v 16 3 = s.imgPart ∧ bitsOf v 6 10 = p then v - p * 64 + x * 64 else v)
  else if sec = 5 ∧ (fld = 5 ∨ fld = 6) then (if v = p then x else v)
  else if sec = 2 ∧ fld = 7 then (if v = s.refOf x then 0xFFFF else v)
  else if (fieldSpec sec fld).any (fun f => f.rng == .paneRef) then (if v = s.refOf p then s.refOf x else v)
  else if sec = 0x15 ∧ fld = 4 then (if v = p then x else v)
  else v

/-- The spare x is loaded in the role of pane p: it takes its TASK and CHANNEL fields, and p has no task. -/
def State.moveRole (s : State) (p x : Nat) : State :=
  let own := fun (e : Nat × Nat) (n : Nat) =>
    (e.1 / 2 ^ 40 == 2 || e.1 / 2 ^ 40 == 4) && e.1 / 256 % 65536 == n
  let moved := (s.img.filter (fun e => own e p)).map (fun e => (e.1 / 2 ^ 24 * 2 ^ 24 + x * 256 + e.1 % 256, e.2))
  let img1 := moved.foldl (fun (m : SMap Nat) e => SMap.put m e.1 e.2) (s.img.filter (fun e => !own e x))
  let s1 : State := { s with img := SMap.mapVal (s.renamed p x) img1 }
  let s2 := (s1.flagged 4 5).foldl (fun s k => if k.1 = p then s.setF 4 5 p k.2 0 else s) s1
  let s3 := (s2.flagged 4 0x18).foldl (fun s k => if k.1 = p then s.setF 4 0x18 p k.2 0 else s) s2
  (s3.setF 2 1 p 0 0).setF 2 1 x 0 1

/-- A failing pane: severity and VALUE_IN of its record, after its role has moved where a spare covers it. -/
def State.losePane (s : State) (bad : List Nat) (p code : Nat) : State × Nat × Nat :=
  if !s.holdsRole p then (s, 0, code)
  else match s.coveredBy bad p with
    | some x => (s.moveRole p x, 1, x)
    | none => (s, 3, code)

/-- The panes a failing unit retires. -/
def failedPanes (u : Nat × Nat) : List Nat :=
  if u.1 ≤ 4 then [u.2 % 1024] else if u.1 = 5 then (List.range 16).map (paneOfSash (u.2 % 64)) else []

/-- The record of a failing unit, written once its role in the image is known (R615). -/
def State.failUnit (s : State) (bad : List Nat) (u : Nat × Nat) : State :=
  let act := fun (sev idx sub vin : Nat) =>
    ({ stage := 2, sev := sev, reason := 15, sec := 0, fld := 0xFFFF, idx := idx, sub := sub, vin := vin, vout := 0,
       crit := decide (sev ≠ 0) } : ClampAct)
  if u.1 ≤ 5 then
    let r := (failedPanes u).foldl (fun (r : State × Nat × Nat) p =>
      let x := r.1.losePane bad p u.1
      if x.2.1 > r.2.1 then x else (x.1, if r.2.2 = 0 then x.2 else r.2)) (s, 0, 0)
    r.1.clamp (act r.2.1 (if u.1 = 5 then u.2 % 64 else u.2 % 1024) 0 (if u.1 = 5 then 0 else r.2.2))
  else if u.1 = 7 then (s.setF 0xB 1 (u.2 % 8) 0 0).clamp (act 3 (u.2 % 8) 0 0)
  else if u.1 = 8 then (s.setF 0xD 1 (u.2 % 2) 0 0).clamp (act 3 (u.2 % 2) 1 0)
  else s.clamp (act 3 u.2 0 0)

/-- A pane that failed is retired, and routes are built around it; its router is dead where the latch or the router
failed. The ledger's cause is a free value: R586 names no code for a self-test. -/
def State.retireFailed (s : State) (u : Nat × Nat) : State :=
  (failedPanes u).foldl (fun s p =>
    if (s.pane p).retired then s
    else
      let s1 := (s.modPane p (fun q => q.setCr 0 ((q.cr 0).withBit 2 true))).mapEntriesTo p (fun w => w.withBit 22 true)
      let s2 := (s1.bump (Config.fault + 8) 11 1).setBits (Config.fault + 0x20 + 4 * (p / 32)) (1#32 <<< (p % 32))
      let c := s2.draw
      let s3 := c.2.ledgerAdd 0x0303 p c.1
      ({ s3 with routedAround := s3.routedAround ++ [p],
                 deadRouters := if u.1 = 3 ∨ u.1 = 4 then s3.deadRouters ++ [p] else s3.deadRouters } : State).markDead p) s

/-! Stage 10: loading (R417, R466, R467, R482). -/

/-- The roster check (R482): wherever the device has its key, the keyholes derive the panes' keys and keep the leaves, and the root is
computed; without key or certificate a NOTE. -/
def State.stage10Roster (s0 : State) : State :=
  let keyed := s0.deviceKey.isSome
  let s : State := { (if keyed then s0.deriveKeys (List.range 1024) else s0) with roster := if keyed then s0.leaves else [] }
  let rec10 := fun (s : State) (sev : Nat) => s.clamp { fieldAct 10 sev 13 0 0xFFFF 0 0 0 0 with crit := false }
  if s.deviceKey.isNone then rec10 s 0
  else
    let root := s.rosterRoot
    let s1 := (List.range 8).foldl (fun s i => s.wr (Config.ident + 0x40 + 4 * i) (wordAt root i)) s
    if s1.otp.cert.isEmpty then rec10 s1 0
    else if certPaneRoot s1.otp.cert = some root then s1.wrFld (Config.ident + 8) 21 1 1
    else rec10 s1 3

/-- The DRAM_LOAD data, after zeroing. -/
def State.applyDram (s : State) (d : DramBlob) : State := { s with dram := Memory.writeBytes s.dram d.off d.data }

/-- Stage 10: the failing units, the registers, the LOAD sections, DRAM and the roster. -/
def State.stage10 (s : State) (fs : List (Nat × Nat)) (loads : List LoadBlob) (acts : List ClampAct)
    (drams : List DramBlob) (dacts : List ClampAct) : State :=
  let bad := fs.flatMap failedPanes
  let s1 := fs.foldl (fun s u => s.failUnit bad u) s
  let s2 := loads.foldl State.applyLoad s1.loadAll
  (((drams.foldl State.applyDram (s2.clampAll acts)).clampAll dacts).stage10Roster)

/-! Entry to READY (R419, R437, R500, R558, R572, R576, R578). -/

/-- A lockstep mismatch that AON holds is written at this start (R586). -/
def State.writeLockEntry (s : State) : State :=
  match s.aon.lockEntry with
  | some e => { s.ledgerAdd e.code e.subject e.arg with aon := { s.aon with lockEntry := none } }
  | none => s

/-- Domains in the states R558 gives them; a sash whose bell failed and a bay that failed are left shut (R615). -/
def State.setDomains (s : State) (fs : List (Nat × Nat)) : State :=
  let s1 := (List.range 109).foldl State.setTarget s
  let dead := fs.filterMap (fun u => if u.1 = 5 then some (u.2 % 64) else if u.1 = 6 then some (64 + u.2 % 8) else none)
  let s2 := dead.foldl (fun s d => s.setDom d { s.dom d with st := .shut, lost := true }) s1
  (List.range 64).foldl (fun s k => if s.domOpen k then s.idleRail k else s) s2

/-- The AON regulator's mode from READY on, with its AJAR_LIMIT. -/
def State.aonMode (s : State) : State :=
  let low := s.fv 0x12 3 0 0
  (s.wrFld (Config.pwr + 0xC) 0 1 low).wrFld (Config.pwr + 0xC) 8 8 (ajarLimit s.tjMax (low == 1))

/-- GPIO outputs stand at their INIT level. -/
def State.gpioInit (s : State) : State :=
  (List.range 48).foldl (fun s l =>
    if s.fv 0x18 1 l 0 = 1 then
      let bit := 1#48 <<< l
      if s.fv 0x18 2 l 0 = 1 then { s with gpio := s.gpio ||| bit, gpioIn := s.gpioIn ||| bit }
      else { s with gpio := s.gpio &&& ~~~bit, gpioIn := s.gpioIn &&& ~~~bit }
    else s) s

/-- The replacement record, when a superblock carries another fingerprint (R501). -/
def State.replace (s : State) : State :=
  let own := s.fingerprint
  match s.upPorts.findSome? (fun q => ((s.logs.port q).super).bind (fun x => if x.1 = own then none else some x)) with
  | none => s
  | some old =>
    let l := s.upPorts.foldl (fun (l : LogStore) q => l.setPort q { l.port q with super := some (own, (old.1 :: old.2).take 16) })
      s.logs
    ((({ s with logs := l } : State).lintelBlock 4 (fitBytes 32 old.1 ++ fitBytes 32 own ++
      [BitVec.ofNat 8 s.otp.stepping, 1#8]))).wrFld Config.logstore 9 1 1

/-- The seal of the recovered tails, signed by this part's device key, and its log event (R500). -/
def State.sealTails (s : State) (tails : List Nat) (n : Nat) : State :=
  if tails.isEmpty then s
  else
    (s.sealWrite ((tails.map (s.sealCapture false true)).map s.sealSign)).logEv 0x0505 [n]

/-- What the lintel writes at the first boundary of READY, which is the entry itself (R419, R437, R500). -/
def State.openLog (s : State) (hash : List Byte) : State :=
  if s.upPorts.isEmpty then s
  else
    let tails := s.logs.tails
    let n := s.logs.tailBlocks
    ({ s with logs := { s.logs with imgHash := hash } } : State).openRun.replace.sealTails tails n

/-- The generator starts with C_0 at the moment of entry (R419). -/
def State.startTicks (s : State) (t : Nat) : State :=
  { s with now := t, tick := 0, readyBnd := 0, locked := false,
           gen := { on := true, next := t * 2 ^ 32, period := s.nominal, steer := 0, slew := 0, lastEdge := none,
                    seenEdge := none, ivl := none, good := 0, fs := 0 } }

/-- Stage 11: entry to READY. -/
def State.enterReady (s : State) (env : StartEnv) (fs : List (Nat × Nat)) (hash : List Byte) : State :=
  let s1 := ((s.wrFld Config.start 0 4 11).wr (Config.start + 0x28) (BitVec.ofNat 32 s.clamps.length)).wr
    (Config.start + 0x40) (BitVec.ofNat 32 (env.ms % 65536))
  let s2 := ((s1.aonMode.setDomains fs).gpioInit).startTicks (max env.t s.now)
  let s3 := (List.range 6).foldl (fun s k => if s.linkEn k then s.linkTo k 1 else s) s2
  let s4 := (fs.foldl State.retireFailed ({ s3 with part := .ready, inReset := false, resetLow := false } : State)).assignRelays
  let s5 := (env.knocks.foldl (fun s k => s.refuse k.1 k.2 none 5 0) s4).writeLockEntry
  let s6 : State := { s5.openLog hash with aon := { s5.aon with ran := true } }
  ((s6.logState 0 .starting [0x2002]).logState 0 .ready [0x2003]).edge allBells 28 PartState.ready.code

/-! The sequence. -/

/-- The sequence can begin: reset is released, with the supplies in range (R36, R417). -/
def State.canStart (s : State) : Bool := s.part == .off && s.inReset && !s.resetLow && s.lostSupplies.isEmpty

/-- Panes on which an applied LOAD section writes keep their sash ajar: the model's own note (R558). -/
def State.noteLoads (s : State) (loads : List LoadBlob) : State :=
  ((loads.flatMap LoadBlob.panes).map sashOf).eraseDups.foldl (fun s k => s.setF 0 2 k 0 1) s

/-- Stages 2 to 11. -/
def State.startUp (s : State) (env : StartEnv) : State :=
  let t2 := s.stage2 env
  let s2 : State := { t2.1 with norSize := env.norBytes }
  let sl := s2.slots env
  let s4 := s2.stage4 sl
  let x := (chooseSlot sl).bind (fun k => (sl[k]?).map Prod.fst)
  let secs := match x with
    | some y => s4.judgeSections y (s4.sigGood y)
    | none => ([], [])
  let s5 := s4.clampAll secs.2
  let s6 := match x with
    | some y => s5.stage6 y
    | none => s5
  let s7 := s6.stage7 secs.1
  let s8 := (s7.stage8Dram env).stage8Log env
  let loads := judgeLoads [] ((secs.1.filter (fun b => b.typ == 3)).map SecBody.load)
  let drams := judgeDram s8.dramUp (s8.dramUsable * 67108864) [] ((secs.1.filter (fun b => b.typ == 0x11)).map SecBody.dram)
  let s9 := (s8.noteLoads loads.1).stage9 loads.1
  let s10 := s9.stage10 t2.2 loads.1 loads.2 drams.1 drams.2
  s10.enterReady env t2.2 (match x with
    | some y => y.digest
    | none => [])

/-- START_SEQUENCE: the stages of R417 from the release of reset. A SCRAPPED part stops at stage 1 (R420). -/
def execStartSequence (env : StartEnv) (s : State) : Host.Outcome State Fault Refusal :=
  if !s.canStart then .next s
  else
    let s1 : State := { s with part := .starting, inReset := false }
    if s.otp.lc = 4 then .next (s1.wrFld Config.start 0 4 1)
    else .next (s1.startUp env)

end Sys2Proof.Machine
end

