-- ==== Sys2Proof/Machine/Dispatch.lean ====
section
/-!
DEFINITION. One arm per command of the opcode table: each calls the command's own meaning.
-/
namespace Sys2Proof.Machine

open Sys2Proof (Instr)

/-- The meaning of a command on the state, the queue apart. -/
def exec (i : Instr) (s : State) : Host.Outcome State Fault Refusal :=
  match i with
  | .add p gd rd ra rb => Sys2Proof.Machine.execAdd p gd rd ra rb s
  | .sub p gd rd ra rb => Sys2Proof.Machine.execSub p gd rd ra rb s
  | .and p gd rd ra rb => Sys2Proof.Machine.execAnd p gd rd ra rb s
  | .or p gd rd ra rb => Sys2Proof.Machine.execOr p gd rd ra rb s
  | .xor p gd rd ra rb => Sys2Proof.Machine.execXor p gd rd ra rb s
  | .andn p gd rd ra rb => Sys2Proof.Machine.execAndn p gd rd ra rb s
  | .min p gd rd ra rb => Sys2Proof.Machine.execMin p gd rd ra rb s
  | .max p gd rd ra rb => Sys2Proof.Machine.execMax p gd rd ra rb s
  | .minu p gd rd ra rb => Sys2Proof.Machine.execMinu p gd rd ra rb s
  | .maxu p gd rd ra rb => Sys2Proof.Machine.execMaxu p gd rd ra rb s
  | .adds p gd rd ra rb => Sys2Proof.Machine.execAdds p gd rd ra rb s
  | .subs p gd rd ra rb => Sys2Proof.Machine.execSubs p gd rd ra rb s
  | .neg p gd rd ra => Sys2Proof.Machine.execNeg p gd rd ra s
  | .negs p gd rd ra => Sys2Proof.Machine.execNegs p gd rd ra s
  | .abs p gd rd ra => Sys2Proof.Machine.execAbs p gd rd ra s
  | .shl p gd rd ra rb => Sys2Proof.Machine.execShl p gd rd ra rb s
  | .shr p gd rd ra rb => Sys2Proof.Machine.execShr p gd rd ra rb s
  | .sar p gd rd ra rb => Sys2Proof.Machine.execSar p gd rd ra rb s
  | .ror p gd rd ra rb => Sys2Proof.Machine.execRor p gd rd ra rb s
  | .clz p gd rd ra => Sys2Proof.Machine.execClz p gd rd ra s
  | .popc p gd rd ra => Sys2Proof.Machine.execPopc p gd rd ra s
  | .sextb p gd rd ra => Sys2Proof.Machine.execSextb p gd rd ra s
  | .sexth p gd rd ra => Sys2Proof.Machine.execSexth p gd rd ra s
  | .zexth p gd rd ra => Sys2Proof.Machine.execZexth p gd rd ra s
  | .mul p gd rd ra rb => Sys2Proof.Machine.execMul p gd rd ra rb s
  | .mulh p gd rd ra rb => Sys2Proof.Machine.execMulh p gd rd ra rb s
  | .mulhu p gd rd ra rb => Sys2Proof.Machine.execMulhu p gd rd ra rb s
  | .div p gd rd ra rb => Sys2Proof.Machine.execDiv p gd rd ra rb s
  | .divu p gd rd ra rb => Sys2Proof.Machine.execDivu p gd rd ra rb s
  | .rem p gd rd ra rb => Sys2Proof.Machine.execRem p gd rd ra rb s
  | .remu p gd rd ra rb => Sys2Proof.Machine.execRemu p gd rd ra rb s
  | .mac p gd acc ra rb => Sys2Proof.Machine.execMac p gd acc ra rb s
  | .msu p gd acc ra rb => Sys2Proof.Machine.execMsu p gd acc ra rb s
  | .mac2h p gd acc ra rb => Sys2Proof.Machine.execMac2h p gd acc ra rb s
  | .msu2h p gd acc ra rb => Sys2Proof.Machine.execMsu2h p gd acc ra rb s
  | .macu p gd acc ra rb => Sys2Proof.Machine.execMacu p gd acc ra rb s
  | .aclr p gd acc => Sys2Proof.Machine.execAclr p gd acc s
  | .aext p gd rd acc rb => Sys2Proof.Machine.execAext p gd rd acc rb s
  | .fadd p gd rd ra rb => Sys2Proof.Machine.execFadd p gd rd ra rb s
  | .fsub p gd rd ra rb => Sys2Proof.Machine.execFsub p gd rd ra rb s
  | .fmul p gd rd ra rb => Sys2Proof.Machine.execFmul p gd rd ra rb s
  | .fma p gd rd ra rb => Sys2Proof.Machine.execFma p gd rd ra rb s
  | .fms p gd rd ra rb => Sys2Proof.Machine.execFms p gd rd ra rb s
  | .fdiv p gd rd ra rb => Sys2Proof.Machine.execFdiv p gd rd ra rb s
  | .fsqrt p gd rd ra => Sys2Proof.Machine.execFsqrt p gd rd ra s
  | .fmin p gd rd ra rb => Sys2Proof.Machine.execFmin p gd rd ra rb s
  | .fmax p gd rd ra rb => Sys2Proof.Machine.execFmax p gd rd ra rb s
  | .fabs p gd rd ra => Sys2Proof.Machine.execFabs p gd rd ra s
  | .fneg p gd rd ra => Sys2Proof.Machine.execFneg p gd rd ra s
  | .fcvtSW p gd rd ra => Sys2Proof.Machine.execFcvtSW p gd rd ra s
  | .fcvtWS p gd rd ra => Sys2Proof.Machine.execFcvtWS p gd rd ra s
  | .fcvtSWu p gd rd ra => Sys2Proof.Machine.execFcvtSWu p gd rd ra s
  | .fcvtWuS p gd rd ra => Sys2Proof.Machine.execFcvtWuS p gd rd ra s
  | .addi p gd rd ra imm => Sys2Proof.Machine.execAddi p gd rd ra imm s
  | .andi p gd rd ra imm => Sys2Proof.Machine.execAndi p gd rd ra imm s
  | .ori p gd rd ra imm => Sys2Proof.Machine.execOri p gd rd ra imm s
  | .xori p gd rd ra imm => Sys2Proof.Machine.execXori p gd rd ra imm s
  | .shiftiShl p gd rd ra amt => Sys2Proof.Machine.execShiftiShl p gd rd ra amt s
  | .shiftiShr p gd rd ra amt => Sys2Proof.Machine.execShiftiShr p gd rd ra amt s
  | .shiftiSar p gd rd ra amt => Sys2Proof.Machine.execShiftiSar p gd rd ra amt s
  | .shiftiRor p gd rd ra amt => Sys2Proof.Machine.execShiftiRor p gd rd ra amt s
  | .muli p gd rd ra imm => Sys2Proof.Machine.execMuli p gd rd ra imm s
  | .movi p gd rd imm => Sys2Proof.Machine.execMovi p gd rd imm s
  | .movhi p gd rd imm => Sys2Proof.Machine.execMovhi p gd rd imm s
  | .orlo p gd rd imm => Sys2Proof.Machine.execOrlo p gd rd imm s
  | .b p gd off => Sys2Proof.Machine.execB p gd off s
  | .bl p gd off => Sys2Proof.Machine.execBl p gd off s
  | .br p gd reg => Sys2Proof.Machine.execBr p gd reg s
  | .ret p gd => Sys2Proof.Machine.execRet p gd s
  | .loop p gd l r body cnt => Sys2Proof.Machine.execLoop p gd l r body cnt s
  | .lb p gd rt ra m off => Sys2Proof.Machine.execLb p gd rt ra m off s
  | .lbu p gd rt ra m off => Sys2Proof.Machine.execLbu p gd rt ra m off s
  | .lh p gd rt ra m off => Sys2Proof.Machine.execLh p gd rt ra m off s
  | .lhu p gd rt ra m off => Sys2Proof.Machine.execLhu p gd rt ra m off s
  | .lw p gd rt ra m off => Sys2Proof.Machine.execLw p gd rt ra m off s
  | .lwp p gd rt ra m off => Sys2Proof.Machine.execLwp p gd rt ra m off s
  | .sb p gd rt ra m off => Sys2Proof.Machine.execSb p gd rt ra m off s
  | .sh p gd rt ra m off => Sys2Proof.Machine.execSh p gd rt ra m off s
  | .sw p gd rt ra m off => Sys2Proof.Machine.execSw p gd rt ra m off s
  | .swp p gd rt ra m off => Sys2Proof.Machine.execSwp p gd rt ra m off s
  | .storeDrain p t => Sys2Proof.Machine.execStoreDrain p t s
  | .windowReadReturn p k t => Sys2Proof.Machine.execWindowReadReturn p k t s
  | .windowStoreResult p t => Sys2Proof.Machine.execWindowStoreResult p t s
  | .cmp p gd pd ra im cond b => Sys2Proof.Machine.execCmp p gd pd ra im cond b s
  | .fcmp p gd pd ra im cond b => Sys2Proof.Machine.execFcmp p gd pd ra im cond b s
  | .plog p gd pd pa na pb nb op => Sys2Proof.Machine.execPlog p gd pd pa na pb nb op s
  | .post p gd ra rb => Sys2Proof.Machine.execPost p gd ra rb s
  | .postm p gd rd ra rb => Sys2Proof.Machine.execPostm p gd rd ra rb s
  | .reduce p gd ra rb => Sys2Proof.Machine.execReduce p gd ra rb s
  | .vdotH p gd acc ra rb k => Sys2Proof.Machine.execVdotH p gd acc ra rb k s
  | .vdotF p gd rd ra rb k => Sys2Proof.Machine.execVdotF p gd rd ra rb k s
  | .vmacH p gd rd ra rb k => Sys2Proof.Machine.execVmacH p gd rd ra rb k s
  | .vmacF p gd rd ra rb k => Sys2Proof.Machine.execVmacF p gd rd ra rb k s
  | .bmov p gd rd ra rb k => Sys2Proof.Machine.execBmov p gd rd ra rb k s
  | .bfill p gd rd ra rb k => Sys2Proof.Machine.execBfill p gd rd ra rb k s
  | .bcrc p gd rd ra rb k => Sys2Proof.Machine.execBcrc p gd rd ra rb k s
  | .fence p gd => Sys2Proof.Machine.execFence p gd s
  | .waitt p gd k => Sys2Proof.Machine.execWaitt p gd k s
  | .mfs p gd reg n => Sys2Proof.Machine.execMfs p gd reg n s
  | .mts p gd reg n => Sys2Proof.Machine.execMts p gd reg n s
  | .gate p gd n => Sys2Proof.Machine.execGate p gd n s
  | .rtg p gd => Sys2Proof.Machine.execRtg p gd s
  | .evpop p gd reg => Sys2Proof.Machine.execEvpop p gd reg s
  | .evdone p gd => Sys2Proof.Machine.execEvdone p gd s
  | .evwait p gd => Sys2Proof.Machine.execEvwait p gd s
  | .trapEntry p => Sys2Proof.Machine.execTrapEntry p s
  | .eventEntry p => Sys2Proof.Machine.execEventEntry p s
  | .boundary => Sys2Proof.Machine.execBoundary s
  | .sourceEdge t => Sys2Proof.Machine.execSourceEdge t s
  | .tickSourceLoss t => Sys2Proof.Machine.execTickSourceLoss t s
  | .tickRelock => Sys2Proof.Machine.execTickRelock s
  | .postArrival src e => Sys2Proof.Machine.execPostArrival src e s
  | .heldPostDelivery k => Sys2Proof.Machine.execHeldPostDelivery k s
  | .acknowledgement src e t => Sys2Proof.Machine.execAcknowledgement src e t s
  | .reduceContribution src e => Sys2Proof.Machine.execReduceContribution src e s
  | .drivePost src e => Sys2Proof.Machine.execDrivePost src e s
  | .relayForward k => Sys2Proof.Machine.execRelayForward k s
  | .routerDead router reporter t => Sys2Proof.Machine.execRouterDead router reporter t s
  | .routeInstall => Sys2Proof.Machine.execRouteInstall s
  | .paneRetirement p => Sys2Proof.Machine.execPaneRetirement p s
  | .takeoverStateCopy k => Sys2Proof.Machine.execTakeoverStateCopy k s
  | .takeoverLogReplay k => Sys2Proof.Machine.execTakeoverLogReplay k s
  | .takeoverRedirect k => Sys2Proof.Machine.execTakeoverRedirect k s
  | .takeoverComplete k => Sys2Proof.Machine.execTakeoverComplete k s
  | .scrubWord p => Sys2Proof.Machine.execScrubWord p s
  | .eccRewrite p => Sys2Proof.Machine.execEccRewrite p s
  | .bellArrival k sash => Sys2Proof.Machine.execBellArrival k sash s
  | .bellRecordWrite sash => Sys2Proof.Machine.execBellRecordWrite sash s
  | .holdoffExpiry sash group => Sys2Proof.Machine.execHoldoffExpiry sash group s
  | .aonArrivalLatch k sash => Sys2Proof.Machine.execAonArrivalLatch k sash s
  | .sampleFrame g bits bad t0 t => Sys2Proof.Machine.execSampleFrame g bits bad t0 t s
  | .distributionWrite bay lane => Sys2Proof.Machine.execDistributionWrite bay lane s
  | .rxdataRead g lane => Sys2Proof.Machine.execRxdataRead g lane s
  | .flush g mask => Sys2Proof.Machine.execFlush g mask s
  | .driveFrameRelease g missing bad => Sys2Proof.Machine.execDriveFrameRelease g missing bad s
  | .interlockPinChange door high t => Sys2Proof.Machine.execInterlockPinChange door high t s
  | .interlockFilterExpiry door t => Sys2Proof.Machine.execInterlockFilterExpiry door t s
  | .rampLimitExpiry => Sys2Proof.Machine.execRampLimitExpiry s
  | .moverExecute bay m n => Sys2Proof.Machine.execMoverExecute bay m n s
  | .moverStageRead bay m => Sys2Proof.Machine.execMoverStageRead bay m s
  | .moverPaneWrite bay m => Sys2Proof.Machine.execMoverPaneWrite bay m s
  | .moverWriteBack bay m => Sys2Proof.Machine.execMoverWriteBack bay m s
  | .moverLate bay m => Sys2Proof.Machine.execMoverLate bay m s
  | .dramRefresh hot => Sys2Proof.Machine.execDramRefresh hot s
  | .zqCalibration => Sys2Proof.Machine.execZqCalibration s
  | .dramScrubRead unit => Sys2Proof.Machine.execDramScrubRead unit s
  | .keyholeHash p => Sys2Proof.Machine.execKeyholeHash p s
  | .keyholeSign p => Sys2Proof.Machine.execKeyholeSign p s
  | .keyholePubkey p => Sys2Proof.Machine.execKeyholePubkey p s
  | .keyholeLog p => Sys2Proof.Machine.execKeyholeLog p s
  | .keyholeCompletion bay => Sys2Proof.Machine.execKeyholeCompletion bay s
  | .logBlockAccept => Sys2Proof.Machine.execLogBlockAccept s
  | .sealPoint t => Sys2Proof.Machine.execSealPoint t s
  | .checkpoint => Sys2Proof.Machine.execCheckpoint s
  | .emmcPortFail port lost => Sys2Proof.Machine.execEmmcPortFail port lost s
  | .emmcRequestComplete port => Sys2Proof.Machine.execEmmcRequestComplete port s
  | .streamRequest p stream => Sys2Proof.Machine.execStreamRequest p stream s
  | .streamRecordSend port => Sys2Proof.Machine.execStreamRecordSend port s
  | .ethFrameReceive port f => Sys2Proof.Machine.execEthFrameReceive port f s
  | .ethLinkChange port up => Sys2Proof.Machine.execEthLinkChange port up s
  | .addressResolution port answered => Sys2Proof.Machine.execAddressResolution port answered s
  | .ptpMessageReceive port m t => Sys2Proof.Machine.execPtpMessageReceive port m t s
  | .ptpMessageSend port kind => Sys2Proof.Machine.execPtpMessageSend port kind s
  | .ptpReceiptTimeout port announce => Sys2Proof.Machine.execPtpReceiptTimeout port announce s
  | .gateControlEntry port => Sys2Proof.Machine.execGateControlEntry port s
  | .announcement => Sys2Proof.Machine.execAnnouncement s
  | .networkKnock port dgram t => Sys2Proof.Machine.execNetworkKnock port dgram t s
  | .sillKnock v => Sys2Proof.Machine.execSillKnock v s
  | .pinKnock line t => Sys2Proof.Machine.execPinKnock line t s
  | .knockForward inn => Sys2Proof.Machine.execKnockForward inn s
  | .knockBroadcast inn => Sys2Proof.Machine.execKnockBroadcast inn s
  | .start => Sys2Proof.Machine.execStart s
  | .hold => Sys2Proof.Machine.execHold s
  | .resume => Sys2Proof.Machine.execResume s
  | .abort => Sys2Proof.Machine.execAbort s
  | .mark => Sys2Proof.Machine.execMark s
  | .shutdown => Sys2Proof.Machine.execShutdown s
  | .report => Sys2Proof.Machine.execReport s
  | .shutdownTest cond failed => Sys2Proof.Machine.execShutdownTest cond failed s
  | .shutdownTestEnd norOk elapsed => Sys2Proof.Machine.execShutdownTestEnd norOk elapsed s
  | .shutdownCancelReopen => Sys2Proof.Machine.execShutdownCancelReopen s
  | .linkTraining link peer t => Sys2Proof.Machine.execLinkTraining link peer t s
  | .linkDown link lockLost t => Sys2Proof.Machine.execLinkDown link lockLost t s
  | .linkRestore link => Sys2Proof.Machine.execLinkRestore link s
  | .idleControlBlock link received t => Sys2Proof.Machine.execIdleControlBlock link received t s
  | .boardDigestExchange part digest => Sys2Proof.Machine.execBoardDigestExchange part digest s
  | .tickMarkerSend t => Sys2Proof.Machine.execTickMarkerSend t s
  | .tickMarkerArrival link lead tick residence t => Sys2Proof.Machine.execTickMarkerArrival link lead tick residence t s
  | .agreementToken part token t => Sys2Proof.Machine.execAgreementToken part token t s
  | .tokenLate part => Sys2Proof.Machine.execTokenLate part s
  | .wicketForward src link e => Sys2Proof.Machine.execWicketForward src link e s
  | .powerReqOpen domain => Sys2Proof.Machine.execPowerReqOpen domain s
  | .powerReqAjar domain => Sys2Proof.Machine.execPowerReqAjar domain s
  | .powerReqShut domain => Sys2Proof.Machine.execPowerReqShut domain s
  | .domainEntry domain busy => Sys2Proof.Machine.execDomainEntry domain busy s
  | .domainWake domain => Sys2Proof.Machine.execDomainWake domain s
  | .wakeOnAccess domain => Sys2Proof.Machine.execWakeOnAccess domain s
  | .wakeReplay domain => Sys2Proof.Machine.execWakeReplay domain s
  | .latchReport internal k t => Sys2Proof.Machine.execLatchReport internal k t s
  | .ledgerAction masked t => Sys2Proof.Machine.execLedgerAction masked t s
  | .latchCounterPoll t => Sys2Proof.Machine.execLatchCounterPoll t s
  | .hingeHeartbeat hinge answered => Sys2Proof.Machine.execHingeHeartbeat hinge answered s
  | .hingeDead hinge t => Sys2Proof.Machine.execHingeDead hinge t s
  | .lockstepMismatch t => Sys2Proof.Machine.execLockstepMismatch t s
  | .sillRead addr crc n done => Sys2Proof.Machine.execSillRead addr crc n done s
  | .sillWrite addr words done => Sys2Proof.Machine.execSillWrite addr words done s
  | .sillStatus => Sys2Proof.Machine.execSillStatus s
  | .sillBadCommand cmd => Sys2Proof.Machine.execSillBadCommand cmd s
  | .sillWindowAccess => Sys2Proof.Machine.execSillWindowAccess s
  | .mbStatusRead m => Sys2Proof.Machine.execMbStatusRead m s
  | .mailboxPublish p v => Sys2Proof.Machine.execMailboxPublish p v s
  | .bridgeOpen => Sys2Proof.Machine.execBridgeOpen s
  | .bridgeClose => Sys2Proof.Machine.execBridgeClose s
  | .bridgeRead => Sys2Proof.Machine.execBridgeRead s
  | .bridgeProgram => Sys2Proof.Machine.execBridgeProgram s
  | .bridgeErase => Sys2Proof.Machine.execBridgeErase s
  | .bridgeOpComplete failed late => Sys2Proof.Machine.execBridgeOpComplete failed late s
  | .lcReturn => Sys2Proof.Machine.execLcReturn s
  | .lcScrap => Sys2Proof.Machine.execLcScrap s
  | .slackReset p => Sys2Proof.Machine.execSlackReset p s
  | .ticknoLoRead => Sys2Proof.Machine.execTicknoLoRead s
  | .stampLoRead => Sys2Proof.Machine.execStampLoRead s
  | .lastOverrunLoRead p => Sys2Proof.Machine.execLastOverrunLoRead p s
  | .tripTickLoRead => Sys2Proof.Machine.execTripTickLoRead s
  | .tickLoRead => Sys2Proof.Machine.execTickLoRead s
  | .readClear a inc => Sys2Proof.Machine.execReadClear a inc s
  | .registerWrite a v hw => Sys2Proof.Machine.execRegisterWrite a v hw s
  | .gpioEdge line level t => Sys2Proof.Machine.execGpioEdge line level t s
  | .startSequence env => Sys2Proof.Machine.execStartSequence env s
  | .powerOnReset => Sys2Proof.Machine.execPowerOnReset s
  | .resetPin ns takes stillLow => Sys2Proof.Machine.execResetPin ns takes stillLow s
  | .aonBrownout draw => Sys2Proof.Machine.execAonBrownout draw s
  | .coreBrownout ns => Sys2Proof.Machine.execCoreBrownout ns s
  | .supplyLoss supply t => Sys2Proof.Machine.execSupplyLoss supply t s
  | .domainRailReset domain t => Sys2Proof.Machine.execDomainRailReset domain t s
  | .crossingSever crossing parity t => Sys2Proof.Machine.execCrossingSever crossing parity t s
  | .crossingRearm crossing t => Sys2Proof.Machine.execCrossingRearm crossing t s
  | .tapBypass => Sys2Proof.Machine.execTapBypass s
  | .tapIdcode => Sys2Proof.Machine.execTapIdcode s
  | .tapSamplePreload cells => Sys2Proof.Machine.execTapSamplePreload cells s
  | .tapExtest => Sys2Proof.Machine.execTapExtest s
  | .tapScanLoad pattern => Sys2Proof.Machine.execTapScanLoad pattern s
  | .tapLowVoltageTest fails => Sys2Proof.Machine.execTapLowVoltageTest fails s
  | .tapProvision devSeed paneSecret => Sys2Proof.Machine.execTapProvision devSeed paneSecret s
  | .tapScrap => Sys2Proof.Machine.execTapScrap s
  | .referenceFailure t => Sys2Proof.Machine.execReferenceFailure t s
  | .certificateFuse der => Sys2Proof.Machine.execCertificateFuse der s
  | .logStoreFormat => Sys2Proof.Machine.execLogStoreFormat s
  | .supplyReturn rail t => Sys2Proof.Machine.execSupplyReturn rail t s

end Sys2Proof.Machine
end

