-- ==== Sys2Proof/Machine/Step.lean ====
section
/-!
DEFINITION. One step: the command at the front of the queue (the model's own queue; log 1), and the host's way of putting one
there.
-/
namespace Sys2Proof.Machine

open Sys2Proof (Instr)

/-- Take the command at the front of the queue and give it its meaning, with the queue's rest. On an empty queue the part idles
(log 1). -/
def step (s : State) : Host.Outcome State Fault Refusal :=
  match s.pending with
  | [] => .next s
  | c :: rest => exec c { s with pending := rest }

/-- `s` with the command that a word of the operation table spells in front of its queue: none here, since the table gives its
rows no bits. -/
def State.withFetchWord (s : State) (nbits w : Nat) : State :=
  match Sys2Proof.decodeTableWord nbits w with
  | none => s
  | some c => { s with pending := c :: s.pending }

end Sys2Proof.Machine
end

