-- ==== Sys2Proof/WellFormed.lean ====
section
/-!
DEFINITION. Well-formed commands: a Nirmon instruction whose word passes every check of R216, and a command of the units whose
operands name a unit the part has (R20, R32). An ill-formed command still has its meaning: the instruction traps, and the other
commands stop with `noSuchUnit`.
-/
namespace Sys2Proof

open Sys2Proof.Machine

/-- The link, line, domain, crossing or supply that the command names exists: links 0 to 5 (R531), GPIO lines 0 to 47 (R71),
domains 0 to 108 (R556), crossings 0 to 108 (R633) and supplies 0 to 11 (R654). -/
def unitExists : Instr → Bool
  | .pinKnock line _ => decide (line < 48)
  | .linkTraining link _ _ => decide (link.toNat < 6)
  | .linkDown link _ _ => decide (link.toNat < 6)
  | .linkRestore link => decide (link.toNat < 6)
  | .idleControlBlock link _ _ => decide (link.toNat < 6)
  | .tickMarkerArrival link _ _ _ _ => decide (link.toNat < 6)
  | .wicketForward src link _ => match src with
    | .mesh _ => true
    | .wicket _ => decide (link.toNat < 6)
  | .domainEntry domain _ => decide (domain.toNat ≤ 108)
  | .domainWake domain => decide (domain.toNat ≤ 108)
  | .wakeOnAccess domain => decide (domain.toNat ≤ 108)
  | .wakeReplay domain => decide (domain.toNat ≤ 108)
  | .gpioEdge line _ _ => decide (line.toNat < 48)
  | .supplyLoss supply _ => decide (supply.toNat ≤ 11)
  | .domainRailReset domain _ => decide (domain.toNat ≤ 108)
  | .crossingSever crossing _ _ => decide (crossing.toNat ≤ 108)
  | .crossingRearm crossing _ => decide (crossing.toNat ≤ 108)
  | .supplyReturn rail _ => match rail with
    | .domain d => decide (d ≤ 108)
    | .supply n => decide (n ≤ 11)
  | .add .. | .sub .. | .and .. | .or .. | .xor .. | .andn .. | .min .. | .max .. | .minu .. | .maxu ..
  | .adds .. | .subs .. | .neg .. | .negs .. | .abs .. | .shl .. | .shr .. | .sar .. | .ror .. | .clz ..
  | .popc .. | .sextb .. | .sexth .. | .zexth .. | .mul .. | .mulh .. | .mulhu .. | .div .. | .divu ..
  | .rem .. | .remu .. | .mac .. | .msu .. | .mac2h .. | .msu2h .. | .macu .. | .aclr .. | .aext ..
  | .fadd .. | .fsub .. | .fmul .. | .fma .. | .fms .. | .fdiv .. | .fsqrt .. | .fmin .. | .fmax ..
  | .fabs .. | .fneg .. | .fcvtSW .. | .fcvtWS .. | .fcvtSWu .. | .fcvtWuS .. | .addi .. | .andi .. | .ori ..
  | .xori .. | .shiftiShl .. | .shiftiShr .. | .shiftiSar .. | .shiftiRor .. | .muli .. | .movi ..
  | .movhi .. | .orlo .. | .b .. | .bl .. | .br .. | .ret .. | .loop .. | .lb .. | .lbu .. | .lh .. | .lhu ..
  | .lw .. | .lwp .. | .sb .. | .sh .. | .sw .. | .swp .. | .storeDrain .. | .windowReadReturn ..
  | .windowStoreResult .. | .cmp .. | .fcmp .. | .plog .. | .post .. | .postm .. | .reduce .. | .vdotH ..
  | .vdotF .. | .vmacH .. | .vmacF .. | .bmov .. | .bfill .. | .bcrc .. | .fence .. | .waitt .. | .mfs ..
  | .mts .. | .gate .. | .rtg .. | .evpop .. | .evdone .. | .evwait .. | .trapEntry .. | .eventEntry ..
  | .boundary .. | .sourceEdge .. | .tickSourceLoss .. | .tickRelock .. | .postArrival ..
  | .heldPostDelivery .. | .acknowledgement .. | .reduceContribution .. | .drivePost .. | .relayForward ..
  | .routerDead .. | .routeInstall .. | .paneRetirement .. | .takeoverStateCopy .. | .takeoverLogReplay ..
  | .takeoverRedirect .. | .takeoverComplete .. | .scrubWord .. | .eccRewrite .. | .bellArrival ..
  | .bellRecordWrite .. | .holdoffExpiry .. | .aonArrivalLatch .. | .sampleFrame .. | .distributionWrite ..
  | .rxdataRead .. | .flush .. | .driveFrameRelease .. | .interlockPinChange .. | .interlockFilterExpiry ..
  | .rampLimitExpiry .. | .moverExecute .. | .moverStageRead .. | .moverPaneWrite .. | .moverWriteBack ..
  | .moverLate .. | .dramRefresh .. | .zqCalibration .. | .dramScrubRead .. | .keyholeHash ..
  | .keyholeSign .. | .keyholePubkey .. | .keyholeLog .. | .keyholeCompletion .. | .logBlockAccept ..
  | .sealPoint .. | .checkpoint .. | .emmcPortFail .. | .emmcRequestComplete .. | .streamRequest ..
  | .streamRecordSend .. | .ethFrameReceive .. | .ethLinkChange .. | .addressResolution ..
  | .ptpMessageReceive .. | .ptpMessageSend .. | .ptpReceiptTimeout .. | .gateControlEntry ..
  | .announcement .. | .networkKnock .. | .sillKnock .. | .knockForward .. | .knockBroadcast .. | .start ..
  | .hold .. | .resume .. | .abort .. | .mark .. | .shutdown .. | .report .. | .shutdownTest ..
  | .shutdownTestEnd .. | .shutdownCancelReopen .. | .boardDigestExchange .. | .tickMarkerSend ..
  | .agreementToken .. | .tokenLate .. | .powerReqOpen .. | .powerReqAjar .. | .powerReqShut ..
  | .latchReport .. | .ledgerAction .. | .latchCounterPoll .. | .hingeHeartbeat .. | .hingeDead ..
  | .lockstepMismatch .. | .sillRead .. | .sillWrite .. | .sillStatus .. | .sillBadCommand ..
  | .sillWindowAccess .. | .mbStatusRead .. | .mailboxPublish .. | .bridgeOpen .. | .bridgeClose ..
  | .bridgeRead .. | .bridgeProgram .. | .bridgeErase .. | .bridgeOpComplete .. | .lcReturn .. | .lcScrap ..
  | .slackReset .. | .ticknoLoRead .. | .stampLoRead .. | .lastOverrunLoRead .. | .tripTickLoRead ..
  | .tickLoRead .. | .readClear .. | .registerWrite .. | .startSequence .. | .powerOnReset .. | .resetPin ..
  | .aonBrownout .. | .coreBrownout .. | .tapBypass .. | .tapIdcode .. | .tapSamplePreload .. | .tapExtest ..
  | .tapScanLoad .. | .tapLowVoltageTest .. | .tapProvision .. | .tapScrap .. | .referenceFailure ..
  | .certificateFuse .. | .logStoreFormat .. => true

/-- The instruction word passes the checks of R216; true of a command that is no Nirmon instruction. -/
def wordLegal (i : Instr) : Bool := (encodeNat i).all (fun w => checkWord w == none)

/-- A well-formed command. -/
def wellFormed (i : Instr) : Bool := wordLegal i && unitExists i

end Sys2Proof
end

