-- ==== Sys2Proof/Safety.lean ====
section
/-!
DEFINITION. The terms in which the statements are made: when an instruction executes, what it may change, the bounds of the
state, and what a run may not end in.
-/
namespace Sys2Proof.Machine

open Sys2Proof (Instr)

/-! The fields every Nirmon instruction has. -/

/-- The pane that issues a Nirmon instruction; none for a command that is not one. -/
def paneOf : Instr → Option PaneNo
  | .add p _ _ _ _ | .sub p _ _ _ _ | .and p _ _ _ _ | .or p _ _ _ _ | .xor p _ _ _ _ | .andn p _ _ _ _
  | .min p _ _ _ _ | .max p _ _ _ _ | .minu p _ _ _ _ | .maxu p _ _ _ _ | .adds p _ _ _ _ | .subs p _ _ _ _
  | .neg p _ _ _ | .negs p _ _ _ | .abs p _ _ _ | .shl p _ _ _ _ | .shr p _ _ _ _ | .sar p _ _ _ _ | .ror p _ _ _ _
  | .clz p _ _ _ | .popc p _ _ _ | .sextb p _ _ _ | .sexth p _ _ _ | .zexth p _ _ _ | .mul p _ _ _ _
  | .mulh p _ _ _ _ | .mulhu p _ _ _ _ | .div p _ _ _ _ | .divu p _ _ _ _ | .rem p _ _ _ _ | .remu p _ _ _ _
  | .mac p _ _ _ _ | .msu p _ _ _ _ | .mac2h p _ _ _ _ | .msu2h p _ _ _ _ | .macu p _ _ _ _ | .aclr p _ _
  | .aext p _ _ _ _ | .fadd p _ _ _ _ | .fsub p _ _ _ _ | .fmul p _ _ _ _ | .fma p _ _ _ _ | .fms p _ _ _ _
  | .fdiv p _ _ _ _ | .fsqrt p _ _ _ | .fmin p _ _ _ _ | .fmax p _ _ _ _ | .fabs p _ _ _ | .fneg p _ _ _
  | .fcvtSW p _ _ _ | .fcvtWS p _ _ _ | .fcvtSWu p _ _ _ | .fcvtWuS p _ _ _ | .addi p _ _ _ _ | .andi p _ _ _ _
  | .ori p _ _ _ _ | .xori p _ _ _ _ | .shiftiShl p _ _ _ _ | .shiftiShr p _ _ _ _ | .shiftiSar p _ _ _ _
  | .shiftiRor p _ _ _ _ | .muli p _ _ _ _ | .movi p _ _ _ | .movhi p _ _ _ | .orlo p _ _ _ | .b p _ _ | .bl p _ _
  | .br p _ _ | .ret p _ | .loop p _ _ _ _ _ | .lb p _ _ _ _ _ | .lbu p _ _ _ _ _ | .lh p _ _ _ _ _
  | .lhu p _ _ _ _ _ | .lw p _ _ _ _ _ | .lwp p _ _ _ _ _ | .sb p _ _ _ _ _ | .sh p _ _ _ _ _ | .sw p _ _ _ _ _
  | .swp p _ _ _ _ _ | .cmp p _ _ _ _ _ _ | .fcmp p _ _ _ _ _ _ | .plog p _ _ _ _ _ _ _ | .post p _ _ _
  | .postm p _ _ _ _ | .reduce p _ _ _ | .vdotH p _ _ _ _ _ | .vdotF p _ _ _ _ _ | .vmacH p _ _ _ _ _
  | .vmacF p _ _ _ _ _ | .bmov p _ _ _ _ _ | .bfill p _ _ _ _ _ | .bcrc p _ _ _ _ _ | .fence p _ | .waitt p _ _
  | .mfs p _ _ _ | .mts p _ _ _ | .gate p _ _ | .rtg p _ | .evpop p _ _ | .evdone p _ | .evwait p _ => some p
  | .storeDrain .. | .windowReadReturn .. | .windowStoreResult .. | .trapEntry .. | .eventEntry .. | .boundary ..
  | .sourceEdge .. | .tickSourceLoss .. | .tickRelock .. | .postArrival .. | .heldPostDelivery ..
  | .acknowledgement .. | .reduceContribution .. | .drivePost .. | .relayForward .. | .routerDead ..
  | .routeInstall .. | .paneRetirement .. | .takeoverStateCopy .. | .takeoverLogReplay .. | .takeoverRedirect ..
  | .takeoverComplete .. | .scrubWord .. | .eccRewrite .. | .bellArrival .. | .bellRecordWrite .. | .holdoffExpiry ..
  | .aonArrivalLatch .. | .sampleFrame .. | .distributionWrite .. | .rxdataRead .. | .flush ..
  | .driveFrameRelease .. | .interlockPinChange .. | .interlockFilterExpiry .. | .rampLimitExpiry ..
  | .moverExecute .. | .moverStageRead .. | .moverPaneWrite .. | .moverWriteBack .. | .moverLate .. | .dramRefresh ..
  | .zqCalibration .. | .dramScrubRead .. | .keyholeHash .. | .keyholeSign .. | .keyholePubkey .. | .keyholeLog ..
  | .keyholeCompletion .. | .logBlockAccept .. | .sealPoint .. | .checkpoint .. | .emmcPortFail ..
  | .emmcRequestComplete .. | .streamRequest .. | .streamRecordSend .. | .ethFrameReceive .. | .ethLinkChange ..
  | .addressResolution .. | .ptpMessageReceive .. | .ptpMessageSend .. | .ptpReceiptTimeout .. | .gateControlEntry ..
  | .announcement .. | .networkKnock .. | .sillKnock .. | .pinKnock .. | .knockForward .. | .knockBroadcast ..
  | .start .. | .hold .. | .resume .. | .abort .. | .mark .. | .shutdown .. | .report .. | .shutdownTest ..
  | .shutdownTestEnd .. | .shutdownCancelReopen .. | .linkTraining .. | .linkDown .. | .linkRestore ..
  | .idleControlBlock .. | .boardDigestExchange .. | .tickMarkerSend .. | .tickMarkerArrival .. | .agreementToken ..
  | .tokenLate .. | .wicketForward .. | .powerReqOpen .. | .powerReqAjar .. | .powerReqShut .. | .domainEntry ..
  | .domainWake .. | .wakeOnAccess .. | .wakeReplay .. | .latchReport .. | .ledgerAction .. | .latchCounterPoll ..
  | .hingeHeartbeat .. | .hingeDead .. | .lockstepMismatch .. | .sillRead .. | .sillWrite .. | .sillStatus ..
  | .sillBadCommand .. | .sillWindowAccess .. | .mbStatusRead .. | .mailboxPublish .. | .bridgeOpen ..
  | .bridgeClose .. | .bridgeRead .. | .bridgeProgram .. | .bridgeErase .. | .bridgeOpComplete .. | .lcReturn ..
  | .lcScrap .. | .slackReset .. | .ticknoLoRead .. | .stampLoRead .. | .lastOverrunLoRead .. | .tripTickLoRead ..
  | .tickLoRead .. | .readClear .. | .registerWrite .. | .gpioEdge .. | .startSequence .. | .powerOnReset ..
  | .resetPin .. | .aonBrownout .. | .coreBrownout .. | .supplyLoss .. | .domainRailReset .. | .crossingSever ..
  | .crossingRearm .. | .tapBypass .. | .tapIdcode .. | .tapSamplePreload .. | .tapExtest .. | .tapScanLoad ..
  | .tapLowVoltageTest .. | .tapProvision .. | .tapScrap .. | .referenceFailure .. | .certificateFuse ..
  | .logStoreFormat .. | .supplyReturn .. => none

/-- The guard of a Nirmon instruction; none for a command that is not one. -/
def guardOf : Instr → Option (BitVec 4)
  | .add _ gd _ _ _ | .sub _ gd _ _ _ | .and _ gd _ _ _ | .or _ gd _ _ _ | .xor _ gd _ _ _ | .andn _ gd _ _ _
  | .min _ gd _ _ _ | .max _ gd _ _ _ | .minu _ gd _ _ _ | .maxu _ gd _ _ _ | .adds _ gd _ _ _ | .subs _ gd _ _ _
  | .neg _ gd _ _ | .negs _ gd _ _ | .abs _ gd _ _ | .shl _ gd _ _ _ | .shr _ gd _ _ _ | .sar _ gd _ _ _
  | .ror _ gd _ _ _ | .clz _ gd _ _ | .popc _ gd _ _ | .sextb _ gd _ _ | .sexth _ gd _ _ | .zexth _ gd _ _
  | .mul _ gd _ _ _ | .mulh _ gd _ _ _ | .mulhu _ gd _ _ _ | .div _ gd _ _ _ | .divu _ gd _ _ _ | .rem _ gd _ _ _
  | .remu _ gd _ _ _ | .mac _ gd _ _ _ | .msu _ gd _ _ _ | .mac2h _ gd _ _ _ | .msu2h _ gd _ _ _ | .macu _ gd _ _ _
  | .aclr _ gd _ | .aext _ gd _ _ _ | .fadd _ gd _ _ _ | .fsub _ gd _ _ _ | .fmul _ gd _ _ _ | .fma _ gd _ _ _
  | .fms _ gd _ _ _ | .fdiv _ gd _ _ _ | .fsqrt _ gd _ _ | .fmin _ gd _ _ _ | .fmax _ gd _ _ _ | .fabs _ gd _ _
  | .fneg _ gd _ _ | .fcvtSW _ gd _ _ | .fcvtWS _ gd _ _ | .fcvtSWu _ gd _ _ | .fcvtWuS _ gd _ _ | .addi _ gd _ _ _
  | .andi _ gd _ _ _ | .ori _ gd _ _ _ | .xori _ gd _ _ _ | .shiftiShl _ gd _ _ _ | .shiftiShr _ gd _ _ _
  | .shiftiSar _ gd _ _ _ | .shiftiRor _ gd _ _ _ | .muli _ gd _ _ _ | .movi _ gd _ _ | .movhi _ gd _ _
  | .orlo _ gd _ _ | .b _ gd _ | .bl _ gd _ | .br _ gd _ | .ret _ gd | .loop _ gd _ _ _ _ | .lb _ gd _ _ _ _
  | .lbu _ gd _ _ _ _ | .lh _ gd _ _ _ _ | .lhu _ gd _ _ _ _ | .lw _ gd _ _ _ _ | .lwp _ gd _ _ _ _
  | .sb _ gd _ _ _ _ | .sh _ gd _ _ _ _ | .sw _ gd _ _ _ _ | .swp _ gd _ _ _ _ | .cmp _ gd _ _ _ _ _
  | .fcmp _ gd _ _ _ _ _ | .plog _ gd _ _ _ _ _ _ | .post _ gd _ _ | .postm _ gd _ _ _ | .reduce _ gd _ _
  | .vdotH _ gd _ _ _ _ | .vdotF _ gd _ _ _ _ | .vmacH _ gd _ _ _ _ | .vmacF _ gd _ _ _ _ | .bmov _ gd _ _ _ _
  | .bfill _ gd _ _ _ _ | .bcrc _ gd _ _ _ _ | .fence _ gd | .waitt _ gd _ | .mfs _ gd _ _ | .mts _ gd _ _
  | .gate _ gd _ | .rtg _ gd | .evpop _ gd _ | .evdone _ gd | .evwait _ gd => some gd
  | .storeDrain .. | .windowReadReturn .. | .windowStoreResult .. | .trapEntry .. | .eventEntry .. | .boundary ..
  | .sourceEdge .. | .tickSourceLoss .. | .tickRelock .. | .postArrival .. | .heldPostDelivery ..
  | .acknowledgement .. | .reduceContribution .. | .drivePost .. | .relayForward .. | .routerDead ..
  | .routeInstall .. | .paneRetirement .. | .takeoverStateCopy .. | .takeoverLogReplay .. | .takeoverRedirect ..
  | .takeoverComplete .. | .scrubWord .. | .eccRewrite .. | .bellArrival .. | .bellRecordWrite .. | .holdoffExpiry ..
  | .aonArrivalLatch .. | .sampleFrame .. | .distributionWrite .. | .rxdataRead .. | .flush ..
  | .driveFrameRelease .. | .interlockPinChange .. | .interlockFilterExpiry .. | .rampLimitExpiry ..
  | .moverExecute .. | .moverStageRead .. | .moverPaneWrite .. | .moverWriteBack .. | .moverLate .. | .dramRefresh ..
  | .zqCalibration .. | .dramScrubRead .. | .keyholeHash .. | .keyholeSign .. | .keyholePubkey .. | .keyholeLog ..
  | .keyholeCompletion .. | .logBlockAccept .. | .sealPoint .. | .checkpoint .. | .emmcPortFail ..
  | .emmcRequestComplete .. | .streamRequest .. | .streamRecordSend .. | .ethFrameReceive .. | .ethLinkChange ..
  | .addressResolution .. | .ptpMessageReceive .. | .ptpMessageSend .. | .ptpReceiptTimeout .. | .gateControlEntry ..
  | .announcement .. | .networkKnock .. | .sillKnock .. | .pinKnock .. | .knockForward .. | .knockBroadcast ..
  | .start .. | .hold .. | .resume .. | .abort .. | .mark .. | .shutdown .. | .report .. | .shutdownTest ..
  | .shutdownTestEnd .. | .shutdownCancelReopen .. | .linkTraining .. | .linkDown .. | .linkRestore ..
  | .idleControlBlock .. | .boardDigestExchange .. | .tickMarkerSend .. | .tickMarkerArrival .. | .agreementToken ..
  | .tokenLate .. | .wicketForward .. | .powerReqOpen .. | .powerReqAjar .. | .powerReqShut .. | .domainEntry ..
  | .domainWake .. | .wakeOnAccess .. | .wakeReplay .. | .latchReport .. | .ledgerAction .. | .latchCounterPoll ..
  | .hingeHeartbeat .. | .hingeDead .. | .lockstepMismatch .. | .sillRead .. | .sillWrite .. | .sillStatus ..
  | .sillBadCommand .. | .sillWindowAccess .. | .mbStatusRead .. | .mailboxPublish .. | .bridgeOpen ..
  | .bridgeClose .. | .bridgeRead .. | .bridgeProgram .. | .bridgeErase .. | .bridgeOpComplete .. | .lcReturn ..
  | .lcScrap .. | .slackReset .. | .ticknoLoRead .. | .stampLoRead .. | .lastOverrunLoRead .. | .tripTickLoRead ..
  | .tickLoRead .. | .readClear .. | .registerWrite .. | .gpioEdge .. | .startSequence .. | .powerOnReset ..
  | .resetPin .. | .aonBrownout .. | .coreBrownout .. | .supplyLoss .. | .domainRailReset .. | .crossingSever ..
  | .crossingRearm .. | .tapBypass .. | .tapIdcode .. | .tapSamplePreload .. | .tapExtest .. | .tapScanLoad ..
  | .tapLowVoltageTest .. | .tapProvision .. | .tapScrap .. | .referenceFailure .. | .certificateFuse ..
  | .logStoreFormat .. | .supplyReturn .. => none

/-! When an instruction executes. -/

/-- Instruction i of pane p executes now: the pane can issue, the word passes the checks of R216, the guard holds (R187), and
no window read that is outstanding or has failed writes one of the sources (R149, R150). -/
def State.ready (s : State) (i : Instr) (p : PaneNo) (gd : BitVec 4) (srcs : List RegNo) : Bool :=
  s.canIssue p.toNat && (undefCause i).isNone && (s.pane p.toNat).guard gd
    && (s.pane p.toNat).wreads.all (fun x => !srcs.any x.writes)

/-! What a command changes. -/

/-- Nothing but the state of pane p differs. -/
def OnlyPane (p : Nat) (s t : State) : Prop :=
  t = { s with panes := t.panes } ∧ ∀ k, k ≠ p → t.pane k = s.pane k

/-- Nothing but the listed device registers differs. -/
def OnlyRegs (as : List Nat) (s t : State) : Prop :=
  t = { s with reg := t.reg } ∧ ∀ a, a ∉ as → t.rd a = s.rd a

/-- Pane p has retired one instruction in sequence that gives register rd the value v, and ORs `flags` into STATUS. A result
for g0 is discarded (R182). Everything else of the part is as it was, but for window reads that no longer write rd (log 12). -/
def Wrote (p : Nat) (rd : RegNo) (v flags : Word) (s t : State) : Prop :=
  OnlyPane p s t ∧
  (∀ r : RegNo, (t.pane p).gr r = if r = rd ∧ rd ≠ 0 then v else (s.pane p).gr r) ∧
  (t.pane p).status = (s.pane p).status ||| flags ∧
  (t.pane p).pc = (s.pane p).retire.pc ∧ (t.pane p).lc = (s.pane p).retire.lc ∧
  { t.pane p with g := (s.pane p).g, wreads := (s.pane p).wreads, status := (s.pane p).status, pc := (s.pane p).pc,
                  lc := (s.pane p).lc } = s.pane p

/-- Pane p has retired one instruction in sequence, whose effect on the pane is q; everything else of the part is as it was. -/
def Stepped (p : Nat) (q : Pane) (s t : State) : Prop :=
  OnlyPane p s t ∧ t.pane p = { q with pc := (s.pane p).retire.pc, lc := (s.pane p).retire.lc }

/-- The word that is `b` at bit i and 0 elsewhere. -/
def bitIf (i : Nat) (b : Bool) : Word := if b then 1#32 <<< i else 0#32

/-- The flag bits of a binary32 result (R197, R235). -/
def FRes.flags (r : FRes) : Word :=
  bitIf 4 r.nv ||| bitIf 5 r.dz ||| bitIf 6 r.ovf ||| bitIf 7 r.under ||| bitIf 8 r.nx

/-! Bounds of the state. -/

/-- A pane within the bounds the spec gives it: at most four frames (R270), four buffered stores (R152), three outstanding
window reads (R149) and eight claimed events (R308); and a memory in canonical form. -/
def Pane.bounded (q : Pane) : Bool :=
  decide (q.fdepth ≤ 4) && decide (q.sb.length ≤ 4) && decide (q.outstanding ≤ 3) && decide (q.evStack.length ≤ 8)
    && Memory.wf q.sram

/-- The life cycle of the part goes forward only: the code in force is not above the code fused, which is at most 4 (R607,
R609). -/
def Otp.forward (o : Otp) : Bool := decide (o.lc ≤ o.fused) && decide (o.fused ≤ 4)

/-! Runs. -/

/-- A step neither faults nor is refused. -/
def Safe (s : State) : Prop := ∃ t, step s = .next t

end Sys2Proof.Machine
end

