-- ==== Sys2Proof/Certificates/Slice0/Obligations.lean ====
section
/-!
DEFINITION. The statements: what the commands do, what they leave unchanged, and what every step keeps. A completion statement
says that `exec` answers a next state under hypotheses on the state and operands alone, and what that state holds.
-/

open Sys2Proof Sys2Proof.Machine

/-! The Nirmon word and the issue of an instruction. -/

/-- DECODE AND ENCODE AGREE. The word of every Nirmon instruction that passes the checks of R216 decodes to that instruction,
with every operand at every value the encoding admits; `p` and `k` are the operands the word does not hold. -/
def Obligations.DecodeOfEncode : Prop :=
  ∀ (i : Instr) (w : Nat), encodeNat i = some w → checkWord w = none → ∃ (p : PaneNo) (k : Nat), decodeWord p k w = .ok i

/-- No two instructions share a word: what a 32-bit word decodes to has that word as its encoding. -/
def Obligations.EncodeOfDecode : Prop :=
  ∀ (p : PaneNo) (k w : Nat) (i : Instr), w < 2 ^ 32 → decodeWord p k w = .ok i → encodeNat i = some w ∧ wordLegal i = true

/-- Words written out bit by bit from R209 to R215 decode to the instructions they stand for. -/
def Obligations.WordsDecode : Prop :=
  ∀ p : PaneNo,
    -- ADD g1, g2, g3: major 0x01, RD 1, RA 2, RB 3, FUNC 0
    decodeWord p 0 0b0000_0000001_00001_00010_00011_000000 = .ok (.add p 0 1 2 3) ∧
    -- (!p3) LW g4, [g5 + 8]: guard 1011, major 0x24, RT 4, RA 5, M 0, OFF 8
    decodeWord p 0 0b1011_0100100_00100_00101_0_0000001000 = .ok (.lw p 11 4 5 false 8) ∧
    -- B -4: major 0x18, OFF21 = -4
    decodeWord p 0 0b0000_0011000_111111111111111111100 = .ok (.b p 0 (-4)) ∧
    -- WAITT: major 0x40, SUB 1
    decodeWord p 7 0b0000_1000000_00000_00000000_000_00001 = .ok (.waitt p 0 7) ∧
    -- the guard 1000 is reserved: cause 0 (R216)
    decodeWord p 0 0b1000_0000001_00001_00010_00011_000000 = .error 0 ∧
    -- major 0 is unassigned: cause 1
    decodeWord p 0 0 = .error 1

/-- R216: "The first check that fails raises the undefined-instruction trap with that check's cause": every Nirmon instruction
whose word fails a check takes trap 0 with that cause and the word in EADDR (R286), whatever its guard and its operands. -/
def Sys2Proof.Claims.undefinedWordTraps : Prop :=
  ∀ (i : Instr) (p : PaneNo) (w c : Nat) (s : State), encodeNat i = some w → paneOf i = some p → checkWord w = some c →
    s.canIssue p.toNat = true →
    exec i s = .next (s.takeTrap p.toNat ((s.pane p.toNat).mkTrap 0 c (BitVec.ofNat 32 w)))

/-- R187: an instruction whose guard is false behaves as R147 states: it retires in sequence, and nothing else changes. -/
def Sys2Proof.Claims.falseGuardRetires : Prop :=
  ∀ (i : Instr) (p : PaneNo) (gd : BitVec 4) (s : State), paneOf i = some p → guardOf i = some gd → undefCause i = none →
    s.canIssue p.toNat = true → (s.pane p.toNat).guard gd = false →
    ∃ t, exec i s = .next t ∧ Stepped p.toNat (s.pane p.toNat) s t

/-- The checks of the encoding and the guard, before an instruction does anything (R147, R187, R216). -/
def Obligations.GuardsAndEncodingChecks : Prop :=
  Claims.undefinedWordTraps ∧ Claims.falseGuardRetires

/-! Register instructions. -/

/-- Results of the instructions with two source registers: R222, R223 and R225. -/
def Sys2Proof.Claims.intResults (p : PaneNo) (gd : BitVec 4) (rd ra rb : RegNo) (a b : Word) : List (Instr × Word) :=
  [(.add p gd rd ra rb, a + b), (.sub p gd rd ra rb, a - b), (.and p gd rd ra rb, a &&& b), (.or p gd rd ra rb, a ||| b),
   (.xor p gd rd ra rb, a ^^^ b), (.andn p gd rd ra rb, a &&& ~~~b),
   (.min p gd rd ra rb, if a.toInt ≤ b.toInt then a else b), (.max p gd rd ra rb, if a.toInt ≤ b.toInt then b else a),
   (.minu p gd rd ra rb, if a.toNat ≤ b.toNat then a else b), (.maxu p gd rd ra rb, if a.toNat ≤ b.toNat then b else a),
   (.shl p gd rd ra rb, if b.toNat ≥ 32 then 0 else BitVec.ofNat 32 (a.toNat * 2 ^ b.toNat)),
   (.shr p gd rd ra rb, if b.toNat ≥ 32 then 0 else BitVec.ofNat 32 (a.toNat / 2 ^ b.toNat)),
   (.sar p gd rd ra rb, BitVec.ofInt 32 (a.toInt / 2 ^ min b.toNat 31)),
   (.ror p gd rd ra rb, (a >>> (b.toNat % 32)) ||| (a <<< (32 - b.toNat % 32))),
   (.mul p gd rd ra rb, BitVec.ofNat 32 (a.toNat * b.toNat)),
   (.mulh p gd rd ra rb, (a.signExtend 64 * b.signExtend 64).extractLsb' 32 32),
   (.mulhu p gd rd ra rb, (a.zeroExtend 64 * b.zeroExtend 64).extractLsb' 32 32)]

/-- Every instruction of `intResults` that executes answers a next state in which RD holds its result, no flag is set, and
nothing else of the part differs but pc and, at the end of a loop, the loop counters (R222, R223, R225). -/
def Obligations.IntegerResults : Prop :=
  ∀ (s : State) (p : PaneNo) (gd : BitVec 4) (rd ra rb : RegNo),
    ∀ x ∈ Claims.intResults p gd rd ra rb ((s.pane p.toNat).gr ra) ((s.pane p.toNat).gr rb),
      s.ready x.1 p gd [ra, rb] = true → ∃ t, exec x.1 s = .next t ∧ Wrote p.toNat rd x.2 0 s t

/-- Results of the instructions with one source register: R222 and R236. -/
def Sys2Proof.Claims.unaryResults (p : PaneNo) (gd : BitVec 4) (rd ra : RegNo) (a : Word) : List (Instr × Word) :=
  [(.clz p gd rd ra, BitVec.ofNat 32 ((List.range 32).takeWhile (fun i => !a.getLsbD (31 - i))).length),
   (.popc p gd rd ra, BitVec.ofNat 32 ((List.range 32).countP (fun i => a.getLsbD i))),
   (.sextb p gd rd ra, (a.extractLsb' 0 8).signExtend 32), (.sexth p gd rd ra, (a.extractLsb' 0 16).signExtend 32),
   (.zexth p gd rd ra, a &&& 0xFFFF#32), (.fabs p gd rd ra, a &&& 0x7FFFFFFF#32), (.fneg p gd rd ra, a ^^^ 0x80000000#32)]

/-- Results of the instructions of R224 with an 11-bit immediate, a shift amount, or a 16-bit immediate. -/
def Sys2Proof.Claims.immResults (p : PaneNo) (gd : BitVec 4) (rd ra : RegNo) (imm : BitVec 11) (amt : BitVec 6) (a : Word) :
    List (Instr × Word) :=
  [(.addi p gd rd ra imm, a + imm.signExtend 32), (.andi p gd rd ra imm, a &&& imm.zeroExtend 32),
   (.ori p gd rd ra imm, a ||| imm.zeroExtend 32), (.xori p gd rd ra imm, a ^^^ imm.zeroExtend 32),
   (.shiftiShl p gd rd ra amt, if amt.toNat ≥ 32 then 0 else BitVec.ofNat 32 (a.toNat * 2 ^ amt.toNat)),
   (.shiftiShr p gd rd ra amt, if amt.toNat ≥ 32 then 0 else BitVec.ofNat 32 (a.toNat / 2 ^ amt.toNat)),
   (.shiftiSar p gd rd ra amt, BitVec.ofInt 32 (a.toInt / 2 ^ min amt.toNat 31)),
   (.shiftiRor p gd rd ra amt, (a >>> (amt.toNat % 32)) ||| (a <<< (32 - amt.toNat % 32))),
   (.muli p gd rd ra imm, BitVec.ofInt 32 (a.toInt * imm.toInt))]

/-- The instructions with one source register or an immediate give RD their result, set no flag, and change nothing else but pc
and loop counters (R222, R224, R236). MOVHI followed by ORLO builds any 32-bit constant. -/
def Obligations.UnaryAndImmediateResults : Prop :=
  ∀ (s : State) (p : PaneNo) (gd : BitVec 4) (rd ra : RegNo) (imm : BitVec 11) (amt : BitVec 6) (w : BitVec 16),
    (∀ x ∈ Claims.unaryResults p gd rd ra ((s.pane p.toNat).gr ra) ++
        Claims.immResults p gd rd ra imm amt ((s.pane p.toNat).gr ra),
      s.ready x.1 p gd [ra] = true → ∃ t, exec x.1 s = .next t ∧ Wrote p.toNat rd x.2 0 s t) ∧
    (s.ready (.movi p gd rd w) p gd [] = true →
      ∃ t, exec (.movi p gd rd w) s = .next t ∧ Wrote p.toNat rd (w.signExtend 32) 0 s t) ∧
    (s.ready (.movhi p gd rd w) p gd [] = true →
      ∃ t, exec (.movhi p gd rd w) s = .next t ∧ Wrote p.toNat rd (w ++ 0#16) 0 s t) ∧
    (s.ready (.orlo p gd rd w) p gd [rd] = true →
      ∃ t, exec (.orlo p gd rd w) s = .next t ∧ Wrote p.toNat rd ((s.pane p.toNat).gr rd ||| (0#16 ++ w)) 0 s t)

/-- x brought to the nearer of the bounds of a signed 32-bit number, when it lies outside them (R222). -/
def Sys2Proof.Claims.clamp32 (x : Int) : Word := BitVec.ofInt 32 (max (-2147483648) (min 2147483647 x))

/-- x lies outside the signed 32-bit numbers. -/
def Sys2Proof.Claims.over32 (x : Int) : Bool := decide (x < -2147483648) || decide (2147483647 < x)

/-- ADDS, SUBS and NEGS saturate and set V when they do; NEG and ABS give 0x8000_0000 for it, with V (R222). -/
def Obligations.SaturatingResults : Prop :=
  ∀ (s : State) (p : PaneNo) (gd : BitVec 4) (rd ra rb : RegNo),
    let a := (s.pane p.toNat).gr ra
    let b := (s.pane p.toNat).gr rb
    (∀ x ∈ ([(.adds p gd rd ra rb, a.toInt + b.toInt), (.subs p gd rd ra rb, a.toInt - b.toInt)] : List (Instr × Int)),
      s.ready x.1 p gd [ra, rb] = true →
        ∃ t, exec x.1 s = .next t ∧ Wrote p.toNat rd (Claims.clamp32 x.2) (bitIf 0 (Claims.over32 x.2)) s t) ∧
    (s.ready (.negs p gd rd ra) p gd [ra] = true → ∃ t, exec (.negs p gd rd ra) s = .next t ∧
      Wrote p.toNat rd (Claims.clamp32 (-a.toInt)) (bitIf 0 (Claims.over32 (-a.toInt))) s t) ∧
    (s.ready (.neg p gd rd ra) p gd [ra] = true → ∃ t, exec (.neg p gd rd ra) s = .next t ∧
      Wrote p.toNat rd (0 - a) (bitIf 0 (a == 0x80000000#32)) s t) ∧
    (s.ready (.abs p gd rd ra) p gd [ra] = true → ∃ t, exec (.abs p gd rd ra) s = .next t ∧
      Wrote p.toNat rd (BitVec.ofNat 32 a.toInt.natAbs) (bitIf 0 (a == 0x80000000#32)) s t)

/-- R226: the quotients and remainders, with what a zero divisor gives while DZE is 0, and the corner of the most negative
number over -1. -/
def Sys2Proof.Claims.divResults (p : PaneNo) (gd : BitVec 4) (rd ra rb : RegNo) (a b : Word) : List (Instr × Word × Word) :=
  let corner := a = 0x80000000#32 ∧ b = 0xFFFFFFFF#32
  let dz := bitIf 1 (b == 0)
  [(.div p gd rd ra rb,
    (if b = 0 then (if a.toInt ≥ 0 then 0x7FFFFFFF#32 else 0x80000000#32)
     else if corner then 0x80000000#32 else BitVec.ofInt 32 (a.toInt.tdiv b.toInt),
     dz ||| bitIf 0 (decide corner))),
   (.divu p gd rd ra rb, (if b = 0 then 0xFFFFFFFF#32 else BitVec.ofNat 32 (a.toNat / b.toNat), dz)),
   (.rem p gd rd ra rb,
    (if b = 0 then a else if corner then 0 else BitVec.ofInt 32 (a.toInt - b.toInt * a.toInt.tdiv b.toInt), dz)),
   (.remu p gd rd ra rb, (if b = 0 then a else BitVec.ofNat 32 (a.toNat - b.toNat * (a.toNat / b.toNat)), dz))]

/-- DIV, DIVU, REM and REMU complete as R226 computes whenever the divisor is not 0 or DZE is 0. -/
def Sys2Proof.Claims.divisionResults : Prop :=
  ∀ (s : State) (p : PaneNo) (gd : BitVec 4) (rd ra rb : RegNo),
    ((s.pane p.toNat).gr rb ≠ 0 ∨ (s.pane p.toNat).dze = false) →
    ∀ x ∈ Claims.divResults p gd rd ra rb ((s.pane p.toNat).gr ra) ((s.pane p.toNat).gr rb),
      s.ready x.1 p gd [ra, rb] = true → ∃ t, exec x.1 s = .next t ∧ Wrote p.toNat rd x.2.1 x.2.2 s t

/-- R226: with DZE 1 a zero divisor takes the divide-by-zero trap, number 6 with the dividend in EADDR (R286), from the state as it
stands: the instruction writes neither RD nor DZ before it. -/
def Sys2Proof.Claims.divideByZeroTraps : Prop :=
  ∀ (s : State) (p : PaneNo) (gd : BitVec 4) (rd ra rb : RegNo),
    (s.pane p.toNat).gr rb = 0 → (s.pane p.toNat).dze = true →
    ∀ i ∈ ([.div p gd rd ra rb, .divu p gd rd ra rb, .rem p gd rd ra rb, .remu p gd rd ra rb] : List Instr),
      s.ready i p gd [ra, rb] = true →
        exec i s = .next (s.takeTrap p.toNat ((s.pane p.toNat).mkTrap 6 0 ((s.pane p.toNat).gr ra)))

/-- Division: results, flags and the divide-by-zero trap (R226). -/
def Obligations.DivisionResults : Prop :=
  Claims.divisionResults ∧ Claims.divideByZeroTraps

/-! Accumulators. -/

/-- The signed halves of a word. -/
def Sys2Proof.Claims.lo (v : Word) : Int := (v.extractLsb' 0 16).toInt
def Sys2Proof.Claims.hi (v : Word) : Int := (v.extractLsb' 16 16).toInt

/-- R229: what each accumulating instruction adds to its accumulator. -/
def Sys2Proof.Claims.macTerms (p : PaneNo) (gd : BitVec 4) (n ra rb : RegNo) (a b : Word) : List (Instr × Int) :=
  [(.mac p gd n ra rb, a.toInt * b.toInt), (.msu p gd n ra rb, -(a.toInt * b.toInt)),
   (.mac2h p gd n ra rb, Claims.lo a * Claims.lo b + Claims.hi a * Claims.hi b),
   (.msu2h p gd n ra rb, -(Claims.lo a * Claims.lo b) - Claims.hi a * Claims.hi b),
   (.macu p gd n ra rb, (a.toNat * b.toNat : Nat))]

/-- A pane with accumulator n at v and `fl` ORed into STATUS. -/
def Sys2Proof.Claims.accAt (q : Pane) (n : RegNo) (v : Acc) (fl : Word) : Pane :=
  { q with acc0 := if n = 0 then v else q.acc0, acc1 := if n = 0 then q.acc1 else v, status := q.status ||| fl }

/-- MAC, MSU, MAC2H, MSU2H and MACU add the exact term to the accumulator, wrapped once modulo 2^72, and set AV when the exact
result lies outside 72 bits (R188, R229, R230); ACLR clears it and leaves AV; AEXT rounds half up and saturates (R231). -/
def Obligations.AccumulatorResults : Prop :=
  ∀ (s : State) (p : PaneNo) (gd : BitVec 4) (rd n ra rb : RegNo),
    let q := s.pane p.toNat
    let v (m : RegNo) : Int := (if m = 0 then q.acc0 else q.acc1).toInt
    (∀ x ∈ Claims.macTerms p gd n ra rb (q.gr ra) (q.gr rb), s.ready x.1 p gd [ra, rb] = true →
      ∃ t, exec x.1 s = .next t ∧
        Stepped p.toNat (Claims.accAt q n (BitVec.ofInt 72 (v n + x.2))
          (bitIf 2 (decide (v n + x.2 < -2 ^ 71) || decide (2 ^ 71 - 1 < v n + x.2)))) s t) ∧
    (s.ready (.aclr p gd n) p gd [] = true →
      ∃ t, exec (.aclr p gd n) s = .next t ∧ Stepped p.toNat (Claims.accAt q n 0 0) s t) ∧
    (s.ready (.aext p gd rd n rb) p gd [rb] = true →
      let k := min (q.gr rb).toNat 63
      let r := if k > 0 then (v n + 2 ^ (k - 1)) / 2 ^ k else v n
      ∃ t, exec (.aext p gd rd n rb) s = .next t ∧
        Wrote p.toNat rd (Claims.clamp32 r) (bitIf 0 (Claims.over32 r)) s t)

/-! binary32 and predicates. -/

/-- The sources and results of the binary32 instructions, by the arithmetic of Flags.lean (R232 to R239). -/
def Sys2Proof.Claims.floatResults (p : PaneNo) (gd : BitVec 4) (rd ra rb : RegNo) (d a b : Word) : List (Instr × List RegNo × FRes) :=
  [(.fadd p gd rd ra rb, [ra, rb], fAdd a b), (.fsub p gd rd ra rb, [ra, rb], fAdd a (b ^^^ 0x80000000#32)),
   (.fmul p gd rd ra rb, [ra, rb], fMul a b), (.fma p gd rd ra rb, [rd, ra, rb], fFma a b d),
   (.fms p gd rd ra rb, [rd, ra, rb], fFma (a ^^^ 0x80000000#32) b d), (.fdiv p gd rd ra rb, [ra, rb], fDiv a b),
   (.fsqrt p gd rd ra, [ra], fSqrt a), (.fmin p gd rd ra rb, [ra, rb], fMin a b), (.fmax p gd rd ra rb, [ra, rb], fMax a b),
   (.fcvtSW p gd rd ra, [ra], roundF a.msb a.toInt.natAbs 0), (.fcvtSWu p gd rd ra, [ra], roundF false a.toNat 0),
   (.fcvtWS p gd rd ra, [ra], fToInt (-2 ^ 31) (2 ^ 31 - 1) a), (.fcvtWuS p gd rd ra, [ra], fToInt 0 (2 ^ 32 - 1) a)]

/-- Every binary32 instruction that executes gives RD its result, ORs the flags of R235 into STATUS, clears none (R198), never
traps, and changes nothing else but pc and loop counters. -/
def Obligations.FloatResults : Prop :=
  ∀ (s : State) (p : PaneNo) (gd : BitVec 4) (rd ra rb : RegNo),
    ∀ x ∈ Claims.floatResults p gd rd ra rb ((s.pane p.toNat).gr rd) ((s.pane p.toNat).gr ra) ((s.pane p.toNat).gr rb),
      s.ready x.1 p gd x.2.1 = true → ∃ t, exec x.1 s = .next t ∧ Wrote p.toNat rd x.2.2.bits x.2.2.flags s t

/-- R233: "Every NaN produced by an arithmetic, minimum, maximum or convert instruction is 0x7FC0_0000, whatever the NaNs at
its inputs", with the signalling NaNs as R233 tells them. The converts to integers deliver no binary32 value. -/
def Obligations.NaNsAreCanonical : Prop :=
  ∀ (p : PaneNo) (gd : BitVec 4) (rd ra rb : RegNo) (d a b : Word),
    (∀ x ∈ Claims.floatResults p gd rd ra rb d a b, (x.1 ≠ .fcvtWS p gd rd ra ∧ x.1 ≠ .fcvtWuS p gd rd ra) →
      isNaN x.2.2.bits = true → x.2.2.bits = 0x7FC00000#32) ∧
    (isSNaN a = true ↔ a.toNat / 2 ^ 23 % 256 = 0xFF ∧ a.toNat % 2 ^ 23 ≠ 0 ∧ a.toNat / 2 ^ 22 % 2 = 0)

/-- p[k] at b, where k is not 0. -/
def Sys2Proof.Claims.predAt (q : Pane) (k : BitVec 3) (b : Bool) (fl : Word) : Pane :=
  { q with pred := (q.pred &&& ~~~(1#8 <<< k.toNat)) ||| (if b then 1#8 <<< k.toNat else 0), status := q.status ||| fl }

/-- CMP, FCMP and PLOG write one predicate by R240, R241 and R242, FCMP with its FNV, and change nothing else but pc and loop
counters. The word of each passes the checks of R216, so PD is not 0. -/
def Obligations.PredicateResults : Prop :=
  ∀ (s : State) (p : PaneNo) (gd : BitVec 4) (pd pa pb : BitVec 3) (ra : RegNo) (i na nb : Bool) (cond : BitVec 4) (op : BitVec 2)
    (b : BitVec 8),
    let q := s.pane p.toNat
    let a := q.gr ra
    let rb : RegNo := b.extractLsb' 3 5
    let x := if i then (if cond.toNat ≤ 3 then b.signExtend 32 else b.zeroExtend 32) else q.gr rb
    (s.ready (.cmp p gd pd ra i cond b) p gd (if i then [ra] else [ra, rb]) = true →
      ∃ t, exec (.cmp p gd pd ra i cond b) s = .next t ∧
        Stepped p.toNat (Claims.predAt q pd
          (match cond.toNat with
           | 0 => a == x
           | 1 => a != x
           | 2 => decide (a.toInt < x.toInt)
           | 3 => decide (a.toInt ≥ x.toInt)
           | 4 => decide (a.toNat < x.toNat)
           | 5 => decide (a.toNat ≥ x.toNat)
           | 6 => (a &&& x) != 0
           | _ => (a &&& x) == 0) 0) s t) ∧
    (s.ready (.fcmp p gd pd ra i cond b) p gd [ra, rb] = true →
      ∃ t, exec (.fcmp p gd pd ra i cond b) s = .next t ∧
        Stepped p.toNat (Claims.predAt q pd (fCmp cond.toNat a (q.gr rb)).1 (bitIf 4 (fCmp cond.toNat a (q.gr rb)).2)) s t) ∧
    (s.ready (.plog p gd pd pa na pb nb op) p gd [] = true →
      let u := q.pr pa ^^ na
      let v := q.pr pb ^^ nb
      ∃ t, exec (.plog p gd pd pa na pb nb op) s = .next t ∧
        Stepped p.toNat (Claims.predAt q pd (match op.toNat with
          | 0 => u && v
          | 1 => u || v
          | _ => u ^^ v) 0) s t)

/-! Branches and loops. -/

/-- Pane p has pc at a, and nothing else differs. -/
def Sys2Proof.Claims.Jumped (p : Nat) (a : Word) (s t : State) : Prop :=
  OnlyPane p s t ∧ t.pane p = { s.pane p with pc := a }

/-- A taken B, BR or RET changes no loop counter; BL links the next instruction after R192 and applies R192 (R193, R245);
a register target that is not word-aligned takes the alignment trap (R145). -/
def Sys2Proof.Claims.branchResults : Prop :=
  ∀ (s : State) (p : PaneNo) (gd : BitVec 4) (reg : RegNo) (off : BitVec 21),
    let q := s.pane p.toNat
    let target := q.pc + BitVec.ofInt 32 (4 * off.toInt)
    (s.ready (.b p gd off) p gd [] = true → ∃ t, exec (.b p gd off) s = .next t ∧ Claims.Jumped p.toNat target s t) ∧
    (s.ready (.bl p gd off) p gd [] = true → ∃ t, exec (.bl p gd off) s = .next t ∧ OnlyPane p.toNat s t ∧
      t.pane p.toNat = { q with pc := target, lr := q.retire.pc, lc := q.retire.lc }) ∧
    (s.ready (.br p gd reg) p gd [reg] = true → (q.gr reg).toNat % 4 = 0 →
      ∃ t, exec (.br p gd reg) s = .next t ∧ Claims.Jumped p.toNat (q.gr reg) s t) ∧
    (s.ready (.ret p gd) p gd [] = true → q.lr.toNat % 4 = 0 →
      ∃ t, exec (.ret p gd) s = .next t ∧ Claims.Jumped p.toNat q.lr s t) ∧
    (s.ready (.br p gd reg) p gd [reg] = true → (q.gr reg).toNat % 4 ≠ 0 →
      exec (.br p gd reg) s = .next (s.takeTrap p.toNat (q.mkTrap 2 1 (q.gr reg)))) ∧
    (s.ready (.ret p gd) p gd [] = true → q.lr.toNat % 4 ≠ 0 →
      exec (.ret p gd) s = .next (s.takeTrap p.toNat (q.mkTrap 2 1 q.lr)))

/-- R191 and R194: LOOP at level L sets lbL, leL and lcL and goes on at the next instruction, or past the body when the count
is 0; with an active level above L, or an active level below L that does not enclose the body, it takes the loop trap, number 7, and
changes no loop register. -/
def Sys2Proof.Claims.loopResults : Prop :=
  ∀ (s : State) (p : PaneNo) (gd : BitVec 4) (l : BitVec 2) (r : Bool) (body : BitVec 8) (cnt : BitVec 10),
    let q := s.pane p.toNat
    let rc : RegNo := cnt.extractLsb' 5 5
    let n := if r then q.gr rc else cnt.zeroExtend 32
    let lb := q.pc + 4
    let le := lb + 4 * body.zeroExtend 32
    let above := ∃ k : Fin 3, k.val > l.toNat ∧ q.lc[k] ≠ 0
    let outside := ∃ k : Fin 3, k.val < l.toNat ∧ q.lc[k] ≠ 0 ∧ (q.pc.toNat < q.lb[k].toNat ∨ le.toNat > q.le[k].toNat)
    let set : Pane := { q with lb := q.lb.setIfInBounds l.toNat lb, le := q.le.setIfInBounds l.toNat le,
                               lc := q.lc.setIfInBounds l.toNat n }
    s.ready (.loop p gd l r body cnt) p gd (if r then [rc] else []) = true →
      (¬ above → ¬ outside → n = 0 →
        ∃ t, exec (.loop p gd l r body cnt) s = .next t ∧ OnlyPane p.toNat s t ∧ t.pane p.toNat = { set with pc := le + 4 }) ∧
      (¬ above → ¬ outside → n ≠ 0 →
        ∃ t, exec (.loop p gd l r body cnt) s = .next t ∧ OnlyPane p.toNat s t ∧ t.pane p.toNat = set.retire) ∧
      (above → exec (.loop p gd l r body cnt) s = .next (s.takeTrap p.toNat { q.mkTrap 7 0 q.pc with index := l.toNat })) ∧
      (¬ above → outside →
        exec (.loop p gd l r body cnt) s = .next (s.takeTrap p.toNat { q.mkTrap 7 1 q.pc with index := l.toNat }))

/-- Branches and LOOP: targets, links, loop registers and their traps (R145, R191, R193, R194, R245). -/
def Obligations.BranchesAndLoops : Prop :=
  Claims.branchResults ∧ Claims.loopResults

/-- R192: "Loop-back is decided when an instruction retires", level by level from 2 down: the innermost active level that ends at the
instruction goes round while its count is above 1; a level whose count is 1 ends, and the next one out is examined; otherwise the
next instruction is the one at a + 4. `retire` is what every instruction that retires in sequence does. -/
def Obligations.LoopBackFollowsR192 : Prop :=
  ∀ q : Pane,
    let hit (k : Fin 3) := q.lc[k] ≠ 0 ∧ q.le[k] = q.pc
    let l2 := if hit 2 then q.lc.set 2 0 else q.lc
    let l1 := if hit 1 then l2.set 1 0 else l2
    q.retire =
      if hit 2 ∧ q.lc[2].toNat > 1 then { q with pc := q.lb[2], lc := q.lc.set 2 (q.lc[2] - 1) }
      else if hit 1 ∧ q.lc[1].toNat > 1 then { q with pc := q.lb[1], lc := l2.set 1 (q.lc[1] - 1) }
      else if hit 0 ∧ q.lc[0].toNat > 1 then { q with pc := q.lb[0], lc := l1.set 0 (q.lc[0] - 1) }
      else { q with pc := q.pc + 4, lc := if hit 0 then l1.set 0 0 else l1 }

/-! Memory. -/

/-- The bytes [a, a + n) of a memory as a number, the lowest byte first (R11). -/
def Sys2Proof.Claims.memVal (m : Memory) (a n : Nat) : Nat := ((List.range n).map (fun k => (m.read (a + k)).toNat * 2 ^ (8 * k))).sum

/-- What a load of n bytes of value x gives RT (R243). -/
def Sys2Proof.Claims.regVal (n : Nat) (sgn : Bool) (x : Nat) : Word :=
  if sgn then (BitVec.ofNat (8 * n) x).signExtend 32 else (BitVec.ofNat (8 * n) x).setWidth 32

/-- The effective address of format E (R211). -/
def Sys2Proof.Claims.ea (q : Pane) (ra : RegNo) (m : Bool) (off : BitVec 10) : Nat :=
  (if m then q.gr ra else q.gr ra + off.signExtend 32).toNat

/-- The loads, with their sizes and whether they extend the sign (R243). -/
def Sys2Proof.Claims.loads (p : PaneNo) (gd : BitVec 4) (rt ra : RegNo) (m : Bool) (off : BitVec 10) : List (Instr × Nat × Bool) :=
  [(.lb p gd rt ra m off, 1, true), (.lbu p gd rt ra m off, 1, false), (.lh p gd rt ra m off, 2, true),
   (.lhu p gd rt ra m off, 2, false), (.lw p gd rt ra m off, 4, false), (.lwp p gd rt ra m off, 8, false)]

/-- The stores, with their sizes and sources (R243). -/
def Sys2Proof.Claims.stores (p : PaneNo) (gd : BitVec 4) (rt ra : RegNo) (m : Bool) (off : BitVec 10) : List (Instr × Nat × List RegNo) :=
  [(.sb p gd rt ra m off, 1, [ra, rt]), (.sh p gd rt ra m off, 2, [ra, rt]), (.sw p gd rt ra m off, 4, [ra, rt]),
   (.swp p gd rt ra m off, 8, [ra, rt, rt + 1])]

/-- A buffered store has a byte in [a, a + n). -/
def Sys2Proof.Claims.overlap (e : SbEntry) (a n : Nat) : Prop := e.addr < a + n ∧ a < e.addr + e.size

/-- The ring may read the n bytes at a in local SRAM or the front inbox (R161). -/
def Sys2Proof.Claims.readable (q : Pane) (a n : Nat) : Prop :=
  (a + n ≤ 0xE000 ∧ ∀ k < n, q.canRead q.ring (a + k) = true) ∨ (0xE000 ≤ a ∧ a + n ≤ 0xF000 ∧ a % n = 0)

/-- The registers after a load of value x: the base when M = 1, then RT, and RT + 1 for a pair (R211, R213, R243). -/
def Sys2Proof.Claims.loadedReg (q : Pane) (rt ra : RegNo) (m : Bool) (off : BitVec 10) (n : Nat) (sgn : Bool) (x : Nat) (r : RegNo) : Word :=
  if n = 8 ∧ r = rt + 1 then BitVec.ofNat 32 (x / 2 ^ 32)
  else if r = rt ∧ rt ≠ 0 then Claims.regVal n sgn x
  else if m = true ∧ r = ra ∧ ra ≠ 0 then q.gr ra + off.signExtend 32
  else q.gr r

/-- A load of value x has retired: only its registers, pc and loop counters differ. -/
def Sys2Proof.Claims.Loaded (p : Nat) (rt ra : RegNo) (m : Bool) (off : BitVec 10) (n : Nat) (sgn : Bool) (x : Nat) (s t : State) : Prop :=
  let q := s.pane p
  OnlyPane p s t ∧ (∀ r, (t.pane p).gr r = Claims.loadedReg q rt ra m off n sgn x r) ∧
  (t.pane p).pc = q.retire.pc ∧ (t.pane p).lc = q.retire.lc ∧
  { t.pane p with g := q.g, wreads := q.wreads, pc := q.pc, lc := q.lc, loadWaits := q.loadWaits } = q

/-- A load from local SRAM or the front inbox that no buffered store overlaps, from words free of ECC errors, gives its
registers the bytes in memory, the lowest address first (R154, R243), and changes nothing else. -/
def Obligations.LocalLoads : Prop :=
  ∀ (s : State) (p : PaneNo) (gd : BitVec 4) (rt ra : RegNo) (m : Bool) (off : BitVec 10),
    ∀ x ∈ Claims.loads p gd rt ra m off,
      let q := s.pane p.toNat
      let a := Claims.ea q ra m off
      s.ready x.1 p gd [ra] = true → Claims.readable q a x.2.1 → (∀ e ∈ q.sb, ¬ Claims.overlap e a x.2.1) →
      (∀ k < x.2.1, q.eccAt (a + k) = .clean) →
      ∃ t, exec x.1 s = .next t ∧ Claims.Loaded p.toNat rt ra m off x.2.1 x.2.2 (Claims.memVal q.sram a x.2.1) s t

/-- R154: the youngest buffered store that overlaps a load decides. Of the same address and size, it gives its data; in part
only, the load waits, with nothing changed but one count of FWD_WAITS. -/
def Obligations.StoreBufferDecides : Prop :=
  ∀ (s : State) (p : PaneNo) (gd : BitVec 4) (rt ra : RegNo) (m : Bool) (off : BitVec 10),
    ∀ x ∈ Claims.loads p gd rt ra m off, ∀ (older younger : List SbEntry) (e : SbEntry),
      let q := s.pane p.toNat
      let a := Claims.ea q ra m off
      s.ready x.1 p gd [ra] = true → Claims.readable q a x.2.1 → a % x.2.1 = 0 → q.sb = older ++ e :: younger →
      (∀ f ∈ younger, ¬ Claims.overlap f a x.2.1) →
      (e.addr = a ∧ e.size = x.2.1 ∧ e.split = false →
        ∃ t, exec x.1 s = .next t ∧ Claims.Loaded p.toNat rt ra m off x.2.1 x.2.2 e.data s t) ∧
      (Claims.overlap e a x.2.1 ∧ (e.addr ≠ a ∨ e.size ≠ x.2.1 ∨ e.split = true) →
        ∃ t, exec x.1 s = .next t ∧ OnlyPane p.toNat s t ∧
          { t.pane p.toNat with loadWaits := q.loadWaits, ctl := q.ctl } = q ∧ (t.pane p.toNat).loadWaits = true ∧
          (∀ b, b ≠ 0x54 → (t.pane p.toNat).cr b = q.cr b) ∧
          (t.pane p.toNat).cr 0x54 =
            if q.loadWaits then q.cr 0x54 else BitVec.ofNat 32 (min ((q.cr 0x54).toNat + 1) 65535))

/-- Where a load or store of local memory traps, in the order of R287 (R62, R161, R164, R166, R286): EADDR is its address, WR marks
a store. The trap is taken from the unchanged state. -/
def Obligations.AccessesTrap : Prop :=
  ∀ (s : State) (p : PaneNo) (gd : BitVec 4) (rt ra : RegNo) (m : Bool) (off : BitVec 10),
    ∀ x ∈ (Claims.loads p gd rt ra m off).map (fun x => (x.1, x.2.1, [ra], false)) ++
        (Claims.stores p gd rt ra m off).map (fun x => (x.1, x.2.1, x.2.2, true)),
      let q := s.pane p.toNat
      let a := Claims.ea q ra m off
      let n := x.2.1
      let wr := x.2.2.2
      let traps (num cause : Nat) :=
        exec x.1 s = .next (s.takeTrap p.toNat { q.mkTrap num cause (BitVec.ofNat 32 a) with wr := wr })
      s.ready x.1 p gd x.2.2.1 = true →
        (a < 0xE000 → a + n > 0xE000 → traps 2 0) ∧
        (a + n ≤ 0xE000 → q.canRead q.ring a = false → q.canWrite q.ring a = false → traps 3 1) ∧
        (wr = true → a + n ≤ 0xE000 → q.canRead q.ring a = true → q.canWrite q.ring a = false → traps 3 2) ∧
        (0xE000 ≤ a → a < 0xF000 → a % n ≠ 0 → traps 2 0) ∧
        (wr = true → 0xE000 ≤ a → a < 0xF000 → a % n = 0 → traps 3 2) ∧
        (0xF000 ≤ a → a < 0x10000 → traps 3 0) ∧
        (0x11000 ≤ a → a < 0x10000000 → traps 3 0)

/-- Where a store goes through the buffer and is permitted: local SRAM, the bay-buffer window and the DRAM window (R161, R401). -/
def Sys2Proof.Claims.bufferable (s : State) (q : Pane) (a n : Nat) : Prop :=
  (a + n ≤ 0xE000 ∧ ∀ k < n, q.canWrite q.ring (a + k) = true) ∨
  (0x10000000 ≤ a ∧ a < 0x10200000 ∧ a % n = 0 ∧ q.ring < 3) ∨
  (0x40000000 ≤ a ∧ a < 0x80000000 ∧ a % n = 0 ∧ q.ring < 3 ∧
    (q.cr 0x30).fld 0 7 * 67108864 + (a - 0x40000000) < s.dramUsable * 67108864)

/-- The data a store of n bytes takes from RT, and from RT + 1 for a pair (R243). -/
def Sys2Proof.Claims.storeVal (q : Pane) (rt : RegNo) (n : Nat) : Nat :=
  if n = 8 then (q.gr rt).toNat + (q.gr (rt + 1)).toNat * 2 ^ 32 else (q.gr rt).toNat % 2 ^ (8 * n)

/-- The entries of a store: one when aligned, and two that meet at a multiple of its size otherwise (R152, R153). -/
def Sys2Proof.Claims.entries (a n v : Nat) : List SbEntry :=
  if a % n = 0 then [{ addr := a, size := n, data := v, split := false }]
  else [{ addr := a, size := n - a % n, data := v % 2 ^ (8 * (n - a % n)), split := true },
        { addr := a + (n - a % n), size := a % n, data := v / 2 ^ (8 * (n - a % n)), split := true }]

/-- A permitted store enters the buffer behind the stores before it, updates its base when M = 1, and changes no memory; RT is read
before the update (R213). SNOOPS counts when its bytes overlap one of the next two instructions (R159). A store that finds too few
free entries waits, with nothing changed (R153). -/
def Obligations.StoresEnterBuffer : Prop :=
  ∀ (s : State) (p : PaneNo) (gd : BitVec 4) (rt ra : RegNo) (m : Bool) (off : BitVec 10),
    ∀ x ∈ Claims.stores p gd rt ra m off,
      let q := s.pane p.toNat
      let a := Claims.ea q ra m off
      let n := x.2.1
      let es := Claims.entries a n (Claims.storeVal q rt n)
      let hits (w : Nat) := a < w + 4 ∧ w < a + n
      s.ready x.1 p gd x.2.2 = true → Claims.bufferable s q a n →
        (q.sb.length + es.length ≤ 4 →
          ∃ t, exec x.1 s = .next t ∧ OnlyPane p.toNat s t ∧ (t.pane p.toNat).sb = q.sb ++ es ∧
            (∀ r, (t.pane p.toNat).gr r = if m = true ∧ r = ra ∧ ra ≠ 0 then q.gr ra + off.signExtend 32 else q.gr r) ∧
            (t.pane p.toNat).pc = q.retire.pc ∧ (t.pane p.toNat).lc = q.retire.lc ∧
            (∀ b, b ≠ 0x50 → (t.pane p.toNat).cr b = q.cr b) ∧
            (t.pane p.toNat).cr 0x50 =
              (if hits q.retire.pc.toNat ∨ hits q.retire.retire.pc.toNat
               then BitVec.ofNat 32 (min ((q.cr 0x50).toNat + 1) 65535) else q.cr 0x50) ∧
            { t.pane p.toNat with g := q.g, wreads := q.wreads, pc := q.pc, lc := q.lc, sb := q.sb, ctl := q.ctl } = q) ∧
        (q.sb.length + es.length > 4 → exec x.1 s = .next s)

/-- The pane is not waiting in a FENCE, a WAITT or an EVWAIT. -/
def Sys2Proof.Claims.awake (q : Pane) : Prop := q.phase ≠ .fence ∧ q.phase ≠ .waitt ∧ q.phase ≠ .waittIn ∧ q.phase ≠ .evwait

/-- STORE_DRAIN takes the oldest entry (R152). Into local SRAM, the bytes of the entry change and no other byte of the pane
does, and each word with a single-bit error that the entry merges into counts in ECC_CE (R168); toward a window, the store is
sent, and no byte of the pane changes. Registers, pc and every other pane stay. -/
def Obligations.StoreDrains : Prop :=
  ∀ (s : State) (p : PaneNo) (n : Nat) (e : SbEntry) (rest : List SbEntry),
    let q := s.pane p.toNat
    s.paneUp p.toNat = true → Claims.awake q → q.sb = e :: rest →
      (e.addr + e.size ≤ 0xE000 → 0 < e.size →
        ∃ t, exec (.storeDrain p n) s = .next t ∧ t.now = max s.now n ∧ (t.pane p.toNat).sb = rest ∧
          (∀ b, (t.pane p.toNat).sram.read b =
            if e.addr ≤ b ∧ b < e.addr + e.size then BitVec.ofNat 8 (e.data / 2 ^ (8 * (b - e.addr))) else q.sram.read b) ∧
          { t.pane p.toNat with sb := q.sb, sram := q.sram, ecc := q.ecc, ctl := q.ctl, ceTotal := q.ceTotal } = q ∧
          (∀ a, a ≠ 0x40 → (t.pane p.toNat).cr a = q.cr a) ∧
          (t.pane p.toNat).cr 0x40 =
            (if q.merges e.addr e.size = [] then q.cr 0x40
             else BitVec.ofNat 32 (min ((q.cr 0x40).toNat + (q.merges e.addr e.size).length) 65535)) ∧
          (∀ k, k ≠ p.toNat → t.pane k = s.pane k) ∧ t.reg = s.reg ∧ t.mesh = s.mesh) ∧
      (0x10000000 ≤ e.addr → e.addr < 0x10200000 → s.domOpen (64 + bayOf p.toNat) = true →
        (∀ r ∈ q.wreads, r.status ≠ .waiting) →
        ∃ t, exec (.storeDrain p n) s = .next t ∧ t.now = max s.now n ∧ (t.pane p.toNat).sb = rest ∧
          (t.pane p.toNat).wstores = q.wstores ++
            [{ addr := e.addr, size := e.size, data := e.data, df := e.df, tag := q.tag, off := e.addr - 0x10000000 }] ∧
          { t.pane p.toNat with sb := q.sb, wstores := q.wstores } = q ∧
          (∀ k, k ≠ p.toNat → t.pane k = s.pane k) ∧ t.reg = s.reg ∧ t.mesh = s.mesh)

/-- A load of the bay-buffer window sends a request and retires at once (R148, R149, R391); the fourth waits while three are
outstanding. -/
def Sys2Proof.Claims.windowLoadsIssue : Prop :=
  ∀ (s : State) (p : PaneNo) (gd : BitVec 4) (rt ra : RegNo) (m : Bool) (off : BitVec 10),
    ∀ x ∈ Claims.loads p gd rt ra m off,
      let q := s.pane p.toNat
      let a := Claims.ea q ra m off
      let n := x.2.1
      s.ready x.1 p gd [ra] = true → 0x10000000 ≤ a → a < 0x10200000 → a % n = 0 →
      (∀ e ∈ q.sb, ¬ Claims.overlap e a n) → s.domOpen (64 + bayOf p.toNat) = true →
        (q.outstanding < 3 →
          ∃ t w, exec x.1 s = .next t ∧ OnlyPane p.toNat s t ∧
            (t.pane p.toNat).wreads.getLast? = some w ∧ (t.pane p.toNat).wreads.length = q.wreads.length + 1 ∧
            w = { addr := a, size := n, dest := if rt = 0 then none else some rt,
                  dest2 := if n = 8 then some (rt + 1) else none, signed := x.2.2, status := .waiting, df := false,
                  off := a - 0x10000000 } ∧
            (∀ r, (t.pane p.toNat).gr r = if m = true ∧ r = ra ∧ ra ≠ 0 then q.gr ra + off.signExtend 32 else q.gr r) ∧
            (t.pane p.toNat).pc = q.retire.pc ∧ (t.pane p.toNat).sram = q.sram ∧ (t.pane p.toNat).sb = q.sb) ∧
        (3 ≤ q.outstanding → exec x.1 s = .next s)

/-- An answered window read gives its registers the bytes of the bay buffer (R149, R391); a read of a word with an uncorrectable
error, or one that DRAM refuses, is marked and changes no register (R150, R402). An accepted window store changes its own bytes of
the buffer and no other; one into the ring of another pane's mover is refused and changes no byte (R404). -/
def Sys2Proof.Claims.windowAnswers : Prop :=
  ∀ (s : State) (p : PaneNo) (k n : Nat),
    let q := s.pane p.toNat
    let bay := bayOf p.toNat
    Claims.awake q →
      (∀ r, q.wreads[k]? = some r → r.status = .waiting → q.wstores = [] → r.addr < 0x40000000 →
        s.domOpen (64 + bay) = true →
        (s.bulkEcc (.buf bay) r.off = .clean →
          ∃ t, exec (.windowReadReturn p k n) s = .next t ∧ t.now = max s.now n ∧ t.buf bay = s.buf bay ∧
            (t.pane p.toNat).wreads.length = q.wreads.length - 1 ∧
            (∀ d, (t.pane p.toNat).gr d =
              if d ≠ 0 ∧ r.dest2 = some d then BitVec.ofNat 32 (Claims.memVal (s.buf bay) r.off r.size / 2 ^ 32)
              else if d ≠ 0 ∧ r.dest = some d then extendTo r.size r.signed (Claims.memVal (s.buf bay) r.off r.size)
              else q.gr d)) ∧
        (s.bulkEcc (.buf bay) r.off = .uncorrectable →
          ∃ t, exec (.windowReadReturn p k n) s = .next t ∧
            t.pane p.toNat = { q with wreads := q.wreads.set k { r with status := .uncorrectable } })) ∧
      (∀ w rest, q.wstores = w :: rest → w.addr < 0x40000000 → s.domOpen (64 + bay) = true →
        (s.ringForeign bay p.toNat w.off w.size = false →
          ∃ t, exec (.windowStoreResult p n) s = .next t ∧ t.pane p.toNat = { q with wstores := rest } ∧
            ∀ b, (t.buf bay).read b =
              if w.off ≤ b ∧ b < w.off + w.size then BitVec.ofNat 8 (w.data / 2 ^ (8 * (b - w.off))) else (s.buf bay).read b) ∧
        (s.ringForeign bay p.toNat w.off w.size = true →
          ∃ t, exec (.windowStoreResult p n) s = .next t ∧ t.buf bay = s.buf bay ∧
            t.pane p.toNat = { q with wstores := rest, wrefused := q.wrefused ++ [{ addr := w.addr, df := w.df }] }))

/-- Loads from a window: they issue, and later are answered; buffered stores reach their window (R149, R150, R152). -/
def Obligations.WindowLoadsAnswer : Prop :=
  Claims.windowLoadsIssue ∧ Claims.windowAnswers

/-! Special registers. -/

/-- What MFS reads (R202, R271). -/
def Sys2Proof.Claims.sregs (q : Pane) (p dev : Nat) : List (Nat × Word) :=
  let f := q.frames.getD (q.fdepth - 1) Frame.zero
  [(0x00, q.status), (0x01, q.lr), (0x02, (q.pred ||| 1#8).zeroExtend 32), (0x04, q.lb[0]), (0x05, q.lb[1]), (0x06, q.lb[2]),
   (0x08, q.le[0]), (0x09, q.le[1]), (0x0A, q.le[2]), (0x0C, q.lc[0]), (0x0D, q.lc[1]), (0x0E, q.lc[2]),
   (0x10, q.acc0.extractLsb' 0 32), (0x11, q.acc0.extractLsb' 32 32), (0x12, (q.acc0.extractLsb' 64 8).signExtend 32),
   (0x14, q.acc1.extractLsb' 0 32), (0x15, q.acc1.extractLsb' 32 32), (0x16, (q.acc1.extractLsb' 64 8).signExtend 32),
   (0x20, BitVec.ofNat 32 q.tag), (0x21, BitVec.ofNat 32 (q.tag / 2 ^ 32)), (0x22, BitVec.ofNat 32 q.tks),
   (0x23, BitVec.ofNat 32 (q.tks / 2 ^ 32)), (0x24, BitVec.ofNat 32 (p + 1024 * dev)),
   (0x40, f.epc), (0x41, f.estatus), (0x42, f.esp), (0x43, f.ecause), (0x44, f.eaddr), (0x45, BitVec.ofNat 32 q.fdepth)]

/-- What MTS makes of the pane (R199, R202, R271): RO bits keep their value. An MTS to a register
that is read-only throughout fails an encoding check (R204). -/
def Sys2Proof.Claims.mtsWrites (q : Pane) (v : Word) : List (Nat × Pane) :=
  let mask : Word := if q.ring ≤ 1 then 0xFFFF43F7#32 else 0xFFFF03F7#32
  let f := q.frames.getD (q.fdepth - 1) Frame.zero
  let top (x : Frame) : Pane := { q with frames := q.frames.setIfInBounds (q.fdepth - 1) x }
  [(0x00, { q with status := (q.status &&& ~~~mask) ||| (v &&& mask) }), (0x01, { q with lr := v }),
   (0x02, { q with pred := v.setWidth 8 ||| 1#8 }),
   (0x04, { q with lb := q.lb.set 0 (v &&& ~~~3#32) }), (0x05, { q with lb := q.lb.set 1 (v &&& ~~~3#32) }),
   (0x06, { q with lb := q.lb.set 2 (v &&& ~~~3#32) }), (0x08, { q with le := q.le.set 0 (v &&& ~~~3#32) }),
   (0x09, { q with le := q.le.set 1 (v &&& ~~~3#32) }), (0x0A, { q with le := q.le.set 2 (v &&& ~~~3#32) }),
   (0x0C, { q with lc := q.lc.set 0 v }), (0x0D, { q with lc := q.lc.set 1 v }), (0x0E, { q with lc := q.lc.set 2 v }),
   (0x10, { q with acc0 := q.acc0.extractLsb' 32 40 ++ v }),
   (0x11, { q with acc0 := q.acc0.extractLsb' 64 8 ++ v ++ q.acc0.extractLsb' 0 32 }),
   (0x12, { q with acc0 := v.extractLsb' 0 8 ++ q.acc0.extractLsb' 0 64 }),
   (0x14, { q with acc1 := q.acc1.extractLsb' 32 40 ++ v }),
   (0x15, { q with acc1 := q.acc1.extractLsb' 64 8 ++ v ++ q.acc1.extractLsb' 0 32 }),
   (0x16, { q with acc1 := v.extractLsb' 0 8 ++ q.acc1.extractLsb' 0 64 }),
   (0x40, top { f with epc := v &&& ~~~3#32 }), (0x41, top { f with estatus := v }),
   (0x42, top { f with esp := v })]

/-- MFS gives REG the special register, and MTS writes it by its fields' access, at every ring for 0x00 to 0x3F and at rings 0 and
1 for the others; at rings 2 and 3 those raise the privilege trap with cause 0 (R199, R202, R203, R271). An instruction that writes a
loop register retires by the loop registers it has written. -/
def Obligations.SpecialRegisters : Prop :=
  ∀ (s : State) (p : PaneNo) (gd : BitVec 4) (reg : RegNo),
    let q := s.pane p.toNat
    (∀ x ∈ Claims.sregs q p.toNat ((s.rd Config.board).fld 0 3),
      let i : Instr := .mfs p gd reg (BitVec.ofNat 8 x.1)
      s.ready i p gd [] = true →
        ((x.1 < 0x40 ∨ q.ring ≤ 1) → ∃ t, exec i s = .next t ∧ Wrote p.toNat reg x.2 0 s t) ∧
        (0x40 ≤ x.1 → 2 ≤ q.ring → exec i s = .next (s.takeTrap p.toNat (q.mkTrap 1 0 q.pc)))) ∧
    (∀ x ∈ Claims.mtsWrites q (q.gr reg),
      let i : Instr := .mts p gd reg (BitVec.ofNat 8 x.1)
      s.ready i p gd [reg] = true →
        ((x.1 < 0x40 ∨ q.ring ≤ 1) →
          ∃ t, exec i s = .next t ∧ OnlyPane p.toNat s t ∧ t.pane p.toNat = x.2.retire)) ∧
    (∀ x ∈ Claims.mtsWrites q (q.gr reg),
      let i : Instr := .mts p gd reg (BitVec.ofNat 8 x.1)
      s.ready i p gd [] = true → 0x40 ≤ x.1 → 2 ≤ q.ring →
        exec i s = .next (s.takeTrap p.toNat (q.mkTrap 1 0 q.pc)))

/-! Gates, returns, traps and events. -/

/-- Pane p has entered its handler through descriptor n from a state s, saving frame f (R273 to R277): `lc` are the loop counters,
`count` the counter register that counts the entry. -/
def Sys2Proof.Claims.Entered (p n : Nat) (f : Frame) (lc : Vector Word 3) (count : Option Nat) (s u : State) : Prop :=
  let q := s.pane p
  let r := u.pane p
  let attr := q.cr (0xA08 + 16 * n)
  let new := min q.ring (attr.fld 0 2)
  let sp := q.cr (0xA04 + 16 * n) &&& 0xFFFFFFF8#32
  OnlyPane p s u ∧ r.frames = q.frames.setIfInBounds q.fdepth f ∧ r.fdepth = q.fdepth + 1 ∧
  r.pc = q.cr (0xA00 + 16 * n) &&& 0xFFFFFFFC#32 ∧ r.ring = new ∧ r.em = attr.bit 2 ∧ r.rc = 0 ∧
  r.status &&& 0x00008FFF#32 = q.status &&& 0x00008FFF#32 ∧
  (∀ k : RegNo, r.gr k = if k = 30 ∧ new < q.ring ∧ sp ≠ 0 then sp else q.gr k) ∧
  (∀ a, r.cr a = if count = some a then BitVec.ofNat 32 (min ((q.cr a).toNat + 1) 65535) else q.cr a) ∧
  r.lc = lc ∧ r.sram = q.sram ∧ r.pred = q.pred ∧ r.lr = q.lr ∧ r.acc0 = q.acc0 ∧ r.acc1 = q.acc1 ∧
  r.evStack = q.evStack ∧ r.entry = none ∧ r.phase = .run

/-- A trap that waited is entered by TRAP_ENTRY once the window accesses have settled and none has failed: the frame takes the
trap's EPC, STATUS, g30, ECAUSE and EADDR (R151, R270, R272 to R277); the trap counter counts. -/
def Sys2Proof.Claims.trapEntryCompletes : Prop :=
  ∀ (p : PaneNo) (s : State) (t : Trap),
    let q := s.pane p.toNat
    q.entry = some t → q.settled = true → q.failure = none → t.num ≤ 8 → t.num ≠ 5 → q.descValid t.num = true → q.fdepth < 4 →
    ∃ u, exec (.trapEntry p) s = .next u ∧
      Claims.Entered p.toNat t.num
        { epc := t.epc, estatus := q.status, esp := q.gr 30, ecause := ecauseOf t, eaddr := t.eaddr } q.lc (some 0xE08) s u

/-- A trap or a gate that finds FDEPTH 4, or a trap whose descriptor is not valid, halts the pane (R290 to R292): TRAP_STATUS and
HALT_EPC record it, bell source 23 and the report go out, and nothing else of the pane changes. -/
def Sys2Proof.Claims.entryHalts : Prop :=
  ∀ (p : PaneNo) (s : State) (t : Trap),
    let q := s.pane p.toNat
    q.entry = some t → q.settled = true → q.failure = none → t.num ≤ 8 → t.num ≠ 5 →
    (q.fdepth ≥ 4 ∨ q.descValid t.num = false) →
    ∃ u, exec (.trapEntry p) s = .next u ∧ (u.pane p.toNat).phase = .halted ∧
      (u.pane p.toNat).cr 0xE00 = BitVec.ofNat 32 (1 + 256 * t.num) ∧ (u.pane p.toNat).cr 0xE04 = t.epc ∧
      { u.pane p.toNat with phase := q.phase, entry := q.entry, faulty := q.faulty, ctl := q.ctl } = q ∧
      (∀ a, a ≠ 0xE00 → a ≠ 0xE04 → (u.pane p.toNat).cr a = q.cr a) ∧
      u.latchReps = s.latchReps ++ [{ rep := .halt p.toNat, at' := s.now }] ∧
      u.arrivals = s.arrivals ++ [{ src := 23, kind := .edge, detail := posInSash p.toNat, todo := oneBell (sashOf p.toNat) }] ∧
      u = { s with panes := u.panes, latchReps := u.latchReps, arrivals := u.arrivals }

/-- A trap that waited is entered, or halts the pane (R151, R270 to R277, R290 to R292). -/
def Obligations.TrapsEnterOrHalt : Prop :=
  Claims.trapEntryCompletes ∧ Claims.entryHalts

/-- GATE passes its checks and enters descriptor N, with the next instruction after R192 as its return address and the loop
counters of R192 (R193, R273 to R277). -/
def Sys2Proof.Claims.gateEnters : Prop :=
  ∀ (s : State) (p : PaneNo) (gd : BitVec 4) (n : BitVec 8),
    let q := s.pane p.toNat
    let attr := q.cr (0xA08 + 16 * n.toNat)
    s.ready (.gate p gd n) p gd [] = true → 17 ≤ n.toNat → n.toNat ≤ 63 → q.descValid n.toNat = true →
    attr.bit (4 + q.ring) = true → attr.fld 0 2 ≤ q.ring → q.settled = true → q.failure = none → q.fdepth < 4 →
    ∃ u, exec (.gate p gd n) s = .next u ∧
      Claims.Entered p.toNat n.toNat
        { epc := q.retire.pc, estatus := q.status, esp := q.gr 30, ecause := BitVec.ofNat 32 n.toNat, eaddr := 0 }
        q.retire.lc none s u

/-- RTG returns by the frame at the top (R283 to R285): STATUS, whose reserved bits read 0 (R197), g30, pc; into the WAITT stall
when STLL is 1 and the open has not been made (R281). Window accesses made before it carry DF from then on (R272). -/
def Sys2Proof.Claims.rtgReturns : Prop :=
  ∀ (s : State) (p : PaneNo) (gd : BitVec 4),
    let q := s.pane p.toNat
    let f := q.frames.getD (q.fdepth - 1) Frame.zero
    s.ready (.rtg p gd) p gd [] = true → (0 < q.fdepth ∨ q.ring ≤ 1) → q.ring ≤ f.estatus.fld 12 2 →
    (∀ r ∈ q.wreads, r.status ≠ .waiting) →
    ∃ t, exec (.rtg p gd) s = .next t ∧ OnlyPane p.toNat s t ∧ (t.pane p.toNat).status = f.estatus &&& 0xFFFF73F7#32 ∧
      (t.pane p.toNat).pc = f.epc ∧ (t.pane p.toNat).fdepth = q.fdepth - 1 ∧
      (∀ r : RegNo, (t.pane p.toNat).gr r = if r = 30 then f.esp else q.gr r) ∧
      (t.pane p.toNat).phase =
        (if f.ecause.bit 22 = true ∧ q.awaits = true then .stall else .run) ∧
      (t.pane p.toNat).sb = q.sb.map (fun e => { e with df := true }) ∧
      (t.pane p.toNat).wreads = q.wreads.map (fun r => { r with df := true }) ∧
      (t.pane p.toNat).wstores = q.wstores.map (fun w => { w with df := true }) ∧
      (t.pane p.toNat).wrefused = q.wrefused.map (fun w => { w with df := true }) ∧
      { t.pane p.toNat with status := q.status, pc := q.pc, fdepth := q.fdepth, g := q.g, phase := q.phase, sb := q.sb,
                            wreads := q.wreads, wstores := q.wstores, wrefused := q.wrefused } = q

/-- GATE enters its descriptor and RTG returns from a handler (R273 to R285). -/
def Obligations.GatesEnterAndReturn : Prop :=
  Claims.gateEnters ∧ Claims.rtgReturns

/-- The privilege trap, number 1, with the causes of R286: EVPOP, EVDONE and EVWAIT at ring 2 or 3 (cause 1); a GATE number outside
17 to 63 or a descriptor not valid (2), a ring not in CALLERS (3), a target ring below the caller's (4); RTG at FDEPTH 0 at ring 2 or
3 (5), and to a ring above the current one, which is a lower number (6). EADDR is the address of the instruction. -/
def Obligations.PrivilegeTraps : Prop :=
  ∀ (s : State) (p : PaneNo) (gd : BitVec 4) (reg : RegNo) (n : BitVec 8),
    let q := s.pane p.toNat
    let attr := q.cr (0xA08 + 16 * n.toNat)
    let named := 17 ≤ n.toNat ∧ n.toNat ≤ 63 ∧ q.descValid n.toNat = true
    let traps (i : Instr) (c : Nat) := s.ready i p gd [] = true → exec i s = .next (s.takeTrap p.toNat (q.mkTrap 1 c q.pc))
    (2 ≤ q.ring → traps (.evpop p gd reg) 1 ∧ traps (.evdone p gd) 1 ∧ traps (.evwait p gd) 1) ∧
    (¬ named → traps (.gate p gd n) 2) ∧
    (named → attr.bit (4 + q.ring) = false → traps (.gate p gd n) 3) ∧
    (named → attr.bit (4 + q.ring) = true → q.ring < attr.fld 0 2 → traps (.gate p gd n) 4) ∧
    (q.fdepth = 0 → 2 ≤ q.ring → traps (.rtg p gd) 5) ∧
    ((0 < q.fdepth ∨ q.ring ≤ 1) → (q.frames.getD (q.fdepth - 1) Frame.zero).estatus.fld 12 2 < q.ring → traps (.rtg p gd) 6)

/-- EVPOP gives REG 0 with nothing to claim, 1 with the priority stack full, setting STACK_OVF, and otherwise claims the oldest
record and gives its address; EVDONE pops the top entry, and its slot is free once it is the oldest and done; it traps with an
empty stack or at another FDEPTH; EVWAIT retires when a record is there and stalls otherwise (R262, R263, R305, R308, R309). -/
def Sys2Proof.Claims.eventInstructions : Prop :=
  ∀ (s : State) (p : PaneNo) (gd : BitVec 4) (reg : RegNo),
    let q := s.pane p.toNat
    q.ring ≤ 1 →
    (s.ready (.evpop p gd reg) p gd [] = true →
      (q.evUnclaimed = 0 → ∃ t, exec (.evpop p gd reg) s = .next t ∧ Wrote p.toNat reg 0 0 s t) ∧
      (0 < q.evUnclaimed → 8 ≤ q.evStack.length →
        ∃ t, exec (.evpop p gd reg) s = .next t ∧ OnlyPane p.toNat s t ∧
          (∀ r : RegNo, (t.pane p.toNat).gr r = if r = reg ∧ reg ≠ 0 then 1 else q.gr r) ∧
          (∀ a, (t.pane p.toNat).cr a = if a = 0xF08 then q.cr a ||| 0x10#32 else q.cr a) ∧
          (t.pane p.toNat).evStack = q.evStack ∧ (t.pane p.toNat).pc = q.retire.pc) ∧
      (0 < q.evUnclaimed → q.evStack.length < 8 →
        ∃ t, exec (.evpop p gd reg) s = .next t ∧ OnlyPane p.toNat s t ∧
          (∀ r : RegNo, (t.pane p.toNat).gr r =
            if r = reg ∧ reg ≠ 0 then BitVec.ofNat 32 (q.evAddr q.evClaim) else q.gr r) ∧
          (t.pane p.toNat).evUnclaimed = q.evUnclaimed - 1 ∧
          (t.pane p.toNat).evStack =
            { slot := q.evClaim, prio := (q.peekW (q.evAddr q.evClaim)).fld 11 3, depth := q.fdepth } :: q.evStack ∧
          (∀ a, (a < q.evAddr q.evClaim ∨ q.evAddr q.evClaim + 4 ≤ a) → (t.pane p.toNat).sram.read a = q.sram.read a) ∧
          (t.pane p.toNat).pc = q.retire.pc ∧ (t.pane p.toNat).ctl = q.ctl)) ∧
    (s.ready (.evdone p gd) p gd [] = true →
      (q.evStack = [] → exec (.evdone p gd) s = .next (s.takeTrap p.toNat (q.mkTrap 8 0 0))) ∧
      (∀ top rest, q.evStack = top :: rest → top.depth ≠ q.fdepth →
        exec (.evdone p gd) s = .next (s.takeTrap p.toNat (q.mkTrap 8 1 0))) ∧
      (∀ top rest, q.evStack = top :: rest → top.depth = q.fdepth → top.slot ≠ q.evFree → q.evFree ∉ q.evDone →
        ∃ t, exec (.evdone p gd) s = .next t ∧
          Stepped p.toNat { q with evStack := rest, evDone := q.evDone ++ [top.slot] } s t) ∧
      (∀ top rest, q.evStack = top :: rest → top.depth = q.fdepth → top.slot = q.evFree → top.slot ∉ q.evDone →
        (top.slot + 1) % q.evSlots ∉ q.evDone → 0 < q.evUsed →
        ∃ t, exec (.evdone p gd) s = .next t ∧
          Stepped p.toNat { q with evStack := rest, evUsed := q.evUsed - 1 } s t)) ∧
    (s.ready (.evwait p gd) p gd [] = true →
      (0 < q.evUnclaimed → ∃ t, exec (.evwait p gd) s = .next t ∧ Stepped p.toNat q s t) ∧
      (q.evUnclaimed = 0 →
        ∃ t, exec (.evwait p gd) s = .next t ∧ OnlyPane p.toNat s t ∧ t.pane p.toNat = { q with phase := .evwait }))

/-- EVENT_ENTRY: at a sampling point with the interrupt asserted, EM 0 and FDEPTH below 4, the pane enters descriptor 16, from a
WAITT stall with STLL 1 (R273, R279 to R282); the event counter counts. -/
def Sys2Proof.Claims.eventEntryEnters : Prop :=
  ∀ (s : State) (p : PaneNo),
    let q := s.pane p.toNat
    s.paneUp p.toNat = true → (q.phase = .run ∨ q.phase = .stall) → q.interrupt = true → q.em = false → q.fdepth < 4 →
    q.entry = none → q.settled = true → q.failure = none → q.descValid 16 = true →
    ∃ u, exec (.eventEntry p) s = .next u ∧
      Claims.Entered p.toNat 16
        { epc := q.pc, estatus := q.status, esp := q.gr 30,
          ecause := if q.phase = .stall then 0x00400010#32 else 0x10#32, eaddr := 0 } q.lc (some 0xE0C) s u

/-- The event instructions, and the entry of an event (R262, R263, R279 to R282, R305, R308, R309). -/
def Obligations.EventsAreHandled : Prop :=
  Claims.eventInstructions ∧ Claims.eventEntryEnters

/-! Completion, waiting and ticks of a pane. -/

/-- FENCE retires once the store buffer is empty and no window read is outstanding, and waits until then (R156); a failed access is
then taken as a memory-error trap (R150), with the pane as it was. -/
def Sys2Proof.Claims.fenceWaits : Prop :=
  ∀ (s : State) (p : PaneNo) (gd : BitVec 4),
    let q := s.pane p.toNat
    let settled := q.sb = [] ∧ ∀ r ∈ q.wreads, r.status ≠ .waiting
    s.ready (.fence p gd) p gd [] = true →
      (settled → q.failure = none → ∃ t, exec (.fence p gd) s = .next t ∧ Stepped p.toNat q s t) ∧
      (¬ settled → ∃ t, exec (.fence p gd) s = .next t ∧ OnlyPane p.toNat s t ∧ t.pane p.toNat = { q with phase := .fence }) ∧
      (settled → ∀ tr q1, q.failure = some (tr, q1) →
        ∃ u, exec (.fence p gd) s = .next (u.takeTrap p.toNat tr) ∧ OnlyPane p.toNat s u ∧ u.pane p.toNat = q)

/-- WAITT at time k, with nothing of the pane outstanding (R63, R73, R156). In the tick the pane works in, it retires: the tag goes
to the next tick of the pane's class and the pane stalls until the open. In a handler of the stall, where the open is still awaited,
it retires and leaves the tag (R250). After an overrun, while opens are made, the tag jumps to the tick that has started, the task
goes on, and LAST_SLACK takes the measured figure, at most -2 (R75, R80). With something outstanding the pane waits. -/
def Sys2Proof.Claims.waittRetires : Prop :=
  ∀ (s : State) (p : PaneNo) (gd : BitVec 4) (k : Nat),
    let q := s.pane p.toNat
    let cur := s.tickStart q.cls s.tick
    let settled := q.sb = [] ∧ (∀ r ∈ q.wreads, r.status ≠ .waiting) ∧ q.unacked = []
    s.ready (.waitt p gd k) p gd [] = true →
      (settled → q.failure = none → q.awaits = false → q.tag = cur → q.overClose = none →
        ∃ t, exec (.waitt p gd k) s = .next t ∧ t.now = max s.now k ∧ (t.pane p.toNat).tag = cur + s.mult q.cls ∧
          (t.pane p.toNat).phase = .stall ∧ (t.pane p.toNat).awaits = true ∧ (t.pane p.toNat).retireT = max s.now k ∧ (t.pane p.toNat).pc = q.retire.pc ∧
          (t.pane p.toNat).lc = q.retire.lc ∧
          { t.pane p.toNat with tag := q.tag, phase := q.phase, awaits := q.awaits, retireT := q.retireT, pc := q.pc, lc := q.lc,
                                ctl := q.ctl } = q ∧
          (∀ j, j ≠ p.toNat → t.pane j = s.pane j)) ∧
      (settled → q.failure = none → q.awaits = true →
        ∃ t, exec (.waitt p gd k) s = .next t ∧ t.now = max s.now k ∧
          t.pane p.toNat = { q with pc := q.retire.pc, lc := q.retire.lc } ∧ (∀ j, j ≠ p.toNat → t.pane j = s.pane j)) ∧
      (settled → q.failure = none → q.awaits = false → q.tag < cur → s.holdsClass q.cls = false →
        ∃ t, exec (.waitt p gd k) s = .next t ∧ (t.pane p.toNat).tag = cur ∧ (t.pane p.toNat).phase = .run ∧
          (t.pane p.toNat).tks = s.stamps.getD q.cls 0 ∧ (t.pane p.toNat).overClose = none ∧
          (∀ c, q.overClose = some c → (t.pane p.toNat).cr 0x104 = satInt32 (-(max 2 ((max s.now k - c) / 2 * 2) : Nat)))) ∧
      (¬ settled → ∃ t, exec (.waitt p gd k) s = .next t ∧ t.now = max s.now k ∧
        t.pane p.toNat = { q with phase := if q.awaits then .waittIn else .waitt } ∧
        (∀ j, j ≠ p.toNat → t.pane j = s.pane j))

/-- FENCE and WAITT retire when what they wait for holds, and wait until then (R63, R73, R75, R156). -/
def Obligations.FenceAndWaittRetire : Prop :=
  Claims.fenceWaits ∧ Claims.waittRetires

/-! Communication. -/

/-- The message of a post of words ws from slot `index` of outgoing entry e at post address a (R95, R96, R106, R248), as
number n. -/
def Sys2Proof.Claims.postMsg (s : State) (p n e : Nat) (a : Word) (index : Nat) (ws : List Word) : Msg :=
  let q := s.pane p
  { kind := if a.bit 19 then .drivePost else .post, sub := 0, vn := false, dev := a.fld 16 3, dest := a.fld 6 10, chan := a.fld 0 6,
    index := index, srcDev := (s.rd Config.board).fld 0 3, srcPane := p,
    tag := q.tag / s.mult ((q.cr (0x200 + 8 * e)).fld 20 2) % 256, words := ws, poison := ws.map (fun _ => false), id := n,
    tick := q.tag, relay := none }

/-- Every router lives, and every route is as installed at start. -/
def Sys2Proof.Claims.wholeMesh (s : State) : Prop := s.deadRouters = [] ∧ s.routedAround = []

/-- POST to a channel of this part: with a credit left, the word goes out as one message that awaits its acknowledgement, and USED
counts it (R106 to R108, R248); DISCARD counts it and sends nothing (R131). Without a credit, or with no valid entry, it takes the
credit-exhausted trap with causes 0 and 1 (R110). -/
def Sys2Proof.Claims.postSends : Prop :=
  ∀ (s : State) (p : PaneNo) (gd : BitVec 4) (ra rb : RegNo),
    let i : Instr := .post p gd ra rb
    let q := s.pane p.toNat
    let a := q.gr ra
    s.ready i p gd [ra, rb] = true →
      (q.outEntry a = none → exec i s = .next (s.takeTrap p.toNat (q.mkTrap 5 1 a))) ∧
      (∀ e, q.outEntry a = some e →
        (q.credit e ≤ q.used e → exec i s = .next (s.takeTrap p.toNat { q.mkTrap 5 0 a with index := e })) ∧
        (q.used e < q.credit e → q.discards e = true →
          ∃ t, exec i s = .next t ∧ OnlyPane p.toNat s t ∧ (t.pane p.toNat).used e = (q.used e + 1) % 1024 ∧
            (∀ b, b ≠ 0x204 + 8 * e → (t.pane p.toNat).cr b = q.cr b) ∧
            { t.pane p.toNat with ctl := q.ctl } = q.retire) ∧
        (q.used e < q.credit e → q.discards e = false → Claims.wholeMesh s → a.fld 16 3 = (s.rd Config.board).fld 0 3 →
          ∃ t, exec i s = .next t ∧ t.mesh = s.mesh ++ [Claims.postMsg s p.toNat s.nextId e a (q.used e) [q.gr rb]] ∧
            t.nextId = s.nextId + 1 ∧ (t.pane p.toNat).used e = (q.used e + 1) % 1024 ∧
            (∀ b, b ≠ 0x204 + 8 * e → (t.pane p.toNat).cr b = q.cr b) ∧
            { t.pane p.toNat with ctl := q.ctl, unacked := q.unacked } = q.retire ∧
            (t.pane p.toNat).unacked = q.unacked ++ [{ id := s.nextId, tag := q.tag }] ∧
            (∀ k, k ≠ p.toNat → t.pane k = s.pane k) ∧ t = { s with mesh := t.mesh, nextId := t.nextId, panes := t.panes }))

/-- POSTM of n words to a channel of this part (R247, R248): with n 0 it does nothing; a source that is not word-aligned, a word
that may not be read, and a want of credit trap in that order; otherwise the n words at the source, read as loads, go out in order in
messages of at most 64, and USED counts n. -/
def Sys2Proof.Claims.postmSends : Prop :=
  ∀ (s : State) (p : PaneNo) (gd : BitVec 4) (rd ra rb : RegNo) (e : Nat),
    let i : Instr := .postm p gd rd ra rb
    let q := s.pane p.toNat
    let a := q.gr ra
    let n := (q.gr rd).toNat
    let src := (q.gr rb).toNat
    s.ready i p gd [rd, ra, rb] = true → q.outEntry a = some e →
      (n = 0 → ∃ t, exec i s = .next t ∧ Stepped p.toNat q s t) ∧
      (0 < n → src % 4 ≠ 0 → exec i s = .next (s.takeTrap p.toNat (q.mkTrap 2 2 (q.gr rb)))) ∧
      (0 < n → src % 4 = 0 → src + 4 * n ≤ 0xF000 → (∀ k < 4 * n, q.canRead q.ring (src + k) = true) →
        (q.credit e < q.used e + n → exec i s = .next (s.takeTrap p.toNat { q.mkTrap 5 0 a with index := e })) ∧
        (q.used e + n ≤ q.credit e → a.bit 19 = false → q.discards e = false → Claims.wholeMesh s →
          a.fld 16 3 = (s.rd Config.board).fld 0 3 → q.sb = [] → (∀ k < 4 * n, q.eccAt (src + k) = .clean) →
          ∃ t ms, exec i s = .next t ∧ t.mesh = s.mesh ++ ms ∧
            ms.flatMap (fun m => m.words) = (List.range n).map (fun k => BitVec.ofNat 32 (Claims.memVal q.sram (src + 4 * k) 4)) ∧
            (∀ m ∈ ms, 0 < m.words.length ∧ m.words.length ≤ 64 ∧ m.kind = .post ∧ m.dest = a.fld 6 10 ∧ m.chan = a.fld 0 6) ∧
            (∀ l m r, ms = l ++ m :: r → m.index = q.used e + (l.flatMap (fun x => x.words)).length) ∧
            (t.pane p.toNat).used e = (q.used e + n) % 1024 ∧ (t.pane p.toNat).pc = q.retire.pc ∧
            (t.pane p.toNat).sram = q.sram ∧ (t.pane p.toNat).g = q.g))

/-- POST and POSTM: what they send, count and trap on (R106 to R110, R131, R247, R248). -/
def Obligations.PostsSend : Prop :=
  Claims.postSends ∧ Claims.postmSends

/-- REDUCE to group g sends the pane's contribution to the group's root once a tick of the group's class (R247, R249): no entry
takes the credit-exhausted trap with cause 1, an invalid group or rank with cause 3, a second contribution with cause 2. -/
def Obligations.ReduceSends : Prop :=
  ∀ (s : State) (p : PaneNo) (gd : BitVec 4) (ra rb : RegNo),
    let i : Instr := .reduce p gd ra rb
    let q := s.pane p.toNat
    let a := q.gr ra
    let g := a.fld 0 6
    let grp := s.rd (Config.transom + 0x100 + 4 * g)
    let rank := q.cr (0x810 + g)
    s.ready i p gd [ra, rb] = true →
      (q.outEntry a = none → exec i s = .next (s.takeTrap p.toNat (q.mkTrap 5 1 a))) ∧
      (∀ e, q.outEntry a = some e →
        let ord := q.tag / s.mult (s.groupClass g)
        let valid := g < 16 ∧ grp.bit 31 = true ∧ rank.bit 7 = true
        (¬ valid → exec i s = .next (s.takeTrap p.toNat { q.mkTrap 5 3 a with index := e })) ∧
        (valid → (g, ord) ∈ q.reduced → exec i s = .next (s.takeTrap p.toNat { q.mkTrap 5 2 a with index := e })) ∧
        (valid → (g, ord) ∉ q.reduced → q.discards e = false → Claims.wholeMesh s →
          ∃ t, exec i s = .next t ∧
            t.mesh = s.mesh ++
              [{ kind := .reduce, sub := 0, vn := false, dev := (s.rd Config.board).fld 0 3, dest := grp.fld 4 10, chan := g,
                 index := rank.fld 0 6, srcDev := (s.rd Config.board).fld 0 3, srcPane := p.toNat, tag := ord % 256,
                 words := [q.gr rb], poison := [false], id := s.nextId, tick := q.tag, relay := none }] ∧
            (g, ord) ∈ (t.pane p.toNat).reduced ∧
            (t.pane p.toNat).unacked = q.unacked ++ [{ id := s.nextId, tag := q.tag }] ∧
            { t.pane p.toNat with reduced := q.reduced, unacked := q.unacked } = q.retire ∧
            (∀ k, k ≠ p.toNat → t.pane k = s.pane k)))

/-! Block instructions. -/

/-- The pane after one step of m elements of a block instruction from RC = i whose work gives q1: RC counts, and goes to 0 when the
n elements are done, when the instruction retires (R201, R255, R256). -/
def Sys2Proof.Claims.BlockStepped (p n i m : Nat) (q1 : Pane) (s t : State) : Prop :=
  let q := s.pane p
  let done := n ≤ i + m
  (t.pane p).rc = (if done then 0 else i + m) ∧
  (t.pane p).pc = (if done then q.retire.pc else q.pc) ∧ (t.pane p).lc = (if done then q.retire.lc else q.lc) ∧
  (t.pane p).status &&& 0x0000FFFF#32 = q1.status &&& 0x0000FFFF#32 ∧
  { t.pane p with status := q1.status, pc := q1.pc, lc := q1.lc, ecc := q1.ecc } = q1 ∧
  (∀ k, k ≠ p → t.pane k = s.pane k) ∧ t.reg = s.reg

/-- The conditions under which a block instruction runs its next step: it issues, RC has not reached n, its checks pass, the
earlier stores have drained, and the bytes it reads are free of errors (R252 to R257). -/
def Sys2Proof.Claims.runs (s : State) (p n : Nat) (op : BlockOp) : Prop :=
  let q := s.pane p
  n < 65536 ∧ q.rc < n ∧ q.blockFault op = none ∧ q.drained = true ∧
    ∀ r ∈ op.reads q.rc (min op.per (n - q.rc)), ∀ k < r.2, q.eccAt (r.1 + k) = .clean

/-- Halfword number k of a vector; addresses wrap (R220). -/
def Sys2Proof.Claims.half (m : Memory) (a k : Nat) : Int := (BitVec.ofNat 16 (Claims.memVal m ((a + 2 * k) % 2 ^ 32) 2)).toInt
/-- Word number k of a vector; addresses wrap (R220). -/
def Sys2Proof.Claims.word (m : Memory) (a k : Nat) : Word := BitVec.ofNat 32 (Claims.memVal m ((a + 4 * k) % 2 ^ 32) 4)

/-- One step of VDOT.H adds two products of signed halfwords, or the last one, exactly, wrapped once, with AV; one step of VDOT.F
is one fused multiply-add (R258). The source memory does not change. -/
def Sys2Proof.Claims.dotProductSteps : Prop :=
  ∀ (s : State) (p : PaneNo) (gd : BitVec 4) (r ra rb : RegNo),
    let q := s.pane p.toNat
    let x := (q.gr ra).toNat
    let y := (q.gr rb).toNat % 65536
    let n := (q.gr rb).toNat / 65536
    let i := q.rc
    (s.ready (.vdotH p gd r ra rb 1) p gd [ra, rb] = true →
      Claims.runs s p.toNat n (vecOp q ra rb 2 2 false (vdotH r.toNat)) →
      let m := min 2 (n - i)
      let v := (if r = 0 then q.acc0 else q.acc1).toInt +
        ((List.range m).map (fun j => Claims.half q.sram x (i + j) * Claims.half q.sram y (i + j))).sum
      ∃ t, exec (.vdotH p gd r ra rb 1) s = .next t ∧
        Claims.BlockStepped p.toNat n i m
          (Claims.accAt q r (BitVec.ofInt 72 v) (bitIf 2 (decide (v < -2 ^ 71) || decide (2 ^ 71 - 1 < v)))) s t) ∧
    (s.ready (.vdotF p gd r ra rb 1) p gd [r, ra, rb] = true →
      Claims.runs s p.toNat n (vecOp q ra rb 4 1 false (vdotF r)) →
      let f := fFma (Claims.word q.sram x i) (Claims.word q.sram y i) (q.gr r)
      ∃ t, exec (.vdotF p gd r ra rb 1) s = .next t ∧ (t.pane p.toNat).gr r = (if r = 0 then 0 else f.bits) ∧
        (t.pane p.toNat).sram = q.sram ∧ (t.pane p.toNat).rc = (if n ≤ i + 1 then 0 else i + 1) ∧
        (t.pane p.toNat).pc = (if n ≤ i + 1 then q.retire.pc else q.pc))

/-- One element of VMAC.H on a memory, with whether it or one before it saturated (R258). -/
def Sys2Proof.Claims.vmacElement (g : Int) (x y : Nat) (mv : Memory × Bool) (i : Nat) : Memory × Bool :=
  let v := Claims.half mv.1 y i + (g * Claims.half mv.1 x i + 16384) / 32768
  let c := max (-32768) (min 32767 v)
  (mv.1.writeBytes (y + 2 * i) [BitVec.ofInt 8 c, BitVec.ofInt 8 (c / 256)], mv.2 || decide (c ≠ v))

/-- One step of VMAC.H, two elements in increasing i or the last one, and one of VMAC.F (R258): y[i] takes its sum with the scaled
x[i], saturated with V or rounded once, and no other byte changes. -/
def Sys2Proof.Claims.scaledAccumulateSteps : Prop :=
  ∀ (s : State) (p : PaneNo) (gd : BitVec 4) (r ra rb : RegNo),
    let q := s.pane p.toNat
    let x := (q.gr ra).toNat
    let y := (q.gr rb).toNat % 65536
    let n := (q.gr rb).toNat / 65536
    let i := q.rc
    (s.ready (.vmacH p gd r ra rb 1) p gd [r, ra, rb] = true →
      Claims.runs s p.toNat n (vecOp q ra rb 2 2 true (vmacH r)) →
      let m := min 2 (n - i)
      let w := ((List.range m).map (fun j => i + j)).foldl
        (Claims.vmacElement ((q.gr r).extractLsb' 0 16).toInt x y) (q.sram, false)
      ∃ t, exec (.vmacH p gd r ra rb 1) s = .next t ∧ (t.pane p.toNat).sram = w.1 ∧ (t.pane p.toNat).g = q.g ∧
        (t.pane p.toNat).status.bit 0 = (q.status.bit 0 || w.2) ∧
        (t.pane p.toNat).rc = (if n ≤ i + m then 0 else i + m) ∧
        (t.pane p.toNat).pc = (if n ≤ i + m then q.retire.pc else q.pc)) ∧
    (s.ready (.vmacF p gd r ra rb 1) p gd [r, ra, rb] = true →
      Claims.runs s p.toNat n (vecOp q ra rb 4 1 true (vmacF r)) →
      let f := fFma (q.gr r) (Claims.word q.sram x i) (Claims.word q.sram y i)
      ∃ t, exec (.vmacF p gd r ra rb 1) s = .next t ∧
        (∀ b, (t.pane p.toNat).sram.read b =
          if y + 4 * i ≤ b ∧ b < y + 4 * i + 4 then BitVec.ofNat 8 (f.bits.toNat / 2 ^ (8 * (b - (y + 4 * i)))) else q.sram.read b) ∧
        (t.pane p.toNat).rc = (if n ≤ i + 1 then 0 else i + 1) ∧ (t.pane p.toNat).g = q.g ∧
        (t.pane p.toNat).pc = (if n ≤ i + 1 then q.retire.pc else q.pc))

/-- One step of the vector instructions (R255 to R258). -/
def Obligations.VectorSteps : Prop :=
  Claims.dotProductSteps ∧ Claims.scaledAccumulateSteps

/-- One step of up to 8 bytes of BMOV and BFILL, and of up to 4 of BCRC (R258 to R260); addresses wrap (R220). BMOV copies from the top down when the
destination lies inside the source above its start, so a copy that overlaps reads every byte before it is written. -/
def Obligations.ByteBlockSteps : Prop :=
  ∀ (s : State) (p : PaneNo) (gd : BitVec 4) (rd ra rb : RegNo),
    let q := s.pane p.toNat
    let src := (q.gr ra).toNat
    let dst := (q.gr rd).toNat
    let n := (q.gr rb).toNat
    let i := q.rc
    (s.ready (.bmov p gd rd ra rb 1) p gd [rd, ra, rb] = true → Claims.runs s p.toNat n (bmov q rd ra rb) →
      let m := min 8 (n - i)
      let o := if src < dst ∧ dst < (src + n) % 2 ^ 32 then n - i - m else i
      let d := (dst + o) % 2 ^ 32
      ∃ t, exec (.bmov p gd rd ra rb 1) s = .next t ∧
        (∀ b, (t.pane p.toNat).sram.read b =
          if d ≤ b ∧ b < d + m then q.sram.read ((src + o) % 2 ^ 32 + (b - d)) else q.sram.read b) ∧
        (t.pane p.toNat).rc = (if n ≤ i + m then 0 else i + m) ∧ (t.pane p.toNat).g = q.g ∧
        (t.pane p.toNat).pc = (if n ≤ i + m then q.retire.pc else q.pc)) ∧
    (s.ready (.bfill p gd rd ra rb 1) p gd [rd, ra, rb] = true → Claims.runs s p.toNat n (bfill q rd ra rb) →
      let m := min 8 (n - i)
      let d := (dst + i) % 2 ^ 32
      ∃ t, exec (.bfill p gd rd ra rb 1) s = .next t ∧
        (∀ b, (t.pane p.toNat).sram.read b =
          if d ≤ b ∧ b < d + m then (q.gr ra).extractLsb' (8 * (b % 4)) 8 else q.sram.read b) ∧
        (t.pane p.toNat).rc = (if n ≤ i + m then 0 else i + m) ∧ (t.pane p.toNat).g = q.g ∧
        (t.pane p.toNat).pc = (if n ≤ i + m then q.retire.pc else q.pc)) ∧
    (s.ready (.bcrc p gd rd ra rb 1) p gd [rd, ra, rb] = true → Claims.runs s p.toNat n (bcrc q rd ra rb) →
      let m := min 4 (n - i)
      ∃ t, exec (.bcrc p gd rd ra rb 1) s = .next t ∧
        (∀ r : RegNo, (t.pane p.toNat).gr r =
          if r = rd ∧ rd ≠ 0 then crc32cReg (q.gr rd) ((List.range m).map (fun j => q.sram.read ((src + i) % 2 ^ 32 + j))) else q.gr r) ∧
        (t.pane p.toNat).sram = q.sram ∧ (t.pane p.toNat).rc = (if n ≤ i + m then 0 else i + m) ∧
        (t.pane p.toNat).pc = (if n ≤ i + m then q.retire.pc else q.pc))

/-! Ticks and boundaries. -/

/-- BOUNDARY runs the steps of R56 to their end: the part stands between boundaries again, the root close C is the edge's time in
whole ns (R42, R44), and the tokens of the other parts are used up (R546). -/
def Sys2Proof.Claims.Bounded (s t : State) : Prop :=
  t.inBnd = false ∧ t.lastC = (s.gen.next + 2 ^ 31) / 2 ^ 32 ∧ t.tokens = [] ∧ t.lateNow = []

/-- A knock of this kind is pending and due at the coming boundary (R523). -/
def Sys2Proof.Claims.coming (s : State) (k : Knock) : Prop := s.gen.on = true ∧ ∃ x ∈ s.net.knocks, x.knock = k ∧ s.knockDue x = true

/-- BOUNDARY with the generator running; START, HOLD, RESUME and SHUTDOWN, when pending and due, are decided by running their
boundary (R36, R523), and their change of state takes effect there unless one that comes before it in R40 does, or a START is refused (R441);
MARK and REPORT act at once, before what is left of it (log 25): a MARK in a state that takes it counts, notes
the tick number the boundary starts with, and leaves the pending set (R526). -/
def Obligations.BoundariesRun : Prop :=
  ∀ s : State,
    (s.gen.on = true → ∃ t, exec .boundary s = .next t ∧ Claims.Bounded s t) ∧
    (s.gen.on = false → exec .boundary s = .next s) ∧
    (∀ x ∈ ([(.start, .start), (.hold, .hold), (.resume, .resume), (.shutdown, .shutdown)] : List (Instr × Knock)),
      Claims.coming s x.2 → ∃ t, exec x.1 s = .next t ∧ exec .boundary s = .next t ∧ Claims.Bounded s t) ∧
    (Claims.coming s .start → s.part = .ready →
      ∃ t, exec .start s = .next t ∧
        ((t.part = .running ∧ t.locked = true ∧ t.tick = 0) ∨ t.part = .shuttingDown ∨ t.part = .faulted ∨
          (t.part = .ready ∧ (t.rd (Config.start + 0x44)).bit 31 = true))) ∧
    (Claims.coming s .hold → s.part = .running →
      ∃ t, exec .hold s = .next t ∧ t.part ∈ ([.holding, .shuttingDown, .aborted, .faulted] : List PartState)) ∧
    (Claims.coming s .resume → s.part = .holding →
      ∃ t, exec .resume s = .next t ∧ t.part ∈ ([.running, .shuttingDown, .aborted, .faulted] : List PartState)) ∧
    (Claims.coming s .shutdown → s.part ∈ ([.ready, .running, .holding, .aborted] : List PartState) →
      ∃ t, exec .shutdown s = .next t ∧ t.part ∈ ([.shuttingDown, .aborted, .faulted] : List PartState)) ∧
    (Claims.coming s .mark → s.part.takesMark = true → (s.net.knocks.filter (fun x => x.knock == .mark)).length = 1 →
      ∃ t, exec .mark s = .next t ∧ t.rd (Config.knock + 0x84) = s.rd (Config.knock + 0x84) + 1 ∧
        t.net.markTick = s.nextTick ∧ t.net.knocks = s.net.knocks.filter (fun x => x.knock != .mark) ∧ t.tick = s.tick ∧
        t.part = s.part ∧ t.panes = s.panes) ∧
    (Claims.coming s .report →
      ∃ t, exec .report s = .next t ∧ t.net.knocks = s.net.knocks.filter (fun x => x.knock != .report) ∧ t.tick = s.tick ∧
        t.part = s.part ∧ t.panes = s.panes) ∧
    (Claims.coming s .abort →
      ∃ t, exec .abort s = .next t ∧ t.net.knocks = s.net.knocks.filter (fun x => x.knock != .abort) ∧ t.tick = s.tick ∧
        t.part = s.part ∧ t.panes = s.panes ∧
        ((s.part = .running ∨ s.part = .holding) → Cause.knock .abort ∈ t.causes))

/-- No gate list runs at port q, and no frame waits there (R513). -/
def Sys2Proof.Claims.freePort (s : State) (q : Nat) : Prop :=
  SMap.at? s.net.gate q = none ∧ ∀ x ∈ s.net.waiting, x.2.2.port ≠ q

/-- None of the codes 1 to 4 of R441 holds: no refused task, with START.STRICT no clamped one, no interlock asserted or cut off, and the NOR bridge
closed. -/
def Sys2Proof.Claims.startable (s : State) : Prop :=
  (s.rd (Config.start + 0x20)).fld 0 16 = 0 ∧ ((s.rd Config.start).bit 9 = true → (s.rd (Config.start + 0x24)).fld 0 16 = 0) ∧
  s.bolt.abortIn.asserted = false ∧ s.bolt.door.asserted = false ∧ s.severed 108 = false ∧ (s.srd 0x104).bit 0 = false

/-- The counters that a REPORT logs (R526): of both ports, and of the knocks. -/
def Sys2Proof.Claims.counters (s : State) : List Nat :=
  ([0x40, 0x44, 0x48, 0x4C, 0x50, 0x54].map (fun o => (s.rd (Config.net 0 + o)).toNat)) ++
  ([0x40, 0x44, 0x48, 0x4C, 0x50, 0x54].map (fun o => (s.rd (Config.net 1 + o)).toNat)) ++
  ([0x84, 0x88, 0x8C].map (fun o => (s.rd (Config.knock + o)).toNat))

/-- A START that no code of R441 refuses takes a part of its own from READY to RUNNING at its boundary (R36): no other change of state is due there,
and no retirement. The fields under lock are locked (R15), and RUNNING begins with tick 0 (R53). A REPORT in a state that takes it leaves the
pending set, sends an announcement on every port that is up, at once where no gate list runs, and logs the counters (R526), three to an entry,
with the tick number and the stamp of its boundary (the code 0x0291 and the layout are the model's, log 23). -/
def Obligations.KnocksComplete : Prop :=
  ∀ s : State,
    (s.parts = 1 → Claims.coming s .start → ¬ Claims.coming s .shutdown → s.part = .ready → Claims.startable s →
      (∀ r ∈ s.retireDue, (s.gen.next + 2 ^ 31) / 2 ^ 32 < r.2.2) → (∀ c ∈ s.causes, s.causeTarget c = none) →
      ∃ t, exec .start s = .next t ∧ t.part = .running ∧ t.locked = true ∧ t.tick = 0) ∧
    (Claims.coming s .report → s.part.takesMark = true → (s.net.knocks.filter (fun x => x.knock == .report)).length = 1 →
      s.logs.stopped = false →
      let v (k : Nat) := (Claims.counters s).getD k 0
      ∃ t, exec .report s = .next t ∧ t.net.knocks = s.net.knocks.filter (fun x => x.knock != .report) ∧ t.tick = s.tick ∧
        t.part = s.part ∧ t.panes = s.panes ∧
        t.logq = s.logq ++ [0, 3, 6, 9, 12].map (fun k =>
          { code := 0x0291, args := [0, v k, v (k + 1), v (k + 2)], tick := s.nextTick, stamp := s.nextStamp }) ∧
        t.net.out.take s.net.out.length = s.net.out ∧
        ∀ q < 2, s.netUp q = true → Claims.freePort s q → ∃ x ∈ t.net.out.drop s.net.out.length, x.port = q ∧ x.kind = 0x10)

/-- The states in which a knock changes the state of the part, and the state it leads to (R36, R38, R441, R523), on a part of its
own: a knock decided elsewhere is refused with reason 5 and leaves the causes as they are; a START in READY with a code of R441 is
refused with reason 6. -/
def Obligations.KnocksAreDecided : Prop :=
  ∀ (s : State) (x : PendKnock), s.parts = 1 →
    let valid := match x.knock with
      | .start => s.part == .ready
      | .hold => s.part == .running
      | .resume => s.part == .holding || (s.part == .shuttingDown && s.shut.cancellable)
      | .abort => s.part == .running || s.part == .holding
      | .shutdown => s.part == .ready || s.part == .running || s.part == .holding || s.part == .aborted
      | .mark | .report => s.part != .off && s.part != .starting && s.part != .faulted
    let t := s.decideKnock x
    t.part = s.part ∧ t.panes = s.panes ∧
    (valid = false → t.causes = s.causes ∧
      t.rd (Config.knock + 0x90) = BitVec.ofNat 32 (x.knock.num + 5 * 16 + x.path * 256 + 2 ^ 31)) ∧
    (valid = true → x.knock = .start → ∀ c, s.startCode = some c → t.causes = s.causes ∧
      t.rd (Config.start + 0x44) = BitVec.ofNat 32 (c + 2 ^ 31) ∧
      t.rd (Config.knock + 0x90) = BitVec.ofNat 32 (6 * 16 + x.path * 256 + 2 ^ 31)) ∧
    (valid = true → x.knock = .start → s.startCode = none → t.causes = s.causes ++ [.knock .start]) ∧
    (valid = true → (x.knock = .hold ∨ x.knock = .resume ∨ x.knock = .shutdown ∨ x.knock = .abort) →
      Cause.knock x.knock ∈ t.causes)

/-- R40: of the changes due at one boundary, the one to the state first in the order OFF, FAULTED, ABORTED, SHUTTING-DOWN, HOLDING,
RUNNING takes effect; READY, to which a cancelled shutdown may return, comes last (DEDUCED, log 40). It takes effect at that
boundary, whatever else is due. -/
def Obligations.OneChangeTakesEffect : Prop :=
  ∀ s : State,
    let rank : PartState → Nat := fun p => match p with
      | .off => 0
      | .faulted => 1
      | .aborted => 2
      | .shuttingDown => 3
      | .holding => 4
      | .running => 5
      | .ready => 6
      | .starting => 7
    (∀ t, s.nextState = some t →
      (∃ c ∈ s.causes, s.causeTarget c = some t) ∧ (∀ c ∈ s.causes, ∀ u, s.causeTarget c = some u → rank t ≤ rank u) ∧
      s.stateStep.part = t) ∧
    (s.nextState = none → (∀ c ∈ s.causes, s.causeTarget c = none) ∧ s.stateStep = { s with causes := [] })

/-- The time of a source's edge at the root, for sources 1 and 2 (R42). -/
def Sys2Proof.Claims.rootTime (s : State) (t : Nat) : Nat := if s.tickSrc = 1 then t + 60 else t + 200
/-- The crossing that a source's edges pass (R634). -/
def Sys2Proof.Claims.sourceCrossing (s : State) : Nat := if s.tickSrc = 1 then 107 else 80

/-- Under source 2 the coming frame sync is the FS_DIV-th since the last that counted (R42). -/
def Sys2Proof.Claims.syncCounts (s : State) : Prop := s.tickSrc = 2 → (s.rd Config.transom).fld 8 8 ≤ s.gen.fs

/-- Edges of sources 1 and 2 (R45), under source 2 every FS_DIV-th frame sync (R42): within 100 ns of the prediction an edge is
accepted, steers by at most 2 ns and sets LOCKED; outside, it is a stray, counted, and does not steer; a locked generator stays as it
was. A severed crossing discards it (R636). After 1.5 nominal periods without an accepted edge the part goes to holdover at the
period it tracked last, with LOCKED 0, HOLDOVER 1 and LOSS 1, and bell source 14 rises with LOSS (R47, R48). After 16 good edges in
a row the generator relocks, and slews a larger phase error out (R49). -/
def Obligations.TickSourcesSteer : Prop :=
  ∀ (s : State) (t : Nat),
    let st := s.rd (Config.transom + 0x18)
    let e := Claims.rootTime s t
    let err := s.phaseErr e
    (s.gen.on = true → (s.tickSrc = 1 ∨ s.tickSrc = 2) → s.severed (Claims.sourceCrossing s) = false → Claims.syncCounts s →
      s.holdover = false → s.slewing = false →
      (err.natAbs ≤ 100 →
        ∃ u, exec (.sourceEdge t) s = .next u ∧ u.now = max s.now t ∧ u.gen.lastEdge = some e ∧
          u.gen.steer = max (-2) (min 2 err) ∧ u.gen.next = s.gen.next ∧ OnlyRegs [Config.transom + 0x18]
            { s with now := u.now, gen := u.gen } u ∧ u.rd (Config.transom + 0x18) = st ||| 1#32) ∧
      (100 < err.natAbs →
        ∃ u, exec (.sourceEdge t) s = .next u ∧ u.now = max s.now t ∧ u.gen.lastEdge = s.gen.lastEdge ∧
          u.gen.steer = s.gen.steer ∧ u.gen.next = s.gen.next ∧ u.gen.period = s.gen.period ∧
          (s.tickLocked = true → u.gen = { s.gen with fs := u.gen.fs }) ∧ OnlyRegs [Config.transom + 0x1C]
            { s with now := u.now, gen := u.gen } u ∧
          u.rd (Config.transom + 0x1C) = BitVec.ofNat 32 (min ((s.rd (Config.transom + 0x1C)).toNat + 1) 65535))) ∧
    (s.gen.on = true → (s.tickSrc = 1 ∨ s.tickSrc = 2) → s.severed (Claims.sourceCrossing s) = true →
      let a := Config.cross + 0x400 + 4 * Claims.sourceCrossing s
      ∃ u, exec (.sourceEdge t) s = .next u ∧ OnlyRegs [a] { s with now := max s.now t } u ∧
        u.rd a = BitVec.ofNat 32 (min ((s.rd a).toNat + 1) 65535)) ∧
    (∀ l, s.gen.on = true → s.holdover = false → s.gen.lastEdge = some l → 3 * s.nominal ≤ (max s.now t - l) * 2 ^ 33 →
      ∃ u, exec (.tickSourceLoss t) s = .next u ∧ u.now = max s.now t ∧
        (u.rd (Config.transom + 0x18)).bit 0 = false ∧ (u.rd (Config.transom + 0x18)).bit 1 = true ∧
        (u.rd (Config.transom + 0x18)).bit 2 = true ∧ (u.rd (Config.transom + 0x18)).bit 4 = false ∧
        u.gen.next = s.gen.next ∧ u.gen.period = s.gen.period ∧ u.gen.steer = 0 ∧
        u.arrivals = (if st.bit 2 then s.arrivals
                      else s.arrivals ++ [{ src := 14, kind := .rise, detail := 0, todo := BitVec.allOnes 64 }]) ∧
        u.panes = s.panes) ∧
    (s.gen.on = true → s.tickLocked = false → s.slewing = false → 16 ≤ s.gen.good → s.gen.seenEdge ≠ none →
      ∃ u, exec .tickRelock s = .next u ∧ (u.rd (Config.transom + 0x18)).bit 1 = false ∧
        (u.rd (Config.transom + 0x18)).bit 3 = true ∧
        (u.rd (Config.transom + 0x18)).bit 0 = (!(u.rd (Config.transom + 0x18)).bit 4) ∧
        ((u.rd (Config.transom + 0x18)).bit 0 = true ↔ u.gen.slew = 0) ∧ u.gen.lastEdge = s.gen.seenEdge ∧
        (∀ d, s.gen.ivl = some d → s.legalIvl d = true → ((u.gen.period : Int) - d * 2 ^ 32).natAbs ≤ 2 ^ 32) ∧ u.panes = s.panes ∧
        u.arrivals = s.arrivals ++ [{ src := 15, kind := .edge, detail := 0, todo := BitVec.allOnes 64 }])

/-! Bells. -/

/-- BELL_ARRIVAL at an open sash (R295, R296, R298): an edge, or a rise from 0, of an enabled source sets PENDING and counts to
255; the live bit follows a level; the event has then reached the sash. -/
def Sys2Proof.Claims.bellArrives : Prop :=
  ∀ (s : State) (k : Nat) (sash : BitVec 6) (e : BellEvent),
    let b := s.bellOf sash.toNat
    let hit := (e.kind = .edge ∨ (e.kind = .rise ∧ b.live.getLsbD e.src = false)) ∧ s.srcEn sash.toNat e.src = true
    let n := SMap.get (fun _ => 0) b.count e.src
    s.arrivals[k]? = some e → e.todo.getLsbD sash.toNat = true → s.bellOpen sash.toNat = true →
    ∃ t, exec (.bellArrival k sash) s = .next t ∧ t.panes = s.panes ∧
      (t.bellOf sash.toNat).pend = (if hit then b.pend ||| 1#64 <<< e.src else b.pend) ∧
      SMap.get (fun _ => 0) (t.bellOf sash.toNat).count e.src = (if hit then min (n + 1) 255 else n) ∧
      (t.bellOf sash.toNat).live =
        (match e.kind with
         | .edge => b.live
         | .rise => b.live ||| 1#64 <<< e.src
         | .fall => b.live &&& ~~~(1#64 <<< e.src)) ∧
      (∀ j, j ≠ sash.toNat → t.bellOf j = s.bellOf j) ∧
      t.arrivals = (if e.todo &&& ~~~(1#64 <<< sash.toNat) = 0 then s.arrivals.eraseIdx k
                    else s.arrivals.set k { e with todo := e.todo &&& ~~~(1#64 <<< sash.toNat) })

/-- AON_ARRIVAL_LATCH at a closed or closing sash whose group does not wake it (R314): the AON block takes the arrival; COUNT,
PENDING and the record of the sash do not. -/
def Sys2Proof.Claims.aonLatches : Prop :=
  ∀ (s : State) (k : Nat) (sash : BitVec 6) (e : BellEvent),
    let b := s.bellOf sash.toNat
    s.arrivals[k]? = some e → e.todo.getLsbD sash.toNat = true → s.bellOpen sash.toNat = false →
    s.srcEn sash.toNat e.src = true → e.kind = .edge → (s.groupCfg sash.toNat (e.src / 8)).bit 19 = false →
    ∃ t, exec (.aonArrivalLatch k sash) s = .next t ∧ t.bellOf sash.toNat = { b with aon := b.aon ||| 1#64 <<< e.src } ∧
      (∀ j, j ≠ sash.toNat → t.bellOf j = s.bellOf j) ∧ t.panes = s.panes ∧ t.doms = s.doms

/-- BELL_RECORD_WRITE writes the record of the first ready group in round-robin order, from its first pending source, to the queue
of its target (R299 to R305): the four words of R304 stand in the slot at the write index, the queue holds one record more, and the
source has PENDING and COUNT 0. -/
def Sys2Proof.Claims.recordWrites : Prop :=
  ∀ (s : State) (sash : BitVec 6) (j i n : Nat) (bypass : Bool),
    let k := sash.toNat
    let b := s.bellOf k
    let src := 8 * j + i
    let p := paneOfSash k n
    let q := s.pane p
    let a := 16 * (q.cr 0xF00).fld 4 12 + 16 * q.evWr
    let w0 := src + src / 8 * 2 ^ 8 + (s.groupCfg k j).fld 16 3 * 2 ^ 11 + (b.sat.getLsbD src).toNat * 2 ^ 14 +
      (levelSource src).toNat * 2 ^ 15 + SMap.get (fun _ => 0) b.count src * 2 ^ 16 + (b.closed.getLsbD src).toNat * 2 ^ 24
    s.bellOpen k = true → rrNext 8 b.lastGroup (fun g => (s.groupReady k g).isSome) = some j →
    s.groupReady k j = some (n, bypass) → rrNext 8 (b.nextSrc.getD j 0) (fun x => b.pend.getLsbD (8 * j + x)) = some i →
    q.phase ≠ .fence → q.phase ≠ .waitt → q.phase ≠ .waittIn →
    ∃ t, exec (.bellRecordWrite sash) s = .next t ∧
      (t.pane p).peekW a = BitVec.ofNat 32 w0 ∧
      (t.pane p).peekW (a + 4) =
        BitVec.ofNat 32 (q.evSeq % 65536 + SMap.get (fun _ => 0) b.detail src % 65536 * 2 ^ 16) ∧
      (t.pane p).peekW (a + 8) = BitVec.ofNat 32 s.shownTick ∧ (t.pane p).peekW (a + 12) = BitVec.ofNat 32 (s.shownTick / 2 ^ 32) ∧
      (∀ c, (c < a ∨ a + 16 ≤ c) → (t.pane p).sram.read c = q.sram.read c) ∧
      (t.pane p).evUnclaimed = q.evUnclaimed + 1 ∧ (t.pane p).evUsed = q.evUsed + 1 ∧
      (t.pane p).evWr = (q.evWr + 1) % q.evSlots ∧ (t.pane p).g = q.g ∧ (t.pane p).status = q.status ∧
      (t.bellOf k).pend = b.pend &&& ~~~(1#64 <<< src) ∧ SMap.get (fun _ => 0) (t.bellOf k).count src = 0 ∧
      (∀ o, o ≠ p → t.pane o = s.pane o)

/-- HOLDOFF_EXPIRY ends the hold-off of one group (R301). -/
def Sys2Proof.Claims.holdoffExpires : Prop :=
  ∀ (s : State) (sash : BitVec 6) (g : BitVec 3),
    ∃ t, exec (.holdoffExpiry sash g) s = .next t ∧ t.panes = s.panes ∧
      (t.bellOf sash.toNat).heldOff = (s.bellOf sash.toNat).heldOff &&& ~~~(1#8 <<< g.toNat) ∧
      (t.bellOf sash.toNat).pend = (s.bellOf sash.toNat).pend ∧ (∀ j, j ≠ sash.toNat → t.bellOf j = s.bellOf j)

/-- The bells: arrivals, records, hold-offs, and arrivals at a closed sash. -/
def Obligations.BellsDeliver : Prop :=
  Claims.bellArrives ∧ Claims.aonLatches ∧ Claims.recordWrites ∧ Claims.holdoffExpires

/-! Movers and DRAM. -/

/-- MOVER_EXECUTE reads and checks the descriptor in slot NEXT (R406, R407): one that passes begins; one that fails ends with the
status of the first failing check, 3 for an uncorrectable word of its own, and NEXT goes on. -/
def Sys2Proof.Claims.moverChecks : Prop :=
  ∀ (s : State) (bay : BitVec 3) (m : BitVec 2) (n : Nat) (d : MvSub),
    let b := bay.toNat
    let x := s.mover b m.toNat
    x.subs.find? (fun e => e.slot == x.next) = some d → d.status = none → d.begun = false → x.staged = none →
    s.domOpen (64 + b) = true → s.part ≠ .faulted → d.moved = 0 →
      let word (i : Nat) := s.bulkEcc (.buf b) (s.mvSlot b m.toNat d.slot + 8 * i)
      ((∃ i < 4, word i = .uncorrectable) →
        ∃ t, exec (.moverExecute bay m n) s = .next t ∧ t.mover b m.toNat =
          { x with subs := x.subs.map (fun e => if e.slot = d.slot then { d with status := some 3 } else e),
                   next := (x.next + 1) % 16 } ∧ t.bufs = s.bufs ∧ t.panes = s.panes) ∧
      ((∀ i < 4, word i = .clean) → s.mvCheck b m.toNat d.slot = none →
        ∃ t, exec (.moverExecute bay m n) s = .next t ∧ t.mover b m.toNat =
          { x with subs := x.subs.map (fun e => if e.slot = d.slot then { d with begun := true } else e), staging := [] } ∧
          t = { s with movers := t.movers }) ∧
      (∀ st, (∀ i < 4, word i = .clean) → s.mvCheck b m.toNat d.slot = some st →
        ∃ t, exec (.moverExecute bay m n) s = .next t ∧ t.mover b m.toNat =
          { x with subs := x.subs.map (fun e => if e.slot = d.slot then { d with status := some st } else e),
                   next := (x.next + 1) % 16 } ∧ t = { s with movers := t.movers })

/-- A step of a begun descriptor of one row, from bay buffer to bay buffer, whose source is free of errors: the next bytes go from
source to destination in order, every other byte of the destination's buffer stays, and the last byte ends it with status 0. -/
def Sys2Proof.Claims.moverMoves : Prop :=
  ∀ (s : State) (bay : BitVec 3) (m : BitVec 2) (n sb db : Nat) (d : MvSub),
    let b := bay.toNat
    let x := s.mover b m.toNat
    let src := s.mvOff b m.toNat d.slot 0
    let dst := s.mvOff b m.toNat d.slot 2
    let len := s.mvLen b m.toNat d.slot
    let k := s.mvCount b m.toNat d.slot d.moved n
    x.subs.find? (fun e => e.slot == x.next) = some d → d.status = none → d.begun = true → x.staged = none →
    s.domOpen (64 + b) = true → s.mvSpace b m.toNat d.slot 0 = .bulk (.buf sb) → s.mvSpace b m.toNat d.slot 2 = .bulk (.buf db) →
    sb ≠ db → db ≠ b → s.mvRows b m.toNat d.slot = 1 → src + len ≤ 2097152 → dst + len ≤ 2097152 → d.moved < len →
    (∀ i < len, s.bulkEcc (.buf sb) (src + i) = .clean) →
    ∃ t, exec (.moverExecute bay m n) s = .next t ∧
      (∀ a, (t.buf db).read a =
        if dst + d.moved ≤ a ∧ a < dst + d.moved + k ∧ a < dst + len then (s.buf sb).read (src + (a - dst)) else (s.buf db).read a) ∧
      (∀ o, o ≠ db → t.buf o = s.buf o) ∧ t.panes = s.panes ∧ t.dram = s.dram

/-- MOVER_STAGE_READ takes the source rows of a stalled pane into staging (R408). -/
def Sys2Proof.Claims.moverStages : Prop :=
  ∀ (s : State) (bay : BitVec 3) (m : BitVec 2) (d : MvSub) (p : Nat),
    let b := bay.toNat
    let x := s.mover b m.toNat
    let rows := s.mvRanges b m.toNat d.slot 0
    x.subs.find? (fun e => e.slot == x.next) = some d → s.mvSpace b m.toNat d.slot 0 = .pane p → d.begun = true → d.read = false →
    d.status = none → (s.pane p).stalledFor d.subEnd = true → s.paneUp p = true →
    (∀ r ∈ rows, ∀ k < r.2, (s.pane p).eccAt (r.1 + k) = .clean) →
    ∃ t, exec (.moverStageRead bay m) s = .next t ∧
      (t.mover b m.toNat).staging = rows.flatMap (fun r => (s.pane p).sram.readBytes r.1 r.2) ∧
      (t.mover b m.toNat).subs = x.subs.map (fun e => if e.slot = d.slot then { d with read := true } else e) ∧
      t = { s with movers := t.movers }

/-- The rows written one after the other from a byte string. -/
def Sys2Proof.Claims.rowsInto (m : Memory) (bytes : List Byte) : List (Nat × Nat) → Memory
  | [] => m
  | (a, n) :: r => Claims.rowsInto (m.writeBytes a (bytes.take n)) (bytes.drop n) r

/-- MOVER_PANE_WRITE puts the staged bytes into the rows of a pane stalled in WAITT once its write-back has closed (R408, R411). -/
def Sys2Proof.Claims.moverWritesPane : Prop :=
  ∀ (s : State) (bay : BitVec 3) (m : BitVec 2) (g : Staged),
    let x := s.mover bay.toNat m.toNat
    x.staged = some g → g.ready = true → (s.pane g.pane).phase = .stall → s.paneUp g.pane = true →
    ∃ t, exec (.moverPaneWrite bay m) s = .next t ∧
      (t.pane g.pane).sram = Claims.rowsInto (s.pane g.pane).sram x.staging g.rows ∧
      { t.pane g.pane with sram := (s.pane g.pane).sram, ecc := (s.pane g.pane).ecc } = s.pane g.pane ∧
      (∀ k, k ≠ g.pane → t.pane k = s.pane k) ∧
      t.mover bay.toNat m.toNat = { x with staged := none, staging := [] } ∧ t.reg = s.reg ∧ t.bufs = s.bufs

/-- MOVER_WRITE_BACK of a mover with one complete descriptor, due at the coming boundary (R410): STATUS and OWN in its slot, the
count, and the bell when it asks for one. -/
def Sys2Proof.Claims.moverWritesBack : Prop :=
  ∀ (s : State) (bay : BitVec 3) (m : BitVec 2) (d : MvSub),
    let b := bay.toNat
    let x := s.mover b m.toNat
    let a := s.mvSlot b m.toNat d.slot
    let w7 := s.mvWord b m.toNat d.slot 7
    x.subs = [d] → d.status = some 0 → d.late = false → s.mvCloses b m.toNat d = true →
    ∃ t, exec (.moverWriteBack bay m) s = .next t ∧
      (t.mover b m.toNat).subs = [] ∧
      (t.mvWord b m.toNat d.slot 7) = w7 &&& 0x7FFFFFFF#32 ∧
      (t.mvWord b m.toNat d.slot 4) = s.mvWord b m.toNat d.slot 4 &&& 0x00FFFFFF#32 ∧
      (∀ c, (c < a + 16 ∨ a + 32 ≤ c) → (t.buf b).read c = (s.buf b).read c) ∧
      (t.rd (Config.bay b + 0x10C + 0x40 * m.toNat)).toNat =
        min ((s.rd (Config.bay b + 0x10C + 0x40 * m.toNat)).toNat + 1) 65535 ∧
      t.arrivals = (if w7.bit 24
        then s.arrivals ++ [{ src := 32 + m.toNat, kind := .edge, detail := d.slot % 65536, todo := 0xFF#64 <<< (8 * b) }]
        else s.arrivals) ∧ t.panes = s.panes

/-- MOVER_LATE: an incomplete descriptor at its due boundary counts as an overrun of the owner and is late (R411). -/
def Sys2Proof.Claims.moverIsLate : Prop :=
  ∀ (s : State) (bay : BitVec 3) (m : BitVec 2) (d : MvSub),
    let b := bay.toNat
    let o := s.mvOwner b m.toNat
    (s.mover b m.toNat).subs = [d] → d.status = none → d.late = false → s.mvCloses b m.toNat d = true →
    ∃ t, exec (.moverLate bay m) s = .next t ∧ (t.mover b m.toNat).subs = [{ d with late := true }] ∧
      (t.pane o).mvLate = true ∧ ((t.pane o).cr 0x10C).toNat = min (((s.pane o).cr 0x10C).toNat + 1) 4294967295 ∧
      (∀ c, c ≠ 0x10C → (t.pane o).cr c = (s.pane o).cr c) ∧ (∀ k, k ≠ o → t.pane k = s.pane k) ∧ t.bufs = s.bufs

/-- The bulk movers. -/
def Obligations.MoversMove : Prop :=
  Claims.moverChecks ∧ Claims.moverMoves ∧ Claims.moverStages ∧ Claims.moverWritesPane ∧ Claims.moverWritesBack ∧
    Claims.moverIsLate

/-- DRAM_REFRESH keeps every word and shows HOT; ZQ_CALIBRATION changes nothing that a command can see (R396); a patrol read of
64 clean bytes changes nothing; a single-bit error in one word is written back, counted, and rings bell source 38; an uncorrectable
one is counted, and rings 39 (R397). -/
def Obligations.DramIsKept : Prop :=
  ∀ (s : State) (hot : Bool) (u j : Nat),
    let clean (k : Nat) := s.bulkEcc .dram (64 * u + 8 * k) = .clean
    let on := (s.rd (Config.dram + 0x40)).fld 0 8 ≠ 0 ∧ s.dramRefuses = false ∧ 64 * u < s.bulkSize .dram
    ((s.rd (Config.dram + 4)).fld 0 2 = 2 →
      ∃ t, exec (.dramRefresh hot) s = .next t ∧ OnlyRegs [Config.dram + 4] s t ∧
        (t.rd (Config.dram + 4)).bit 2 = hot ∧ ∀ i, i ≠ 2 → (t.rd (Config.dram + 4)).bit i = (s.rd (Config.dram + 4)).bit i) ∧
    exec .zqCalibration s = .next s ∧
    (on → (∀ k < 8, clean k) → exec (.dramScrubRead u) s = .next s) ∧
    (on → j < 8 → (∀ k < 8, k ≠ j → clean k) → s.bulkEcc .dram (64 * u + 8 * j) = .correctable →
      ∃ t, exec (.dramScrubRead u) s = .next t ∧ t.dram = s.dram ∧ t.bulkEcc .dram (64 * u + 8 * j) = .clean ∧
        (t.rd (Config.dram + 0x30)).toNat = min ((s.rd (Config.dram + 0x30)).toNat + 1) 65535 ∧
        t.arrivals = s.arrivals ++ [{ src := 38, kind := .edge, detail := 0, todo := BitVec.allOnes 64 }]) ∧
    (on → j < 8 → (∀ k < 8, k ≠ j → clean k) → s.bulkEcc .dram (64 * u + 8 * j) = .uncorrectable →
      ∃ t, exec (.dramScrubRead u) s = .next t ∧ t.dram = s.dram ∧ t.dramEcc = s.dramEcc ∧
        (t.rd (Config.dram + 0x34)).toNat = min ((s.rd (Config.dram + 0x34)).toNat + 1) 65535 ∧
        t.arrivals = s.arrivals ++ [{ src := 39, kind := .edge, detail := 0, todo := BitVec.allOnes 64 }])

/-! Messages on the mesh. -/

/-- The acknowledgement of m, of status `sub`, that router r sends (R96, R97). -/
def Sys2Proof.Claims.ackOf (s : State) (m : Msg) (r sub : Nat) : Msg :=
  { kind := .ack, sub := sub, vn := m.vn, dev := m.srcDev, dest := m.srcPane, chan := m.chan, index := 0, srcDev := s.partNo,
    srcPane := r, tag := m.tag, words := [], poison := [], id := m.id, tick := m.tick, relay := none }

/-- The acknowledgement of m finds its way from router r: no dead router lies on it (R125, R126). -/
def Sys2Proof.Claims.ackWay (s : State) (m : Msg) (r : Nat) : Prop :=
  ∀ d, d ∈ s.routedAround ∨ d ∈ s.deadRouters → onVn m.vn r (m.srcPane % 1024) d = false

/-- Message number k of the mesh is m, from and for this part, and past its relay. -/
def Sys2Proof.Claims.onMesh (s : State) (k : Nat) (m : Msg) (kind : MsgKind) : Prop :=
  s.mesh[k]? = some m ∧ m.kind = kind ∧ m.relay = none ∧ m.dev = s.partNo ∧ m.srcDev = s.partNo

/-- The back half that copy c of a channel's sender fills. -/
def Sys2Proof.Claims.backOf (x : ChanState) (c : Nat) : BackHalf := if c = 0 then x.back else if c = 1 then x.backTwin else x.backThird

/-- Only the back halves and LATE of channel c of pane q differ. -/
def Sys2Proof.Claims.OnlyChan (c : Nat) (q t : Pane) : Prop := { t with chan := q.chan } = q ∧ ∀ j, j ≠ c → t.chanOf j = q.chanOf j

/-- The words of m stand in a back half from its INDEX on, and each counts. -/
def Sys2Proof.Claims.Landed (m : Msg) (b b' : BackHalf) : Prop :=
  b'.count = b.count + m.words.length ∧ b'.poison = (b.poison || m.poison.any id) ∧
  ∀ i, SMap.at? b'.words i =
    if m.index ≤ i ∧ i < m.index + m.words.length then m.words[i - m.index]? else SMap.at? b.words i

/-- POST_ARRIVAL at a valid channel of an open sash, from a known copy of its sender and within its size (R61, R64, R65, R98,
R104): a tag of the back tick is stored and acknowledged; one of the next tick is held; any other is discarded as late,
counted in LATE_DROPS, rings bell source 20, and is acknowledged with SUB 1. -/
def Sys2Proof.Claims.postArrives : Prop :=
  ∀ (s : State) (k c : Nat) (m : Msg),
    let r := m.dest % 1024
    let q := s.pane r
    let ord := s.tick / s.mult (q.inClass m.chan)
    Claims.onMesh s k m .post → s.paneUp r = true → q.inValid m.chan = true →
    q.copyOf m.chan (m.srcDev * 1024 + m.srcPane) = some c → m.index + m.words.length ≤ q.inSize m.chan →
    Claims.ackWay s m r →
    (m.tag % 256 = ord % 256 →
      ∃ t, exec (.postArrival (.mesh k) .none) s = .next t ∧ t = { s with mesh := t.mesh, panes := t.panes } ∧
        t.mesh = s.mesh.eraseIdx k ++ [Claims.ackOf s m r 0] ∧ (∀ j, j ≠ r → t.pane j = s.pane j) ∧
        Claims.OnlyChan m.chan q (t.pane r) ∧ ((t.pane r).chanOf m.chan).late = (q.chanOf m.chan).late ∧
        (∀ d < 3, d ≠ c → Claims.backOf ((t.pane r).chanOf m.chan) d = Claims.backOf (q.chanOf m.chan) d) ∧
        Claims.Landed m (Claims.backOf (q.chanOf m.chan) c) (Claims.backOf ((t.pane r).chanOf m.chan) c)) ∧
    (m.tag % 256 = (ord + 1) % 256 →
      exec (.postArrival (.mesh k) .none) s = .next { s with mesh := s.mesh.eraseIdx k, held := s.held ++ [m] }) ∧
    (m.tag % 256 ≠ ord % 256 → m.tag % 256 ≠ (ord + 1) % 256 →
      ∃ t, exec (.postArrival (.mesh k) .none) s = .next t ∧ t.mesh = s.mesh.eraseIdx k ++ [Claims.ackOf s m r 1] ∧
        ((t.pane r).cr 0x11C).toNat = min ((q.cr 0x11C).toNat + m.words.length) 65535 ∧
        ((t.pane r).chanOf m.chan).late = true ∧
        (∀ d < 3, Claims.backOf ((t.pane r).chanOf m.chan) d = Claims.backOf (q.chanOf m.chan) d) ∧
        (t.pane r).g = q.g ∧ (t.pane r).sram = q.sram ∧ (∀ j, j ≠ r → t.pane j = s.pane j) ∧
        t.arrivals = s.arrivals ++
          [{ src := 20, kind := .edge, detail := posInSash r % 65536, todo := 1#64 <<< sashOf r }])

/-- A post to a channel that is not valid is misrouted (R104): counted, bell source 19, and acknowledged with SUB 2. A
double-bit error in its header flit drops it at the router that sees it (R93). -/
def Sys2Proof.Claims.postMisses : Prop :=
  ∀ (s : State) (k : Nat) (m : Msg) (x : PaneNo),
    let r := m.dest % 1024
    Claims.onMesh s k m .post → s.paneUp r = true →
    ((s.pane r).inValid m.chan = false → Claims.ackWay s m r →
      ∃ t, exec (.postArrival (.mesh k) .none) s = .next t ∧ t.mesh = s.mesh.eraseIdx k ++ [Claims.ackOf s m r 2] ∧
        ((t.pane r).cr 0x828).toNat = min (((s.pane r).cr 0x828).toNat + 1) 65535 ∧
        (t.pane r).chan = (s.pane r).chan ∧ (t.pane r).g = (s.pane r).g ∧ t.held = s.held ∧
        t.arrivals = s.arrivals ++
          [{ src := 19, kind := .edge, detail := posInSash r % 65536, todo := 1#64 <<< sashOf r }]) ∧
    (∃ t, exec (.postArrival (.mesh k) (.header x)) s = .next t ∧ t.mesh = s.mesh.eraseIdx k ∧ t.held = s.held ∧
      ((t.pane x.toNat).cr 0x824).toNat = min (((s.pane x.toNat).cr 0x824).toNat + 1) 65535 ∧
      (∀ j, (t.pane j).chan = (s.pane j).chan ∧ (t.pane j).g = (s.pane j).g) ∧
      t.arrivals = s.arrivals ++
        [{ src := 17, kind := .edge, detail := posInSash x.toNat % 65536, todo := 1#64 <<< sashOf x.toNat }])

/-- HELD_POST_DELIVERY: a held post whose tick's back half is open is stored and acknowledged (R64); while it is not, it
stays held. -/
def Sys2Proof.Claims.heldDelivers : Prop :=
  ∀ (s : State) (k c : Nat) (m : Msg),
    let r := m.dest % 1024
    let q := s.pane r
    let ord := s.tick / s.mult (q.inClass m.chan)
    s.held[k]? = some m → m.kind = .post → m.srcDev = s.partNo → Claims.ackWay s m r → q.inValid m.chan = true →
    q.copyOf m.chan (m.srcDev * 1024 + m.srcPane) = some c → m.index + m.words.length ≤ q.inSize m.chan →
    (m.tag % 256 = ord % 256 →
      ∃ t, exec (.heldPostDelivery k) s = .next t ∧ t.held = s.held.eraseIdx k ∧
        t.mesh = s.mesh ++ [Claims.ackOf s m r 0] ∧ (∀ j, j ≠ r → t.pane j = s.pane j) ∧
        Claims.OnlyChan m.chan q (t.pane r) ∧
        Claims.Landed m (Claims.backOf (q.chanOf m.chan) c) (Claims.backOf ((t.pane r).chanOf m.chan) c)) ∧
    (m.tag % 256 = (ord + 1) % 256 → exec (.heldPostDelivery k) s = .next s)

/-- ACKNOWLEDGEMENT: the sender no longer awaits it (R63, R97); a WAITT that waits is judged anew (R250). -/
def Sys2Proof.Claims.acksReturn : Prop :=
  ∀ (s : State) (k n : Nat) (m : Msg),
    let p := m.dest % 1024
    let q := s.pane p
    Claims.onMesh s k m .ack → Claims.awake q →
    ∃ t, exec (.acknowledgement (.mesh k) .none n) s = .next t ∧ t.now = max s.now n ∧ t.mesh = s.mesh.eraseIdx k ∧
      t.pane p = { q with unacked := q.unacked.filter (fun u => u.id != m.id) } ∧ ∀ j, j ≠ p → t.pane j = s.pane j

/-- REDUCE_CONTRIBUTION: the root stores it in its rank's slot for the copy that sent it, and acknowledges it; no pane differs
(R116). -/
def Sys2Proof.Claims.contributionStored : Prop :=
  ∀ (s : State) (k : Nat) (m : Msg),
    let ord := s.tick / s.mult (SMap.get (fun _ => 0) s.groupCls m.chan)
    let key := m.chan * 256 + m.index * 4 + (s.pane m.srcPane).role
    Claims.onMesh s k m .reduce → m.tag % 256 = ord % 256 → Claims.ackWay s m (m.dest % 1024) →
    ∃ t, exec (.reduceContribution (.mesh k) .none) s = .next t ∧ t = { s with mesh := t.mesh, red := t.red } ∧
      t.mesh = s.mesh.eraseIdx k ++ [Claims.ackOf s m (m.dest % 1024) 0] ∧
      ∀ j, SMap.at? t.red j =
        if j = key then some { word := m.words.headD 0, poison := m.poison.headD false } else SMap.at? s.red j

/-- DRIVE_POST of the slot's tick from one of its sources (R343): stored in that copy's back half; a second in the tick is
misrouted; from any other sender it is misrouted. -/
def Sys2Proof.Claims.drivePostArrives : Prop :=
  ∀ (s : State) (k c : Nat) (m : Msg),
    let d := m.dest % 128
    let mis := Config.dop (d / 64) + 0x24
    let r := driveRouter (d / 64) (m.dest / 512)
    let src := m.srcDev * 1024 + m.srcPane
    let w : DriveWord := { word := m.words.headD 0, poison := m.poison.headD false }
    let bounced (t : State) := t.mesh = s.mesh.eraseIdx k ++ [Claims.ackOf s m r 2] ∧ t.drv = s.drv ∧ t.panes = s.panes ∧
      (t.rd mis).toNat = min ((s.rd mis).toNat + 1) 65535 ∧ ∀ a, a ≠ mis → t.rd a = s.rd a
    Claims.onMesh s k m .drivePost → Claims.ackWay s m r →
    ((s.slotValid d = false ∨ s.slotCopy d src = none) →
      ∃ t, exec (.drivePost (.mesh k) .none) s = .next t ∧ bounced t) ∧
    (s.slotValid d = true → s.slotCopy d src = some c → m.tag % 256 = s.tick / s.mult (s.slotClass d) % 256 →
      ((s.slot d).back c = none →
        ∃ t, exec (.drivePost (.mesh k) .none) s = .next t ∧ t = { s with mesh := t.mesh, drv := t.drv } ∧
          t.mesh = s.mesh.eraseIdx k ++ [Claims.ackOf s m r 0] ∧ (t.slot d).back c = some w ∧
          (∀ e < 3, e ≠ c → (t.slot d).back e = (s.slot d).back e) ∧ ∀ j, j ≠ d → t.slot j = s.slot j) ∧
      ((s.slot d).back c ≠ none → ∃ t, exec (.drivePost (.mesh k) .none) s = .next t ∧ bounced t))

/-- RELAY_FORWARD: the relay re-injects the message on VN1 (R127); one that meets a dead router there is lost (R125). -/
def Sys2Proof.Claims.relayForwards : Prop :=
  ∀ (s : State) (k r : Nat) (m : Msg), s.mesh[k]? = some m → m.relay = some r → m.kind = .post → m.dev = s.partNo →
    exec (.relayForward k) s = .next
      (if ∃ d ∈ s.deadRouters, onVn1 r (m.dest % 1024) d = true then { s with mesh := s.mesh.eraseIdx k }
       else { s with mesh := s.mesh.set k { m with relay := none, vn := true, start := some r } })

/-- WICKET_FORWARD: a message for another part leaves by its exit link (R542), one that arrives for this part enters the mesh
at the link's router, and one for a third part goes on by its exit link; a severed crossing counts and discards it (R636). -/
def Sys2Proof.Claims.wicketForwards : Prop :=
  ∀ (s : State) (link : BitVec 3) (k l : Nat) (m : Msg),
    let lane := link.toNat
    let c := Config.cross + 0x400 + 4 * (92 + lane)
    (s.mesh[k]? = some m → m.dev ≠ s.partNo → m.relay = none → m.kind ≠ .ack → s.exitLink m.srcPane m.dev = some l →
      exec (.wicketForward (.mesh k) link .none) s =
        .next { s with mesh := s.mesh.eraseIdx k, wicketOut := s.wicketOut ++ [(l, m)] }) ∧
    (lane < 6 → s.linkCarries lane = true → s.severed (92 + lane) = false →
      (m.dev = s.partNo → Claims.wholeMesh s →
        exec (.wicketForward (.wicket m) link .none) s = .next { s with
          mesh := s.mesh ++ [{ m with vn := m.kind == .ack && m.vn, relay := none, start := some (linkRouter lane) }] }) ∧
      (m.dev ≠ s.partNo → m.kind ≠ .ack → s.exitLink m.srcPane m.dev = some l →
        exec (.wicketForward (.wicket m) link .none) s = .next { s with wicketOut := s.wicketOut ++ [(l, m)] })) ∧
    (lane < 6 → s.linkCarries lane = true → s.severed (92 + lane) = true →
      ∃ t, exec (.wicketForward (.wicket m) link .none) s = .next t ∧ OnlyRegs [c] s t ∧
        (t.rd c).toNat = min ((s.rd c).toNat + max m.words.length 1) 65535) ∧
    (6 ≤ lane → exec (.wicketForward (.wicket m) link .none) s = .fault .noSuchUnit)

/-- What becomes of a message at its receiver, at its root, at its drive slot, at a relay and at a link. -/
def Obligations.MessagesArrive : Prop :=
  Claims.postArrives ∧ Claims.postMisses ∧ Claims.heldDelivers ∧ Claims.acksReturn ∧ Claims.contributionStored ∧
    Claims.drivePostArrives ∧ Claims.relayForwards ∧ Claims.wicketForwards

/-! Dead routers, retirement and takeover. -/

/-- ROUTER_DEAD: the router is dead, its neighbour reports it, bell source 18 rings, and what must cross it is lost (R124,
R125). -/
def Sys2Proof.Claims.routerDies : Prop :=
  ∀ (s : State) (r n : PaneNo) (b tm : Nat), neighbourBit n.toNat r.toNat = some b → r.toNat ∉ s.deadRouters →
    ∃ t, exec (.routerDead r n tm) s = .next t ∧ t.now = max s.now tm ∧ t.deadRouters = s.deadRouters ++ [r.toNat] ∧
      t.mesh = s.mesh.filter (fun m => !s.crosses m r.toNat) ∧ ((t.pane n.toNat).cr 0x844).bit b = true ∧
      t.latchReps = s.latchReps ++ [{ rep := .routerDead r.toNat n.toNat, at' := t.now }] ∧
      t.arrivals = s.arrivals ++ [{ src := 18, kind := .edge, detail := r.toNat, todo := BitVec.allOnes 64 }] ∧
      (∀ j, j ≠ n.toNat → t.pane j = s.pane j) ∧ t.reg = s.reg

/-- ROUTE_INSTALL, at the first boundary whose root close comes at least 1 us after the report (R125): every report that old
gets its routes. With none that old, nothing changes. -/
def Sys2Proof.Claims.routesInstalled : Prop :=
  ∀ s : State, s.gen.on = true → s.inBnd = false →
    let due (x : Nat × Nat) : Bool := decide (x.2 + 1000 ≤ s.gen.nextNs)
    (s.routesDue.any due = true →
      ∃ t, exec .routeInstall s = .next t ∧ t.routedAround = s.routedAround ++ (s.routesDue.filter due).map Prod.fst ∧
        t.routesDue = s.routesDue.filter (fun x => !due x) ∧ t.tick = s.tick ∧ t.mesh = s.mesh) ∧
    (s.routesDue.any due = false → exec .routeInstall s = .next s)

/-- An outgoing entry names pane p of this part (R106, R131). -/
def Sys2Proof.Claims.names (s : State) (p : Nat) (w : Word) : Bool :=
  w.bit 31 && !w.bit 19 && decide (w.fld 6 10 = p) && decide (w.fld 16 3 = s.partNo)

/-- PANE_RETIREMENT, when it is due: the pane is marked retired and runs no more, every sender's entry that names it gets
DISCARD, and FAULT shows it (R131, R138). -/
def Sys2Proof.Claims.paneRetires : Prop :=
  ∀ (s : State) (p : PaneNo) (r : Nat × Nat × Nat),
    let q := s.pane p.toNat
    s.gen.on = true → s.retireDue.find? (fun x => x.1 == p.toNat && decide (x.2.2 ≤ s.gen.nextNs)) = some r → q.retired = false →
    ∃ t, exec (.paneRetirement p) s = .next t ∧ (t.pane p.toNat).retired = true ∧ (t.pane p.toNat).role = q.role ∧
      (t.pane p.toNat).phase = (if q.phase = .halted then .halted else .idle) ∧
      (∀ n e, e < 64 → (t.pane n).cr (0x200 + 8 * e) =
        let w := (s.pane n).cr (0x200 + 8 * e)
        if Claims.names s p.toNat w then w ||| (1#32 <<< 22) else w) ∧
      (t.rd (Config.fault + 0x20 + 4 * (p.toNat / 32))).bit (p.toNat % 32) = true ∧
      (∀ x ∈ t.retireDue, x.1 ≠ p.toNat) ∧ t.tick = s.tick

/-- TAKEOVER_STATE_COPY in tick B or later: the bytes of the state region of the serving copy stand in the spare, and no other
byte of it changes (R135). -/
def Sys2Proof.Claims.takeoverCopies : Prop :=
  ∀ (s : State) (k : Nat) (x : Takeover),
    let prim := s.primaryOf x.twin
    let a := s.fv 2 0xA prim 0
    let n := s.fv 2 0xB prim 0
    s.takeovers[k]? = some x → x.stage = 0 → s.ticking = true → x.base ≤ s.tick / s.mult (s.pane x.retired).cls →
    ∃ t, exec (.takeoverStateCopy k) s = .next t ∧ t.takeovers = s.takeovers.set k { x with stage := 1 } ∧
      (∀ b, (t.pane x.spare).sram.read b =
        if a ≤ b ∧ b < a + n then (s.pane x.twin).sram.read b else (s.pane x.spare).sram.read b) ∧
      (∀ j, j ≠ x.spare → t.pane j = s.pane j) ∧ t.reg = s.reg

/-- TAKEOVER_LOG_REPLAY of the ticks before the current one (R135): each logged word stands in the spare as its last write left
it, every other byte stays, and later writes stay logged. More than 1,024 of them restart the copy, which is logged (R136). -/
def Sys2Proof.Claims.takeoverReplays : Prop :=
  ∀ (s : State) (k : Nat) (x : Takeover),
    let o := s.tick / s.mult (s.pane x.retired).cls
    let old := x.log.filter (fun w => decide (w.tick < o))
    s.takeovers[k]? = some x → x.stage ≠ 0 →
    (old.length ≤ 1024 →
      ∃ t, exec (.takeoverLogReplay k) s = .next t ∧
        t.takeovers = s.takeovers.set k { x with log := x.log.filter (fun w => !decide (w.tick < o)) } ∧
        (∀ l w r, old = l ++ w :: r → (∀ y ∈ r, y.addr + 4 ≤ w.addr ∨ w.addr + 4 ≤ y.addr) →
          (t.pane x.spare).peekW w.addr = w.word) ∧
        (∀ b, (∀ w ∈ old, b < w.addr ∨ w.addr + 4 ≤ b) → (t.pane x.spare).sram.read b = (s.pane x.spare).sram.read b) ∧
        (∀ j, j ≠ x.spare → t.pane j = s.pane j)) ∧
    (1024 < old.length →
      ∃ t, exec (.takeoverLogReplay k) s = .next t ∧ t.panes = s.panes ∧
        t.takeovers = s.takeovers.set k { x with stage := 0, base := o, log := x.log.filter (fun w => !decide (w.tick < o)) } ∧
        (t.ledger.getLast?).map (fun e => (e.code, e.subject)) = some (0x0309, x.spare))

/-- TAKEOVER_REDIRECT at the boundary that starts tick B + 2 (R135): every outgoing entry that named the retired pane names the
spare, with DISCARD clear, and the spare has the incoming channels of the retired pane (R137). -/
def Sys2Proof.Claims.takeoverRedirects : Prop :=
  ∀ (s : State) (k : Nat) (x : Takeover),
    let m := s.mult (s.pane x.retired).cls
    let named (w : Word) := if Claims.names s x.retired w then (w.withFld 6 10 x.spare).withBit 22 false else w
    s.takeovers[k]? = some x → x.stage = 1 → s.ticking = true → s.nextTick % m = 0 → x.base + 2 ≤ s.nextTick / m →
    x.log.length ≤ 1024 →
    ∃ t, exec (.takeoverRedirect k) s = .next t ∧ (t.takeovers[k]?).map (fun y => y.stage) = some 2 ∧
      (∀ n e, e < 64 → n ≠ x.spare → (t.pane n).cr (0x200 + 8 * e) = named ((s.pane n).cr (0x200 + 8 * e))) ∧
      (∀ e, e < 64 → (t.pane x.spare).cr (0x200 + 8 * e) = named ((s.pane x.retired).cr (0x200 + 8 * e)) ∧
        ((t.pane x.spare).cr (0x204 + 8 * e)).fld 0 10 = ((s.pane x.retired).cr (0x204 + 8 * e)).fld 0 10) ∧
      (∀ i, i < 256 → (t.pane x.spare).cr (0x400 + 4 * i) = (s.pane x.retired).cr (0x400 + 4 * i)) ∧ t.tick = s.tick

/-- TAKEOVER_COMPLETE at the boundary that starts tick B + 3, for a retired primary, once the twin's WAITT has retired, and not
before (R135; that it waits for an overrunning twin is the model's reading, log 136): the former twin is the primary, the
spare opens with the twin's ROLE at TICK_ENTRY with its registers at 0 (R184, R266), and the takeover is over, which bell source 26 tells. -/
def Sys2Proof.Claims.takeoverCompletes : Prop :=
  ∀ (s : State) (k : Nat) (x : Takeover),
    let m := s.mult (s.pane x.retired).cls
    s.takeovers[k]? = some x → x.stage = 2 → s.ticking = true → s.nextTick % m = 0 → x.base + 3 ≤ s.nextTick / m →
    x.log.length ≤ 128 → (s.pane x.retired).role = 0 → x.spare ≠ x.twin → x.spare ≠ x.retired → x.twin ≠ x.retired →
    ((s.pane x.twin).tag < s.nextTick → exec (.takeoverComplete k) s = .next s) ∧
    (s.nextTick ≤ (s.pane x.twin).tag → ∃ t, exec (.takeoverComplete k) s = .next t ∧ t.takeovers = s.takeovers.eraseIdx k ∧ (t.pane x.twin).role = 0 ∧
      (t.pane x.spare).role = (s.pane x.twin).role ∧ (t.pane x.spare).cr 0x100 = (s.pane x.retired).cr 0x100 ∧
      (t.pane x.spare).phase = .stall ∧ (t.pane x.spare).tag = s.nextTick ∧
      (t.pane x.spare).pc = BitVec.ofNat 32 (s.fv 2 8 (s.primaryOf x.twin) 0) ∧
      (∀ r, (t.pane x.spare).gr r = 0) ∧ (t.pane x.spare).fdepth = 0 ∧
      t.arrivals = s.arrivals ++
        [{ src := 26, kind := .edge, detail := (x.spare + 2 ^ 15) % 65536, todo := BitVec.allOnes 64 }])

/-- Routes and panes that fail, and the takeover by a spare, point by point. -/
def Obligations.SparesTakeOver : Prop :=
  Claims.routerDies ∧ Claims.routesInstalled ∧ Claims.paneRetires ∧ Claims.takeoverCopies ∧ Claims.takeoverReplays ∧
    Claims.takeoverRedirects ∧ Claims.takeoverCompletes

/-! The latches. -/

/-- A latch scrubs a word (R171), in increasing order and round all 16,384: a single-bit error is corrected and counted; an
uncorrectable one is reported with ECC_ADDR (R169). ECC_REWRITE at a WAITT stall rewrites the words that reads corrected
(R168). Memory and registers keep their contents. -/
def Sys2Proof.Claims.latchScrubs : Prop :=
  ∀ (s : State) (p : PaneNo),
    let q := s.pane p.toNat
    let a := 4 * q.scrubPos
    s.paneUp p.toNat = true → (q.cr 0x4C).bit 0 = true → (q.phase = .stall ∨ q.hasTask = false) →
    ∃ t, exec (.scrubWord p) s = .next t ∧ (t.pane p.toNat).scrubPos = (q.scrubPos + 1) % 16384 ∧
      (t.pane p.toNat).sram = q.sram ∧ (t.pane p.toNat).g = q.g ∧ (∀ j, j ≠ p.toNat → t.pane j = s.pane j) ∧
      (t.pane p.toNat).eccAt a = (if q.eccAt a = .uncorrectable then .uncorrectable else .clean) ∧
      (∀ b, b / 4 ≠ a / 4 → (t.pane p.toNat).eccAt b = q.eccAt b) ∧
      ((t.pane p.toNat).cr 0x40).toNat =
        (if q.eccAt a = .correctable then min ((q.cr 0x40).toNat + 1) 65535 else (q.cr 0x40).toNat) ∧
      (t.pane p.toNat).cr 0x48 =
        (if q.eccAt a = .uncorrectable then BitVec.ofNat 32 (a % 65536 + 2 ^ 31) else q.cr 0x48) ∧
      t.latchReps = s.latchReps ++ (if q.eccAt a = .uncorrectable then [{ rep := .sramUe p.toNat, at' := s.now }] else [])

def Sys2Proof.Claims.latchRewrites : Prop :=
  ∀ (s : State) (p : PaneNo),
    let q := s.pane p.toNat
    q.phase = .stall →
    ∃ t, exec (.eccRewrite p) s = .next t ∧ OnlyPane p.toNat s t ∧
      { t.pane p.toNat with rewrite := q.rewrite, ecc := q.ecc } = q ∧ (t.pane p.toNat).rewrite = [] ∧
      (∀ a ∈ q.rewrite, q.eccAt a = .correctable → (t.pane p.toNat).eccAt a = .clean) ∧
      (∀ a, (∀ w ∈ q.rewrite, w / 4 ≠ a / 4) → (t.pane p.toNat).eccAt a = q.eccAt a)

/-- The latch's work on the memory of its pane. -/
def Obligations.LatchesMendMemory : Prop := Claims.latchScrubs ∧ Claims.latchRewrites

/-! Sample input. -/

/-- FIFO entry k of lane l of its group, from a frame of `n` slots (R322). -/
def Sys2Proof.Claims.entryOf (l n k : Nat) (w : Word) (bad : List (Nat × Nat)) : FifoEntry :=
  { word := w, ok := decide ((l, k) ∉ bad), fin := decide (k + 1 = n) }

/-- The word of slot i on lane k of its group, most significant bit first, when the first bit is at sample `delay` (R321). -/
def Sys2Proof.Claims.rxWord (bits : List (BitVec 8)) (delay k i : Nat) : Word :=
  BitVec.ofNat 32 ((List.range 32).foldl (fun a j => 2 * a + ((bits.getD (delay + 32 * i + j) 0).getLsbD k).toNat) 0)

/-- A frame of group g reaches a lane with room: its words enter the FIFO in slot order, the last with END, each with its parity
(R321, R322, R324, R326). Without room for all of them the whole frame is discarded and counted in OVERFLOW (R327); one with fewer
bits than its slots is discarded and counted in FRAMING (R322); one under way at a flush is discarded and counted in FLUSHED
(R330). A lane that is off takes nothing. -/
def Sys2Proof.Claims.frameEnters : Prop :=
  ∀ (s : State) (g : BitVec 3) (bits : List (BitVec 8)) (bad : List (Nat × Nat)) (t0 t k : Nat),
    let l := 8 * g.toNat + k
    let n := s.sipSlots g.toNat
    let delay := (s.rd (Config.sip g.toNat)).fld 6 1
    let x := s.lane l
    let lost := laneReg l 0x1C
    let whole := 32 * n + delay ≤ bits.length
    s.sipEn g.toNat = true → s.domOpen (80 + g.toNat) = true → s.acquires = true → k < 8 →
    ∃ u, exec (.sampleFrame g bits bad t0 t) s = .next u ∧ u.now = max s.now t ∧ u.panes = s.panes ∧
      (s.laneMode l = 0 → u.lane l = x) ∧
      (s.laneMode l ≠ 0 → whole → s.severed l = false → x.rearmAt ≤ t0 → x.flushAt ≤ t0 → x.fifo.length + n ≤ 256 →
        (u.lane l).fifo = x.fifo ++ (List.range n).map (fun i => Claims.entryOf k n i (Claims.rxWord bits delay k i) bad) ∧
        u.rd lost = s.rd lost) ∧
      (s.laneMode l ≠ 0 → whole → s.severed l = false → x.rearmAt ≤ t0 → x.flushAt ≤ t0 → 256 < x.fifo.length + n →
        (u.lane l).fifo = x.fifo ∧ (u.rd lost).toNat = min ((s.rd lost).toNat + 1) 65535) ∧
      (s.laneMode l ≠ 0 → ¬ whole →
        (u.lane l).fifo = x.fifo ∧ (u.rd (laneReg l 0x20)).toNat = min ((s.rd (laneReg l 0x20)).toNat + 1) 65535) ∧
      (s.laneMode l ≠ 0 → s.severed l = false → x.rearmAt ≤ t0 → t0 < x.flushAt →
        (u.lane l).fifo = x.fifo ∧ (u.rd (laneReg l 0x24)).toNat = min ((s.rd (laneReg l 0x24)).toNat + 1) 65535)

/-- RXDATA_READ of a lane in direct mode takes the oldest entry: the word in the group's format, VALID, PARITY and END (R328, R329);
an empty lane, or one in another mode, answers 0. FLUSH empties the lanes it names that are in direct mode and counts their
frames, and no other lane changes (R330). -/
def Sys2Proof.Claims.lanesAreRead : Prop :=
  ∀ (s : State) (g lane : BitVec 3) (mask : BitVec 8),
    let l := 8 * g.toNat + lane.toNat
    let x := s.lane l
    let f := s.sipFormat g.toNat
    (s.laneMode l = 2 → ∀ e rest, x.fifo = e :: rest →
      ∃ t, exec (.rxdataRead g lane) s = .next t ∧ (t.lane l).fifo = rest ∧ t.panes = s.panes ∧
        t.rdata = BitVec.ofNat 64 ((if f = 1 then e.word.sshiftRight 16 else if f = 2 then e.word.sshiftRight 8 else e.word).toNat +
          2 ^ 32 + (if e.ok then 0 else 2 ^ 33) + (if e.fin then 2 ^ 34 else 0)) ∧
        (t.rd (laneReg l 0x18)).toNat =
          (if e.ok then (s.rd (laneReg l 0x18)).toNat else min ((s.rd (laneReg l 0x18)).toNat + 1) 65535)) ∧
    ((s.laneMode l ≠ 2 ∨ x.fifo = []) → exec (.rxdataRead g lane) s = .next { s with rdata := 0 }) ∧
    (∃ t, exec (.flush g mask) s = .next t ∧ t.panes = s.panes ∧
      (t.lane l).fifo = (if mask.getLsbD lane.toNat ∧ s.laneMode l = 2 then [] else x.fifo) ∧
      (mask.getLsbD lane.toNat = true → s.laneMode l = 2 →
        (t.rd (laneReg l 0x24)).toNat = min ((s.rd (laneReg l 0x24)).toNat + (x.fifo.filter (fun e => e.fin)).length) 65535) ∧
      ∀ j, j / 8 ≠ g.toNat → t.lane j = s.lane j)

/-- DISTRIBUTION_WRITE for a lane with one stream in the bay, of a pane in an open sash, while the tick counter runs: the words from
FIRST on stand in the stream's channel from its frame number times NSLOT on, and the frame leaves the FIFO when no other bay has a stream
on the lane (R328, R334, R335). A channel that is not valid counts the message as misrouted (R104). A tick's frames beyond the limit of
the stream are counted as excess and go nowhere (R335). -/
def Sys2Proof.Claims.frameIsDistributed : Prop :=
  ∀ (s : State) (bay : BitVec 3) (lane : BitVec 6) (n : Nat) (body rest : List FifoEntry) (last : FifoEntry),
    let frame := body ++ [last]
    let b := bay.toNat
    let l := lane.toNat
    let a := s.streamA b n
    let c := s.streamB b n
    let p := a.fld 0 10
    let ch := a.fld 10 6
    let f := SMap.get (fun _ => 0) s.streamF (b * 256 + n)
    let nslot := c.fld 0 5 + 1
    let ws := (frame.drop (a.fld 22 5)).take nslot
    let drops := Config.dist b + 4
    s.laneMode l = 1 → s.domOpen (64 + b) = true → s.bayFaulted b = false → s.streamsOf b l = [n] → s.paneUp p = true →
    s.ticking = true → (s.lane l).taken = [] → s.engines l = [b] → (s.lane l).fifo = frame ++ rest →
    last.fin = true → (∀ e ∈ body, e.fin = false) →
    (f < c.fld 5 10 → Claims.wholeMesh s → (s.pane p).inValid ch = true → f * nslot + ws.length ≤ (s.pane p).inSize ch →
      (s.pane p).copyOf ch (s.partNo * 1024 + p / 32 * 32) = some 0 →
      ∃ t, exec (.distributionWrite bay { lane := lane, errs := [] }) s = .next t ∧ (t.lane l).fifo = rest ∧
        SMap.get (fun _ => 0) t.streamF (b * 256 + n) = f + 1 ∧ (∀ j, j ≠ p → t.pane j = s.pane j) ∧
        Claims.OnlyChan ch (s.pane p) (t.pane p) ∧
        (∀ i, SMap.at? ((t.pane p).chanOf ch).back.words i =
          if f * nslot ≤ i ∧ i < f * nslot + ws.length then
            ws[i - f * nslot]?.map (fun e => formatWord (s.sipFormat (l / 8)) e.word)
          else SMap.at? ((s.pane p).chanOf ch).back.words i) ∧
        ((t.pane p).chanOf ch).back.poison = (((s.pane p).chanOf ch).back.poison || ws.any (fun e => !e.ok)) ∧
        t.rd drops = s.rd drops) ∧
    (f < c.fld 5 10 → Claims.wholeMesh s → (s.pane p).inValid ch = false →
      ∃ t, exec (.distributionWrite bay { lane := lane, errs := [] }) s = .next t ∧ (t.lane l).fifo = rest ∧
        (t.pane p).chan = (s.pane p).chan ∧
        ((t.pane p).cr 0x828).toNat = min (((s.pane p).cr 0x828).toNat + 1) 65535 ∧ (∀ j, j ≠ p → t.pane j = s.pane j)) ∧
    (c.fld 5 10 ≤ f →
      ∃ t, exec (.distributionWrite bay { lane := lane, errs := [] }) s = .next t ∧ (t.lane l).fifo = rest ∧ t.panes = s.panes ∧
        (t.rd drops).toNat = min ((s.rd drops).toNat + 1) 65535)

/-- The sample ports: frames, direct reads and flushes, and distribution. -/
def Obligations.SamplesFlow : Prop := Claims.frameEnters ∧ Claims.lanesAreRead ∧ Claims.frameIsDistributed

/-! Drive output and the bolt. -/

/-- DRIVE_FRAME_RELEASE of a group whose frame is due: a slot of the frame whose entry is present and good sends it, and LAST holds the
word sent; a missing one sets UNDERRUN and a bad one POISON, with LAST as it was (R349, R350, R353). The pins show the frame sync in
the first bit clock, and LAST of each slot from bit clock 3 on, 32 bits a slot, most significant bit first (R340). Other slots keep their
entries. With no frame due nothing happens. -/
def Sys2Proof.Claims.framesRelease : Prop :=
  ∀ (s : State) (g : Bool) (missing bad : List Nat) (d : Nat),
    let n := g.toNat
    let a := Config.dop n
    (n ∉ s.drvDue → exec (.driveFrameRelease g missing bad) s = .next s) ∧
    (n ∈ s.drvDue → s.domOpen (88 + n) = true →
    ∃ t f, exec (.driveFrameRelease g missing bad) s = .next t ∧ t.panes = s.panes ∧ n ∉ t.drvDue ∧
      SMap.at? t.drvOut n = some f ∧ (f.getD 0 0).getLsbD 8 = true ∧
      (∀ j < 32, d < 128 → d / 64 = n → s.slotSent d = true →
        (f.getD (3 + 32 * (d % 8) + j) 0).getLsbD (d / 8 % 8) = (t.lastOf d).bit (31 - j)) ∧
      (∀ e rest, d < 128 → d / 64 = n → s.slotSent d = true → (s.slot d).fifo = e :: rest →
        (t.slot d).fifo = rest ∧
        (d ∉ missing → d ∉ bad → e.ok = true → t.lastOf d = e.word) ∧
        (d ∈ missing → t.lastOf d = s.lastOf d ∧ (t.rd (a + 8 + 4 * (d % 64 / 32))).bit (d % 32) = true) ∧
        (d ∉ missing → (d ∈ bad ∨ e.ok = false) →
          t.lastOf d = s.lastOf d ∧ (t.rd (a + 0x10 + 4 * (d % 64 / 32))).bit (d % 32) = true)) ∧
      (d < 128 → (d / 64 ≠ n ∨ s.slotSent d = false) → t.slot d = s.slot d ∧ t.lastOf d = s.lastOf d))

/-- The interlock pins (R365): a change of level is noted with its time. Once the level has held for PIN_FILTER times 100 ns, the
filtered state follows it, from the first boundary of READY on; an assertion in a state that latches is a trip with cause 768, or 769 for the door, and its
action, and a kill drives DRIVE_KILL_N low at once. -/
def Sys2Proof.Claims.interlocksTrip : Prop :=
  ∀ (s : State) (door high : Bool) (n : Nat),
    let p := s.bolt.pin door
    let a := (s.rd (Config.bolt + 4)).fld (if door then 2 else 0) 2
    (p.high ≠ high →
      exec (.interlockPinChange door high n) s =
        .next { s with now := max s.now n, bolt := s.bolt.setPin door { p with high := high, since := max s.now n } }) ∧
    (p.high = high → exec (.interlockPinChange door high n) s = .next { s with now := max s.now n }) ∧
    (s.acquires = true → p.since + (s.rd (Config.bolt + 4)).fld 8 8 * 100 ≤ max s.now n → p.asserted = p.high →
      ∃ t, exec (.interlockFilterExpiry door n) s = .next t ∧ (t.bolt.pin door).asserted = (!p.high) ∧
        (t.bolt.pin door).high = p.high ∧ t.part = s.part ∧ t.panes = s.panes ∧
        t.bolt.trips = s.bolt.trips ++
          (if p.high = false ∧ (s.part = .running ∨ s.part = .holding ∨ (s.part = .aborted ∧ a = 2))
           then [(if door then 769 else 768, a)] else []) ∧
        t.bolt.kill = (s.bolt.kill || (decide (p.high = false ∧ a = 2) &&
          decide (s.part = .running ∨ s.part = .holding ∨ s.part = .aborted)))) ∧
    (max s.now n < p.since + (s.rd (Config.bolt + 4)).fld 8 8 * 100 →
      exec (.interlockFilterExpiry door n) s = .next { s with now := max s.now n })

/-- RAMP_LIMIT_EXPIRY: a ramp under ABORTED that has run RAMP_LIMIT frames, all released, and does not drive zero ends in a kill with
cause 774, whatever other trips wait (R371, R374); otherwise nothing changes. -/
def Sys2Proof.Claims.rampLimitExpires : Prop :=
  ∀ s : State,
    let lim := (s.rd (Config.bolt + 8)).toNat
    let beyond := s.gen.on = true ∧ s.drvDue = [] ∧ s.part = .aborted ∧ s.bolt.mode = .rampAbort ∧ lim ≠ 0 ∧ lim ≤ s.bolt.rampFrames ∧
      ∃ d < 128, s.slotValid d = true ∧ s.lastOf d ≠ 0
    (beyond → ∃ t, exec .rampLimitExpiry s = .next t ∧ t.bolt.kill = true ∧ Cause.bolt 774 ∈ t.causes ∧
      t.bolt.trips = s.bolt.trips ∧ t.panes = s.panes) ∧
    (¬ beyond → s.inBnd = false → exec .rampLimitExpiry s = .next s)

/-- R360, R362: a boundary's evaluation of an entry with no limit set exceeds none: RUN goes to 0 and no trip is latched. -/
def Sys2Proof.Claims.noLimitNoTrip : Prop :=
  ∀ (s : State) (e : Nat) (x : Int), s.limPeak e = 0 → s.limRms e = 0 → s.limRate e = 0 →
    let t := s.boltEval e x []
    (t.bent e).run = 0 ∧ (t.bent e).prev = x ∧ t.bolt.trips = s.bolt.trips ∧ t.reg = s.reg ∧ t.part = s.part ∧
      ∀ k, k ≠ e → t.bent k = s.bent k

/-- R360, R362: a peak exceeded for PERSIST evaluations in a row latches one trip, of cause 4 times the entry. -/
def Sys2Proof.Claims.peakTrips : Prop :=
  ∀ (s : State) (e : Nat) (x : Int), s.limPeak e ≠ 0 → s.limPeak e < x.natAbs → (s.part = .running ∨ s.part = .holding) →
    let t := s.boltEval e x []
    (t.bent e).run = min 255 ((s.bent e).run + 1) ∧ (t.bent e).kind = 0 ∧
      t.bolt.trips = s.bolt.trips ++ (if (s.bent e).run + 1 = s.limPersist e then [(4 * e, s.limAction e)] else [])

/-- The drive ports and the bolt. -/
def Obligations.DriveIsGuarded : Prop :=
  Claims.framesRelease ∧ Claims.interlocksTrip ∧ Claims.rampLimitExpires ∧ Claims.noLimitNoTrip ∧ Claims.peakTrips

/-! Keyholes. -/

/-- The state t has one event more for the sealed log, unless the store has stopped (R491, R494). -/
def Sys2Proof.Claims.Logged (s t : State) (code : Nat) (args : List Nat) : Prop :=
  t.logq = if s.logs.stopped then s.logq
    else s.logq ++ [{ code := code, args := args, tick := s.tick, stamp := s.stamps.getD 0 0 }]

/-- A write of OP to KH_GO by ring 0 or ring 1 code with every earlier store in its memory (R484, R485): with no request outstanding the
operands are taken as they stand, at the end of the bay's queue, and KH_STATUS shows the request; an idle keyhole takes it into service at
once and copies its operands (R486); with one outstanding the write is discarded and sets REFUSED. -/
def Sys2Proof.Claims.keyholesTake : Prop :=
  ∀ (s : State) (p : PaneNo),
    let q := s.pane p.toNat
    let b := bayOf p.toNat
    s.canIssue p.toNat = true → q.ring ≤ 1 → q.sb = [] → q.settled = true →
    (∀ y, (s.keyhole b).head? = some y → y.begun.isSome = true) →
    ∀ x ∈ ([(.keyholeHash p, 1), (.keyholeSign p, 2), (.keyholePubkey p, 3), (.keyholeLog p, 4)] : List (Instr × Nat)),
      let r : KhReq := { client := .pane, pane := p.toNat, op := x.2, src := (q.cr 0x880).fld 0 21, dst := (q.cr 0x884).fld 0 21,
                         len := (q.cr 0x888).fld 0 22, begun := none, sent := false, answer := none }
      ((q.cr 0x890).fld 0 2 ≠ 1 → (q.cr 0x890).fld 0 2 ≠ 2 →
        ∃ t, exec x.1 s = .next t ∧
          (s.keyhole b ≠ [] → t.keyhole b = s.keyhole b ++ [r] ∧ t.reg = s.reg) ∧
          (s.keyhole b = [] → s.domOpen (64 + b) = false → t.keyhole b = [r]) ∧
          (s.keyhole b = [] → s.domOpen (64 + b) = true →
            ∃ g, t.keyhole b = [{ r with begun := some g }] ∧ g.tick = s.openTick ∧
              (r.err = 0 → x.2 ≠ 3 → (∀ i < r.len, s.bulkEcc (.buf b) (r.from' + i) = .clean) →
                g.copy = some (Memory.readBytes (s.buf b) r.from' r.len))) ∧
          ((t.pane p.toNat).cr 0x890).fld 0 2 = (if s.keyhole b = [] ∧ s.domOpen (64 + b) = true then 2 else 1) ∧
          ((t.pane p.toNat).cr 0x890).fld 4 4 = 0 ∧ { t.pane p.toNat with ctl := q.ctl } = q ∧
          (∀ j, j ≠ p.toNat → t.pane j = s.pane j)) ∧
      (((q.cr 0x890).fld 0 2 = 1 ∨ (q.cr 0x890).fld 0 2 = 2) →
        ∃ t, exec x.1 s = .next t ∧ OnlyPane p.toNat s t ∧ { t.pane p.toNat with ctl := q.ctl } = q ∧
          (t.pane p.toNat).cr 0x890 = q.cr 0x890 ||| 0x100#32 ∧ ∀ a, a ≠ 0x890 → (t.pane p.toNat).cr a = q.cr a)

/-- A request has ended with ERR `e` (R487): STATE 3, DONE, the next request is in service, and bell source 36, or 37 with the code. The
bay fabric stands open. -/
def Sys2Proof.Claims.Ended (s t : State) (b : Nat) (r : KhReq) (rest : List KhReq) (e : Nat) : Prop :=
  (t.keyhole b).length = rest.length ∧ (t.keyhole b).tail = rest.tail ∧
  (∀ x, rest.head? = some x → ∃ g, (t.keyhole b).head? = some { x with begun := some g }) ∧
  ((t.pane r.pane).cr 0x890).fld 0 2 = 3 ∧ ((t.pane r.pane).cr 0x890).fld 4 4 = e ∧
  ((t.pane r.pane).cr 0x890).bit 9 = true ∧ (t.pane r.pane).g = (s.pane r.pane).g ∧
  t.arrivals = s.arrivals ++ [{ src := if e = 0 then 36 else 37, kind := .edge,
                                detail := (if e = 0 then r.pane % 128 else e) % 65536, todo := bayBells b }]

/-- The bytes l stand at offset a of a memory, and no other byte of it has changed. -/
def Sys2Proof.Claims.Placed (m m' : Memory) (a : Nat) (l : List Byte) : Prop :=
  ∀ i, m'.read i = if a ≤ i ∧ i < a + l.length then l.getD (i - a) 0 else m.read i

/-- KEYHOLE_COMPLETION of a pane's request in service (R484 to R487): operands out of place end it with ERR 1 or 2 and change no byte; one whose
operands held an uncorrectable word ends with ERR 3; HASH places the SHA-256 of the range at DST; SIGN, with the latch's key, the Ed25519
signature over the tag and the range; PUBKEY the public key and its proof. A LOG request of a producer that has its start block sends its
payload to the log store and waits; when the store has accepted it, the header and the CRC of the block stand at SRC. -/
def Sys2Proof.Claims.keyholesComplete : Prop :=
  ∀ (s : State) (bay : BitVec 3) (r : KhReq) (rest : List KhReq),
    let b := bay.toNat
    let i : Instr := .keyholeCompletion bay
    let range (a n : Nat) := Memory.readBytes (s.buf b) a n
    s.domOpen (64 + b) = true → s.keyhole b = r :: rest → (∀ x, rest.head? = some x → x.pane ≠ r.pane) →
    ∀ g : KhStart, r.begun = some g → r.client = .pane →
    (r.err ≠ 0 → ∃ t, exec i s = .next t ∧ Claims.Ended s t b r rest r.err ∧ t.buf b = s.buf b) ∧
    (r.err = 0 → (r.op = 1 ∨ r.op = 2 ∨ (r.op = 4 ∧ r.sent = false ∧ r.answer = none)) → g.copy = none →
      ∃ t, exec i s = .next t ∧ Claims.Ended s t b r rest 3 ∧ t.buf b = s.buf b) ∧
    (r.err = 0 → r.op = 1 → g.copy = some (range r.src r.len) →
      ∃ t, exec i s = .next t ∧ Claims.Ended s t b r rest 0 ∧
        Claims.Placed (s.buf b) (t.buf b) r.dst (sha256 (range r.src r.len))) ∧
    (∀ k, r.err = 0 → r.op = 2 → g.copy = some (range r.src r.len) → s.latchKey r.pane = some k →
      ∃ t, exec i s = .next t ∧ Claims.Ended s t b r rest 0 ∧
        Claims.Placed (s.buf b) (t.buf b) r.dst (edSign k (tagPane ++ range r.src r.len))) ∧
    (∀ k, r.err = 0 → r.op = 3 → s.panePub r.pane = some k →
      ∃ t, exec i s = .next t ∧ Claims.Ended s t b r rest 0 ∧
        Claims.Placed (s.buf b) (t.buf b) r.dst (k ++ fitBytes 320 (s.paneProof r.pane))) ∧
    (r.err = 0 → r.op = 4 → r.answer = none → r.sent = false → g.copy = some (range (r.src + 64) r.len) →
      s.logs.started.contains (s.partNo * 1024 + r.pane) = true →
      let sent : State := { s with logs := { s.logs with
        queue := s.logs.queue ++ [{ producer := s.partNo * 1024 + r.pane, kind := 0, payload := range (r.src + 64) r.len,
                                    bay := some b, tick := g.tick }] } }
      exec i s = .next (sent.setKeyhole b ({ r with sent := true } :: rest))) ∧
    (∀ l, r.err = 0 → r.op = 4 → r.answer = some (0, l) → l.length = 4096 →
      ∃ t, exec i s = .next t ∧ Claims.Ended s t b r rest 0 ∧
        ∀ a, (t.buf b).read a = if r.src ≤ a ∧ a < r.src + 4096 ∧ (a < r.src + 64 ∨ r.src + 0xFFC ≤ a) then l.getD (a - r.src) 0
                                else (s.buf b).read a)

/-- The keyholes. -/
def Obligations.KeyholesServe : Prop := Claims.keyholesTake ∧ Claims.keyholesComplete

/-! The sealed log. -/

/-- LOG_BLOCK_ACCEPT with port 0 alone in service, its domain open and its crossing whole (R488, R489, R497, R498): while the ring has room for the producer, the block at the
head of the queue goes to the ring with the next BLOCK_SEQ and the chain's head before it, and the chain moves on to the hash of the
block; a full ring refuses it with code 4, and neither the ring nor the chain changes. The keyhole that sent it gets the answer. -/
def Sys2Proof.Claims.blocksAccepted : Prop :=
  ∀ (s : State) (r : LogReq) (rest : List LogReq) (bay : Nat),
    let e := s.logs.port0
    let room := e.cap - e.cap / 64
    let c := s.logs.chain r.producer
    let b : LogBlock := { producer := r.producer, kind := r.kind, seq := c.next, tick := r.tick, run := s.run, prev := c.head,
                          payload := r.payload, good := true }
    let answered (x : Nat × List Byte) (t : State) := ∀ k,
      (∀ y ∈ s.keyhole k, k ≠ bay ∨ y.sent = false ∨ y.answer ≠ none → y ∈ t.keyhole k) ∧
      (∀ y ∈ s.keyhole bay, y.sent = true → y.answer = none → { y with answer := some x } ∈ t.keyhole bay)
    s.logs.queue = r :: rest → s.upPorts = [false] → s.domOpen 99 = true → s.severed 99 = false → s.logs.stopped = false → r.producer ≠ 0xFFFF → r.bay = some bay →
    (e.wp < room →
      ∃ t, exec .logBlockAccept s = .next t ∧ t.logs.queue = rest ∧ t.logs.port0.wp = e.wp + 1 ∧
        (∀ k, SMap.at? t.logs.port0.ring k = if k = e.wp then some b else SMap.at? e.ring k) ∧ t.logs.port1 = s.logs.port1 ∧
        t.logs.chain r.producer = { c with head := sha256 b.body, next := c.next + 1, run := s.run, last := e.wp } ∧
        (∀ p, p ≠ r.producer → t.logs.chain p = s.logs.chain p) ∧ answered (0, b.bytes) t) ∧
    (room ≤ e.wp →
      ∃ t, exec .logBlockAccept s = .next t ∧ t.logs.queue = rest ∧ t.logs.port0 = e ∧ t.logs.port1 = s.logs.port1 ∧
        t.logs.chains = s.logs.chains ∧ t.logs.stopped = false ∧ answered (4, []) t)

/-- SEAL_POINT (R492): until a T0 boundary at or after the timer's expiry has passed nothing happens; after it, in READY or a later state but
FAULTED, with no seal point under way, the event block is closed, the head of every pane's chain of this run is captured, and the timer
goes on by whole periods. Without signatures the chains are sealed at once; with them each head waits for its pane's (R493). -/
def Sys2Proof.Claims.sealsHappen : Prop :=
  ∀ (s : State) (n : Nat),
    let now := max s.now n
    (s.lastC < s.logs.sealAt → exec (.sealPoint n) s = .next { s with now := now }) ∧
    (s.logs.sealAt ≤ s.lastC → s.part.started = true → s.part ≠ .faulted → s.sealing = true → s.logs.round = [] →
      s.logs.stopped = false → 0 < s.sealPeriod →
      ∃ t, exec (.sealPoint n) s = .next t ∧ t.logq = [] ∧ s.lastC < t.logs.sealAt ∧ t.logs.sealAt ≤ s.lastC + s.sealPeriod ∧
        t.part = s.part ∧ (s.sealsSigned = false → t.panes = s.panes) ∧
        ∀ p c, p ≠ 0xFFFF → SMap.at? s.logs.chains p = some c → s.logs.started.contains p = true →
          (t.logs.chain p).next = c.next ∧ (t.logs.chain p).head = c.head ∧
          (s.sealsSigned = false → (t.logs.chain p).sealedTo = c.next ∧ (t.logs.chain p).sealedHead = c.head) ∧
          (s.sealsSigned = true → ∃ e ∈ t.logs.round, e.producer = p ∧ e.upTo = c.next ∧ e.chainHead = c.head))

/-- CHECKPOINT, when one is due and no crossing to a port is severed: every port in service holds the write pointer and the chains, one number
on (R496, R498). A port that fails is marked, the blocks on their way are counted and logged, and its crossing is re-armed (R497, R628); a
request that ends rings bell source 30 or 31; the store is formatted in READY alone, with RUN 1 and no pane's chain, logs 0x0504 (R499), and
the new run opens with the lintel's start record (R490). -/
def Sys2Proof.Claims.storeIsKept : Prop :=
  ∀ (s : State) (port : Bool) (lost : Nat),
    let a := Config.logstore
    let whole := ∀ q, s.emmcUp q = true → s.severed (99 + q.toNat) = false
    (s.logs.cpDue = true → s.logs.stopped = false → whole →
      ∃ t, exec .checkpoint s = .next t ∧ t.logs.chains = s.logs.chains ∧ t.panes = s.panes ∧
        (s.upPorts ≠ [] → t.logs.cpDue = false) ∧
        (∀ q, t.logs.port q = if s.emmcUp q then
            { s.logs.port q with cp := some { cpSeq := ((s.logs.port q).cp.map (fun c => c.cpSeq + 1)).getD 1, run := s.run,
                                              wp := (s.logs.port q).wp, chains := s.logs.chains } }
          else s.logs.port q) ∧
        t.arrivals = s.arrivals ++ s.upPorts.map (fun q =>
          { src := 30 + q.toNat, kind := .edge, detail := 0, todo := BitVec.allOnes 64 })) ∧
    ((s.logs.cpDue = false ∨ s.logs.stopped = true) → exec .checkpoint s = .next s) ∧
    (s.emmcUp port = true →
      (∃ t, exec (.emmcPortFail port lost) s = .next t ∧ (t.rd a).fld (if port then 2 else 0) 2 = 2 ∧
        t.emmcUp (!port) = s.emmcUp (!port) ∧ (t.rd (a + 0x1C)).toNat = min ((s.rd (a + 0x1C)).toNat + lost) (2 ^ 32 - 1) ∧
        Claims.Logged s t 0x0501 [port.toNat, lost] ∧ t.logs = s.logs ∧ t.panes = s.panes ∧
        t.severed (99 + port.toNat) = false) ∧
      (s.severed (99 + port.toNat) = false → exec (.emmcRequestComplete port) s = .next { s with arrivals := s.arrivals ++
        [{ src := 30 + port.toNat, kind := .edge, detail := 0, todo := BitVec.allOnes 64 }] })) ∧
    (s.emmcUp port = false → exec (.emmcPortFail port lost) s = .next s ∧ exec (.emmcRequestComplete port) s = .next s) ∧
    (s.part = .ready → s.upPorts ≠ [] → whole →
      ∃ t, exec .logStoreFormat s = .next t ∧ t.run = 1 ∧ (∀ p, p ≠ 0xFFFF → SMap.at? t.logs.chains p = none) ∧
        (∀ q, s.emmcUp q = true → (t.logs.port q).cp = none ∧
          ∀ k x, SMap.at? (t.logs.port q).ring k = some x → x.producer = 0xFFFF ∧ x.run = 1) ∧
        ((∀ q, s.emmcUp q = true → 0 < (s.logs.port q).cap) → ∀ q, s.emmcUp q = true →
          ∃ x, SMap.at? (t.logs.port q).ring 0 = some x ∧ x.kind = 1 ∧ x.seq = 0) ∧
        ((∀ q, s.emmcUp q = true → 1 + (s.clamps.length + 250) / 251 ≤ (s.logs.port q).cap) → t.logs.stopped = false) ∧
        (∀ q, s.emmcUp q = false → t.logs.port q = s.logs.port q) ∧ t.panes = s.panes ∧
        t.logq = s.logq ++ [{ code := 0x0504, args := [], tick := s.tick, stamp := s.stamps.getD 0 0 }]) ∧
    (s.part ≠ .ready → exec .logStoreFormat s = .next s)

/-- The log store. -/
def Obligations.LogIsKept : Prop := Claims.blocksAccepted ∧ Claims.sealsHappen ∧ Claims.storeIsKept

/-! Ethernet. -/

/-- A frame sent on port q, beside those that wait: PTP messages at once, any other while no gate list runs. -/
def Sys2Proof.Claims.SentOn (s t : State) (q kind : Nat) (l : List Byte) : Prop :=
  (kind = 0x30 ∨ Claims.freePort s q) → t.net.out = s.net.out ++ [{ port := q, kind := kind, bytes := l }]

/-- ETH_FRAME_RECEIVE on a port whose link is up (R507, R508): an ARP request for the port's own address, whole and in the port's
VLAN, is answered and counted; a frame that fails a check, or of no supported kind, is dropped and counted. Nothing else changes. -/
def Sys2Proof.Claims.framesReceived : Prop :=
  ∀ (s : State) (port : Bool) (f : EthFrame),
    let q := port.toNat
    let ip := (s.rd (Config.net q + 0xC)).toNat
    let vlan := (s.rd (Config.net q)).fld 4 12
    let whole := f.fits = true ∧ f.intact = true ∧ f.vlan = (if vlan = 0 then none else some vlan)
    let i : Instr := .ethFrameReceive port f
    s.netUp q = true → s.severed (90 + q) = false →
    (whole → f.kind = .arp ip → ip ≠ 0 →
      ∃ t, exec i s = .next t ∧ Claims.SentOn s t q 0x20 (leBytes 4 ip) ∧ t.rd (Config.net q + 0x4C) = s.rd (Config.net q + 0x4C) ∧
        (t.rd (Config.net q + 0x48)).toNat = min ((s.rd (Config.net q + 0x48)).toNat + 1) (2 ^ 32 - 1) ∧ t.panes = s.panes) ∧
    ((¬ whole ∨ f.kind = .other) →
      ∃ t, exec i s = .next t ∧ OnlyRegs [Config.net q + 0x4C] s t ∧
        (t.rd (Config.net q + 0x4C)).toNat = min ((s.rd (Config.net q + 0x4C)).toNat + 1) (2 ^ 32 - 1))

/-- ETH_LINK_CHANGE of an enabled port whose domain is open: STATUS.LINK follows, and the port's bell source rings with code 1 or 2 (R528). ADDRESS_RESOLUTION
resolves those of the port's valid streams whose destinations answer, and no stream of the other port (R509). The gate list goes on
to its next entry and round (R513). -/
def Sys2Proof.Claims.portsChange : Prop :=
  ∀ (s : State) (port up : Bool) (answered : List Nat),
    let q := port.toNat
    let a := Config.net q + 0x24
    (s.netEn q = true → s.domOpen (90 + q) = true → (s.rd a).bit 0 ≠ up →
      ∃ t, exec (.ethLinkChange port up) s = .next t ∧ (t.rd a).bit 0 = up ∧ t.panes = s.panes ∧ t.part = s.part ∧
        t.arrivals = s.arrivals ++ [{ src := 62 + q, kind := .edge, detail := if up then 1 else 2, todo := BitVec.allOnes 64 }]) ∧
    ((s.netEn q = false ∨ s.domOpen (90 + q) = false) → exec (.ethLinkChange port up) s = .next s) ∧
    (s.netUp q = true → s.part.started = true →
      ∃ t, exec (.addressResolution port answered) s = .next t ∧ t.reg = s.reg ∧ t.panes = s.panes ∧
        ∀ k, k ∈ t.net.resolved ↔
          (if k < 64 ∧ s.strValid k = true ∧ s.strPort k = q then k ∈ answered else k ∈ s.net.resolved)) ∧
    (s.netEn q = true → s.gateCount q ≠ 0 → s.part.started = true →
      ∃ t, exec (.gateControlEntry port) s = .next t ∧ (t.rd a).bit 4 = true ∧ (t.rd a).bit 0 = (s.rd a).bit 0 ∧
        SMap.at? t.net.gate q = some (match SMap.at? s.net.gate q with
          | some k => (k + 1) % s.gateCount q
          | none => 0) ∧ SMap.at? t.net.gateAt q = some s.now ∧ t.panes = s.panes)

/-- ANNOUNCEMENT from READY on: one datagram over IPv6 on each port whose link is up, and one over IPv4 where the port has an address
(R519), at once where no gate list runs (R513); none before. -/
def Sys2Proof.Claims.announces : Prop :=
  ∀ s : State,
    (s.part.started = true →
      ∃ t, exec .announcement s = .next t ∧ t.reg = s.reg ∧ t.panes = s.panes ∧ s.net.out.isPrefixOf t.net.out = true ∧
        ∀ q < 2, Claims.freePort s q → ((t.net.out.drop s.net.out.length).filter (fun x => x.port == q && x.kind == 0x10)).length =
          if s.netUp q then (if s.netIpv4 q = 0 then 1 else 2) else 0) ∧
    (s.part.started = false → exec .announcement s = .next s)

/-- A write of a stream number to ST_GO (R514): a request that passes the checks waits at the end of the port's queue with the pane's tick
and stamp; one that fails ends with the code of the first failing check. -/
def Sys2Proof.Claims.streamsRequested : Prop :=
  ∀ (s : State) (p : PaneNo) (k : BitVec 6),
    let q := s.pane p.toNat
    let off := (q.cr 0x8C0).fld 0 30 * 8
    let len := (q.cr 0x8C4).fld 0 17
    let unit := (q.cr 0x8C8).fld 0 12
    s.canIssue p.toNat = true → q.ring ≤ 1 → q.sb = [] → q.settled = true →
    (s.stCheck p.toNat k.toNat off len unit = none →
      ∃ t, exec (.streamRequest p k) s = .next t ∧ (∀ j, j ≠ p.toNat → t.pane j = s.pane j) ∧
        { t.pane p.toNat with ctl := q.ctl } = q ∧
        t.net.reqs = s.net.reqs ++ [{ pane := p.toNat, stream := k.toNat, off := off, len := len, unit := unit, tick := q.tag,
                                      stamp := q.tks, sent := 0, err := 0 }]) ∧
    (∀ e, s.stCheck p.toNat k.toNat off len unit = some e →
      ∃ t, exec (.streamRequest p k) s = .next t ∧ OnlyPane p.toNat s t ∧ { t.pane p.toNat with ctl := q.ctl } = q ∧
        ((t.pane p.toNat).cr 0x8D0).fld 4 4 = e ∧ ((t.pane p.toNat).cr 0x8D0).bit 11 = true)

/-- STREAM_RECORD_SEND of a stream in the clear, to a resolved destination, from DRAM free of errors: one record goes out, with its
header and as many whole units of the range as fit, and takes the stream's next SEQ (R515, R516). -/
def Sys2Proof.Claims.recordsSent : Prop :=
  ∀ (s : State) (port : Bool) (r : StreamReq) (rest : List StreamReq),
    let q := port.toNat
    let k := r.stream
    let size := s.recSize r
    let o := r.sent * size
    let n := min size (r.len - o)
    let seq := SMap.get (fun _ => 0) s.net.seq k
    s.reqsAt q = r :: rest → s.domOpen 98 = true → Claims.freePort s q → s.netUp q = true → k ∈ s.net.resolved → s.strEnc k = false → 0 < size → o < r.len →
    (∀ i < n, s.bulkEcc .dram (r.off + o + i) = .clean) →
    ∃ t, exec (.streamRecordSend port) s = .next t ∧
      Claims.SentOn s t q (s.strKind k)
        (s.recHeader (s.strKind k) k (s.partNo * 1024 + r.pane) r.sent (s.recCount r) seq r.tick r.stamp n o false ++
          Memory.readBytes s.dram (r.off + o) n) ∧
      (∀ j, SMap.get (fun _ => 0) t.net.seq j = if j = k then seq + 1 else SMap.get (fun _ => 0) s.net.seq j) ∧
      t.dram = s.dram ∧ (∀ j, (t.pane j).g = (s.pane j).g ∧ (t.pane j).sram = (s.pane j).sram)

/-- Ethernet. -/
def Obligations.EthernetWorks : Prop :=
  Claims.framesReceived ∧ Claims.portsChange ∧ Claims.announces ∧ Claims.streamsRequested ∧ Claims.recordsSent

/-- 802.1AS at the time port (R510, R511): a sync measures the offset; above 1 ms the time steps, with event 7, and otherwise it slews
toward it by no more than 50 ppm of the time since the last adjustment, and no further than the offset; a follower that was not
locked is locked, with event 3. Without 802.1AS time the part's time is the count of ns since reset (R70). An announce of a new grandmaster is noted with event 5; as grandmaster the part sends syncs; a timeout
loses the time, with event 4. Any other port carries no time: a PTP message there is dropped and counted (R508, R510). -/
def Obligations.TimeFollowsGrandmaster : Prop :=
  ∀ (s : State) (port : Bool) (off : Int) (gm : DWord) (n : Nat),
    let q := port.toNat
    let now := max s.now n
    let ev (code : Nat) : BellEvent := { src := 62 + q, kind := .edge, detail := code, todo := BitVec.allOnes 64 }
    let sync : Instr := .ptpMessageReceive port (.sync off) n
    let drops := Config.net q + 0x4C
    (s.netUp q = false → exec sync s = .next { s with now := now }) ∧
    (s.timePort ≠ some q →
      (s.netUp q = true → s.severed (90 + q) = false →
        ∃ t, exec sync s = .next t ∧ OnlyRegs [drops] { s with now := now } t ∧
          (t.rd drops).toNat = min ((s.rd drops).toNat + 1) (2 ^ 32 - 1)) ∧
      (∀ k, exec (.ptpMessageSend port k) s = .next s) ∧
      ∀ a, exec (.ptpReceiptTimeout port a) s = .next s) ∧
    (s.timePort = some q → s.severed (90 + q) = false →
      (s.timeState q ≠ 3 → 1000000 < off.natAbs →
        ∃ t, exec sync s = .next t ∧ t.net.toff = s.timeOff - off ∧ t.net.adjusted = now ∧ t.timeState q = 2 ∧
          t.panes = s.panes ∧ ev 7 ∈ t.arrivals ∧ (s.timeState q ≠ 2 → ev 3 ∈ t.arrivals)) ∧
      (s.timeState q ≠ 3 → off.natAbs ≤ 1000000 →
        ∃ t, exec sync s = .next t ∧ t.net.adjusted = now ∧ t.timeState q = 2 ∧ t.panes = s.panes ∧
          (t.net.toff - s.timeOff).natAbs ≤ min off.natAbs ((now - s.net.adjusted) * 50 / 1000000) ∧
          (0 ≤ off → t.net.toff ≤ s.timeOff) ∧ (off ≤ 0 → s.timeOff ≤ t.net.toff) ∧
          t.arrivals = s.arrivals ++ (if s.timeState q = 2 then [] else [ev 3])) ∧
      (∃ t, exec (.ptpMessageReceive port (.announce gm false) n) s = .next t ∧
        t.rd (Config.net q + 0x30) = gm.setWidth 32 ∧ t.rd (Config.net q + 0x34) = (gm >>> 32).setWidth 32 ∧
        t.net.toff = s.net.toff ∧ t.panes = s.panes ∧ t.timeState q = (if s.timeState q = 3 then 1 else s.timeState q)) ∧
      (s.timeState q = 3 →
        ∃ t, exec (.ptpMessageSend port 0) s = .next t ∧ Claims.SentOn s t q 0x30 (leBytes 1 0 ++ leBytes 8 s.clock) ∧
          t.reg = s.reg ∧ t.panes = s.panes) ∧
      (s.timeState q = 2 →
        ∃ t, exec (.ptpReceiptTimeout port false) s = .next t ∧ t.timeState q = 1 ∧ t.arrivals = s.arrivals ++ [ev 4] ∧
          t.clock = t.now ∧ t.panes = s.panes))

/-! Knocks on their way. -/

/-- Knock k has been accepted on `path` at a part of its own, with none of its kind pending (R522, R523, R520): it counts, rings its bell
source with the path as DETAIL, and waits for its boundary. -/
def Sys2Proof.Claims.Accepted (s t : State) (k : Knock) (arg : DWord) (path : Nat) (reply : Option (Nat × Nat × Nat)) : Prop :=
  t.net.knocks = s.net.knocks ++ [{ knock := k, arg := arg, due := none, path := path, reply := reply }] ∧
  (t.rd (Config.knock + 0x88)).toNat = min ((s.rd (Config.knock + 0x88)).toNat + 1) 65535 ∧
  { src := 40 + k.num, kind := .edge, detail := path, todo := BitVec.allOnes 64 } ∈ t.arrivals ∧ t.part = s.part ∧ t.panes = s.panes

/-- Knock k has been refused for `reason` (R522, R523): REFUSED counts, LAST_REFUSED shows knock, reason and path, and bell source 47
rings; nothing is pending because of it. -/
def Sys2Proof.Claims.Refused (s t : State) (k : Knock) (path reason : Nat) : Prop :=
  t.net.knocks = s.net.knocks ∧
  (t.rd (Config.knock + 0x8C)).toNat = min ((s.rd (Config.knock + 0x8C)).toNat + 1) 65535 ∧
  t.rd (Config.knock + 0x90) = BitVec.ofNat 32 (k.num + reason * 16 + path * 256 + 2 ^ 31) ∧
  { src := 47, kind := .edge, detail := k.num, todo := BitVec.allOnes 64 } ∈ t.arrivals ∧ t.part = s.part ∧ t.panes = s.panes

/-- NETWORK_KNOCK (R522): a malformed datagram is dropped and counted; a well-formed one for this board and device is refused by the first
of checks 3 to 6 that it fails, and otherwise accepted, with COUNTER of its key moved on. -/
def Sys2Proof.Claims.networkKnocks : Prop :=
  ∀ (s : State) (port : Bool) (l : List Byte) (n : Nat) (k : Knock),
    let q := port.toNat
    let i : Instr := .networkKnock port l n
    let reply := some (q, dg l 6 1, dg l 28 4)
    s.netUp q = true → s.severed (90 + q) = false →
    ((SMap.get (fun _ => []) s.net.verified q).filter (fun x => decide (max s.now n < x + 1000000000))).length < 64 →
    (dgramFormed l = false →
      ∃ t, exec i s = .next t ∧ (t.rd (Config.net q + 0x50)).toNat = min ((s.rd (Config.net q + 0x50)).toNat + 1) 65535 ∧
        t.net.knocks = s.net.knocks ∧ t.arrivals = s.arrivals) ∧
    (dgramFormed l = true → dg l 8 4 = s.boardId → (dg l 16 8 = 0 ∨ dg l 16 8 = s.otp.deviceId) →
      Knock.ofNum (dg l 5 1) = some k →
      (s.part = .starting → ∃ t, exec i s = .next t ∧ Claims.Refused s t k 0 ((s.dgramReason l).getD 5)) ∧
      (s.part.started = true → s.parts = 1 → (∀ x ∈ s.net.knocks, x.knock ≠ k) →
        ∃ t, exec i s = .next t ∧ match s.dgramReason l with
          | some r => Claims.Refused s t k 0 r
          | none => Claims.Accepted s t k (BitVec.ofNat 64 (dg l 32 8)) 0 reply ∧
              t.rd (Config.knock + 0x60 + 4 * dg l 6 1) = BitVec.ofNat 32 (dg l 28 4)))

/-- SILL_KNOCK at a sill port that answers (R598) and PIN_KNOCK (R520): a sill knock that the image enables is accepted with its argument, and one it does not is
refused with reason 1; a pin's knock is accepted once the line has been high for 10 us. In STARTING each is refused with reason 5 (R421). -/
def Sys2Proof.Claims.localKnocks : Prop :=
  ∀ (s : State) (v : Word) (k : Knock) (line n since : Nat),
    let arg := BitVec.ofNat 64 ((s.srd 0x40).toNat + (s.srd 0x44).toNat * 2 ^ 32)
    let free := s.parts = 1 ∧ ∀ x ∈ s.net.knocks, x.knock ≠ k
    (Knock.ofNum (v.fld 0 3) = some k → s.inReset = false → s.otp.lc ≠ 4 → s.severed 106 = false →
      (s.part.started = true → (s.rd (Config.knock + 4)).bit k.num = true → free →
        ∃ t, exec (.sillKnock v) s = .next t ∧ Claims.Accepted s t k arg 1 none ∧ t.srd 0x4C = BitVec.ofNat 32 (k.num + 2 ^ 31)) ∧
      (s.part.started = true → (s.rd (Config.knock + 4)).bit k.num = false →
        ∃ t, exec (.sillKnock v) s = .next t ∧ Claims.Refused s t k 1 1 ∧
          t.srd 0x4C = BitVec.ofNat 32 (k.num + 16 + 2 ^ 31)) ∧
      (s.part = .starting → ∃ t, exec (.sillKnock v) s = .next t ∧ Claims.Refused s t k 1 5)) ∧
    (line < 48 → SMap.at? s.gpioHigh line = some since → s.pinKnocks line = [k] →
      (since + 10000 ≤ max s.now n → s.part.started = true → free →
        ∃ t, exec (.pinKnock line n) s = .next t ∧ Claims.Accepted s t k 0 2 none ∧ SMap.at? t.gpioHigh line = none) ∧
      (max s.now n < since + 10000 → exec (.pinKnock line n) s = .next { s with now := max s.now n })) ∧
    (48 ≤ line → exec (.pinKnock line n) s = .fault .noSuchUnit)

/-- KNOCK_FORWARD and KNOCK_BROADCAST on a board of several parts (R548): a follower sends its oldest knock to the master, where a new one
waits; the master's broadcast is pending at a follower for its due tick, before RUNNING as far off as the broadcast says (log 150). -/
def Sys2Proof.Claims.boardKnocks : Prop :=
  ∀ (s : State) (x : BoardKnock) (rest : List BoardKnock) (l : Nat) (k : Knock) (arg : DWord) (path due : Nat), 2 ≤ s.parts →
    (s.master ≠ s.partNo → s.net.board = x :: rest → s.exitLink s.master 0 = some l →
      exec (.knockForward none) s = .next { s with net := { s.net with board := rest },
                                                   ctlOut := s.ctlOut ++ [(l, .knock x.knock x.arg x.path x.reply)] }) ∧
    (s.master = s.partNo → (∀ y ∈ s.net.board, y.knock ≠ k) → (∀ y ∈ s.net.knocks, y.knock ≠ k) →
      exec (.knockForward (some (.knock k arg path none))) s =
        .next { s with net := { s.net with
          board := s.net.board ++ [{ knock := k, arg := arg, path := path, reply := none, at' := s.now }] } }) ∧
    (s.master ≠ s.partNo → (∀ y ∈ s.net.knocks, y.knock ≠ k) →
      ∃ t, exec (.knockBroadcast (some (.broadcast k arg due))) s = .next t ∧ t.part = s.part ∧ t.panes = s.panes ∧
        t.net.knocks = s.net.knocks ++ [{ knock := k, arg := arg, due := some (if s.ticking then due else due + s.readyBnd), path := 0, reply := none }])

/-- The paths of a knock. -/
def Obligations.KnocksArrive : Prop := Claims.networkKnocks ∧ Claims.localKnocks ∧ Claims.boardKnocks

/-! Wicket links and the board. -/

/-- LINK_TRAINING of an enabled link of a powered part (R535 to R537): a peer that does not authenticate is refused with WHY 1; one that does
has its DEVICE_ID noted, and gets this part's proof; a board that differs is refused with WHY 2; after the last step of a first training
the link is UP, the part is present, and it carries traffic. -/
def Sys2Proof.Claims.linksTrain : Prop :=
  ∀ (s : State) (link : BitVec 3) (x : PeerInfo) (n : Nat),
    let k := link.toNat
    let i : Instr := .linkTraining link x n
    k < 6 → s.linkEn k = true → s.part ≠ .off → s.severed (92 + k) = false → s.linkState k = 2 →
    ((s.link k).steps = 3 → (s.otp.cert = [] ∨ s.deviceKey = none) →
      ∃ t, exec i s = .next t ∧ t.linkState k = 5 ∧ (t.rd (Config.wicket k + 4)).fld 3 2 = 1 ∧ t.panes = s.panes) ∧
    (∀ d, (s.link k).steps = 3 → s.otp.cert ≠ [] → s.deviceKey = some d →
      ∃ t, exec i s = .next t ∧ t.panes = s.panes ∧
        if s.peerGenuine k x = true then
          t.linkState k = 2 ∧ (t.link k).steps = 4 ∧ t.rd (Config.wicket k + 0xC) = BitVec.ofNat 32 x.deviceId ∧
          t.rd (Config.wicket k + 0x10) = BitVec.ofNat 32 (x.deviceId / 2 ^ 32) ∧
          t.ctlOut = s.ctlOut ++
            [(k, .proof (edSign d (linkText (s.link k).challenge x.challenge s.otp.deviceId x.deviceId)))]
        else t.linkState k = 5 ∧ (t.rd (Config.wicket k + 4)).fld 3 2 = 1) ∧
    ((s.link k).steps = 4 → s.sameBoard k x = false →
      ∃ t, exec i s = .next t ∧ t.linkState k = 5 ∧ (t.rd (Config.wicket k + 4)).fld 3 2 = 2 ∧ t.panes = s.panes) ∧
    ((s.link k).steps = 4 → s.sameBoard k x = true →
      ∃ t, exec i s = .next t ∧ t.linkState k = 3 ∧ t.linkCarries k = true ∧ t.panes = s.panes ∧
        (s.linkPeer k ≠ s.partNo → (t.rd (Config.board + 4)).bit (s.linkPeer k) = true) ∧
        t.arrivals = s.arrivals ++ [{ src := 56 + k, kind := .edge, detail := 3, todo := BitVec.allOnes 64 }])

/-- LINK_DOWN when block lock is lost, or no control block has come for 300 ns (R550): the link is DOWN, carries nothing, and what is on its
way over it is lost. LINK_RESTORE lets a link that came UP again carry traffic from the first boundary at least 1 us later (R551). -/
def Sys2Proof.Claims.linksChange : Prop :=
  ∀ (s : State) (link : BitVec 3) (lock : Bool) (n : Nat),
    let k := link.toNat
    k < 6 → s.linkState k = 3 →
    ((lock = true ∨ (s.link k).lastIn + 300 ≤ max s.now n) →
      ∃ t, exec (.linkDown link lock n) s = .next t ∧ t.linkState k = 4 ∧ t.linkCarries k = false ∧
        (∀ x ∈ t.wicketOut, x ∈ s.wicketOut ∧ x.1 ≠ k) ∧ (∀ x ∈ t.ctlOut, x.1 ≠ k) ∧ t.panes = s.panes ∧
        { src := 56 + k, kind := .edge, detail := 4, todo := BitVec.allOnes 64 } ∈ t.arrivals) ∧
    (s.gen.on = true → s.linkCarries k = false → (s.link k).upAt + 1000 ≤ s.gen.nextNs →
      ∃ t, exec (.linkRestore link) s = .next t ∧ t.linkCarries k = true ∧ OnlyRegs [Config.wicket k + 4] s t) ∧
    ((s.linkCarries k = true ∨ s.gen.on = false ∨ s.gen.nextNs < (s.link k).upAt + 1000) → exec (.linkRestore link) s = .next s)

/-- IDLE_CONTROL_BLOCK (R532): an idle block leaves when 100 ns have passed without a block; one that arrives good is noted with its time,
and one whose CRC fails is counted. -/
def Sys2Proof.Claims.idleBlocks : Prop :=
  ∀ (s : State) (link : BitVec 3) (n : Nat),
    let k := link.toNat
    let now := max s.now n
    let a := Config.wicket k + 0x1C
    k < 6 → s.linkState k = 3 → s.severed (92 + k) = false →
    ((s.link k).lastOut + 100 ≤ now →
      ∃ t, exec (.idleControlBlock link none n) s = .next t ∧ t.ctlOut = s.ctlOut ++ [(k, .idle)] ∧
        t.link k = { s.link k with lastOut := now } ∧ t.reg = s.reg) ∧
    (now < (s.link k).lastOut + 100 → exec (.idleControlBlock link none n) s = .next { s with now := now }) ∧
    (∃ t, exec (.idleControlBlock link (some true) n) s = .next t ∧ t.link k = { s.link k with lastIn := now } ∧ t.reg = s.reg) ∧
    (∃ t, exec (.idleControlBlock link (some false) n) s = .next t ∧ (t.link k).lastIn = (s.link k).lastIn ∧
      (t.rd a).toNat = min ((s.rd a).toNat + 1) 65535)

/-- BOARD_DIGEST_EXCHANGE (R538): an equal digest is noted; one that differs sets MISMATCH and is logged (code of log 23). -/
def Sys2Proof.Claims.digestsCompared : Prop :=
  ∀ (s : State) (part : BitVec 3) (digest : List Byte),
    let q := part.toNat
    let own := (s.markPresent q).boardDigest q
    q ≠ s.partNo → q < s.parts → s.boardUp = true →
    ∃ t, exec (.boardDigestExchange part digest) s = .next t ∧ (t.rd (Config.board + 4)).bit q = true ∧ t.panes = s.panes ∧
      (digest = own → q ∈ t.digestOk ∧ (t.rd (Config.board + 4)).bit 16 = (s.rd (Config.board + 4)).bit 16 ∧ t.logq = s.logq) ∧
      (digest ≠ own → t.digestOk = s.digestOk ∧ (t.rd (Config.board + 4)).bit 16 = true ∧
        Claims.Logged s t 0x7F05 [s.partNo, q])

/-- TICK_MARKER_SEND: the master's marker leaves on every link that is UP, 1,000 ns before the edge (R539). TICK_MARKER_ARRIVAL at a locked
follower: LEAD less the link's latency, in 1/16 ns, sets the edge to which the generator steers by at most 2 ns (R45, R539). -/
def Sys2Proof.Claims.markersPass : Prop :=
  ∀ (s : State) (link : BitVec 3) (lead tick residence n : Nat),
    let k := link.toNat
    let e := n + (lead - (s.rd (Config.wicket k + 8)).fld 0 16 + 8) / 16
    (2 ≤ s.parts → s.master = s.partNo → s.gen.on = true → s.gen.nextNs ≤ max s.now n + 1000 →
      let out := ((List.range 6).filter (fun k => s.linkState k == 3)).map (fun k => (k, .marker 16000 (s.nextTick % 65536)))
      exec (.tickMarkerSend n) s = .next { s with now := max s.now n, ctlOut := s.ctlOut ++ out }) ∧
    (max s.now n + 1000 < s.gen.nextNs → exec (.tickMarkerSend n) s = .next { s with now := max s.now n }) ∧
    (k < 6 → s.linkState k = 3 → s.severed (92 + k) = false → s.master ≠ s.partNo → s.markerLink = k → s.gen.on = true →
      s.tickSrc = 3 → s.holdover = false → s.slewing = false → (s.phaseErr e).natAbs ≤ 100 →
      ∃ t, exec (.tickMarkerArrival link lead tick residence n) s = .next t ∧ t.gen.lastEdge = some e ∧
        t.gen.steer = max (-2) (min 2 (s.phaseErr e)) ∧ t.tickLocked = true ∧ t.gen.next = s.gen.next ∧ t.panes = s.panes)

/-- AGREEMENT_TOKEN of the coming boundary from another part that is not lost: it is held, and the part's late count ends (R546, R547).
TOKEN_LATE: the part is late at the boundary and counted; late twice in a row, it is lost, and a fault for the ledger (R547). -/
def Sys2Proof.Claims.tokensAgree : Prop :=
  ∀ (s : State) (part : BitVec 3) (token : Token) (n : Nat),
    let q := part.toNat
    let b := Config.board + 4
    (q ≠ s.partNo → q < s.parts → (s.rd b).bit (8 + q) = false → token.tick % 16 = s.nextTick % 16 → q ∉ s.lateNow →
      ∃ t, exec (.agreementToken part token n) s = .next t ∧ SMap.at? t.tokens q = some token ∧
        (∀ j, j ≠ q → SMap.at? t.tokens j = SMap.at? s.tokens j) ∧ SMap.at? t.tokenLate q = none ∧ (t.rd b).bit q = true ∧
        t.panes = s.panes) ∧
    (SMap.at? s.tokens q = none → q ∉ s.lateNow → q ∈ s.tokenParts →
      let m := SMap.get (fun _ => 0) s.tokenLate q + 1
      ∃ t, exec (.tokenLate part) s = .next t ∧ t.lateNow = s.lateNow ++ [q] ∧ SMap.get (fun _ => 0) t.tokenLate q = m ∧
        (t.rd (Config.board + 0x10)).toNat = min ((s.rd (Config.board + 0x10)).toNat + 1) 65535 ∧ t.panes = s.panes ∧
        (m < 2 → t.rd b = s.rd b) ∧ (2 ≤ m → (t.rd b).bit (8 + q) = true) ∧
        (2 ≤ m → (s.rd b).bit (8 + q) = false → (t.rd b).bit q = false ∧
          t.lintelReps = s.lintelReps ++ [{ rep := .partLost q, at' := s.now }]))

/-- Links, digests, markers and tokens. -/
def Obligations.BoardsAgree : Prop :=
  Claims.linksTrain ∧ Claims.linksChange ∧ Claims.idleBlocks ∧ Claims.digestsCompared ∧ Claims.markersPass ∧ Claims.tokensAgree

/-! Power domains. -/

/-- A power request is judged by the first row of R561 that applies: refused (5) for a locked domain, pending behind a transition (2, or 3
in place of another), without effect where the domain stands (4), else it runs (1). REQ_STATUS shows the outcome and the domain. -/
def Sys2Proof.Claims.requestsJudged : Prop :=
  ∀ (s : State) (domain : BitVec 8),
    let d := domain.toNat
    let x := s.dom d
    let st := Config.pwr + 4
    let shows (t : State) (last : Nat) := (t.rd st).fld 0 3 = last ∧ (t.rd st).fld 8 8 = d ∧ (t.rd st).bit 31 = true
    ∀ y ∈ ([(.powerReqOpen domain, .isOpen), (.powerReqAjar domain, .ajar), (.powerReqShut domain, .shut)] :
        List (Instr × DomState)),
      let limited := y.2 = .ajar ∧ ((64 ≤ d ∧ (s.rd (Config.pwr + 8)).bit 0 = true) ∨
        (d < 64 ∧ (s.rd (Config.pwr + 0xC)).fld 8 8 < s.ajarOthers d + 1))
      ((108 < d ∨ (s.lockedOpen d = true ∧ y.2 ≠ .isOpen) ∨ limited) →
        ∃ t, exec y.1 s = .next t ∧ shows t 5 ∧ t.doms = s.doms ∧
          (t.rd (Config.pwr + 0x14)).toNat = min ((s.rd (Config.pwr + 0x14)).toNat + 1) 65535) ∧
      (d ≤ 108 → (s.lockedOpen d = false ∨ y.2 = .isOpen) → ¬ limited →
        ((x.moving ≠ none ∨ x.replay = true) → ∃ t, exec y.1 s = .next t ∧ shows t (if x.pend = none then 2 else 3) ∧
          t.dom d = { x with pend := some y.2 } ∧ OnlyRegs [st] { s with doms := t.doms } t) ∧
        (x.moving = none → x.replay = false → x.st = y.2 → ∃ t, exec y.1 s = .next t ∧ shows t 4 ∧ OnlyRegs [st] s t) ∧
        (x.moving = none → x.replay = false → x.st ≠ y.2 → ∃ t, exec y.1 s = .next t ∧ shows t 1 ∧
          t.dom d = { x with moving := some y.2 } ∧ (∀ j, j ≠ d → t.dom j = s.dom j)))

/-- DOMAIN_ENTRY with no request behind it (R563 to R565, R567): the entry ends in its state, and shut loses the contents, of a strip the keys of
its latches (R483); the level sources of a domain that closes fall (R295); an entry that a unit of an open domain refuses backs out to
open, counted, with bell source 29 and LAST 6. DOMAIN_WAKE ends in open (R566). -/
def Sys2Proof.Claims.domainsMove : Prop :=
  ∀ (s : State) (domain : BitVec 7) (busy : Bool) (t0 : DomState),
    let d := domain.toNat
    let x := s.dom d
    d ≤ 108 → x.pend = none → x.replay = false →
    (x.moving = some t0 → t0 ≠ .isOpen → (x.st ≠ .isOpen ∨ s.busyUnit d busy = none) →
      ∃ t, exec (.domainEntry domain busy) s = .next t ∧
        t.dom d = { x with st := t0, moving := none, lost := x.lost || decide (t0 = .shut) } ∧ (∀ j, j ≠ d → t.dom j = s.dom j) ∧
        t.reg = s.reg ∧ t.panes = s.panes ∧
        t.arrivals = s.arrivals ++ (if x.st = .isOpen then (s.domLevels d).map (fun y =>
          { src := y.1, kind := .fall, detail := 0, todo := BitVec.allOnes 64 }) else []) ∧
        (t0 = .shut → ∀ p < 1024, d = 72 + bayOf p → t.latchKey p = none) ∧
        (∀ p, d ≠ 72 + bayOf p → t.latchKey p = s.latchKey p)) ∧
    (∀ u, x.moving = some t0 → t0 ≠ .isOpen → x.st = .isOpen → s.busyUnit d busy = some u →
      ∃ t, exec (.domainEntry domain busy) s = .next t ∧ t.dom d = { x with moving := none, replay := false } ∧
        (t.rd (Config.pwr + 4)).fld 0 3 = 6 ∧ t.panes = s.panes ∧
        t.arrivals = s.arrivals ++ [{ src := 29, kind := .edge, detail := d, todo := BitVec.allOnes 64 }] ∧
        (t.rd (Config.pwr + 0x10)).toNat = min ((s.rd (Config.pwr + 0x10)).toNat + 1) 65535) ∧
    (x.moving = some .isOpen → 72 ≤ d → x.lost = false → (x.st = .isOpen ∨ s.domLevels d = []) →
      exec (.domainWake domain) s = .next (s.setDom d { x with st := .isOpen, moving := none })) ∧
    (x.moving = some .isOpen → ∃ t, exec (.domainWake domain) s = .next t ∧ (t.dom d).st = .isOpen ∧ (t.dom d).moving = none ∧
      (t.dom d).lost = false ∧ (t.dom d).wasShut = (x.wasShut || x.lost))

/-- WAKE_ON_ACCESS (R568, R569): an access to a domain that stands closed begins its wake, during an entry the wake is latched, and an
open domain needs none; WAKE_REPLAY begins a latched wake once the entry has ended. -/
def Sys2Proof.Claims.domainsWake : Prop :=
  ∀ (s : State) (domain : BitVec 7),
    let d := domain.toNat
    let x := s.dom d
    d ≤ 108 →
    (x.moving = none → x.st ≠ .isOpen → x.replay = false →
      ∃ t, exec (.wakeOnAccess domain) s = .next t ∧ t.dom d = { x with moving := some .isOpen } ∧
        (t.rd (Config.pwr + 0x18)).toNat = min ((s.rd (Config.pwr + 0x18)).toNat + 1) 65535) ∧
    ((x.moving = some .ajar ∨ x.moving = some .shut) →
      exec (.wakeOnAccess domain) s = .next (s.setDom d { x with replay := true })) ∧
    ((x.moving = some .isOpen ∨ (x.moving = none ∧ x.st = .isOpen)) → exec (.wakeOnAccess domain) s = .next s) ∧
    (x.replay = true → x.moving = none → x.st ≠ .isOpen →
      ∃ t, exec (.wakeReplay domain) s = .next t ∧ t.dom d = { x with replay := false, moving := some .isOpen } ∧
        (t.rd (Config.pwr + 0x1C)).toNat = min ((s.rd (Config.pwr + 0x1C)).toNat + 1) 65535) ∧
    (x.replay = false → exec (.wakeReplay domain) s = .next s)

/-- Power domains: requests, entries, wakes. -/
def Obligations.DomainsObey : Prop := Claims.requestsJudged ∧ Claims.domainsMove ∧ Claims.domainsWake

/-! Reports and the ledger. -/

/-- LATCH_REPORT: the report of a pane goes by its live hinge to the lintel (R582); an internal error of a latch is reported too (R124). -/
def Sys2Proof.Claims.reportsReach : Prop :=
  ∀ (s : State) (p q : PaneNo) (k n : Nat) (r : TimedReport),
    (s.latchReps[k]? = some r → (r.rep = .sramUe p.toNat ∨ r.rep = .halt p.toNat) → s.hingeDead (colOf p.toNat) = false →
      exec (.latchReport none k n) s = .next { s with now := max s.now n, latchReps := s.latchReps.eraseIdx k,
                                                      lintelReps := s.lintelReps ++ [{ rep := r.rep, at' := max s.now n }] }) ∧
    (s.hingeDead (colOf q.toNat) = false →
      ∃ t, exec (.latchReport (some q) k n) s = .next t ∧ t.latchReps = s.latchReps ∧
        t.lintelReps = s.lintelReps ++ [{ rep := .latchErr q.toNat, at' := max s.now n }] ∧
        t.pane q.toNat = { s.pane q.toNat with faulty := 15 } ∧ ∀ j, j ≠ q.toNat → t.pane j = s.pane j)

/-- The reports of R582, with the codes and subjects that R586 gives them, and whether R584 retires the pane at once. -/
def Sys2Proof.Claims.reports (p n h b a : Nat) : List (Report × Nat × Nat × Bool) :=
  [(.sramUe p, 0x0301, p, false), (.halt p, 0x0302, p, true), (.latchErr p, 0x030F, p, true), (.routerDead p n, 0x0304, p, true),
   (.suspect p a, 0x0306, p, true), (.suspectFar p a, 0x0306, p, false), (.hingeDead h, 0x0305, h, false), (.bayFaulted b, 0x030A, b, false), (.ceRate p a, 0x030D, p, false)]

/-- LEDGER_ACTION: the oldest report leaves the lintel's queue and has its entry in the ledger, with at most the entry of a fault that is
not contained behind it (R584 to R586); the pane of a report that retires is due for retirement. A masked copy has code 0x030E. -/
def Sys2Proof.Claims.ledgerActs : Prop :=
  ∀ (s : State) (p h a n : Nat) (r : TimedReport) (rest : List TimedReport) (bolt : Bool),
    s.ledger.length < 1022 →
    let noted (t : State) (code subject : Nat) := ∃ e post, t.ledger = s.ledger ++ e :: post ∧ e.code = code ∧ e.subject = subject ∧
      e.tick = s.shownTick ∧ post.length ≤ 2 ∧ ∀ x ∈ post, x.code = 0x0310
    (∀ x ∈ Claims.reports p n h n a, s.lintelReps = r :: rest → r.rep = x.1 →
      ∃ t, exec (.ledgerAction none n) s = .next t ∧ t.now = max s.now n ∧ t.lintelReps = rest ∧ noted t x.2.1 x.2.2.1 ∧
        (x.2.2.2 = true → (s.pane p).retired = false → ∃ y ∈ t.retireDue, y.1 = p) ∧ t.panes = s.panes) ∧
    (s.lintelReps = [] → exec (.ledgerAction none n) s = .next { s with now := max s.now n }) ∧
    (∃ t, exec (.ledgerAction (some (bolt, a)) n) s = .next t ∧ t.now = max s.now n ∧ noted t 0x030E bolt.toNat ∧ t.panes = s.panes)

/-- LATCH_COUNTER_POLL reads the count of every listed pane (R584) and changes no pane; HINGE_HEARTBEAT counts misses in a row; with three,
HINGE_DEAD marks the hinge and makes a report (R583). -/
def Sys2Proof.Claims.hingesAreWatched : Prop :=
  ∀ (s : State) (hinge : BitVec 5) (answered : Bool) (n : Nat),
    let h := hinge.toNat
    let missed := SMap.get (fun _ => 0) s.missed h
    (∃ t, exec (.latchCounterPoll n) s = .next t ∧ t.now = max s.now n ∧ t.panes = s.panes ∧
      ∀ p ∈ SMap.keys s.panes, SMap.get (fun _ => 0) t.ceSeen p = (s.pane p).ceTotal) ∧
    (∃ t, exec (.hingeHeartbeat hinge answered) s = .next t ∧ t = { s with missed := t.missed } ∧
      ∀ j, SMap.get (fun _ => 0) t.missed j =
        if j = h then (if answered then 0 else missed + 1) else SMap.get (fun _ => 0) s.missed j) ∧
    (3 ≤ missed → s.hingeDead h = false →
      ∃ t, exec (.hingeDead hinge n) s = .next t ∧ t.hingeDead h = true ∧ t.panes = s.panes ∧
        t.lintelReps = s.lintelReps ++ [{ rep := .hingeDead h, at' := max s.now n }] ∧
        ∀ j, j ≠ h → j < 32 → t.hingeDead j = s.hingeDead j) ∧
    ((missed < 3 ∨ s.hingeDead h = true) → exec (.hingeDead hinge n) s = .next { s with now := max s.now n })

/-- LOCKSTEP_MISMATCH in any state but OFF (R27, R36, R494, R586): DRIVE_KILL_N goes low at once, FAULTED is due at the next boundary, or at once
before the generator runs; the store stops, and AON holds the entry for the next start. -/
def Sys2Proof.Claims.lockstepFaults : Prop :=
  ∀ (s : State) (n : Nat),
    (s.part ≠ .off →
      ∃ t, exec (.lockstepMismatch n) s = .next t ∧ t.logs.stopped = true ∧ t.logq = [] ∧
        t.aon.lockEntry = some { code := 0x0311, subject := 0, arg := 0, tick := s.shownTick } ∧ t.panes = s.panes ∧
        (s.part ≠ .faulted → t.bolt.kill = true ∧ t.bolt.abortOut = true ∧
          (s.gen.on = true → t.part = s.part ∧ Cause.lockstep ∈ t.causes) ∧ (s.gen.on = false → t.part = .faulted))) ∧
    (s.part = .off → exec (.lockstepMismatch n) s = .next { s with now := max s.now n })

/-- Reports, the ledger, hinges and the lintel's lockstep. -/
def Obligations.FaultsAreRecorded : Prop :=
  Claims.reportsReach ∧ Claims.ledgerActs ∧ Claims.hingesAreWatched ∧ Claims.lockstepFaults

/-! The sill port. -/

/-- Words of the sill block (R596). -/
def Sys2Proof.Claims.sillWords (s : State) : List (Nat × Word) :=
  [(0, s.srd 0), (8, BitVec.ofNat 32 s.otp.deviceId), (0xC, BitVec.ofNat 32 (s.otp.deviceId / 2 ^ 32)), (0x10, s.identPart),
   (0x14, s.sillState), (0x18, BitVec.ofNat 32 s.shownTick), (0x24, s.srd 0x24), (0x28, s.srd 0x28)]

/-- The part answers at the sill port (R420, R588), its crossing whole, without CRC. -/
def Sys2Proof.Claims.sillPlain (s : State) : Prop :=
  s.sillUp = true ∧ s.otp.lc ≠ 4 ∧ s.severed 106 = false ∧ s.sillCrc = false

/-- SILL_READ of one word without CRC: after the bytes of TURN come the word and status 0x51 (R589, R590); a read of TICK_LO latches TICK_HI,
an error counter clears (R14, R596). An address that is not a multiple of 4 has status 0x54. -/
def Sys2Proof.Claims.sillReads : Prop :=
  ∀ (s : State) (addr : BitVec 16) (c : Byte) (done : Bool), Claims.sillPlain s →
    (∀ x ∈ Claims.sillWords s, addr.toNat = x.1 →
      ∃ t turn, exec (.sillRead addr c 1 done) s = .next t ∧ t.miso = turn ++ Word.bytes x.2 ++ [0x51#8] ∧
        turn.length = max ((s.srd 4).fld 1 3) 1 ∧ t.panes = s.panes ∧ t.reg = s.reg ∧
        ∀ a, t.srd a = if x.1 = 0x18 ∧ a = 0x1C then BitVec.ofNat 32 (s.shownTick / 2 ^ 32)
                       else if (x.1 = 0x24 ∨ x.1 = 0x28) ∧ a = x.1 then 0 else s.srd a) ∧
    (addr.toNat % 4 ≠ 0 →
      ∃ t turn, exec (.sillRead addr c 1 done) s = .next t ∧ t.miso = turn ++ [0#8, 0#8, 0#8, 0#8, 0x54#8] ∧ t.sill = s.sill ∧
        t.reg = s.reg ∧ t.panes = s.panes) ∧
    (∃ t, exec .tickLoRead s = .next t ∧ t.rdata = (BitVec.ofNat 32 s.shownTick).setWidth 64 ∧ t.reg = s.reg ∧
      t.srd 0x1C = BitVec.ofNat 32 (s.shownTick / 2 ^ 32) ∧ ∀ a, a ≠ 0x1C → t.srd a = s.srd a) ∧
    (∀ m : BitVec 5, ∃ t, exec (.mbStatusRead m) s = .next t ∧ t.rdata = ((s.mb m.toNat).status).setWidth 64 ∧
      t.sill = s.sill ∧ t.reg = s.reg ∧ ∀ j, t.latchedMb j = if j = m.toNat then s.mb m.toNat else s.latchedMb j)

/-- SILL_WRITE of one word to a read-write word of the block (R589, R594): it takes its value, with status 0x51. With CRC on and a CRC
that fails, the word is not written, CRC_ERRORS counts, and the status is 0x58 with its own CRC (R595). -/
def Sys2Proof.Claims.sillWrites : Prop :=
  ∀ (s : State) (addr : BitVec 16) (v : Word) (c : Byte) (done : Bool), (addr.toNat = 0x40 ∨ addr.toNat = 0x44) →
    s.sillUp = true → s.otp.lc ≠ 4 → s.severed 106 = false →
    (s.sillCrc = false →
      ∃ t, exec (.sillWrite addr [(v, c)] done) s = .next t ∧ t.miso = [0x51#8] ∧ t.reg = s.reg ∧ t.panes = s.panes ∧
        ∀ a, t.srd a = if a = addr.toNat then v else s.srd a) ∧
    (s.sillCrc = true → c ≠ crc8 ([0x02#8] ++ leBytes 2 addr.toNat ++ Word.bytes v) →
      ∃ t, exec (.sillWrite addr [(v, c)] done) s = .next t ∧ t.miso = [0x58#8, crc8 [0x58#8]] ∧ t.reg = s.reg ∧
        (t.srd 0x24).toNat = min ((s.srd 0x24).toNat + 1) 65535 ∧ ∀ a, a ≠ 0x24 → t.srd a = s.srd a)

/-- SILL_STATUS answers 0x51, or 0x52 while a window access is outstanding; a command byte of no form answers 0x54 (R589, R590). The outstanding
access completes once its domain is open: a write is done, a read's word is held for its next read (R593). -/
def Sys2Proof.Claims.sillAnswers : Prop :=
  ∀ (s : State) (cmd : Byte) (x : WinAccess),
    (s.sillUp = true → s.severed 106 = false → exec .sillStatus s = .next { s with miso := [if s.winBusy = none then 0x51#8 else 0x52#8] }) ∧
    (s.sillUp = true → s.severed 106 = false → cmd ≠ 0x0B#8 → cmd ≠ 0x02#8 → cmd ≠ 0x05#8 →
      exec (.sillBadCommand cmd) s = .next { s with miso := [0x54#8] }) ∧
    (s.winBusy = some x → s.domOpen (regDomain x.addr) = true →
      let s1 : State := { s with winBusy := none }
      (∀ v, x.data = some v → exec .sillWindowAccess s = .next (s1.winWrite x.addr v)) ∧
      (x.data = none → ∃ t, exec .sillWindowAccess s = .next t ∧ t.winBusy = none ∧
        ∀ a, SMap.at? t.winHeld a = if a = x.sillAddr then some (s1.winRead x.addr).1 else SMap.at? s.winHeld a)) ∧
    (s.winBusy = none → exec .sillWindowAccess s = .next s)

/-- The sill port. -/
def Obligations.SillAnswers : Prop := Claims.sillReads ∧ Claims.sillWrites ∧ Claims.sillAnswers

/-- The NOR bridge (R439, R599, R600). It opens in READY alone, else ERR 6. Open and idle, an operation whose range lies within the device, and for
PROGRAM and ERASE below its last MiB, runs with BUSY set: a PROGRAM within one page, an ERASE of an aligned 64 KiB block. While one runs,
another gives ERR 3. It ends with DONE: READ fills the buffer, PROGRAM writes its bytes and no other, ERASE leaves 0xFF in the block and no
other byte changed; one that the device fails has ERR 4 and changes no byte. One whose command a severed crossing discarded ends only when
it is late, with ERR 5 (R636; log 152, the model's choice). -/
def Obligations.BridgeReachesNor : Prop :=
  ∀ (s : State) (b : BridgeOp),
    let st := 0x104
    let addr := (s.srd 0x108).fld 0 28
    let len := (s.srd 0x10C).fld 0 9
    let size := s.norSize
    let fits (op : Nat) := (op = 1 ∧ addr + len ≤ size) ∨ (op = 2 ∧ addr + len ≤ size - 1048576 ∧ addr % 256 + len ≤ 256) ∨
      (op = 3 ∧ addr + 65536 ≤ size - 1048576 ∧ addr % 65536 = 0)
    let ended (t : State) (e : Nat) := t.bridge = none ∧ (t.srd st).fld 2 4 = e ∧ (t.srd st).bit 1 = false ∧ (t.srd st).bit 31 = true
    s.sillUp = true → s.otp.lc ≠ 4 → s.severed 106 = false →
    (s.part = .ready → s.domOpen 101 = true →
      ∃ t, exec .bridgeOpen s = .next t ∧ (t.srd st).bit 0 = true ∧ (∀ a, a ≠ st → t.srd a = s.srd a) ∧ t.reg = s.reg) ∧
    (s.part ≠ .ready →
      ∃ t, exec .bridgeOpen s = .next t ∧ (t.srd st).bit 0 = (s.srd st).bit 0 ∧ (t.srd st).fld 2 4 = 6 ∧ t.reg = s.reg) ∧
    (s.bridge = none → ∃ t, exec .bridgeClose s = .next t ∧ (t.srd st).bit 0 = false ∧ t.nor = s.nor ∧ t.reg = s.reg) ∧
    (∀ x ∈ ([(.bridgeRead, 1), (.bridgeProgram, 2), (.bridgeErase, 3)] : List (Instr × Nat)),
      ((s.srd st).bit 0 = true → s.bridge = none → fits x.2 →
        ∃ t, exec x.1 s = .next t ∧
          t.bridge = some { op := x.2, addr := addr, len := len, closing := false, lost := s.severed 101 } ∧
          (t.srd st).bit 1 = true ∧ t.nor = s.nor ∧ ∀ a, a ≠ st → t.srd a = s.srd a) ∧
      ((s.srd st).bit 0 = true → s.bridge ≠ none →
        ∃ t, exec x.1 s = .next t ∧ t.bridge = s.bridge ∧ (t.srd st).fld 2 4 = 3 ∧ t.nor = s.nor) ∧
      ((s.srd st).bit 0 = false →
        ∃ t, exec x.1 s = .next t ∧ t.bridge = s.bridge ∧ (t.srd st).fld 2 4 = 6 ∧ (t.srd st).bit 31 = true ∧ t.nor = s.nor)) ∧
    (s.bridge = some b → b.closing = false → s.domOpen 101 = true → b.lost = true →
      exec (.bridgeOpComplete false false) s = .next s ∧
      ∃ t, exec (.bridgeOpComplete false true) s = .next t ∧ ended t 5 ∧ t.nor = s.nor) ∧
    (s.bridge = some b → b.closing = false → s.domOpen 101 = true → b.lost = false →
      (b.op = 1 → b.len ≤ 256 → ∃ t, exec (.bridgeOpComplete false false) s = .next t ∧ ended t 0 ∧ t.nor = s.nor ∧
        ∀ k, k < b.len → (t.srd (0x200 + k / 4 * 4)).fld (8 * (k % 4)) 8 = (s.norByte (b.addr + k)).toNat) ∧
      (b.op = 2 → b.len ≤ 256 → ∃ t, exec (.bridgeOpComplete false false) s = .next t ∧ ended t 0 ∧
        ∀ a, t.norByte a = if b.addr ≤ a ∧ a < b.addr + b.len then s.brBuf.getD (a - b.addr) 0 else s.norByte a) ∧
      (b.op = 3 → ∃ t, exec (.bridgeOpComplete false false) s = .next t ∧ ended t 0 ∧
        ∀ a, t.norByte a = if b.addr ≤ a ∧ a < b.addr + 65536 then 0xFF#8 else s.norByte a) ∧
      (b.op ≠ 1 → ∃ t, exec (.bridgeOpComplete true false) s = .next t ∧ ended t 4 ∧ t.nor = s.nor))

/-! Register accesses. -/

/-- What a write of v leaves of a register, by its kind: RW takes the bits of its mask, RWL until the lock point, W1C clears the ones written
unless hardware sets them in the same access, RO and RC take nothing (R12, R13, R15, R17). -/
def Sys2Proof.Claims.afterWrite (r : Reg) (locked : Bool) (old v hw : Word) : Word :=
  let m := BitVec.ofNat 32 r.mask
  match r.kind with
  | .rw => (old &&& ~~~m) ||| (v &&& m)
  | .rwl => if locked then old else (old &&& ~~~m) ||| (v &&& m)
  | .w1c => (old &&& ~~~(v &&& m)) ||| (hw &&& m)
  | .ro => old
  | .rc => old

/-- A four-byte register r of a pane's latch aperture at offset o, with its strip open (R556, R597). -/
def Sys2Proof.Claims.inAperture (s : State) (p : PaneNo) (o : Nat) (r : Reg) : Prop :=
  s.part ≠ .off ∧ s.domOpen (72 + bayOf p.toNat) = true ∧ o < 0x1000 ∧ paneRegOf false o 1 = some r ∧ (paneRegOf true o 4).isSome = true

/-- REGISTER_WRITE and READ_CLEAR of a plain register of a pane, by the latch aperture: a write leaves what its kind says; a read answers the
value, and an RC register is cleared but for an increment that coincides (R14). No other register of the pane changes. -/
def Sys2Proof.Claims.registersObey : Prop :=
  ∀ (s : State) (p : PaneNo) (o : Nat) (r : Reg) (v hw : Word),
    let q := s.pane p.toNat
    let a := BitVec.ofNat 32 (0xF8000000 + 0x1000 * p.toNat + o)
    Claims.inAperture s p o r → o ∉ [0x110, 0x118, 0x840, 0x88C, 0x8CC, 0x940] →
    (∃ t, exec (.registerWrite a v hw) s = .next t ∧ OnlyPane p.toNat s t ∧ { t.pane p.toNat with ctl := q.ctl } = q ∧
      ∀ x, (t.pane p.toNat).cr x = if x = o then Claims.afterWrite r s.locked (q.cr o) v hw else q.cr x) ∧
    (∃ t, exec (.readClear a hw) s = .next t ∧ { t.pane p.toNat with ctl := q.ctl } = q ∧ t.reg = s.reg ∧
      t.rdata = ((s.paneView p.toNat o).getD (q.cr o)).setWidth 64 ∧
      ∀ x, (t.pane p.toNat).cr x =
        if x = o ∧ r.kind = .rc then (q.cr o &&& ~~~(BitVec.ofNat 32 r.mask)) ||| (hw &&& BitVec.ofNat 32 r.mask) else q.cr x)

/-- A read of the low half of a two-register number latches the high half (R85, R87, R390). -/
def Sys2Proof.Claims.halvesLatch : Prop :=
  ∀ (s : State) (p : PaneNo),
    let low (n : Nat) : DWord := (BitVec.ofNat 32 n).setWidth 64
    let latches (i : Instr) (n hi : Nat) := ∃ t, exec i s = .next t ∧ t.rdata = low n ∧ t.rd hi = BitVec.ofNat 32 (n / 2 ^ 32) ∧
      OnlyRegs [hi] { s with rdata := t.rdata } t
    s.part ≠ .off →
    (s.domOpen 106 = true →
      latches .ticknoLoRead s.shownTick (Config.transom + 0x2C) ∧ latches .stampLoRead s.stamps[0] (Config.transom + 0x34)) ∧
    (s.domOpen 107 = true → latches .tripTickLoRead s.bolt.tripTick (Config.bolt + 0x14)) ∧
    (s.domOpen (72 + bayOf p.toNat) = true →
      (∃ t, exec (.lastOverrunLoRead p) s = .next t ∧ t.rdata = low (s.pane p.toNat).lastOver ∧
        (t.pane p.toNat).cr 0x114 = BitVec.ofNat 32 ((s.pane p.toNat).lastOver / 2 ^ 32) ∧ t.reg = s.reg) ∧
      (∃ t, exec (.slackReset p) s = .next t ∧ OnlyPane p.toNat s t ∧ (t.pane p.toNat).cr 0x108 = 0x7FFFFFFF#32 ∧
        ∀ x, x ≠ 0x108 → (t.pane p.toNat).cr x = (s.pane p.toNat).cr x))

/-- MAILBOX_PUBLISH (R602, R603): the staged words wait for the commit under the pane's tick, in place of those it published earlier in the tick;
a mailbox that another task owns refuses them. -/
def Sys2Proof.Claims.mailboxesTake : Prop :=
  ∀ (s : State) (p : PaneNo) (v : Word),
    let q := s.pane p.toNat
    let m := v.fld 0 5
    let ws := (List.range (v.fld 8 4 + 1)).map (fun i => q.cr (0x900 + 4 * i))
    s.part ≠ .off → s.domOpen (72 + bayOf p.toNat) = true →
    (((s.mb m).owner = none ∨ (s.mb m).owner = some (s.primaryOf p.toNat)) →
      ∃ t, exec (.mailboxPublish p v) s = .next t ∧ OnlyPane p.toNat s t ∧ (t.pane p.toNat).cr 0x944 = 1#32 ∧
        (t.pane p.toNat).pubs = q.pubs.filter (fun x => x.tag != q.tag) ++ [{ mailbox := m, words := ws, tag := q.tag }]) ∧
    (∀ o, (s.mb m).owner = some o → o ≠ s.primaryOf p.toNat →
      ∃ t, exec (.mailboxPublish p v) s = .next t ∧ OnlyPane p.toNat s t ∧ (t.pane p.toNat).cr 0x944 = 3#32 ∧
        (t.pane p.toNat).pubs = q.pubs)

/-- Register accesses. -/
def Obligations.RegistersObey : Prop := Claims.registersObey ∧ Claims.halvesLatch ∧ Claims.mailboxesTake

/-! Self-test and life cycle. -/

/-- A step of the shutdown test (R612, R617, R618): under conditions that hold and with no failing element, the test goes on to its next
block step or unit and no pane, buffer or register of a unit changes; conditions that fail end it, as not clean. -/
def Sys2Proof.Claims.testSteps : Prop :=
  ∀ (s : State) (cond : TestCond), s.part = .shuttingDown → s.shut.cancellable = true → s.shut.step < 93 →
    (cond.fails = 0 →
      ∃ t, exec (.shutdownTest cond []) s = .next t ∧ t.panes = s.panes ∧ t.bufs = s.bufs ∧ t.shut.failed = s.shut.failed ∧
        t.shut.clean = s.shut.clean ∧
        (t.shut.step, t.shut.sub) =
          let last := if s.shut.step < 64 then 16 else if s.shut.step < 72 then 32 else 1
          if s.shut.sub + 1 < last then (s.shut.step, s.shut.sub + 1) else (s.shut.step + 1, 0)) ∧
    (cond.fails ≠ 0 →
      ∃ t, exec (.shutdownTest cond []) s = .next t ∧ t.panes = s.panes ∧ t.shut.step = 93 ∧ t.shut.clean = false)

/-- The end of the test (R364, R494, R621): the record stands in AON, and in NOR when the write succeeds; DRIVE_KILL_N is low, the store has
stopped after its final seal, the shutdown can no longer be cancelled, and OFF is due. After a cancelled shutdown the domains reopen, and each
class waits for its first boundary (R620). -/
def Sys2Proof.Claims.testEnds : Prop :=
  ∀ (s : State) (nor : Bool) (elapsed : Nat),
    (s.part = .shuttingDown → s.shut.cancellable = true → 93 ≤ s.shut.step →
      ∃ t r, exec (.shutdownTestEnd nor elapsed) s = .next t ∧ r.clean = s.shut.clean ∧ r.failed = s.shut.failed ∧
        r.deviceId = s.otp.deviceId ∧ t.aon.record = some r ∧ t.aon.ran = false ∧ t.norRec = (if nor then some r else s.norRec) ∧
        t.shut.cancellable = false ∧ t.logs.stopped = true ∧ (s.logs.stopped = false → t.logq = []) ∧ Cause.shutdownDone ∈ t.causes ∧
        (s.bolt.mode ≠ .killed → t.bolt.kill = true) ∧ t.part = .shuttingDown ∧ t.panes = s.panes) ∧
    (s.shut.holding = true → s.part ≠ .shuttingDown →
      ∃ t, exec .shutdownCancelReopen s = .next t ∧ t.shut.holding = false ∧ t.shut.release = [0, 1, 2, 3] ∧ t.part = s.part) ∧
    (s.shut.holding = false → exec .shutdownCancelReopen s = .next s)

/-- LC_RETURN and LC_SCRAP (R609, R611): with a token that verifies, in READY, from a state that allows it, the transition is fused for the
next reset and no earlier one is undone; a bad token has ERR 1, another state of the part ERR 2, another life-cycle state ERR 3, and then OTP
does not change. The state in force never changes at once. -/
def Sys2Proof.Claims.lifeCycleMoves : Prop :=
  ∀ s : State,
    let a := Config.selftest + 0x104
    ∀ x ∈ ([(.lcReturn, false), (.lcScrap, true)] : List (Instr × Bool)),
      let good := edVerify Config.returnKey (tokenText x.2 ++ leBytes 8 s.otp.deviceId) s.lcToken
      let allowed := if x.2 then s.otp.lc ≠ 4 else s.otp.lc = 2
      ∃ t, exec x.1 s = .next t ∧ OnlyRegs [a] { s with otp := t.otp } t ∧
        (t.rd a).fld 1 3 = (if good = false then 1 else if s.part ≠ .ready then 2 else if allowed then 0 else 3) ∧
        (if good = true ∧ s.part = .ready ∧ allowed then
           t.otp = { s.otp with fused := max s.otp.fused (if x.2 then 4 else 3) } ∧ (t.rd a).bit 0 = true
         else t.otp = s.otp)

/-- CERTIFICATE_FUSE in PROVISIONED, once (R478, R609): the certificate is fused, and FIELD follows when it is one of R478's profile for this
device, signed by the device CA. -/
def Sys2Proof.Claims.certificateFused : Prop :=
  ∀ (s : State) (der : List Byte),
    let good := certVerify der ((s.deviceKey.map edPublic).getD []) s.otp.deviceId s.otp.stepping
    (s.otp.lc = 1 → s.otp.cert = [] → der ≠ [] → der.length ≤ 2048 →
      ∃ t, exec (.certificateFuse der) s = .next t ∧ t = { s with otp := t.otp } ∧ t.otp.cert = der ∧
        t.otp.lc = (if good then 2 else 1) ∧ t.otp.fused = (if good then max s.otp.fused 2 else s.otp.fused)) ∧
    ((s.otp.lc ≠ 1 ∨ s.otp.cert ≠ []) → exec (.certificateFuse der) s = .next s)

/-- The TAP with RESET_N low (R608, R609): the public instructions act in every state; the private ones act in MANUFACTURE and RETURNED alone and
are BYPASS elsewhere; secrets are drawn once, in MANUFACTURE, from an entropy source that passes its tests (R477), and PROVISIONED follows at
the next reset; a scrapping is fused for the next reset.
With RESET_N high no instruction does anything. -/
def Sys2Proof.Claims.tapActs : Prop :=
  ∀ (s : State) (l : List Bool) (fails : List Nat) (d q : List Byte) (d' q' : Option (List Byte)),
    let tap (i : TapInstr) : State := { s with tap := { s.tap with instr := i } }
    let priv := s.otp.lc = 0 ∨ s.otp.lc = 3
    (s.resetLow = true →
      exec .tapBypass s = .next (tap .bypass) ∧ exec .tapExtest s = .next (tap .extest) ∧
      exec .tapIdcode s = .next { tap .idcode with rdata := Config.idcode.setWidth 64 } ∧
      exec (.tapSamplePreload l) s = .next { s with tap := { s.tap with instr := .samplePreload, cells := l } } ∧
      (priv → exec (.tapScanLoad l) s = .next { s with tap := { s.tap with instr := .scanLoad, scan := l } } ∧
        exec (.tapLowVoltageTest fails) s = .next { s with tap := { s.tap with instr := .lowVoltage, fails := fails } } ∧
        exec .tapScrap s = .next { s with otp := { s.otp with fused := 4 } }) ∧
      (¬ priv → exec (.tapScanLoad l) s = .next (tap .bypass) ∧ exec (.tapLowVoltageTest fails) s = .next (tap .bypass) ∧
        exec .tapScrap s = .next (tap .bypass)) ∧
      (s.otp.lc = 0 → s.otp.fused = 0 →
        exec (.tapProvision (some d) (some q)) s =
          .next { s with otp := { s.otp with devSeed := some (fitBytes 32 d), paneSecret := some (fitBytes 32 q), fused := 1 } } ∧
        ((d' = none ∨ q' = none) → exec (.tapProvision d' q') s = .next s)) ∧
      ((s.otp.lc ≠ 0 ∨ s.otp.fused ≠ 0) → exec (.tapProvision d' q') s = .next (tap .bypass))) ∧
    (s.resetLow = false →
      ∀ i ∈ ([.tapBypass, .tapIdcode, .tapSamplePreload l, .tapExtest, .tapScanLoad l, .tapLowVoltageTest fails,
              .tapProvision d' q', .tapScrap] : List Instr), exec i s = .next s)

/-- Self-test, life cycle and the TAP. -/
def Obligations.LifeCycleHolds : Prop :=
  Claims.testSteps ∧ Claims.testEnds ∧ Claims.lifeCycleMoves ∧ Claims.certificateFused ∧ Claims.tapActs

/-- OTP goes forward only (R607, R609): after any step the code in force is still not above the code fused, which is at most 4; it holds of the
part after reset. -/
def Obligations.LifeCycleGoesForward : Prop :=
  ∀ s t : State, s.otp.forward = true → step s = .next t → t.otp.forward = true

/-! Resets, supplies, crossings, pins. -/

/-- What a reset of the part leaves (R625): it is in OFF and in reset, no pane holds anything, and NOR, DRAM, the eMMC media, OTP with the state
fused, and the waiting commands stay. -/
def Sys2Proof.Claims.WasReset (s t : State) : Prop :=
  t.part = .off ∧ t.inReset = true ∧ t.tick = 0 ∧ t.locked = false ∧ t.gen.on = false ∧ t.panes = [] ∧ t.mesh = [] ∧ t.bufs = [] ∧
  t.doms = [] ∧ t.ledger = [] ∧ t.nor = s.nor ∧ t.dram = s.dram ∧ t.otp = { s.otp with lc := s.otp.fused } ∧
  t.logs.port0 = s.logs.port0 ∧ t.logs.port1 = s.logs.port1 ∧ t.gpio = s.gpio ∧ t.pending = s.pending

/-- A reset of CAUSE `code` from a running part: counted in RESETS, and AON and the TAP stay (R623, R625). -/
def Sys2Proof.Claims.ResetBy (s t : State) (code : Nat) : Prop :=
  Claims.WasReset s t ∧ t.aon = s.aon ∧ t.tap = s.tap ∧
  (s.inReset = false → t.rd Config.cross = BitVec.ofNat 32 code ∧
    (t.rd (Config.cross + 4)).toNat = min ((s.rd (Config.cross + 4)).toNat + 1) 65535)

/-- The sources of a reset (R576, R577, R623, R624): power-on; RESET_N low for 1 us, but never for less than 100 ns; the AON draw beyond the limit of
the regulator's mode; VDD_CORE low for 2 us. -/
def Sys2Proof.Claims.resetsAct : Prop :=
  ∀ (s : State) (n : Nat) (takes low : Bool),
    let limit := if (s.rd (Config.pwr + 0xC)).bit 0 then 25000 else 150000
    (∃ t, exec .powerOnReset s = .next t ∧ Claims.WasReset s t ∧ t.aon = State.reset.aon ∧ t.tap = Tap.reset ∧
      t.rd Config.cross = 0) ∧
    (1000 ≤ n → ∃ t, exec (.resetPin n takes low) s = .next t ∧ Claims.ResetBy s t 1 ∧ t.resetLow = low) ∧
    (n < 100 → exec (.resetPin n takes low) s = .next s) ∧
    (limit < n → ∃ t, exec (.aonBrownout n) s = .next t ∧ Claims.ResetBy s t 2 ∧
      (t.rd (Config.pwr + 0x20)).toNat = min ((s.rd (Config.pwr + 0x20)).toNat + 1) 65535) ∧
    (n ≤ limit → exec (.aonBrownout n) s = .next s) ∧
    (2000 ≤ n → ∃ t, exec (.coreBrownout n) s = .next t ∧ Claims.ResetBy s t 3) ∧
    (n < 2000 → exec (.coreBrownout n) s = .next s)

/-- A domain's rail supervisor (R627): an open sash whose rail falls is held in reset, its panes start afresh, and their memory keeps its bytes. -/
def Sys2Proof.Claims.railsReset : Prop :=
  ∀ (s : State) (domain : BitVec 7) (n k : Nat),
    let d := domain.toNat
    let p := paneOfSash d k
    (d < 64 → k < 16 → s.inReset = false → s.domOpen d = true →
      ∃ t, exec (.domainRailReset domain n) s = .next t ∧ t.now = max s.now n ∧ d ∈ t.railLow ∧
        (t.pane p).sram = (s.pane p).sram ∧ (∀ r, (t.pane p).gr r = 0) ∧ (t.pane p).sb = [] ∧ (t.pane p).fdepth = 0 ∧
        (∀ j, sashOf j ≠ d → t.pane j = s.pane j) ∧ t.part = s.part) ∧
    (108 < d → exec (.domainRailReset domain n) s = .fault .noSuchUnit)

/-- Supplies (R629, R653, R654): while the part runs, a loss of the AON or core supply resets the part, that of the PLL leaves it without a reference; each is lost until it
returns, and a domain's rail that returns no longer holds it; in OFF, as in reset, the loss of any but the AON supply is only noted. A reference
failure is noted. -/
def Sys2Proof.Claims.suppliesComeAndGo : Prop :=
  ∀ (s : State) (supply : BitVec 4) (n d : Nat),
    let k := supply.toNat
    (k = 0 → ∃ t, exec (.supplyLoss supply n) s = .next t ∧ Claims.WasReset s t) ∧
    (k ≠ 0 → k ≤ 11 → (s.inReset = true ∨ s.part = .off) → ∃ t, exec (.supplyLoss supply n) s = .next t ∧
      t = { s with now := max s.now n, lostSupplies := t.lostSupplies } ∧ ∀ j, j ∈ t.lostSupplies ↔ j = k ∨ j ∈ s.lostSupplies) ∧
    (k = 1 → s.inReset = false → s.part ≠ .off → ∃ t, exec (.supplyLoss supply n) s = .next t ∧ Claims.ResetBy s t 3) ∧
    (2 ≤ k → k ≤ 11 → ∃ t, exec (.supplyLoss supply n) s = .next t ∧ k ∈ t.lostSupplies ∧ t.now = max s.now n ∧
      (k = 2 → s.inReset = false → s.part ≠ .off → t.refLost = true)) ∧
    (11 < k → exec (.supplyLoss supply n) s = .fault .noSuchUnit) ∧
    (k ≤ 11 → ∃ t, exec (.supplyReturn (.supply k) n) s = .next t ∧ k ∉ t.lostSupplies ∧ (k = 2 → t.refLost = false) ∧
      t.reg = s.reg ∧ t.panes = s.panes) ∧
    (d ≤ 108 → s.heldBySupply d = false → ∃ t, exec (.supplyReturn (.domain d) n) s = .next t ∧ d ∉ t.railLow ∧
      t.reg = s.reg ∧ t.panes = s.panes) ∧
    exec (.referenceFailure n) s = .next { s with now := max s.now n, refLost := true }

/-- CROSSING_SEVER of a crossing whose epochs differ, or at a parity failure, counts once, and with none severed before rings bell source 27 (R635);
CROSSING_REARM at the first boundary 1 us after the report, with both sides out of reset, clears SEVERED and its marks and counts (R637). -/
def Sys2Proof.Claims.crossingsSever : Prop :=
  ∀ (s : State) (crossing : BitVec 7) (parity : Bool) (n : Nat),
    let c := crossing.toNat
    let a := Config.cross + 0x100 + 4 * c
    let w := s.rd a
    (c ≤ 107 → s.severed c = false → (parity = true ∨ w.bit 2 ≠ w.bit 3) →
      ∃ t, exec (.crossingSever crossing parity n) s = .next t ∧ t.severed c = true ∧ t.now = max s.now n ∧
        (t.rd (Config.cross + 0x20)).toNat = min ((s.rd (Config.cross + 0x20)).toNat + 1) 65535 ∧
        SMap.get (fun _ => 0) t.severRep c = t.now ∧ (∀ j, j ≠ c → j ≤ 108 → t.severed j = s.severed j) ∧
        ((∀ j ≤ 108, s.severed j = false) →
          { src := 27, kind := .rise, detail := c, todo := BitVec.allOnes 64 } ∈ t.arrivals)) ∧
    (c ≤ 108 → parity = false → w.bit 2 = w.bit 3 → exec (.crossingSever crossing parity n) s = .next s) ∧
    (c ≤ 108 → s.severed c = true → s.sidesUp c = true → s.gen.on = true →
      SMap.get (fun _ => 0) s.severRep c + 1000 ≤ s.gen.nextNs →
      ∃ t, exec (.crossingRearm crossing n) s = .next t ∧ t.severed c = false ∧ (t.rd a).fld 0 4 = 0 ∧ t.now = max s.now n ∧
        (t.rd (Config.cross + 0x24)).toNat = min ((s.rd (Config.cross + 0x24)).toNat + 1) 65535 ∧
        (∀ j, j ≠ c → j ≤ 108 → t.severed j = s.severed j)) ∧
    (c ≤ 108 → s.severed c = false → exec (.crossingRearm crossing n) s = .next { s with now := max s.now n }) ∧
    (108 < c → exec (.crossingSever crossing parity n) s = .fault .noSuchUnit ∧
      exec (.crossingRearm crossing n) s = .fault .noSuchUnit)

/-- GPIO_EDGE: line l stands at its new level, and every other line where it was (R71); at a line of a sampled bank the bells that select the edge
get bell source 48 on (R294). -/
def Sys2Proof.Claims.gpioFollows : Prop :=
  ∀ (s : State) (line : BitVec 6) (level : Bool) (n : Nat),
    let l := line.toNat
    (l < 48 → ∃ t, exec (.gpioEdge line level n) s = .next t ∧ t.now = max s.now n ∧ t.gpio.getLsbD l = level ∧
      (∀ j, j ≠ l → t.gpio.getLsbD j = s.gpio.getLsbD j) ∧ t.panes = s.panes ∧ t.part = s.part) ∧
    (48 ≤ l → exec (.gpioEdge line level n) s = .fault .noSuchUnit)

/-- Resets, supplies, crossings and pins. -/
def Obligations.ResetsAndSupplies : Prop :=
  Claims.resetsAct ∧ Claims.railsReset ∧ Claims.suppliesComeAndGo ∧ Claims.crossingsSever ∧ Claims.gpioFollows

/-- START_SEQUENCE from the release of reset with the supplies in range (R417, R419, R420): the part stands in READY out of reset, the generator
runs, the tick number is 0 and RWL fields are still open; a SCRAPPED part stays in STARTING at stage 1; without a release nothing happens. -/
def Obligations.StartReachesReady : Prop :=
  ∀ (s : State) (env : StartEnv),
    let released := s.part = .off ∧ s.inReset = true ∧ s.resetLow = false ∧ s.lostSupplies = []
    (released → s.otp.lc ≠ 4 →
      ∃ t, exec (.startSequence env) s = .next t ∧ t.part = .ready ∧ t.inReset = false ∧ t.gen.on = true ∧ t.tick = 0 ∧
        t.locked = false ∧ t.pending = s.pending) ∧
    (released → s.otp.lc = 4 →
      ∃ t, exec (.startSequence env) s = .next t ∧ t.part = .starting ∧ (t.rd Config.start).fld 0 4 = 1 ∧ t.gen = s.gen) ∧
    (¬ released → exec (.startSequence env) s = .next s)

/-- The part after reset (R36, R85 to R640): OFF, held in reset, no tick and no command; the registers have the reset values of their
tables: 70 for the step in force of each sash rail (R571, R578), MAGIC and CFG in the sill block (R596), KIND of the crossings (R634, R640) and
0 elsewhere; DRAM, the bay buffers and the panes' memories read 0 (log 3), and a pane's general registers are 0 (log 30: both the
model's choice where the spec states no value); a blank OTP, in MANUFACTURE (log 27, the model's choice). -/
def Obligations.ResetValues : Prop :=
  State.reset.part = .off ∧ State.reset.inReset = true ∧ State.reset.tick = 0 ∧ State.reset.locked = false ∧
  State.reset.pending = [] ∧ State.reset.otp.forward = true ∧ State.reset.otp.lc = 0 ∧
  (∀ a, State.reset.srd a = if a = 0 then 0x53574B41#32 else if a = 4 then 4#32 else 0#32) ∧
  (∀ k < 64, State.reset.rd (Config.pwr + 0x400 + 4 * k) = 70#32) ∧
  (∀ c, c ≤ 108 → State.reset.rd (Config.cross + 0x100 + 4 * c) =
    (if (80 ≤ c ∧ c < 88) ∨ 107 ≤ c then 0x30#32 else if c = 88 ∨ c = 89 then 0x40#32
     else if 102 ≤ c ∧ c < 106 then 0x10#32 else 0#32)) ∧
  (∀ a, ¬ (Config.pwr + 0x400 ≤ a ∧ a < Config.pwr + 0x500) → ¬ (Config.cross + 0x100 ≤ a ∧ a < Config.cross + 0x2B4) →
    State.reset.rd a = 0) ∧
  (∀ p, (State.reset.pane p).bounded = true ∧ (State.reset.pane p).status = 0 ∧ (∀ r, (State.reset.pane p).gr r = 0) ∧
    ∀ a, (State.reset.pane p).sram.read a = 0#8) ∧
  (∀ b a, (State.reset.buf b).read a = 0#8) ∧ (∀ a, State.reset.dram.read a = 0#8)

/-- A STEP RUNS THE COMMAND IN FRONT: step of s with c at the front of its queue is exec of c on s with the queue's rest; with an empty queue the part
idles (log 1). -/
def Obligations.StepRunsFrontCommand : Prop :=
  ∀ (s : State) (c : Instr) (rest : List Instr),
    step { s with pending := c :: rest } = exec c { s with pending := rest } ∧
    step { s with pending := [] } = .next { s with pending := [] }
end

