-- ==== Sys2Proof/Laws/Map.lean ====
section
/-!
SUPPORT. Sparse maps and byte memories: a read after a write, and the canonical form that every operation of a memory keeps.
-/
namespace Sys2Proof.Machine

variable {α : Type}

/-! Reading after writing. -/

theorem SMap.at?_put (m : SMap α) (a b : Nat) (v : α) :
    SMap.at? (SMap.put m a v) b = if a = b then some v else SMap.at? m b := by
  induction m with
  | nil => simp [SMap.put, SMap.at?]
  | cons e r ih =>
    obtain ⟨k, x⟩ := e
    simp only [SMap.put]
    split
    · simp [SMap.at?]
    · split
      · subst_vars; simp [SMap.at?]; split <;> simp_all
      · simp only [SMap.at?, ih]; split <;> split <;> simp_all

/-- A map reads back what was put into it, and everything else as before. -/
theorem SMap.get_put (d : Nat → α) (m : SMap α) (a b : Nat) (v : α) :
    SMap.get d (SMap.put m a v) b = if a = b then v else SMap.get d m b := by
  simp only [SMap.get, SMap.at?_put]; split <;> rfl

theorem SMap.above_trans {a b : Nat} {m : SMap α} (h : SMap.above b m = true) (hab : a ≤ b) : SMap.above a m = true := by
  induction m with
  | nil => rfl
  | cons e r ih =>
    obtain ⟨k, x⟩ := e
    simp only [SMap.above, Bool.and_eq_true, decide_eq_true_eq] at h ⊢
    exact ⟨by omega, ih h.2⟩

theorem SMap.at?_del (m : SMap α) (a b : Nat) :
    SMap.at? (SMap.del m a) b = if a = b then none else SMap.at? m b := by
  induction m with
  | nil => simp [SMap.del, SMap.at?]
  | cons e r ih =>
    obtain ⟨k, x⟩ := e
    simp only [SMap.del]
    split
    · rename_i h
      subst h
      rw [ih]
      split
      · rfl
      · rename_i h; simp [SMap.at?, h]
    · simp only [SMap.at?, ih]
      by_cases h1 : k = b <;> by_cases h2 : a = b <;> simp_all

/-- A map reads back what was set, and everything else as before. -/
theorem SMap.get_set [DecidableEq α] (d : Nat → α) (m : SMap α) (a b : Nat) (v : α) :
    SMap.get d (SMap.set d m a v) b = if a = b then v else SMap.get d m b := by
  simp only [SMap.set]
  split
  · rename_i h
    simp only [SMap.get, SMap.at?_del]
    split
    · subst_vars; rfl
    · rfl
  · exact SMap.get_put d m a b v

/-! The canonical form. -/

theorem SMap.above_put {a b : Nat} {m : SMap α} {v : α} (h : SMap.above b m = true) (hab : b < a) :
    SMap.above b (SMap.put m a v) = true := by
  induction m with
  | nil => simp [SMap.put, SMap.above, hab]
  | cons e r ih =>
    obtain ⟨k, x⟩ := e
    simp only [SMap.above, Bool.and_eq_true, decide_eq_true_eq] at h
    simp only [SMap.put]
    split
    · simp [SMap.above, hab, h.1, h.2]
    · split
      · simp [SMap.above, hab, h.2]
      · simp [SMap.above, h.1, ih h.2]

theorem SMap.sorted_put {m : SMap α} (hm : SMap.sorted m = true) (a : Nat) (v : α) :
    SMap.sorted (SMap.put m a v) = true := by
  induction m with
  | nil => simp [SMap.put, SMap.sorted, SMap.above]
  | cons e r ih =>
    obtain ⟨k, x⟩ := e
    simp only [SMap.sorted, Bool.and_eq_true] at hm
    simp only [SMap.put]
    split
    · rename_i h
      simp [SMap.sorted, SMap.above, h, hm.1, hm.2, SMap.above_trans hm.1 (Nat.le_of_lt h)]
    · split
      · rename_i h; subst h; simp [SMap.sorted, hm.1, hm.2]
      · rename_i h h'
        simp [SMap.sorted, ih hm.2, SMap.above_put hm.1 (show k < a by omega)]

theorem SMap.above_del {b : Nat} {m : SMap α} (h : SMap.above b m = true) (a : Nat) : SMap.above b (SMap.del m a) = true := by
  induction m with
  | nil => rfl
  | cons e r ih =>
    obtain ⟨k, x⟩ := e
    simp only [SMap.above, Bool.and_eq_true] at h
    simp only [SMap.del]
    split
    · exact ih h.2
    · simp only [SMap.above, h.1, ih h.2, Bool.and_self]

theorem SMap.sorted_del {m : SMap α} (hm : SMap.sorted m = true) (a : Nat) : SMap.sorted (SMap.del m a) = true := by
  induction m with
  | nil => rfl
  | cons e r ih =>
    obtain ⟨k, x⟩ := e
    simp only [SMap.sorted, Bool.and_eq_true] at hm
    simp only [SMap.del]
    split
    · exact ih hm.2
    · simp only [SMap.sorted, SMap.above_del hm.1, ih hm.2, Bool.and_self]

theorem SMap.proper_put [DecidableEq α] {d : Nat → α} {m : SMap α} (hm : SMap.proper d m = true) {a : Nat} {v : α}
    (hv : v ≠ d a) : SMap.proper d (SMap.put m a v) = true := by
  induction m with
  | nil => simp [SMap.put, SMap.proper, hv]
  | cons e r ih =>
    obtain ⟨k, x⟩ := e
    simp only [SMap.proper, Bool.and_eq_true] at hm
    simp only [SMap.put]
    split
    · simp only [SMap.proper, hm.1, hm.2, Bool.and_true, decide_eq_true_eq]; exact hv
    · split
      · simp only [SMap.proper, hm.2, Bool.and_true, decide_eq_true_eq]; exact hv
      · simp only [SMap.proper, hm.1, ih hm.2, Bool.and_self]

theorem SMap.proper_del [DecidableEq α] {d : Nat → α} {m : SMap α} (hm : SMap.proper d m = true) (a : Nat) :
    SMap.proper d (SMap.del m a) = true := by
  induction m with
  | nil => rfl
  | cons e r ih =>
    obtain ⟨k, x⟩ := e
    simp only [SMap.proper, Bool.and_eq_true] at hm
    simp only [SMap.del]
    split
    · exact ih hm.2
    · simp only [SMap.proper, hm.1, ih hm.2, Bool.and_self]

/-- Setting a value keeps the canonical form. -/
theorem SMap.wf_set [DecidableEq α] {d : Nat → α} {m : SMap α} (hm : SMap.wf d m = true) (a : Nat) (v : α) :
    SMap.wf d (SMap.set d m a v) = true := by
  simp only [SMap.wf, Bool.and_eq_true] at hm ⊢
  simp only [SMap.set]
  split
  · exact ⟨SMap.sorted_del hm.1 a, SMap.proper_del hm.2 a⟩
  · rename_i h; exact ⟨SMap.sorted_put hm.1 a v, SMap.proper_put hm.2 h⟩

/-! Byte memories. -/

/-- A write keeps the canonical form. -/
theorem Memory.wf_write {m : Memory} (hm : Memory.wf m = true) (a : Nat) (v : BitVec 8) :
    Memory.wf (Memory.write m a v) = true := SMap.wf_set hm a v

/-- A byte reads back as it was written, and every other byte reads as before. -/
theorem Memory.read_write (m : Memory) (a b : Nat) (v : BitVec 8) :
    Memory.read (Memory.write m a v) b = if a = b then v else Memory.read m b :=
  SMap.get_set zeroByte m a b v

/-- A write of many bytes keeps the canonical form. -/
theorem Memory.wf_writeBytes {m : Memory} (hm : Memory.wf m = true) (a : Nat) (l : List (BitVec 8)) :
    Memory.wf (Memory.writeBytes m a l) = true := by
  induction l generalizing m a with
  | nil => exact hm
  | cons b r ih => exact ih (Memory.wf_write hm a b) (a + 1)

/-- What a write of many bytes leaves at each address. -/
theorem Memory.read_writeBytes (m : Memory) (a : Nat) (l : List (BitVec 8)) (b : Nat) :
    Memory.read (Memory.writeBytes m a l) b
      = if h : a ≤ b ∧ b < a + l.length then l[b - a]'(by omega) else Memory.read m b := by
  induction l generalizing m a with
  | nil => rw [dif_neg (by simp)]; rfl
  | cons x r ih =>
    simp only [Memory.writeBytes, ih, Memory.read_write, List.length_cons]
    by_cases h : a = b
    · subst h; simp
    · by_cases h2 : a + 1 ≤ b ∧ b < a + 1 + r.length
      · rw [dif_pos h2, dif_pos ⟨by omega, by omega⟩]
        have hb : b - a = (b - (a + 1)) + 1 := by omega
        simp [hb]
      · rw [dif_neg h2, if_neg h, dif_neg (by omega)]

/-! Register files. -/

/-- A register reads back what was written, and every other register reads as before. -/
theorem RegFile.rd_wr (d : Nat → BitVec 32) (m : RegFile) (a b : Nat) (v : BitVec 32) :
    RegFile.rd d (RegFile.wr d m a v) b = if a = b then v else RegFile.rd d m b :=
  SMap.get_set d m a b v

end Sys2Proof.Machine
end

