-- ==== Sys2Proof/Laws/PaneFields.lean ====
section
/-!
SUPPORT. What the plain updates of a pane leave alone, field by field.
-/
namespace Sys2Proof.Machine

/-! Pane.setGr. -/

@[simp] theorem Pane.setGr_phase (q : Pane) (r : RegNo) (v : Word) : (q.setGr r v).phase = q.phase := by unfold Pane.setGr; split <;> rfl
@[simp] theorem Pane.setGr_pc (q : Pane) (r : RegNo) (v : Word) : (q.setGr r v).pc = q.pc := by unfold Pane.setGr; split <;> rfl
@[simp] theorem Pane.setGr_lr (q : Pane) (r : RegNo) (v : Word) : (q.setGr r v).lr = q.lr := by unfold Pane.setGr; split <;> rfl
@[simp] theorem Pane.setGr_pred (q : Pane) (r : RegNo) (v : Word) : (q.setGr r v).pred = q.pred := by unfold Pane.setGr; split <;> rfl
@[simp] theorem Pane.setGr_acc0 (q : Pane) (r : RegNo) (v : Word) : (q.setGr r v).acc0 = q.acc0 := by unfold Pane.setGr; split <;> rfl
@[simp] theorem Pane.setGr_acc1 (q : Pane) (r : RegNo) (v : Word) : (q.setGr r v).acc1 = q.acc1 := by unfold Pane.setGr; split <;> rfl
@[simp] theorem Pane.setGr_lb (q : Pane) (r : RegNo) (v : Word) : (q.setGr r v).lb = q.lb := by unfold Pane.setGr; split <;> rfl
@[simp] theorem Pane.setGr_le (q : Pane) (r : RegNo) (v : Word) : (q.setGr r v).le = q.le := by unfold Pane.setGr; split <;> rfl
@[simp] theorem Pane.setGr_lc (q : Pane) (r : RegNo) (v : Word) : (q.setGr r v).lc = q.lc := by unfold Pane.setGr; split <;> rfl
@[simp] theorem Pane.setGr_status (q : Pane) (r : RegNo) (v : Word) : (q.setGr r v).status = q.status := by unfold Pane.setGr; split <;> rfl
@[simp] theorem Pane.setGr_frames (q : Pane) (r : RegNo) (v : Word) : (q.setGr r v).frames = q.frames := by unfold Pane.setGr; split <;> rfl
@[simp] theorem Pane.setGr_fdepth (q : Pane) (r : RegNo) (v : Word) : (q.setGr r v).fdepth = q.fdepth := by unfold Pane.setGr; split <;> rfl
@[simp] theorem Pane.setGr_sram (q : Pane) (r : RegNo) (v : Word) : (q.setGr r v).sram = q.sram := by unfold Pane.setGr; split <;> rfl
@[simp] theorem Pane.setGr_ecc (q : Pane) (r : RegNo) (v : Word) : (q.setGr r v).ecc = q.ecc := by unfold Pane.setGr; split <;> rfl
@[simp] theorem Pane.setGr_rewrite (q : Pane) (r : RegNo) (v : Word) : (q.setGr r v).rewrite = q.rewrite := by unfold Pane.setGr; split <;> rfl
@[simp] theorem Pane.setGr_scrubPos (q : Pane) (r : RegNo) (v : Word) : (q.setGr r v).scrubPos = q.scrubPos := by unfold Pane.setGr; split <;> rfl
@[simp] theorem Pane.setGr_ctl (q : Pane) (r : RegNo) (v : Word) : (q.setGr r v).ctl = q.ctl := by unfold Pane.setGr; split <;> rfl
@[simp] theorem Pane.setGr_sb (q : Pane) (r : RegNo) (v : Word) : (q.setGr r v).sb = q.sb := by unfold Pane.setGr; split <;> rfl
@[simp] theorem Pane.setGr_wstores (q : Pane) (r : RegNo) (v : Word) : (q.setGr r v).wstores = q.wstores := by unfold Pane.setGr; split <;> rfl
@[simp] theorem Pane.setGr_wrefused (q : Pane) (r : RegNo) (v : Word) : (q.setGr r v).wrefused = q.wrefused := by unfold Pane.setGr; split <;> rfl
@[simp] theorem Pane.setGr_loadWaits (q : Pane) (r : RegNo) (v : Word) : (q.setGr r v).loadWaits = q.loadWaits := by unfold Pane.setGr; split <;> rfl
@[simp] theorem Pane.setGr_entry (q : Pane) (r : RegNo) (v : Word) : (q.setGr r v).entry = q.entry := by unfold Pane.setGr; split <;> rfl
@[simp] theorem Pane.setGr_awaits (q : Pane) (r : RegNo) (v : Word) : (q.setGr r v).awaits = q.awaits := by unfold Pane.setGr; split <;> rfl
@[simp] theorem Pane.setGr_tag (q : Pane) (r : RegNo) (v : Word) : (q.setGr r v).tag = q.tag := by unfold Pane.setGr; split <;> rfl
@[simp] theorem Pane.setGr_tks (q : Pane) (r : RegNo) (v : Word) : (q.setGr r v).tks = q.tks := by unfold Pane.setGr; split <;> rfl
@[simp] theorem Pane.setGr_unacked (q : Pane) (r : RegNo) (v : Word) : (q.setGr r v).unacked = q.unacked := by unfold Pane.setGr; split <;> rfl
@[simp] theorem Pane.setGr_reduced (q : Pane) (r : RegNo) (v : Word) : (q.setGr r v).reduced = q.reduced := by unfold Pane.setGr; split <;> rfl
@[simp] theorem Pane.setGr_retireT (q : Pane) (r : RegNo) (v : Word) : (q.setGr r v).retireT = q.retireT := by unfold Pane.setGr; split <;> rfl
@[simp] theorem Pane.setGr_overClose (q : Pane) (r : RegNo) (v : Word) : (q.setGr r v).overClose = q.overClose := by unfold Pane.setGr; split <;> rfl
@[simp] theorem Pane.setGr_lastOver (q : Pane) (r : RegNo) (v : Word) : (q.setGr r v).lastOver = q.lastOver := by unfold Pane.setGr; split <;> rfl
@[simp] theorem Pane.setGr_faulty (q : Pane) (r : RegNo) (v : Word) : (q.setGr r v).faulty = q.faulty := by unfold Pane.setGr; split <;> rfl
@[simp] theorem Pane.setGr_mvLate (q : Pane) (r : RegNo) (v : Word) : (q.setGr r v).mvLate = q.mvLate := by unfold Pane.setGr; split <;> rfl
@[simp] theorem Pane.setGr_chan (q : Pane) (r : RegNo) (v : Word) : (q.setGr r v).chan = q.chan := by unfold Pane.setGr; split <;> rfl
@[simp] theorem Pane.setGr_evWr (q : Pane) (r : RegNo) (v : Word) : (q.setGr r v).evWr = q.evWr := by unfold Pane.setGr; split <;> rfl
@[simp] theorem Pane.setGr_evUnclaimed (q : Pane) (r : RegNo) (v : Word) : (q.setGr r v).evUnclaimed = q.evUnclaimed := by unfold Pane.setGr; split <;> rfl
@[simp] theorem Pane.setGr_evUsed (q : Pane) (r : RegNo) (v : Word) : (q.setGr r v).evUsed = q.evUsed := by unfold Pane.setGr; split <;> rfl
@[simp] theorem Pane.setGr_evDone (q : Pane) (r : RegNo) (v : Word) : (q.setGr r v).evDone = q.evDone := by unfold Pane.setGr; split <;> rfl
@[simp] theorem Pane.setGr_evSeq (q : Pane) (r : RegNo) (v : Word) : (q.setGr r v).evSeq = q.evSeq := by unfold Pane.setGr; split <;> rfl
@[simp] theorem Pane.setGr_evStack (q : Pane) (r : RegNo) (v : Word) : (q.setGr r v).evStack = q.evStack := by unfold Pane.setGr; split <;> rfl
@[simp] theorem Pane.setGr_minSlack (q : Pane) (r : RegNo) (v : Word) : (q.setGr r v).minSlack = q.minSlack := by unfold Pane.setGr; split <;> rfl
@[simp] theorem Pane.setGr_pubs (q : Pane) (r : RegNo) (v : Word) : (q.setGr r v).pubs = q.pubs := by unfold Pane.setGr; split <;> rfl
@[simp] theorem Pane.setGr_ceTotal (q : Pane) (r : RegNo) (v : Word) : (q.setGr r v).ceTotal = q.ceTotal := by unfold Pane.setGr; split <;> rfl
@[simp] theorem Pane.setGr_ueTotal (q : Pane) (r : RegNo) (v : Word) : (q.setGr r v).ueTotal = q.ueTotal := by unfold Pane.setGr; split <;> rfl

/-! Pane.setPr. -/

@[simp] theorem Pane.setPr_phase (q : Pane) (k : BitVec 3) (b : Bool) : (q.setPr k b).phase = q.phase := by unfold Pane.setPr; split <;> rfl
@[simp] theorem Pane.setPr_pc (q : Pane) (k : BitVec 3) (b : Bool) : (q.setPr k b).pc = q.pc := by unfold Pane.setPr; split <;> rfl
@[simp] theorem Pane.setPr_g (q : Pane) (k : BitVec 3) (b : Bool) : (q.setPr k b).g = q.g := by unfold Pane.setPr; split <;> rfl
@[simp] theorem Pane.setPr_lr (q : Pane) (k : BitVec 3) (b : Bool) : (q.setPr k b).lr = q.lr := by unfold Pane.setPr; split <;> rfl
@[simp] theorem Pane.setPr_acc0 (q : Pane) (k : BitVec 3) (b : Bool) : (q.setPr k b).acc0 = q.acc0 := by unfold Pane.setPr; split <;> rfl
@[simp] theorem Pane.setPr_acc1 (q : Pane) (k : BitVec 3) (b : Bool) : (q.setPr k b).acc1 = q.acc1 := by unfold Pane.setPr; split <;> rfl
@[simp] theorem Pane.setPr_lb (q : Pane) (k : BitVec 3) (b : Bool) : (q.setPr k b).lb = q.lb := by unfold Pane.setPr; split <;> rfl
@[simp] theorem Pane.setPr_le (q : Pane) (k : BitVec 3) (b : Bool) : (q.setPr k b).le = q.le := by unfold Pane.setPr; split <;> rfl
@[simp] theorem Pane.setPr_lc (q : Pane) (k : BitVec 3) (b : Bool) : (q.setPr k b).lc = q.lc := by unfold Pane.setPr; split <;> rfl
@[simp] theorem Pane.setPr_status (q : Pane) (k : BitVec 3) (b : Bool) : (q.setPr k b).status = q.status := by unfold Pane.setPr; split <;> rfl
@[simp] theorem Pane.setPr_frames (q : Pane) (k : BitVec 3) (b : Bool) : (q.setPr k b).frames = q.frames := by unfold Pane.setPr; split <;> rfl
@[simp] theorem Pane.setPr_fdepth (q : Pane) (k : BitVec 3) (b : Bool) : (q.setPr k b).fdepth = q.fdepth := by unfold Pane.setPr; split <;> rfl
@[simp] theorem Pane.setPr_sram (q : Pane) (k : BitVec 3) (b : Bool) : (q.setPr k b).sram = q.sram := by unfold Pane.setPr; split <;> rfl
@[simp] theorem Pane.setPr_ecc (q : Pane) (k : BitVec 3) (b : Bool) : (q.setPr k b).ecc = q.ecc := by unfold Pane.setPr; split <;> rfl
@[simp] theorem Pane.setPr_rewrite (q : Pane) (k : BitVec 3) (b : Bool) : (q.setPr k b).rewrite = q.rewrite := by unfold Pane.setPr; split <;> rfl
@[simp] theorem Pane.setPr_scrubPos (q : Pane) (k : BitVec 3) (b : Bool) : (q.setPr k b).scrubPos = q.scrubPos := by unfold Pane.setPr; split <;> rfl
@[simp] theorem Pane.setPr_ctl (q : Pane) (k : BitVec 3) (b : Bool) : (q.setPr k b).ctl = q.ctl := by unfold Pane.setPr; split <;> rfl
@[simp] theorem Pane.setPr_sb (q : Pane) (k : BitVec 3) (b : Bool) : (q.setPr k b).sb = q.sb := by unfold Pane.setPr; split <;> rfl
@[simp] theorem Pane.setPr_wreads (q : Pane) (k : BitVec 3) (b : Bool) : (q.setPr k b).wreads = q.wreads := by unfold Pane.setPr; split <;> rfl
@[simp] theorem Pane.setPr_wstores (q : Pane) (k : BitVec 3) (b : Bool) : (q.setPr k b).wstores = q.wstores := by unfold Pane.setPr; split <;> rfl
@[simp] theorem Pane.setPr_wrefused (q : Pane) (k : BitVec 3) (b : Bool) : (q.setPr k b).wrefused = q.wrefused := by unfold Pane.setPr; split <;> rfl
@[simp] theorem Pane.setPr_loadWaits (q : Pane) (k : BitVec 3) (b : Bool) : (q.setPr k b).loadWaits = q.loadWaits := by unfold Pane.setPr; split <;> rfl
@[simp] theorem Pane.setPr_entry (q : Pane) (k : BitVec 3) (b : Bool) : (q.setPr k b).entry = q.entry := by unfold Pane.setPr; split <;> rfl
@[simp] theorem Pane.setPr_awaits (q : Pane) (k : BitVec 3) (b : Bool) : (q.setPr k b).awaits = q.awaits := by unfold Pane.setPr; split <;> rfl
@[simp] theorem Pane.setPr_tag (q : Pane) (k : BitVec 3) (b : Bool) : (q.setPr k b).tag = q.tag := by unfold Pane.setPr; split <;> rfl
@[simp] theorem Pane.setPr_tks (q : Pane) (k : BitVec 3) (b : Bool) : (q.setPr k b).tks = q.tks := by unfold Pane.setPr; split <;> rfl
@[simp] theorem Pane.setPr_unacked (q : Pane) (k : BitVec 3) (b : Bool) : (q.setPr k b).unacked = q.unacked := by unfold Pane.setPr; split <;> rfl
@[simp] theorem Pane.setPr_reduced (q : Pane) (k : BitVec 3) (b : Bool) : (q.setPr k b).reduced = q.reduced := by unfold Pane.setPr; split <;> rfl
@[simp] theorem Pane.setPr_retireT (q : Pane) (k : BitVec 3) (b : Bool) : (q.setPr k b).retireT = q.retireT := by unfold Pane.setPr; split <;> rfl
@[simp] theorem Pane.setPr_overClose (q : Pane) (k : BitVec 3) (b : Bool) : (q.setPr k b).overClose = q.overClose := by unfold Pane.setPr; split <;> rfl
@[simp] theorem Pane.setPr_lastOver (q : Pane) (k : BitVec 3) (b : Bool) : (q.setPr k b).lastOver = q.lastOver := by unfold Pane.setPr; split <;> rfl
@[simp] theorem Pane.setPr_faulty (q : Pane) (k : BitVec 3) (b : Bool) : (q.setPr k b).faulty = q.faulty := by unfold Pane.setPr; split <;> rfl
@[simp] theorem Pane.setPr_mvLate (q : Pane) (k : BitVec 3) (b : Bool) : (q.setPr k b).mvLate = q.mvLate := by unfold Pane.setPr; split <;> rfl
@[simp] theorem Pane.setPr_chan (q : Pane) (k : BitVec 3) (b : Bool) : (q.setPr k b).chan = q.chan := by unfold Pane.setPr; split <;> rfl
@[simp] theorem Pane.setPr_evWr (q : Pane) (k : BitVec 3) (b : Bool) : (q.setPr k b).evWr = q.evWr := by unfold Pane.setPr; split <;> rfl
@[simp] theorem Pane.setPr_evUnclaimed (q : Pane) (k : BitVec 3) (b : Bool) : (q.setPr k b).evUnclaimed = q.evUnclaimed := by unfold Pane.setPr; split <;> rfl
@[simp] theorem Pane.setPr_evUsed (q : Pane) (k : BitVec 3) (b : Bool) : (q.setPr k b).evUsed = q.evUsed := by unfold Pane.setPr; split <;> rfl
@[simp] theorem Pane.setPr_evDone (q : Pane) (k : BitVec 3) (b : Bool) : (q.setPr k b).evDone = q.evDone := by unfold Pane.setPr; split <;> rfl
@[simp] theorem Pane.setPr_evSeq (q : Pane) (k : BitVec 3) (b : Bool) : (q.setPr k b).evSeq = q.evSeq := by unfold Pane.setPr; split <;> rfl
@[simp] theorem Pane.setPr_evStack (q : Pane) (k : BitVec 3) (b : Bool) : (q.setPr k b).evStack = q.evStack := by unfold Pane.setPr; split <;> rfl
@[simp] theorem Pane.setPr_minSlack (q : Pane) (k : BitVec 3) (b : Bool) : (q.setPr k b).minSlack = q.minSlack := by unfold Pane.setPr; split <;> rfl
@[simp] theorem Pane.setPr_pubs (q : Pane) (k : BitVec 3) (b : Bool) : (q.setPr k b).pubs = q.pubs := by unfold Pane.setPr; split <;> rfl
@[simp] theorem Pane.setPr_ceTotal (q : Pane) (k : BitVec 3) (b : Bool) : (q.setPr k b).ceTotal = q.ceTotal := by unfold Pane.setPr; split <;> rfl
@[simp] theorem Pane.setPr_ueTotal (q : Pane) (k : BitVec 3) (b : Bool) : (q.setPr k b).ueTotal = q.ueTotal := by unfold Pane.setPr; split <;> rfl

/-! Pane.setAcc. -/

@[simp] theorem Pane.setAcc_phase (q : Pane) (n : Nat) (v : Acc) : (q.setAcc n v).phase = q.phase := by unfold Pane.setAcc; split <;> rfl
@[simp] theorem Pane.setAcc_pc (q : Pane) (n : Nat) (v : Acc) : (q.setAcc n v).pc = q.pc := by unfold Pane.setAcc; split <;> rfl
@[simp] theorem Pane.setAcc_g (q : Pane) (n : Nat) (v : Acc) : (q.setAcc n v).g = q.g := by unfold Pane.setAcc; split <;> rfl
@[simp] theorem Pane.setAcc_lr (q : Pane) (n : Nat) (v : Acc) : (q.setAcc n v).lr = q.lr := by unfold Pane.setAcc; split <;> rfl
@[simp] theorem Pane.setAcc_pred (q : Pane) (n : Nat) (v : Acc) : (q.setAcc n v).pred = q.pred := by unfold Pane.setAcc; split <;> rfl
@[simp] theorem Pane.setAcc_lb (q : Pane) (n : Nat) (v : Acc) : (q.setAcc n v).lb = q.lb := by unfold Pane.setAcc; split <;> rfl
@[simp] theorem Pane.setAcc_le (q : Pane) (n : Nat) (v : Acc) : (q.setAcc n v).le = q.le := by unfold Pane.setAcc; split <;> rfl
@[simp] theorem Pane.setAcc_lc (q : Pane) (n : Nat) (v : Acc) : (q.setAcc n v).lc = q.lc := by unfold Pane.setAcc; split <;> rfl
@[simp] theorem Pane.setAcc_status (q : Pane) (n : Nat) (v : Acc) : (q.setAcc n v).status = q.status := by unfold Pane.setAcc; split <;> rfl
@[simp] theorem Pane.setAcc_frames (q : Pane) (n : Nat) (v : Acc) : (q.setAcc n v).frames = q.frames := by unfold Pane.setAcc; split <;> rfl
@[simp] theorem Pane.setAcc_fdepth (q : Pane) (n : Nat) (v : Acc) : (q.setAcc n v).fdepth = q.fdepth := by unfold Pane.setAcc; split <;> rfl
@[simp] theorem Pane.setAcc_sram (q : Pane) (n : Nat) (v : Acc) : (q.setAcc n v).sram = q.sram := by unfold Pane.setAcc; split <;> rfl
@[simp] theorem Pane.setAcc_ecc (q : Pane) (n : Nat) (v : Acc) : (q.setAcc n v).ecc = q.ecc := by unfold Pane.setAcc; split <;> rfl
@[simp] theorem Pane.setAcc_rewrite (q : Pane) (n : Nat) (v : Acc) : (q.setAcc n v).rewrite = q.rewrite := by unfold Pane.setAcc; split <;> rfl
@[simp] theorem Pane.setAcc_scrubPos (q : Pane) (n : Nat) (v : Acc) : (q.setAcc n v).scrubPos = q.scrubPos := by unfold Pane.setAcc; split <;> rfl
@[simp] theorem Pane.setAcc_ctl (q : Pane) (n : Nat) (v : Acc) : (q.setAcc n v).ctl = q.ctl := by unfold Pane.setAcc; split <;> rfl
@[simp] theorem Pane.setAcc_sb (q : Pane) (n : Nat) (v : Acc) : (q.setAcc n v).sb = q.sb := by unfold Pane.setAcc; split <;> rfl
@[simp] theorem Pane.setAcc_wreads (q : Pane) (n : Nat) (v : Acc) : (q.setAcc n v).wreads = q.wreads := by unfold Pane.setAcc; split <;> rfl
@[simp] theorem Pane.setAcc_wstores (q : Pane) (n : Nat) (v : Acc) : (q.setAcc n v).wstores = q.wstores := by unfold Pane.setAcc; split <;> rfl
@[simp] theorem Pane.setAcc_wrefused (q : Pane) (n : Nat) (v : Acc) : (q.setAcc n v).wrefused = q.wrefused := by unfold Pane.setAcc; split <;> rfl
@[simp] theorem Pane.setAcc_loadWaits (q : Pane) (n : Nat) (v : Acc) : (q.setAcc n v).loadWaits = q.loadWaits := by unfold Pane.setAcc; split <;> rfl
@[simp] theorem Pane.setAcc_entry (q : Pane) (n : Nat) (v : Acc) : (q.setAcc n v).entry = q.entry := by unfold Pane.setAcc; split <;> rfl
@[simp] theorem Pane.setAcc_awaits (q : Pane) (n : Nat) (v : Acc) : (q.setAcc n v).awaits = q.awaits := by unfold Pane.setAcc; split <;> rfl
@[simp] theorem Pane.setAcc_tag (q : Pane) (n : Nat) (v : Acc) : (q.setAcc n v).tag = q.tag := by unfold Pane.setAcc; split <;> rfl
@[simp] theorem Pane.setAcc_tks (q : Pane) (n : Nat) (v : Acc) : (q.setAcc n v).tks = q.tks := by unfold Pane.setAcc; split <;> rfl
@[simp] theorem Pane.setAcc_unacked (q : Pane) (n : Nat) (v : Acc) : (q.setAcc n v).unacked = q.unacked := by unfold Pane.setAcc; split <;> rfl
@[simp] theorem Pane.setAcc_reduced (q : Pane) (n : Nat) (v : Acc) : (q.setAcc n v).reduced = q.reduced := by unfold Pane.setAcc; split <;> rfl
@[simp] theorem Pane.setAcc_retireT (q : Pane) (n : Nat) (v : Acc) : (q.setAcc n v).retireT = q.retireT := by unfold Pane.setAcc; split <;> rfl
@[simp] theorem Pane.setAcc_overClose (q : Pane) (n : Nat) (v : Acc) : (q.setAcc n v).overClose = q.overClose := by unfold Pane.setAcc; split <;> rfl
@[simp] theorem Pane.setAcc_lastOver (q : Pane) (n : Nat) (v : Acc) : (q.setAcc n v).lastOver = q.lastOver := by unfold Pane.setAcc; split <;> rfl
@[simp] theorem Pane.setAcc_faulty (q : Pane) (n : Nat) (v : Acc) : (q.setAcc n v).faulty = q.faulty := by unfold Pane.setAcc; split <;> rfl
@[simp] theorem Pane.setAcc_mvLate (q : Pane) (n : Nat) (v : Acc) : (q.setAcc n v).mvLate = q.mvLate := by unfold Pane.setAcc; split <;> rfl
@[simp] theorem Pane.setAcc_chan (q : Pane) (n : Nat) (v : Acc) : (q.setAcc n v).chan = q.chan := by unfold Pane.setAcc; split <;> rfl
@[simp] theorem Pane.setAcc_evWr (q : Pane) (n : Nat) (v : Acc) : (q.setAcc n v).evWr = q.evWr := by unfold Pane.setAcc; split <;> rfl
@[simp] theorem Pane.setAcc_evUnclaimed (q : Pane) (n : Nat) (v : Acc) : (q.setAcc n v).evUnclaimed = q.evUnclaimed := by unfold Pane.setAcc; split <;> rfl
@[simp] theorem Pane.setAcc_evUsed (q : Pane) (n : Nat) (v : Acc) : (q.setAcc n v).evUsed = q.evUsed := by unfold Pane.setAcc; split <;> rfl
@[simp] theorem Pane.setAcc_evDone (q : Pane) (n : Nat) (v : Acc) : (q.setAcc n v).evDone = q.evDone := by unfold Pane.setAcc; split <;> rfl
@[simp] theorem Pane.setAcc_evSeq (q : Pane) (n : Nat) (v : Acc) : (q.setAcc n v).evSeq = q.evSeq := by unfold Pane.setAcc; split <;> rfl
@[simp] theorem Pane.setAcc_evStack (q : Pane) (n : Nat) (v : Acc) : (q.setAcc n v).evStack = q.evStack := by unfold Pane.setAcc; split <;> rfl
@[simp] theorem Pane.setAcc_minSlack (q : Pane) (n : Nat) (v : Acc) : (q.setAcc n v).minSlack = q.minSlack := by unfold Pane.setAcc; split <;> rfl
@[simp] theorem Pane.setAcc_pubs (q : Pane) (n : Nat) (v : Acc) : (q.setAcc n v).pubs = q.pubs := by unfold Pane.setAcc; split <;> rfl
@[simp] theorem Pane.setAcc_ceTotal (q : Pane) (n : Nat) (v : Acc) : (q.setAcc n v).ceTotal = q.ceTotal := by unfold Pane.setAcc; split <;> rfl
@[simp] theorem Pane.setAcc_ueTotal (q : Pane) (n : Nat) (v : Acc) : (q.setAcc n v).ueTotal = q.ueTotal := by unfold Pane.setAcc; split <;> rfl

/-! Pane.stick. -/

@[simp] theorem Pane.stick_phase (q : Pane) (i : Nat) (b : Bool) : (q.stick i b).phase = q.phase := by unfold Pane.stick; split <;> rfl
@[simp] theorem Pane.stick_pc (q : Pane) (i : Nat) (b : Bool) : (q.stick i b).pc = q.pc := by unfold Pane.stick; split <;> rfl
@[simp] theorem Pane.stick_g (q : Pane) (i : Nat) (b : Bool) : (q.stick i b).g = q.g := by unfold Pane.stick; split <;> rfl
@[simp] theorem Pane.stick_lr (q : Pane) (i : Nat) (b : Bool) : (q.stick i b).lr = q.lr := by unfold Pane.stick; split <;> rfl
@[simp] theorem Pane.stick_pred (q : Pane) (i : Nat) (b : Bool) : (q.stick i b).pred = q.pred := by unfold Pane.stick; split <;> rfl
@[simp] theorem Pane.stick_acc0 (q : Pane) (i : Nat) (b : Bool) : (q.stick i b).acc0 = q.acc0 := by unfold Pane.stick; split <;> rfl
@[simp] theorem Pane.stick_acc1 (q : Pane) (i : Nat) (b : Bool) : (q.stick i b).acc1 = q.acc1 := by unfold Pane.stick; split <;> rfl
@[simp] theorem Pane.stick_lb (q : Pane) (i : Nat) (b : Bool) : (q.stick i b).lb = q.lb := by unfold Pane.stick; split <;> rfl
@[simp] theorem Pane.stick_le (q : Pane) (i : Nat) (b : Bool) : (q.stick i b).le = q.le := by unfold Pane.stick; split <;> rfl
@[simp] theorem Pane.stick_lc (q : Pane) (i : Nat) (b : Bool) : (q.stick i b).lc = q.lc := by unfold Pane.stick; split <;> rfl
@[simp] theorem Pane.stick_frames (q : Pane) (i : Nat) (b : Bool) : (q.stick i b).frames = q.frames := by unfold Pane.stick; split <;> rfl
@[simp] theorem Pane.stick_fdepth (q : Pane) (i : Nat) (b : Bool) : (q.stick i b).fdepth = q.fdepth := by unfold Pane.stick; split <;> rfl
@[simp] theorem Pane.stick_sram (q : Pane) (i : Nat) (b : Bool) : (q.stick i b).sram = q.sram := by unfold Pane.stick; split <;> rfl
@[simp] theorem Pane.stick_ecc (q : Pane) (i : Nat) (b : Bool) : (q.stick i b).ecc = q.ecc := by unfold Pane.stick; split <;> rfl
@[simp] theorem Pane.stick_rewrite (q : Pane) (i : Nat) (b : Bool) : (q.stick i b).rewrite = q.rewrite := by unfold Pane.stick; split <;> rfl
@[simp] theorem Pane.stick_scrubPos (q : Pane) (i : Nat) (b : Bool) : (q.stick i b).scrubPos = q.scrubPos := by unfold Pane.stick; split <;> rfl
@[simp] theorem Pane.stick_ctl (q : Pane) (i : Nat) (b : Bool) : (q.stick i b).ctl = q.ctl := by unfold Pane.stick; split <;> rfl
@[simp] theorem Pane.stick_sb (q : Pane) (i : Nat) (b : Bool) : (q.stick i b).sb = q.sb := by unfold Pane.stick; split <;> rfl
@[simp] theorem Pane.stick_wreads (q : Pane) (i : Nat) (b : Bool) : (q.stick i b).wreads = q.wreads := by unfold Pane.stick; split <;> rfl
@[simp] theorem Pane.stick_wstores (q : Pane) (i : Nat) (b : Bool) : (q.stick i b).wstores = q.wstores := by unfold Pane.stick; split <;> rfl
@[simp] theorem Pane.stick_wrefused (q : Pane) (i : Nat) (b : Bool) : (q.stick i b).wrefused = q.wrefused := by unfold Pane.stick; split <;> rfl
@[simp] theorem Pane.stick_loadWaits (q : Pane) (i : Nat) (b : Bool) : (q.stick i b).loadWaits = q.loadWaits := by unfold Pane.stick; split <;> rfl
@[simp] theorem Pane.stick_entry (q : Pane) (i : Nat) (b : Bool) : (q.stick i b).entry = q.entry := by unfold Pane.stick; split <;> rfl
@[simp] theorem Pane.stick_awaits (q : Pane) (i : Nat) (b : Bool) : (q.stick i b).awaits = q.awaits := by unfold Pane.stick; split <;> rfl
@[simp] theorem Pane.stick_tag (q : Pane) (i : Nat) (b : Bool) : (q.stick i b).tag = q.tag := by unfold Pane.stick; split <;> rfl
@[simp] theorem Pane.stick_tks (q : Pane) (i : Nat) (b : Bool) : (q.stick i b).tks = q.tks := by unfold Pane.stick; split <;> rfl
@[simp] theorem Pane.stick_unacked (q : Pane) (i : Nat) (b : Bool) : (q.stick i b).unacked = q.unacked := by unfold Pane.stick; split <;> rfl
@[simp] theorem Pane.stick_reduced (q : Pane) (i : Nat) (b : Bool) : (q.stick i b).reduced = q.reduced := by unfold Pane.stick; split <;> rfl
@[simp] theorem Pane.stick_retireT (q : Pane) (i : Nat) (b : Bool) : (q.stick i b).retireT = q.retireT := by unfold Pane.stick; split <;> rfl
@[simp] theorem Pane.stick_overClose (q : Pane) (i : Nat) (b : Bool) : (q.stick i b).overClose = q.overClose := by unfold Pane.stick; split <;> rfl
@[simp] theorem Pane.stick_lastOver (q : Pane) (i : Nat) (b : Bool) : (q.stick i b).lastOver = q.lastOver := by unfold Pane.stick; split <;> rfl
@[simp] theorem Pane.stick_faulty (q : Pane) (i : Nat) (b : Bool) : (q.stick i b).faulty = q.faulty := by unfold Pane.stick; split <;> rfl
@[simp] theorem Pane.stick_mvLate (q : Pane) (i : Nat) (b : Bool) : (q.stick i b).mvLate = q.mvLate := by unfold Pane.stick; split <;> rfl
@[simp] theorem Pane.stick_chan (q : Pane) (i : Nat) (b : Bool) : (q.stick i b).chan = q.chan := by unfold Pane.stick; split <;> rfl
@[simp] theorem Pane.stick_evWr (q : Pane) (i : Nat) (b : Bool) : (q.stick i b).evWr = q.evWr := by unfold Pane.stick; split <;> rfl
@[simp] theorem Pane.stick_evUnclaimed (q : Pane) (i : Nat) (b : Bool) : (q.stick i b).evUnclaimed = q.evUnclaimed := by unfold Pane.stick; split <;> rfl
@[simp] theorem Pane.stick_evUsed (q : Pane) (i : Nat) (b : Bool) : (q.stick i b).evUsed = q.evUsed := by unfold Pane.stick; split <;> rfl
@[simp] theorem Pane.stick_evDone (q : Pane) (i : Nat) (b : Bool) : (q.stick i b).evDone = q.evDone := by unfold Pane.stick; split <;> rfl
@[simp] theorem Pane.stick_evSeq (q : Pane) (i : Nat) (b : Bool) : (q.stick i b).evSeq = q.evSeq := by unfold Pane.stick; split <;> rfl
@[simp] theorem Pane.stick_evStack (q : Pane) (i : Nat) (b : Bool) : (q.stick i b).evStack = q.evStack := by unfold Pane.stick; split <;> rfl
@[simp] theorem Pane.stick_minSlack (q : Pane) (i : Nat) (b : Bool) : (q.stick i b).minSlack = q.minSlack := by unfold Pane.stick; split <;> rfl
@[simp] theorem Pane.stick_pubs (q : Pane) (i : Nat) (b : Bool) : (q.stick i b).pubs = q.pubs := by unfold Pane.stick; split <;> rfl
@[simp] theorem Pane.stick_ceTotal (q : Pane) (i : Nat) (b : Bool) : (q.stick i b).ceTotal = q.ceTotal := by unfold Pane.stick; split <;> rfl
@[simp] theorem Pane.stick_ueTotal (q : Pane) (i : Nat) (b : Bool) : (q.stick i b).ueTotal = q.ueTotal := by unfold Pane.stick; split <;> rfl

/-! Pane.setCr. -/

@[simp] theorem Pane.setCr_phase (q : Pane) (a : Nat) (v : Word) : (q.setCr a v).phase = q.phase := rfl
@[simp] theorem Pane.setCr_pc (q : Pane) (a : Nat) (v : Word) : (q.setCr a v).pc = q.pc := rfl
@[simp] theorem Pane.setCr_g (q : Pane) (a : Nat) (v : Word) : (q.setCr a v).g = q.g := rfl
@[simp] theorem Pane.setCr_lr (q : Pane) (a : Nat) (v : Word) : (q.setCr a v).lr = q.lr := rfl
@[simp] theorem Pane.setCr_pred (q : Pane) (a : Nat) (v : Word) : (q.setCr a v).pred = q.pred := rfl
@[simp] theorem Pane.setCr_acc0 (q : Pane) (a : Nat) (v : Word) : (q.setCr a v).acc0 = q.acc0 := rfl
@[simp] theorem Pane.setCr_acc1 (q : Pane) (a : Nat) (v : Word) : (q.setCr a v).acc1 = q.acc1 := rfl
@[simp] theorem Pane.setCr_lb (q : Pane) (a : Nat) (v : Word) : (q.setCr a v).lb = q.lb := rfl
@[simp] theorem Pane.setCr_le (q : Pane) (a : Nat) (v : Word) : (q.setCr a v).le = q.le := rfl
@[simp] theorem Pane.setCr_lc (q : Pane) (a : Nat) (v : Word) : (q.setCr a v).lc = q.lc := rfl
@[simp] theorem Pane.setCr_status (q : Pane) (a : Nat) (v : Word) : (q.setCr a v).status = q.status := rfl
@[simp] theorem Pane.setCr_frames (q : Pane) (a : Nat) (v : Word) : (q.setCr a v).frames = q.frames := rfl
@[simp] theorem Pane.setCr_fdepth (q : Pane) (a : Nat) (v : Word) : (q.setCr a v).fdepth = q.fdepth := rfl
@[simp] theorem Pane.setCr_sram (q : Pane) (a : Nat) (v : Word) : (q.setCr a v).sram = q.sram := rfl
@[simp] theorem Pane.setCr_ecc (q : Pane) (a : Nat) (v : Word) : (q.setCr a v).ecc = q.ecc := rfl
@[simp] theorem Pane.setCr_rewrite (q : Pane) (a : Nat) (v : Word) : (q.setCr a v).rewrite = q.rewrite := rfl
@[simp] theorem Pane.setCr_scrubPos (q : Pane) (a : Nat) (v : Word) : (q.setCr a v).scrubPos = q.scrubPos := rfl
@[simp] theorem Pane.setCr_sb (q : Pane) (a : Nat) (v : Word) : (q.setCr a v).sb = q.sb := rfl
@[simp] theorem Pane.setCr_wreads (q : Pane) (a : Nat) (v : Word) : (q.setCr a v).wreads = q.wreads := rfl
@[simp] theorem Pane.setCr_wstores (q : Pane) (a : Nat) (v : Word) : (q.setCr a v).wstores = q.wstores := rfl
@[simp] theorem Pane.setCr_wrefused (q : Pane) (a : Nat) (v : Word) : (q.setCr a v).wrefused = q.wrefused := rfl
@[simp] theorem Pane.setCr_loadWaits (q : Pane) (a : Nat) (v : Word) : (q.setCr a v).loadWaits = q.loadWaits := rfl
@[simp] theorem Pane.setCr_entry (q : Pane) (a : Nat) (v : Word) : (q.setCr a v).entry = q.entry := rfl
@[simp] theorem Pane.setCr_awaits (q : Pane) (a : Nat) (v : Word) : (q.setCr a v).awaits = q.awaits := rfl
@[simp] theorem Pane.setCr_tag (q : Pane) (a : Nat) (v : Word) : (q.setCr a v).tag = q.tag := rfl
@[simp] theorem Pane.setCr_tks (q : Pane) (a : Nat) (v : Word) : (q.setCr a v).tks = q.tks := rfl
@[simp] theorem Pane.setCr_unacked (q : Pane) (a : Nat) (v : Word) : (q.setCr a v).unacked = q.unacked := rfl
@[simp] theorem Pane.setCr_reduced (q : Pane) (a : Nat) (v : Word) : (q.setCr a v).reduced = q.reduced := rfl
@[simp] theorem Pane.setCr_retireT (q : Pane) (a : Nat) (v : Word) : (q.setCr a v).retireT = q.retireT := rfl
@[simp] theorem Pane.setCr_overClose (q : Pane) (a : Nat) (v : Word) : (q.setCr a v).overClose = q.overClose := rfl
@[simp] theorem Pane.setCr_lastOver (q : Pane) (a : Nat) (v : Word) : (q.setCr a v).lastOver = q.lastOver := rfl
@[simp] theorem Pane.setCr_faulty (q : Pane) (a : Nat) (v : Word) : (q.setCr a v).faulty = q.faulty := rfl
@[simp] theorem Pane.setCr_mvLate (q : Pane) (a : Nat) (v : Word) : (q.setCr a v).mvLate = q.mvLate := rfl
@[simp] theorem Pane.setCr_chan (q : Pane) (a : Nat) (v : Word) : (q.setCr a v).chan = q.chan := rfl
@[simp] theorem Pane.setCr_evWr (q : Pane) (a : Nat) (v : Word) : (q.setCr a v).evWr = q.evWr := rfl
@[simp] theorem Pane.setCr_evUnclaimed (q : Pane) (a : Nat) (v : Word) : (q.setCr a v).evUnclaimed = q.evUnclaimed := rfl
@[simp] theorem Pane.setCr_evUsed (q : Pane) (a : Nat) (v : Word) : (q.setCr a v).evUsed = q.evUsed := rfl
@[simp] theorem Pane.setCr_evDone (q : Pane) (a : Nat) (v : Word) : (q.setCr a v).evDone = q.evDone := rfl
@[simp] theorem Pane.setCr_evSeq (q : Pane) (a : Nat) (v : Word) : (q.setCr a v).evSeq = q.evSeq := rfl
@[simp] theorem Pane.setCr_evStack (q : Pane) (a : Nat) (v : Word) : (q.setCr a v).evStack = q.evStack := rfl
@[simp] theorem Pane.setCr_minSlack (q : Pane) (a : Nat) (v : Word) : (q.setCr a v).minSlack = q.minSlack := rfl
@[simp] theorem Pane.setCr_pubs (q : Pane) (a : Nat) (v : Word) : (q.setCr a v).pubs = q.pubs := rfl
@[simp] theorem Pane.setCr_ceTotal (q : Pane) (a : Nat) (v : Word) : (q.setCr a v).ceTotal = q.ceTotal := rfl
@[simp] theorem Pane.setCr_ueTotal (q : Pane) (a : Nat) (v : Word) : (q.setCr a v).ueTotal = q.ueTotal := rfl

/-! Pane.retire. -/

@[simp] theorem Pane.retire_phase (q : Pane) : q.retire.phase = q.phase := rfl
@[simp] theorem Pane.retire_g (q : Pane) : q.retire.g = q.g := rfl
@[simp] theorem Pane.retire_lr (q : Pane) : q.retire.lr = q.lr := rfl
@[simp] theorem Pane.retire_pred (q : Pane) : q.retire.pred = q.pred := rfl
@[simp] theorem Pane.retire_acc0 (q : Pane) : q.retire.acc0 = q.acc0 := rfl
@[simp] theorem Pane.retire_acc1 (q : Pane) : q.retire.acc1 = q.acc1 := rfl
@[simp] theorem Pane.retire_lb (q : Pane) : q.retire.lb = q.lb := rfl
@[simp] theorem Pane.retire_le (q : Pane) : q.retire.le = q.le := rfl
@[simp] theorem Pane.retire_status (q : Pane) : q.retire.status = q.status := rfl
@[simp] theorem Pane.retire_frames (q : Pane) : q.retire.frames = q.frames := rfl
@[simp] theorem Pane.retire_fdepth (q : Pane) : q.retire.fdepth = q.fdepth := rfl
@[simp] theorem Pane.retire_sram (q : Pane) : q.retire.sram = q.sram := rfl
@[simp] theorem Pane.retire_ecc (q : Pane) : q.retire.ecc = q.ecc := rfl
@[simp] theorem Pane.retire_rewrite (q : Pane) : q.retire.rewrite = q.rewrite := rfl
@[simp] theorem Pane.retire_scrubPos (q : Pane) : q.retire.scrubPos = q.scrubPos := rfl
@[simp] theorem Pane.retire_ctl (q : Pane) : q.retire.ctl = q.ctl := rfl
@[simp] theorem Pane.retire_sb (q : Pane) : q.retire.sb = q.sb := rfl
@[simp] theorem Pane.retire_wreads (q : Pane) : q.retire.wreads = q.wreads := rfl
@[simp] theorem Pane.retire_wstores (q : Pane) : q.retire.wstores = q.wstores := rfl
@[simp] theorem Pane.retire_wrefused (q : Pane) : q.retire.wrefused = q.wrefused := rfl
@[simp] theorem Pane.retire_loadWaits (q : Pane) : q.retire.loadWaits = q.loadWaits := rfl
@[simp] theorem Pane.retire_entry (q : Pane) : q.retire.entry = q.entry := rfl
@[simp] theorem Pane.retire_awaits (q : Pane) : q.retire.awaits = q.awaits := rfl
@[simp] theorem Pane.retire_tag (q : Pane) : q.retire.tag = q.tag := rfl
@[simp] theorem Pane.retire_tks (q : Pane) : q.retire.tks = q.tks := rfl
@[simp] theorem Pane.retire_unacked (q : Pane) : q.retire.unacked = q.unacked := rfl
@[simp] theorem Pane.retire_reduced (q : Pane) : q.retire.reduced = q.reduced := rfl
@[simp] theorem Pane.retire_retireT (q : Pane) : q.retire.retireT = q.retireT := rfl
@[simp] theorem Pane.retire_overClose (q : Pane) : q.retire.overClose = q.overClose := rfl
@[simp] theorem Pane.retire_lastOver (q : Pane) : q.retire.lastOver = q.lastOver := rfl
@[simp] theorem Pane.retire_faulty (q : Pane) : q.retire.faulty = q.faulty := rfl
@[simp] theorem Pane.retire_mvLate (q : Pane) : q.retire.mvLate = q.mvLate := rfl
@[simp] theorem Pane.retire_chan (q : Pane) : q.retire.chan = q.chan := rfl
@[simp] theorem Pane.retire_evWr (q : Pane) : q.retire.evWr = q.evWr := rfl
@[simp] theorem Pane.retire_evUnclaimed (q : Pane) : q.retire.evUnclaimed = q.evUnclaimed := rfl
@[simp] theorem Pane.retire_evUsed (q : Pane) : q.retire.evUsed = q.evUsed := rfl
@[simp] theorem Pane.retire_evDone (q : Pane) : q.retire.evDone = q.evDone := rfl
@[simp] theorem Pane.retire_evSeq (q : Pane) : q.retire.evSeq = q.evSeq := rfl
@[simp] theorem Pane.retire_evStack (q : Pane) : q.retire.evStack = q.evStack := rfl
@[simp] theorem Pane.retire_minSlack (q : Pane) : q.retire.minSlack = q.minSlack := rfl
@[simp] theorem Pane.retire_pubs (q : Pane) : q.retire.pubs = q.pubs := rfl
@[simp] theorem Pane.retire_ceTotal (q : Pane) : q.retire.ceTotal = q.ceTotal := rfl
@[simp] theorem Pane.retire_ueTotal (q : Pane) : q.retire.ueTotal = q.ueTotal := rfl

/-! Pane.poke. -/

@[simp] theorem Pane.poke_phase (q : Pane) (a n v : Nat) : (q.poke a n v).phase = q.phase := rfl
@[simp] theorem Pane.poke_pc (q : Pane) (a n v : Nat) : (q.poke a n v).pc = q.pc := rfl
@[simp] theorem Pane.poke_g (q : Pane) (a n v : Nat) : (q.poke a n v).g = q.g := rfl
@[simp] theorem Pane.poke_lr (q : Pane) (a n v : Nat) : (q.poke a n v).lr = q.lr := rfl
@[simp] theorem Pane.poke_pred (q : Pane) (a n v : Nat) : (q.poke a n v).pred = q.pred := rfl
@[simp] theorem Pane.poke_acc0 (q : Pane) (a n v : Nat) : (q.poke a n v).acc0 = q.acc0 := rfl
@[simp] theorem Pane.poke_acc1 (q : Pane) (a n v : Nat) : (q.poke a n v).acc1 = q.acc1 := rfl
@[simp] theorem Pane.poke_lb (q : Pane) (a n v : Nat) : (q.poke a n v).lb = q.lb := rfl
@[simp] theorem Pane.poke_le (q : Pane) (a n v : Nat) : (q.poke a n v).le = q.le := rfl
@[simp] theorem Pane.poke_lc (q : Pane) (a n v : Nat) : (q.poke a n v).lc = q.lc := rfl
@[simp] theorem Pane.poke_status (q : Pane) (a n v : Nat) : (q.poke a n v).status = q.status := rfl
@[simp] theorem Pane.poke_frames (q : Pane) (a n v : Nat) : (q.poke a n v).frames = q.frames := rfl
@[simp] theorem Pane.poke_fdepth (q : Pane) (a n v : Nat) : (q.poke a n v).fdepth = q.fdepth := rfl
@[simp] theorem Pane.poke_ecc (q : Pane) (a n v : Nat) : (q.poke a n v).ecc = q.ecc := rfl
@[simp] theorem Pane.poke_rewrite (q : Pane) (a n v : Nat) : (q.poke a n v).rewrite = q.rewrite := rfl
@[simp] theorem Pane.poke_scrubPos (q : Pane) (a n v : Nat) : (q.poke a n v).scrubPos = q.scrubPos := rfl
@[simp] theorem Pane.poke_ctl (q : Pane) (a n v : Nat) : (q.poke a n v).ctl = q.ctl := rfl
@[simp] theorem Pane.poke_sb (q : Pane) (a n v : Nat) : (q.poke a n v).sb = q.sb := rfl
@[simp] theorem Pane.poke_wreads (q : Pane) (a n v : Nat) : (q.poke a n v).wreads = q.wreads := rfl
@[simp] theorem Pane.poke_wstores (q : Pane) (a n v : Nat) : (q.poke a n v).wstores = q.wstores := rfl
@[simp] theorem Pane.poke_wrefused (q : Pane) (a n v : Nat) : (q.poke a n v).wrefused = q.wrefused := rfl
@[simp] theorem Pane.poke_loadWaits (q : Pane) (a n v : Nat) : (q.poke a n v).loadWaits = q.loadWaits := rfl
@[simp] theorem Pane.poke_entry (q : Pane) (a n v : Nat) : (q.poke a n v).entry = q.entry := rfl
@[simp] theorem Pane.poke_awaits (q : Pane) (a n v : Nat) : (q.poke a n v).awaits = q.awaits := rfl
@[simp] theorem Pane.poke_tag (q : Pane) (a n v : Nat) : (q.poke a n v).tag = q.tag := rfl
@[simp] theorem Pane.poke_tks (q : Pane) (a n v : Nat) : (q.poke a n v).tks = q.tks := rfl
@[simp] theorem Pane.poke_unacked (q : Pane) (a n v : Nat) : (q.poke a n v).unacked = q.unacked := rfl
@[simp] theorem Pane.poke_reduced (q : Pane) (a n v : Nat) : (q.poke a n v).reduced = q.reduced := rfl
@[simp] theorem Pane.poke_retireT (q : Pane) (a n v : Nat) : (q.poke a n v).retireT = q.retireT := rfl
@[simp] theorem Pane.poke_overClose (q : Pane) (a n v : Nat) : (q.poke a n v).overClose = q.overClose := rfl
@[simp] theorem Pane.poke_lastOver (q : Pane) (a n v : Nat) : (q.poke a n v).lastOver = q.lastOver := rfl
@[simp] theorem Pane.poke_faulty (q : Pane) (a n v : Nat) : (q.poke a n v).faulty = q.faulty := rfl
@[simp] theorem Pane.poke_mvLate (q : Pane) (a n v : Nat) : (q.poke a n v).mvLate = q.mvLate := rfl
@[simp] theorem Pane.poke_chan (q : Pane) (a n v : Nat) : (q.poke a n v).chan = q.chan := rfl
@[simp] theorem Pane.poke_evWr (q : Pane) (a n v : Nat) : (q.poke a n v).evWr = q.evWr := rfl
@[simp] theorem Pane.poke_evUnclaimed (q : Pane) (a n v : Nat) : (q.poke a n v).evUnclaimed = q.evUnclaimed := rfl
@[simp] theorem Pane.poke_evUsed (q : Pane) (a n v : Nat) : (q.poke a n v).evUsed = q.evUsed := rfl
@[simp] theorem Pane.poke_evDone (q : Pane) (a n v : Nat) : (q.poke a n v).evDone = q.evDone := rfl
@[simp] theorem Pane.poke_evSeq (q : Pane) (a n v : Nat) : (q.poke a n v).evSeq = q.evSeq := rfl
@[simp] theorem Pane.poke_evStack (q : Pane) (a n v : Nat) : (q.poke a n v).evStack = q.evStack := rfl
@[simp] theorem Pane.poke_minSlack (q : Pane) (a n v : Nat) : (q.poke a n v).minSlack = q.minSlack := rfl
@[simp] theorem Pane.poke_pubs (q : Pane) (a n v : Nat) : (q.poke a n v).pubs = q.pubs := rfl
@[simp] theorem Pane.poke_ceTotal (q : Pane) (a n v : Nat) : (q.poke a n v).ceTotal = q.ceTotal := rfl
@[simp] theorem Pane.poke_ueTotal (q : Pane) (a n v : Nat) : (q.poke a n v).ueTotal = q.ueTotal := rfl

end Sys2Proof.Machine
end

