-- ==== Sys2Proof/Laws/State.lean ====
section
/-!
SUPPORT. What the plain updates of the state leave alone, field by field, and what they read back as.
-/
namespace Sys2Proof.Machine

/-! State.setPane. -/

@[simp] theorem State.setPane_now (s : State) (p : Nat) (q : Pane) : (s.setPane p q).now = s.now := rfl
@[simp] theorem State.setPane_part (s : State) (p : Nat) (q : Pane) : (s.setPane p q).part = s.part := rfl
@[simp] theorem State.setPane_causes (s : State) (p : Nat) (q : Pane) : (s.setPane p q).causes = s.causes := rfl
@[simp] theorem State.setPane_tick (s : State) (p : Nat) (q : Pane) : (s.setPane p q).tick = s.tick := rfl
@[simp] theorem State.setPane_inBnd (s : State) (p : Nat) (q : Pane) : (s.setPane p q).inBnd = s.inBnd := rfl
@[simp] theorem State.setPane_readyBnd (s : State) (p : Nat) (q : Pane) : (s.setPane p q).readyBnd = s.readyBnd := rfl
@[simp] theorem State.setPane_tickOut (s : State) (p : Nat) (q : Pane) : (s.setPane p q).tickOut = s.tickOut := rfl
@[simp] theorem State.setPane_stamps (s : State) (p : Nat) (q : Pane) : (s.setPane p q).stamps = s.stamps := rfl
@[simp] theorem State.setPane_gen (s : State) (p : Nat) (q : Pane) : (s.setPane p q).gen = s.gen := rfl
@[simp] theorem State.setPane_locked (s : State) (p : Nat) (q : Pane) : (s.setPane p q).locked = s.locked := rfl
@[simp] theorem State.setPane_img (s : State) (p : Nat) (q : Pane) : (s.setPane p q).img = s.img := rfl
@[simp] theorem State.setPane_imgRaw (s : State) (p : Nat) (q : Pane) : (s.setPane p q).imgRaw = s.imgRaw := rfl
@[simp] theorem State.setPane_reg (s : State) (p : Nat) (q : Pane) : (s.setPane p q).reg = s.reg := rfl
@[simp] theorem State.setPane_mesh (s : State) (p : Nat) (q : Pane) : (s.setPane p q).mesh = s.mesh := rfl
@[simp] theorem State.setPane_held (s : State) (p : Nat) (q : Pane) : (s.setPane p q).held = s.held := rfl
@[simp] theorem State.setPane_nextId (s : State) (p : Nat) (q : Pane) : (s.setPane p q).nextId = s.nextId := rfl
@[simp] theorem State.setPane_deadRouters (s : State) (p : Nat) (q : Pane) : (s.setPane p q).deadRouters = s.deadRouters := rfl
@[simp] theorem State.setPane_routedAround (s : State) (p : Nat) (q : Pane) : (s.setPane p q).routedAround = s.routedAround := rfl
@[simp] theorem State.setPane_relays (s : State) (p : Nat) (q : Pane) : (s.setPane p q).relays = s.relays := rfl
@[simp] theorem State.setPane_takeovers (s : State) (p : Nat) (q : Pane) : (s.setPane p q).takeovers = s.takeovers := rfl
@[simp] theorem State.setPane_lastC (s : State) (p : Nat) (q : Pane) : (s.setPane p q).lastC = s.lastC := rfl
@[simp] theorem State.setPane_routesDue (s : State) (p : Nat) (q : Pane) : (s.setPane p q).routesDue = s.routesDue := rfl
@[simp] theorem State.setPane_retireDue (s : State) (p : Nat) (q : Pane) : (s.setPane p q).retireDue = s.retireDue := rfl
@[simp] theorem State.setPane_groupCls (s : State) (p : Nat) (q : Pane) : (s.setPane p q).groupCls = s.groupCls := rfl
@[simp] theorem State.setPane_red (s : State) (p : Nat) (q : Pane) : (s.setPane p q).red = s.red := rfl
@[simp] theorem State.setPane_redHeld (s : State) (p : Nat) (q : Pane) : (s.setPane p q).redHeld = s.redHeld := rfl
@[simp] theorem State.setPane_wicketOut (s : State) (p : Nat) (q : Pane) : (s.setPane p q).wicketOut = s.wicketOut := rfl
@[simp] theorem State.setPane_links (s : State) (p : Nat) (q : Pane) : (s.setPane p q).links = s.links := rfl
@[simp] theorem State.setPane_tokens (s : State) (p : Nat) (q : Pane) : (s.setPane p q).tokens = s.tokens := rfl
@[simp] theorem State.setPane_readySeen (s : State) (p : Nat) (q : Pane) : (s.setPane p q).readySeen = s.readySeen := rfl
@[simp] theorem State.setPane_tokenLate (s : State) (p : Nat) (q : Pane) : (s.setPane p q).tokenLate = s.tokenLate := rfl
@[simp] theorem State.setPane_lateNow (s : State) (p : Nat) (q : Pane) : (s.setPane p q).lateNow = s.lateNow := rfl
@[simp] theorem State.setPane_tokenEvents (s : State) (p : Nat) (q : Pane) : (s.setPane p q).tokenEvents = s.tokenEvents := rfl
@[simp] theorem State.setPane_ctlOut (s : State) (p : Nat) (q : Pane) : (s.setPane p q).ctlOut = s.ctlOut := rfl
@[simp] theorem State.setPane_digestOk (s : State) (p : Nat) (q : Pane) : (s.setPane p q).digestOk = s.digestOk := rfl
@[simp] theorem State.setPane_redRes (s : State) (p : Nat) (q : Pane) : (s.setPane p q).redRes = s.redRes := rfl
@[simp] theorem State.setPane_lanes (s : State) (p : Nat) (q : Pane) : (s.setPane p q).lanes = s.lanes := rfl
@[simp] theorem State.setPane_sipSeen (s : State) (p : Nat) (q : Pane) : (s.setPane p q).sipSeen = s.sipSeen := rfl
@[simp] theorem State.setPane_streamF (s : State) (p : Nat) (q : Pane) : (s.setPane p q).streamF = s.streamF := rfl
@[simp] theorem State.setPane_drv (s : State) (p : Nat) (q : Pane) : (s.setPane p q).drv = s.drv := rfl
@[simp] theorem State.setPane_drvDue (s : State) (p : Nat) (q : Pane) : (s.setPane p q).drvDue = s.drvDue := rfl
@[simp] theorem State.setPane_drvOut (s : State) (p : Nat) (q : Pane) : (s.setPane p q).drvOut = s.drvOut := rfl
@[simp] theorem State.setPane_bolt (s : State) (p : Nat) (q : Pane) : (s.setPane p q).bolt = s.bolt := rfl
@[simp] theorem State.setPane_bufs (s : State) (p : Nat) (q : Pane) : (s.setPane p q).bufs = s.bufs := rfl
@[simp] theorem State.setPane_bufEcc (s : State) (p : Nat) (q : Pane) : (s.setPane p q).bufEcc = s.bufEcc := rfl
@[simp] theorem State.setPane_dram (s : State) (p : Nat) (q : Pane) : (s.setPane p q).dram = s.dram := rfl
@[simp] theorem State.setPane_dramEcc (s : State) (p : Nat) (q : Pane) : (s.setPane p q).dramEcc = s.dramEcc := rfl
@[simp] theorem State.setPane_movers (s : State) (p : Nat) (q : Pane) : (s.setPane p q).movers = s.movers := rfl
@[simp] theorem State.setPane_rdata (s : State) (p : Nat) (q : Pane) : (s.setPane p q).rdata = s.rdata := rfl
@[simp] theorem State.setPane_bells (s : State) (p : Nat) (q : Pane) : (s.setPane p q).bells = s.bells := rfl
@[simp] theorem State.setPane_arrivals (s : State) (p : Nat) (q : Pane) : (s.setPane p q).arrivals = s.arrivals := rfl
@[simp] theorem State.setPane_doms (s : State) (p : Nat) (q : Pane) : (s.setPane p q).doms = s.doms := rfl
@[simp] theorem State.setPane_latchReps (s : State) (p : Nat) (q : Pane) : (s.setPane p q).latchReps = s.latchReps := rfl
@[simp] theorem State.setPane_lintelReps (s : State) (p : Nat) (q : Pane) : (s.setPane p q).lintelReps = s.lintelReps := rfl
@[simp] theorem State.setPane_ledger (s : State) (p : Nat) (q : Pane) : (s.setPane p q).ledger = s.ledger := rfl
@[simp] theorem State.setPane_branchMasked (s : State) (p : Nat) (q : Pane) : (s.setPane p q).branchMasked = s.branchMasked := rfl
@[simp] theorem State.setPane_missed (s : State) (p : Nat) (q : Pane) : (s.setPane p q).missed = s.missed := rfl
@[simp] theorem State.setPane_ceSeen (s : State) (p : Nat) (q : Pane) : (s.setPane p q).ceSeen = s.ceSeen := rfl
@[simp] theorem State.setPane_ceWin (s : State) (p : Nat) (q : Pane) : (s.setPane p q).ceWin = s.ceWin := rfl
@[simp] theorem State.setPane_ceRecorded (s : State) (p : Nat) (q : Pane) : (s.setPane p q).ceRecorded = s.ceRecorded := rfl
@[simp] theorem State.setPane_mbs (s : State) (p : Nat) (q : Pane) : (s.setPane p q).mbs = s.mbs := rfl
@[simp] theorem State.setPane_mbLatch (s : State) (p : Nat) (q : Pane) : (s.setPane p q).mbLatch = s.mbLatch := rfl
@[simp] theorem State.setPane_sill (s : State) (p : Nat) (q : Pane) : (s.setPane p q).sill = s.sill := rfl
@[simp] theorem State.setPane_miso (s : State) (p : Nat) (q : Pane) : (s.setPane p q).miso = s.miso := rfl
@[simp] theorem State.setPane_winBusy (s : State) (p : Nat) (q : Pane) : (s.setPane p q).winBusy = s.winBusy := rfl
@[simp] theorem State.setPane_winHeld (s : State) (p : Nat) (q : Pane) : (s.setPane p q).winHeld = s.winHeld := rfl
@[simp] theorem State.setPane_bridge (s : State) (p : Nat) (q : Pane) : (s.setPane p q).bridge = s.bridge := rfl
@[simp] theorem State.setPane_nor (s : State) (p : Nat) (q : Pane) : (s.setPane p q).nor = s.nor := rfl
@[simp] theorem State.setPane_severRep (s : State) (p : Nat) (q : Pane) : (s.setPane p q).severRep = s.severRep := rfl
@[simp] theorem State.setPane_logq (s : State) (p : Nat) (q : Pane) : (s.setPane p q).logq = s.logq := rfl
@[simp] theorem State.setPane_clamps (s : State) (p : Nat) (q : Pane) : (s.setPane p q).clamps = s.clamps := rfl
@[simp] theorem State.setPane_net (s : State) (p : Nat) (q : Pane) : (s.setPane p q).net = s.net := rfl
@[simp] theorem State.setPane_shut (s : State) (p : Nat) (q : Pane) : (s.setPane p q).shut = s.shut := rfl
@[simp] theorem State.setPane_gpioHigh (s : State) (p : Nat) (q : Pane) : (s.setPane p q).gpioHigh = s.gpioHigh := rfl
@[simp] theorem State.setPane_otp (s : State) (p : Nat) (q : Pane) : (s.setPane p q).otp = s.otp := rfl
@[simp] theorem State.setPane_keyholes (s : State) (p : Nat) (q : Pane) : (s.setPane p q).keyholes = s.keyholes := rfl
@[simp] theorem State.setPane_latchKeys (s : State) (p : Nat) (q : Pane) : (s.setPane p q).latchKeys = s.latchKeys := rfl
@[simp] theorem State.setPane_roster (s : State) (p : Nat) (q : Pane) : (s.setPane p q).roster = s.roster := rfl
@[simp] theorem State.setPane_logs (s : State) (p : Nat) (q : Pane) : (s.setPane p q).logs = s.logs := rfl
@[simp] theorem State.setPane_aon (s : State) (p : Nat) (q : Pane) : (s.setPane p q).aon = s.aon := rfl
@[simp] theorem State.setPane_norRec (s : State) (p : Nat) (q : Pane) : (s.setPane p q).norRec = s.norRec := rfl
@[simp] theorem State.setPane_norSize (s : State) (p : Nat) (q : Pane) : (s.setPane p q).norSize = s.norSize := rfl
@[simp] theorem State.setPane_inReset (s : State) (p : Nat) (q : Pane) : (s.setPane p q).inReset = s.inReset := rfl
@[simp] theorem State.setPane_resetLow (s : State) (p : Nat) (q : Pane) : (s.setPane p q).resetLow = s.resetLow := rfl
@[simp] theorem State.setPane_tap (s : State) (p : Nat) (q : Pane) : (s.setPane p q).tap = s.tap := rfl
@[simp] theorem State.setPane_lostSupplies (s : State) (p : Nat) (q : Pane) : (s.setPane p q).lostSupplies = s.lostSupplies := rfl
@[simp] theorem State.setPane_railLow (s : State) (p : Nat) (q : Pane) : (s.setPane p q).railLow = s.railLow := rfl
@[simp] theorem State.setPane_refLost (s : State) (p : Nat) (q : Pane) : (s.setPane p q).refLost = s.refLost := rfl
@[simp] theorem State.setPane_gpio (s : State) (p : Nat) (q : Pane) : (s.setPane p q).gpio = s.gpio := rfl
@[simp] theorem State.setPane_gpioIn (s : State) (p : Nat) (q : Pane) : (s.setPane p q).gpioIn = s.gpioIn := rfl
@[simp] theorem State.setPane_free (s : State) (p : Nat) (q : Pane) : (s.setPane p q).free = s.free := rfl
@[simp] theorem State.setPane_pending (s : State) (p : Nat) (q : Pane) : (s.setPane p q).pending = s.pending := rfl

/-! State.wr. -/

@[simp] theorem State.wr_now (s : State) (a : Nat) (v : Word) : (s.wr a v).now = s.now := rfl
@[simp] theorem State.wr_part (s : State) (a : Nat) (v : Word) : (s.wr a v).part = s.part := rfl
@[simp] theorem State.wr_causes (s : State) (a : Nat) (v : Word) : (s.wr a v).causes = s.causes := rfl
@[simp] theorem State.wr_tick (s : State) (a : Nat) (v : Word) : (s.wr a v).tick = s.tick := rfl
@[simp] theorem State.wr_inBnd (s : State) (a : Nat) (v : Word) : (s.wr a v).inBnd = s.inBnd := rfl
@[simp] theorem State.wr_readyBnd (s : State) (a : Nat) (v : Word) : (s.wr a v).readyBnd = s.readyBnd := rfl
@[simp] theorem State.wr_tickOut (s : State) (a : Nat) (v : Word) : (s.wr a v).tickOut = s.tickOut := rfl
@[simp] theorem State.wr_stamps (s : State) (a : Nat) (v : Word) : (s.wr a v).stamps = s.stamps := rfl
@[simp] theorem State.wr_gen (s : State) (a : Nat) (v : Word) : (s.wr a v).gen = s.gen := rfl
@[simp] theorem State.wr_locked (s : State) (a : Nat) (v : Word) : (s.wr a v).locked = s.locked := rfl
@[simp] theorem State.wr_img (s : State) (a : Nat) (v : Word) : (s.wr a v).img = s.img := rfl
@[simp] theorem State.wr_imgRaw (s : State) (a : Nat) (v : Word) : (s.wr a v).imgRaw = s.imgRaw := rfl
@[simp] theorem State.wr_panes (s : State) (a : Nat) (v : Word) : (s.wr a v).panes = s.panes := rfl
@[simp] theorem State.wr_mesh (s : State) (a : Nat) (v : Word) : (s.wr a v).mesh = s.mesh := rfl
@[simp] theorem State.wr_held (s : State) (a : Nat) (v : Word) : (s.wr a v).held = s.held := rfl
@[simp] theorem State.wr_nextId (s : State) (a : Nat) (v : Word) : (s.wr a v).nextId = s.nextId := rfl
@[simp] theorem State.wr_deadRouters (s : State) (a : Nat) (v : Word) : (s.wr a v).deadRouters = s.deadRouters := rfl
@[simp] theorem State.wr_routedAround (s : State) (a : Nat) (v : Word) : (s.wr a v).routedAround = s.routedAround := rfl
@[simp] theorem State.wr_relays (s : State) (a : Nat) (v : Word) : (s.wr a v).relays = s.relays := rfl
@[simp] theorem State.wr_takeovers (s : State) (a : Nat) (v : Word) : (s.wr a v).takeovers = s.takeovers := rfl
@[simp] theorem State.wr_lastC (s : State) (a : Nat) (v : Word) : (s.wr a v).lastC = s.lastC := rfl
@[simp] theorem State.wr_routesDue (s : State) (a : Nat) (v : Word) : (s.wr a v).routesDue = s.routesDue := rfl
@[simp] theorem State.wr_retireDue (s : State) (a : Nat) (v : Word) : (s.wr a v).retireDue = s.retireDue := rfl
@[simp] theorem State.wr_groupCls (s : State) (a : Nat) (v : Word) : (s.wr a v).groupCls = s.groupCls := rfl
@[simp] theorem State.wr_red (s : State) (a : Nat) (v : Word) : (s.wr a v).red = s.red := rfl
@[simp] theorem State.wr_redHeld (s : State) (a : Nat) (v : Word) : (s.wr a v).redHeld = s.redHeld := rfl
@[simp] theorem State.wr_wicketOut (s : State) (a : Nat) (v : Word) : (s.wr a v).wicketOut = s.wicketOut := rfl
@[simp] theorem State.wr_links (s : State) (a : Nat) (v : Word) : (s.wr a v).links = s.links := rfl
@[simp] theorem State.wr_tokens (s : State) (a : Nat) (v : Word) : (s.wr a v).tokens = s.tokens := rfl
@[simp] theorem State.wr_readySeen (s : State) (a : Nat) (v : Word) : (s.wr a v).readySeen = s.readySeen := rfl
@[simp] theorem State.wr_tokenLate (s : State) (a : Nat) (v : Word) : (s.wr a v).tokenLate = s.tokenLate := rfl
@[simp] theorem State.wr_lateNow (s : State) (a : Nat) (v : Word) : (s.wr a v).lateNow = s.lateNow := rfl
@[simp] theorem State.wr_tokenEvents (s : State) (a : Nat) (v : Word) : (s.wr a v).tokenEvents = s.tokenEvents := rfl
@[simp] theorem State.wr_ctlOut (s : State) (a : Nat) (v : Word) : (s.wr a v).ctlOut = s.ctlOut := rfl
@[simp] theorem State.wr_digestOk (s : State) (a : Nat) (v : Word) : (s.wr a v).digestOk = s.digestOk := rfl
@[simp] theorem State.wr_redRes (s : State) (a : Nat) (v : Word) : (s.wr a v).redRes = s.redRes := rfl
@[simp] theorem State.wr_lanes (s : State) (a : Nat) (v : Word) : (s.wr a v).lanes = s.lanes := rfl
@[simp] theorem State.wr_sipSeen (s : State) (a : Nat) (v : Word) : (s.wr a v).sipSeen = s.sipSeen := rfl
@[simp] theorem State.wr_streamF (s : State) (a : Nat) (v : Word) : (s.wr a v).streamF = s.streamF := rfl
@[simp] theorem State.wr_drv (s : State) (a : Nat) (v : Word) : (s.wr a v).drv = s.drv := rfl
@[simp] theorem State.wr_drvDue (s : State) (a : Nat) (v : Word) : (s.wr a v).drvDue = s.drvDue := rfl
@[simp] theorem State.wr_drvOut (s : State) (a : Nat) (v : Word) : (s.wr a v).drvOut = s.drvOut := rfl
@[simp] theorem State.wr_bolt (s : State) (a : Nat) (v : Word) : (s.wr a v).bolt = s.bolt := rfl
@[simp] theorem State.wr_bufs (s : State) (a : Nat) (v : Word) : (s.wr a v).bufs = s.bufs := rfl
@[simp] theorem State.wr_bufEcc (s : State) (a : Nat) (v : Word) : (s.wr a v).bufEcc = s.bufEcc := rfl
@[simp] theorem State.wr_dram (s : State) (a : Nat) (v : Word) : (s.wr a v).dram = s.dram := rfl
@[simp] theorem State.wr_dramEcc (s : State) (a : Nat) (v : Word) : (s.wr a v).dramEcc = s.dramEcc := rfl
@[simp] theorem State.wr_movers (s : State) (a : Nat) (v : Word) : (s.wr a v).movers = s.movers := rfl
@[simp] theorem State.wr_rdata (s : State) (a : Nat) (v : Word) : (s.wr a v).rdata = s.rdata := rfl
@[simp] theorem State.wr_bells (s : State) (a : Nat) (v : Word) : (s.wr a v).bells = s.bells := rfl
@[simp] theorem State.wr_arrivals (s : State) (a : Nat) (v : Word) : (s.wr a v).arrivals = s.arrivals := rfl
@[simp] theorem State.wr_doms (s : State) (a : Nat) (v : Word) : (s.wr a v).doms = s.doms := rfl
@[simp] theorem State.wr_latchReps (s : State) (a : Nat) (v : Word) : (s.wr a v).latchReps = s.latchReps := rfl
@[simp] theorem State.wr_lintelReps (s : State) (a : Nat) (v : Word) : (s.wr a v).lintelReps = s.lintelReps := rfl
@[simp] theorem State.wr_ledger (s : State) (a : Nat) (v : Word) : (s.wr a v).ledger = s.ledger := rfl
@[simp] theorem State.wr_branchMasked (s : State) (a : Nat) (v : Word) : (s.wr a v).branchMasked = s.branchMasked := rfl
@[simp] theorem State.wr_missed (s : State) (a : Nat) (v : Word) : (s.wr a v).missed = s.missed := rfl
@[simp] theorem State.wr_ceSeen (s : State) (a : Nat) (v : Word) : (s.wr a v).ceSeen = s.ceSeen := rfl
@[simp] theorem State.wr_ceWin (s : State) (a : Nat) (v : Word) : (s.wr a v).ceWin = s.ceWin := rfl
@[simp] theorem State.wr_ceRecorded (s : State) (a : Nat) (v : Word) : (s.wr a v).ceRecorded = s.ceRecorded := rfl
@[simp] theorem State.wr_mbs (s : State) (a : Nat) (v : Word) : (s.wr a v).mbs = s.mbs := rfl
@[simp] theorem State.wr_mbLatch (s : State) (a : Nat) (v : Word) : (s.wr a v).mbLatch = s.mbLatch := rfl
@[simp] theorem State.wr_sill (s : State) (a : Nat) (v : Word) : (s.wr a v).sill = s.sill := rfl
@[simp] theorem State.wr_miso (s : State) (a : Nat) (v : Word) : (s.wr a v).miso = s.miso := rfl
@[simp] theorem State.wr_winBusy (s : State) (a : Nat) (v : Word) : (s.wr a v).winBusy = s.winBusy := rfl
@[simp] theorem State.wr_winHeld (s : State) (a : Nat) (v : Word) : (s.wr a v).winHeld = s.winHeld := rfl
@[simp] theorem State.wr_bridge (s : State) (a : Nat) (v : Word) : (s.wr a v).bridge = s.bridge := rfl
@[simp] theorem State.wr_nor (s : State) (a : Nat) (v : Word) : (s.wr a v).nor = s.nor := rfl
@[simp] theorem State.wr_severRep (s : State) (a : Nat) (v : Word) : (s.wr a v).severRep = s.severRep := rfl
@[simp] theorem State.wr_logq (s : State) (a : Nat) (v : Word) : (s.wr a v).logq = s.logq := rfl
@[simp] theorem State.wr_clamps (s : State) (a : Nat) (v : Word) : (s.wr a v).clamps = s.clamps := rfl
@[simp] theorem State.wr_net (s : State) (a : Nat) (v : Word) : (s.wr a v).net = s.net := rfl
@[simp] theorem State.wr_shut (s : State) (a : Nat) (v : Word) : (s.wr a v).shut = s.shut := rfl
@[simp] theorem State.wr_gpioHigh (s : State) (a : Nat) (v : Word) : (s.wr a v).gpioHigh = s.gpioHigh := rfl
@[simp] theorem State.wr_otp (s : State) (a : Nat) (v : Word) : (s.wr a v).otp = s.otp := rfl
@[simp] theorem State.wr_keyholes (s : State) (a : Nat) (v : Word) : (s.wr a v).keyholes = s.keyholes := rfl
@[simp] theorem State.wr_latchKeys (s : State) (a : Nat) (v : Word) : (s.wr a v).latchKeys = s.latchKeys := rfl
@[simp] theorem State.wr_roster (s : State) (a : Nat) (v : Word) : (s.wr a v).roster = s.roster := rfl
@[simp] theorem State.wr_logs (s : State) (a : Nat) (v : Word) : (s.wr a v).logs = s.logs := rfl
@[simp] theorem State.wr_aon (s : State) (a : Nat) (v : Word) : (s.wr a v).aon = s.aon := rfl
@[simp] theorem State.wr_norRec (s : State) (a : Nat) (v : Word) : (s.wr a v).norRec = s.norRec := rfl
@[simp] theorem State.wr_norSize (s : State) (a : Nat) (v : Word) : (s.wr a v).norSize = s.norSize := rfl
@[simp] theorem State.wr_inReset (s : State) (a : Nat) (v : Word) : (s.wr a v).inReset = s.inReset := rfl
@[simp] theorem State.wr_resetLow (s : State) (a : Nat) (v : Word) : (s.wr a v).resetLow = s.resetLow := rfl
@[simp] theorem State.wr_tap (s : State) (a : Nat) (v : Word) : (s.wr a v).tap = s.tap := rfl
@[simp] theorem State.wr_lostSupplies (s : State) (a : Nat) (v : Word) : (s.wr a v).lostSupplies = s.lostSupplies := rfl
@[simp] theorem State.wr_railLow (s : State) (a : Nat) (v : Word) : (s.wr a v).railLow = s.railLow := rfl
@[simp] theorem State.wr_refLost (s : State) (a : Nat) (v : Word) : (s.wr a v).refLost = s.refLost := rfl
@[simp] theorem State.wr_gpio (s : State) (a : Nat) (v : Word) : (s.wr a v).gpio = s.gpio := rfl
@[simp] theorem State.wr_gpioIn (s : State) (a : Nat) (v : Word) : (s.wr a v).gpioIn = s.gpioIn := rfl
@[simp] theorem State.wr_free (s : State) (a : Nat) (v : Word) : (s.wr a v).free = s.free := rfl
@[simp] theorem State.wr_pending (s : State) (a : Nat) (v : Word) : (s.wr a v).pending = s.pending := rfl

/-! State.setDom. -/

@[simp] theorem State.setDom_now (s : State) (d : Nat) (x : Dom) : (s.setDom d x).now = s.now := rfl
@[simp] theorem State.setDom_part (s : State) (d : Nat) (x : Dom) : (s.setDom d x).part = s.part := rfl
@[simp] theorem State.setDom_causes (s : State) (d : Nat) (x : Dom) : (s.setDom d x).causes = s.causes := rfl
@[simp] theorem State.setDom_tick (s : State) (d : Nat) (x : Dom) : (s.setDom d x).tick = s.tick := rfl
@[simp] theorem State.setDom_inBnd (s : State) (d : Nat) (x : Dom) : (s.setDom d x).inBnd = s.inBnd := rfl
@[simp] theorem State.setDom_readyBnd (s : State) (d : Nat) (x : Dom) : (s.setDom d x).readyBnd = s.readyBnd := rfl
@[simp] theorem State.setDom_tickOut (s : State) (d : Nat) (x : Dom) : (s.setDom d x).tickOut = s.tickOut := rfl
@[simp] theorem State.setDom_stamps (s : State) (d : Nat) (x : Dom) : (s.setDom d x).stamps = s.stamps := rfl
@[simp] theorem State.setDom_gen (s : State) (d : Nat) (x : Dom) : (s.setDom d x).gen = s.gen := rfl
@[simp] theorem State.setDom_locked (s : State) (d : Nat) (x : Dom) : (s.setDom d x).locked = s.locked := rfl
@[simp] theorem State.setDom_img (s : State) (d : Nat) (x : Dom) : (s.setDom d x).img = s.img := rfl
@[simp] theorem State.setDom_imgRaw (s : State) (d : Nat) (x : Dom) : (s.setDom d x).imgRaw = s.imgRaw := rfl
@[simp] theorem State.setDom_reg (s : State) (d : Nat) (x : Dom) : (s.setDom d x).reg = s.reg := rfl
@[simp] theorem State.setDom_panes (s : State) (d : Nat) (x : Dom) : (s.setDom d x).panes = s.panes := rfl
@[simp] theorem State.setDom_mesh (s : State) (d : Nat) (x : Dom) : (s.setDom d x).mesh = s.mesh := rfl
@[simp] theorem State.setDom_held (s : State) (d : Nat) (x : Dom) : (s.setDom d x).held = s.held := rfl
@[simp] theorem State.setDom_nextId (s : State) (d : Nat) (x : Dom) : (s.setDom d x).nextId = s.nextId := rfl
@[simp] theorem State.setDom_deadRouters (s : State) (d : Nat) (x : Dom) : (s.setDom d x).deadRouters = s.deadRouters := rfl
@[simp] theorem State.setDom_routedAround (s : State) (d : Nat) (x : Dom) : (s.setDom d x).routedAround = s.routedAround := rfl
@[simp] theorem State.setDom_relays (s : State) (d : Nat) (x : Dom) : (s.setDom d x).relays = s.relays := rfl
@[simp] theorem State.setDom_takeovers (s : State) (d : Nat) (x : Dom) : (s.setDom d x).takeovers = s.takeovers := rfl
@[simp] theorem State.setDom_lastC (s : State) (d : Nat) (x : Dom) : (s.setDom d x).lastC = s.lastC := rfl
@[simp] theorem State.setDom_routesDue (s : State) (d : Nat) (x : Dom) : (s.setDom d x).routesDue = s.routesDue := rfl
@[simp] theorem State.setDom_retireDue (s : State) (d : Nat) (x : Dom) : (s.setDom d x).retireDue = s.retireDue := rfl
@[simp] theorem State.setDom_groupCls (s : State) (d : Nat) (x : Dom) : (s.setDom d x).groupCls = s.groupCls := rfl
@[simp] theorem State.setDom_red (s : State) (d : Nat) (x : Dom) : (s.setDom d x).red = s.red := rfl
@[simp] theorem State.setDom_redHeld (s : State) (d : Nat) (x : Dom) : (s.setDom d x).redHeld = s.redHeld := rfl
@[simp] theorem State.setDom_wicketOut (s : State) (d : Nat) (x : Dom) : (s.setDom d x).wicketOut = s.wicketOut := rfl
@[simp] theorem State.setDom_links (s : State) (d : Nat) (x : Dom) : (s.setDom d x).links = s.links := rfl
@[simp] theorem State.setDom_tokens (s : State) (d : Nat) (x : Dom) : (s.setDom d x).tokens = s.tokens := rfl
@[simp] theorem State.setDom_readySeen (s : State) (d : Nat) (x : Dom) : (s.setDom d x).readySeen = s.readySeen := rfl
@[simp] theorem State.setDom_tokenLate (s : State) (d : Nat) (x : Dom) : (s.setDom d x).tokenLate = s.tokenLate := rfl
@[simp] theorem State.setDom_lateNow (s : State) (d : Nat) (x : Dom) : (s.setDom d x).lateNow = s.lateNow := rfl
@[simp] theorem State.setDom_tokenEvents (s : State) (d : Nat) (x : Dom) : (s.setDom d x).tokenEvents = s.tokenEvents := rfl
@[simp] theorem State.setDom_ctlOut (s : State) (d : Nat) (x : Dom) : (s.setDom d x).ctlOut = s.ctlOut := rfl
@[simp] theorem State.setDom_digestOk (s : State) (d : Nat) (x : Dom) : (s.setDom d x).digestOk = s.digestOk := rfl
@[simp] theorem State.setDom_redRes (s : State) (d : Nat) (x : Dom) : (s.setDom d x).redRes = s.redRes := rfl
@[simp] theorem State.setDom_lanes (s : State) (d : Nat) (x : Dom) : (s.setDom d x).lanes = s.lanes := rfl
@[simp] theorem State.setDom_sipSeen (s : State) (d : Nat) (x : Dom) : (s.setDom d x).sipSeen = s.sipSeen := rfl
@[simp] theorem State.setDom_streamF (s : State) (d : Nat) (x : Dom) : (s.setDom d x).streamF = s.streamF := rfl
@[simp] theorem State.setDom_drv (s : State) (d : Nat) (x : Dom) : (s.setDom d x).drv = s.drv := rfl
@[simp] theorem State.setDom_drvDue (s : State) (d : Nat) (x : Dom) : (s.setDom d x).drvDue = s.drvDue := rfl
@[simp] theorem State.setDom_drvOut (s : State) (d : Nat) (x : Dom) : (s.setDom d x).drvOut = s.drvOut := rfl
@[simp] theorem State.setDom_bolt (s : State) (d : Nat) (x : Dom) : (s.setDom d x).bolt = s.bolt := rfl
@[simp] theorem State.setDom_bufs (s : State) (d : Nat) (x : Dom) : (s.setDom d x).bufs = s.bufs := rfl
@[simp] theorem State.setDom_bufEcc (s : State) (d : Nat) (x : Dom) : (s.setDom d x).bufEcc = s.bufEcc := rfl
@[simp] theorem State.setDom_dram (s : State) (d : Nat) (x : Dom) : (s.setDom d x).dram = s.dram := rfl
@[simp] theorem State.setDom_dramEcc (s : State) (d : Nat) (x : Dom) : (s.setDom d x).dramEcc = s.dramEcc := rfl
@[simp] theorem State.setDom_movers (s : State) (d : Nat) (x : Dom) : (s.setDom d x).movers = s.movers := rfl
@[simp] theorem State.setDom_rdata (s : State) (d : Nat) (x : Dom) : (s.setDom d x).rdata = s.rdata := rfl
@[simp] theorem State.setDom_bells (s : State) (d : Nat) (x : Dom) : (s.setDom d x).bells = s.bells := rfl
@[simp] theorem State.setDom_arrivals (s : State) (d : Nat) (x : Dom) : (s.setDom d x).arrivals = s.arrivals := rfl
@[simp] theorem State.setDom_latchReps (s : State) (d : Nat) (x : Dom) : (s.setDom d x).latchReps = s.latchReps := rfl
@[simp] theorem State.setDom_lintelReps (s : State) (d : Nat) (x : Dom) : (s.setDom d x).lintelReps = s.lintelReps := rfl
@[simp] theorem State.setDom_ledger (s : State) (d : Nat) (x : Dom) : (s.setDom d x).ledger = s.ledger := rfl
@[simp] theorem State.setDom_branchMasked (s : State) (d : Nat) (x : Dom) : (s.setDom d x).branchMasked = s.branchMasked := rfl
@[simp] theorem State.setDom_missed (s : State) (d : Nat) (x : Dom) : (s.setDom d x).missed = s.missed := rfl
@[simp] theorem State.setDom_ceSeen (s : State) (d : Nat) (x : Dom) : (s.setDom d x).ceSeen = s.ceSeen := rfl
@[simp] theorem State.setDom_ceWin (s : State) (d : Nat) (x : Dom) : (s.setDom d x).ceWin = s.ceWin := rfl
@[simp] theorem State.setDom_ceRecorded (s : State) (d : Nat) (x : Dom) : (s.setDom d x).ceRecorded = s.ceRecorded := rfl
@[simp] theorem State.setDom_mbs (s : State) (d : Nat) (x : Dom) : (s.setDom d x).mbs = s.mbs := rfl
@[simp] theorem State.setDom_mbLatch (s : State) (d : Nat) (x : Dom) : (s.setDom d x).mbLatch = s.mbLatch := rfl
@[simp] theorem State.setDom_sill (s : State) (d : Nat) (x : Dom) : (s.setDom d x).sill = s.sill := rfl
@[simp] theorem State.setDom_miso (s : State) (d : Nat) (x : Dom) : (s.setDom d x).miso = s.miso := rfl
@[simp] theorem State.setDom_winBusy (s : State) (d : Nat) (x : Dom) : (s.setDom d x).winBusy = s.winBusy := rfl
@[simp] theorem State.setDom_winHeld (s : State) (d : Nat) (x : Dom) : (s.setDom d x).winHeld = s.winHeld := rfl
@[simp] theorem State.setDom_bridge (s : State) (d : Nat) (x : Dom) : (s.setDom d x).bridge = s.bridge := rfl
@[simp] theorem State.setDom_nor (s : State) (d : Nat) (x : Dom) : (s.setDom d x).nor = s.nor := rfl
@[simp] theorem State.setDom_severRep (s : State) (d : Nat) (x : Dom) : (s.setDom d x).severRep = s.severRep := rfl
@[simp] theorem State.setDom_logq (s : State) (d : Nat) (x : Dom) : (s.setDom d x).logq = s.logq := rfl
@[simp] theorem State.setDom_clamps (s : State) (d : Nat) (x : Dom) : (s.setDom d x).clamps = s.clamps := rfl
@[simp] theorem State.setDom_net (s : State) (d : Nat) (x : Dom) : (s.setDom d x).net = s.net := rfl
@[simp] theorem State.setDom_shut (s : State) (d : Nat) (x : Dom) : (s.setDom d x).shut = s.shut := rfl
@[simp] theorem State.setDom_gpioHigh (s : State) (d : Nat) (x : Dom) : (s.setDom d x).gpioHigh = s.gpioHigh := rfl
@[simp] theorem State.setDom_otp (s : State) (d : Nat) (x : Dom) : (s.setDom d x).otp = s.otp := rfl
@[simp] theorem State.setDom_keyholes (s : State) (d : Nat) (x : Dom) : (s.setDom d x).keyholes = s.keyholes := rfl
@[simp] theorem State.setDom_latchKeys (s : State) (d : Nat) (x : Dom) : (s.setDom d x).latchKeys = s.latchKeys := rfl
@[simp] theorem State.setDom_roster (s : State) (d : Nat) (x : Dom) : (s.setDom d x).roster = s.roster := rfl
@[simp] theorem State.setDom_logs (s : State) (d : Nat) (x : Dom) : (s.setDom d x).logs = s.logs := rfl
@[simp] theorem State.setDom_aon (s : State) (d : Nat) (x : Dom) : (s.setDom d x).aon = s.aon := rfl
@[simp] theorem State.setDom_norRec (s : State) (d : Nat) (x : Dom) : (s.setDom d x).norRec = s.norRec := rfl
@[simp] theorem State.setDom_norSize (s : State) (d : Nat) (x : Dom) : (s.setDom d x).norSize = s.norSize := rfl
@[simp] theorem State.setDom_inReset (s : State) (d : Nat) (x : Dom) : (s.setDom d x).inReset = s.inReset := rfl
@[simp] theorem State.setDom_resetLow (s : State) (d : Nat) (x : Dom) : (s.setDom d x).resetLow = s.resetLow := rfl
@[simp] theorem State.setDom_tap (s : State) (d : Nat) (x : Dom) : (s.setDom d x).tap = s.tap := rfl
@[simp] theorem State.setDom_lostSupplies (s : State) (d : Nat) (x : Dom) : (s.setDom d x).lostSupplies = s.lostSupplies := rfl
@[simp] theorem State.setDom_railLow (s : State) (d : Nat) (x : Dom) : (s.setDom d x).railLow = s.railLow := rfl
@[simp] theorem State.setDom_refLost (s : State) (d : Nat) (x : Dom) : (s.setDom d x).refLost = s.refLost := rfl
@[simp] theorem State.setDom_gpio (s : State) (d : Nat) (x : Dom) : (s.setDom d x).gpio = s.gpio := rfl
@[simp] theorem State.setDom_gpioIn (s : State) (d : Nat) (x : Dom) : (s.setDom d x).gpioIn = s.gpioIn := rfl
@[simp] theorem State.setDom_free (s : State) (d : Nat) (x : Dom) : (s.setDom d x).free = s.free := rfl
@[simp] theorem State.setDom_pending (s : State) (d : Nat) (x : Dom) : (s.setDom d x).pending = s.pending := rfl

/-! State.setBell. -/

@[simp] theorem State.setBell_now (s : State) (k : Nat) (b : Bell) : (s.setBell k b).now = s.now := rfl
@[simp] theorem State.setBell_part (s : State) (k : Nat) (b : Bell) : (s.setBell k b).part = s.part := rfl
@[simp] theorem State.setBell_causes (s : State) (k : Nat) (b : Bell) : (s.setBell k b).causes = s.causes := rfl
@[simp] theorem State.setBell_tick (s : State) (k : Nat) (b : Bell) : (s.setBell k b).tick = s.tick := rfl
@[simp] theorem State.setBell_inBnd (s : State) (k : Nat) (b : Bell) : (s.setBell k b).inBnd = s.inBnd := rfl
@[simp] theorem State.setBell_readyBnd (s : State) (k : Nat) (b : Bell) : (s.setBell k b).readyBnd = s.readyBnd := rfl
@[simp] theorem State.setBell_tickOut (s : State) (k : Nat) (b : Bell) : (s.setBell k b).tickOut = s.tickOut := rfl
@[simp] theorem State.setBell_stamps (s : State) (k : Nat) (b : Bell) : (s.setBell k b).stamps = s.stamps := rfl
@[simp] theorem State.setBell_gen (s : State) (k : Nat) (b : Bell) : (s.setBell k b).gen = s.gen := rfl
@[simp] theorem State.setBell_locked (s : State) (k : Nat) (b : Bell) : (s.setBell k b).locked = s.locked := rfl
@[simp] theorem State.setBell_img (s : State) (k : Nat) (b : Bell) : (s.setBell k b).img = s.img := rfl
@[simp] theorem State.setBell_imgRaw (s : State) (k : Nat) (b : Bell) : (s.setBell k b).imgRaw = s.imgRaw := rfl
@[simp] theorem State.setBell_reg (s : State) (k : Nat) (b : Bell) : (s.setBell k b).reg = s.reg := rfl
@[simp] theorem State.setBell_panes (s : State) (k : Nat) (b : Bell) : (s.setBell k b).panes = s.panes := rfl
@[simp] theorem State.setBell_mesh (s : State) (k : Nat) (b : Bell) : (s.setBell k b).mesh = s.mesh := rfl
@[simp] theorem State.setBell_held (s : State) (k : Nat) (b : Bell) : (s.setBell k b).held = s.held := rfl
@[simp] theorem State.setBell_nextId (s : State) (k : Nat) (b : Bell) : (s.setBell k b).nextId = s.nextId := rfl
@[simp] theorem State.setBell_deadRouters (s : State) (k : Nat) (b : Bell) : (s.setBell k b).deadRouters = s.deadRouters := rfl
@[simp] theorem State.setBell_routedAround (s : State) (k : Nat) (b : Bell) : (s.setBell k b).routedAround = s.routedAround := rfl
@[simp] theorem State.setBell_relays (s : State) (k : Nat) (b : Bell) : (s.setBell k b).relays = s.relays := rfl
@[simp] theorem State.setBell_takeovers (s : State) (k : Nat) (b : Bell) : (s.setBell k b).takeovers = s.takeovers := rfl
@[simp] theorem State.setBell_lastC (s : State) (k : Nat) (b : Bell) : (s.setBell k b).lastC = s.lastC := rfl
@[simp] theorem State.setBell_routesDue (s : State) (k : Nat) (b : Bell) : (s.setBell k b).routesDue = s.routesDue := rfl
@[simp] theorem State.setBell_retireDue (s : State) (k : Nat) (b : Bell) : (s.setBell k b).retireDue = s.retireDue := rfl
@[simp] theorem State.setBell_groupCls (s : State) (k : Nat) (b : Bell) : (s.setBell k b).groupCls = s.groupCls := rfl
@[simp] theorem State.setBell_red (s : State) (k : Nat) (b : Bell) : (s.setBell k b).red = s.red := rfl
@[simp] theorem State.setBell_redHeld (s : State) (k : Nat) (b : Bell) : (s.setBell k b).redHeld = s.redHeld := rfl
@[simp] theorem State.setBell_wicketOut (s : State) (k : Nat) (b : Bell) : (s.setBell k b).wicketOut = s.wicketOut := rfl
@[simp] theorem State.setBell_links (s : State) (k : Nat) (b : Bell) : (s.setBell k b).links = s.links := rfl
@[simp] theorem State.setBell_tokens (s : State) (k : Nat) (b : Bell) : (s.setBell k b).tokens = s.tokens := rfl
@[simp] theorem State.setBell_readySeen (s : State) (k : Nat) (b : Bell) : (s.setBell k b).readySeen = s.readySeen := rfl
@[simp] theorem State.setBell_tokenLate (s : State) (k : Nat) (b : Bell) : (s.setBell k b).tokenLate = s.tokenLate := rfl
@[simp] theorem State.setBell_lateNow (s : State) (k : Nat) (b : Bell) : (s.setBell k b).lateNow = s.lateNow := rfl
@[simp] theorem State.setBell_tokenEvents (s : State) (k : Nat) (b : Bell) : (s.setBell k b).tokenEvents = s.tokenEvents := rfl
@[simp] theorem State.setBell_ctlOut (s : State) (k : Nat) (b : Bell) : (s.setBell k b).ctlOut = s.ctlOut := rfl
@[simp] theorem State.setBell_digestOk (s : State) (k : Nat) (b : Bell) : (s.setBell k b).digestOk = s.digestOk := rfl
@[simp] theorem State.setBell_redRes (s : State) (k : Nat) (b : Bell) : (s.setBell k b).redRes = s.redRes := rfl
@[simp] theorem State.setBell_lanes (s : State) (k : Nat) (b : Bell) : (s.setBell k b).lanes = s.lanes := rfl
@[simp] theorem State.setBell_sipSeen (s : State) (k : Nat) (b : Bell) : (s.setBell k b).sipSeen = s.sipSeen := rfl
@[simp] theorem State.setBell_streamF (s : State) (k : Nat) (b : Bell) : (s.setBell k b).streamF = s.streamF := rfl
@[simp] theorem State.setBell_drv (s : State) (k : Nat) (b : Bell) : (s.setBell k b).drv = s.drv := rfl
@[simp] theorem State.setBell_drvDue (s : State) (k : Nat) (b : Bell) : (s.setBell k b).drvDue = s.drvDue := rfl
@[simp] theorem State.setBell_drvOut (s : State) (k : Nat) (b : Bell) : (s.setBell k b).drvOut = s.drvOut := rfl
@[simp] theorem State.setBell_bolt (s : State) (k : Nat) (b : Bell) : (s.setBell k b).bolt = s.bolt := rfl
@[simp] theorem State.setBell_bufs (s : State) (k : Nat) (b : Bell) : (s.setBell k b).bufs = s.bufs := rfl
@[simp] theorem State.setBell_bufEcc (s : State) (k : Nat) (b : Bell) : (s.setBell k b).bufEcc = s.bufEcc := rfl
@[simp] theorem State.setBell_dram (s : State) (k : Nat) (b : Bell) : (s.setBell k b).dram = s.dram := rfl
@[simp] theorem State.setBell_dramEcc (s : State) (k : Nat) (b : Bell) : (s.setBell k b).dramEcc = s.dramEcc := rfl
@[simp] theorem State.setBell_movers (s : State) (k : Nat) (b : Bell) : (s.setBell k b).movers = s.movers := rfl
@[simp] theorem State.setBell_rdata (s : State) (k : Nat) (b : Bell) : (s.setBell k b).rdata = s.rdata := rfl
@[simp] theorem State.setBell_arrivals (s : State) (k : Nat) (b : Bell) : (s.setBell k b).arrivals = s.arrivals := rfl
@[simp] theorem State.setBell_doms (s : State) (k : Nat) (b : Bell) : (s.setBell k b).doms = s.doms := rfl
@[simp] theorem State.setBell_latchReps (s : State) (k : Nat) (b : Bell) : (s.setBell k b).latchReps = s.latchReps := rfl
@[simp] theorem State.setBell_lintelReps (s : State) (k : Nat) (b : Bell) : (s.setBell k b).lintelReps = s.lintelReps := rfl
@[simp] theorem State.setBell_ledger (s : State) (k : Nat) (b : Bell) : (s.setBell k b).ledger = s.ledger := rfl
@[simp] theorem State.setBell_branchMasked (s : State) (k : Nat) (b : Bell) : (s.setBell k b).branchMasked = s.branchMasked := rfl
@[simp] theorem State.setBell_missed (s : State) (k : Nat) (b : Bell) : (s.setBell k b).missed = s.missed := rfl
@[simp] theorem State.setBell_ceSeen (s : State) (k : Nat) (b : Bell) : (s.setBell k b).ceSeen = s.ceSeen := rfl
@[simp] theorem State.setBell_ceWin (s : State) (k : Nat) (b : Bell) : (s.setBell k b).ceWin = s.ceWin := rfl
@[simp] theorem State.setBell_ceRecorded (s : State) (k : Nat) (b : Bell) : (s.setBell k b).ceRecorded = s.ceRecorded := rfl
@[simp] theorem State.setBell_mbs (s : State) (k : Nat) (b : Bell) : (s.setBell k b).mbs = s.mbs := rfl
@[simp] theorem State.setBell_mbLatch (s : State) (k : Nat) (b : Bell) : (s.setBell k b).mbLatch = s.mbLatch := rfl
@[simp] theorem State.setBell_sill (s : State) (k : Nat) (b : Bell) : (s.setBell k b).sill = s.sill := rfl
@[simp] theorem State.setBell_miso (s : State) (k : Nat) (b : Bell) : (s.setBell k b).miso = s.miso := rfl
@[simp] theorem State.setBell_winBusy (s : State) (k : Nat) (b : Bell) : (s.setBell k b).winBusy = s.winBusy := rfl
@[simp] theorem State.setBell_winHeld (s : State) (k : Nat) (b : Bell) : (s.setBell k b).winHeld = s.winHeld := rfl
@[simp] theorem State.setBell_bridge (s : State) (k : Nat) (b : Bell) : (s.setBell k b).bridge = s.bridge := rfl
@[simp] theorem State.setBell_nor (s : State) (k : Nat) (b : Bell) : (s.setBell k b).nor = s.nor := rfl
@[simp] theorem State.setBell_severRep (s : State) (k : Nat) (b : Bell) : (s.setBell k b).severRep = s.severRep := rfl
@[simp] theorem State.setBell_logq (s : State) (k : Nat) (b : Bell) : (s.setBell k b).logq = s.logq := rfl
@[simp] theorem State.setBell_clamps (s : State) (k : Nat) (b : Bell) : (s.setBell k b).clamps = s.clamps := rfl
@[simp] theorem State.setBell_net (s : State) (k : Nat) (b : Bell) : (s.setBell k b).net = s.net := rfl
@[simp] theorem State.setBell_shut (s : State) (k : Nat) (b : Bell) : (s.setBell k b).shut = s.shut := rfl
@[simp] theorem State.setBell_gpioHigh (s : State) (k : Nat) (b : Bell) : (s.setBell k b).gpioHigh = s.gpioHigh := rfl
@[simp] theorem State.setBell_otp (s : State) (k : Nat) (b : Bell) : (s.setBell k b).otp = s.otp := rfl
@[simp] theorem State.setBell_keyholes (s : State) (k : Nat) (b : Bell) : (s.setBell k b).keyholes = s.keyholes := rfl
@[simp] theorem State.setBell_latchKeys (s : State) (k : Nat) (b : Bell) : (s.setBell k b).latchKeys = s.latchKeys := rfl
@[simp] theorem State.setBell_roster (s : State) (k : Nat) (b : Bell) : (s.setBell k b).roster = s.roster := rfl
@[simp] theorem State.setBell_logs (s : State) (k : Nat) (b : Bell) : (s.setBell k b).logs = s.logs := rfl
@[simp] theorem State.setBell_aon (s : State) (k : Nat) (b : Bell) : (s.setBell k b).aon = s.aon := rfl
@[simp] theorem State.setBell_norRec (s : State) (k : Nat) (b : Bell) : (s.setBell k b).norRec = s.norRec := rfl
@[simp] theorem State.setBell_norSize (s : State) (k : Nat) (b : Bell) : (s.setBell k b).norSize = s.norSize := rfl
@[simp] theorem State.setBell_inReset (s : State) (k : Nat) (b : Bell) : (s.setBell k b).inReset = s.inReset := rfl
@[simp] theorem State.setBell_resetLow (s : State) (k : Nat) (b : Bell) : (s.setBell k b).resetLow = s.resetLow := rfl
@[simp] theorem State.setBell_tap (s : State) (k : Nat) (b : Bell) : (s.setBell k b).tap = s.tap := rfl
@[simp] theorem State.setBell_lostSupplies (s : State) (k : Nat) (b : Bell) : (s.setBell k b).lostSupplies = s.lostSupplies := rfl
@[simp] theorem State.setBell_railLow (s : State) (k : Nat) (b : Bell) : (s.setBell k b).railLow = s.railLow := rfl
@[simp] theorem State.setBell_refLost (s : State) (k : Nat) (b : Bell) : (s.setBell k b).refLost = s.refLost := rfl
@[simp] theorem State.setBell_gpio (s : State) (k : Nat) (b : Bell) : (s.setBell k b).gpio = s.gpio := rfl
@[simp] theorem State.setBell_gpioIn (s : State) (k : Nat) (b : Bell) : (s.setBell k b).gpioIn = s.gpioIn := rfl
@[simp] theorem State.setBell_free (s : State) (k : Nat) (b : Bell) : (s.setBell k b).free = s.free := rfl
@[simp] theorem State.setBell_pending (s : State) (k : Nat) (b : Bell) : (s.setBell k b).pending = s.pending := rfl

/-! State.raise. -/

@[simp] theorem State.raise_now (s : State) (m : BitVec 64) (src : Nat) (k : EventKind) (d : Nat) : (s.raise m src k d).now = s.now := rfl
@[simp] theorem State.raise_part (s : State) (m : BitVec 64) (src : Nat) (k : EventKind) (d : Nat) : (s.raise m src k d).part = s.part := rfl
@[simp] theorem State.raise_causes (s : State) (m : BitVec 64) (src : Nat) (k : EventKind) (d : Nat) : (s.raise m src k d).causes = s.causes := rfl
@[simp] theorem State.raise_tick (s : State) (m : BitVec 64) (src : Nat) (k : EventKind) (d : Nat) : (s.raise m src k d).tick = s.tick := rfl
@[simp] theorem State.raise_inBnd (s : State) (m : BitVec 64) (src : Nat) (k : EventKind) (d : Nat) : (s.raise m src k d).inBnd = s.inBnd := rfl
@[simp] theorem State.raise_readyBnd (s : State) (m : BitVec 64) (src : Nat) (k : EventKind) (d : Nat) : (s.raise m src k d).readyBnd = s.readyBnd := rfl
@[simp] theorem State.raise_tickOut (s : State) (m : BitVec 64) (src : Nat) (k : EventKind) (d : Nat) : (s.raise m src k d).tickOut = s.tickOut := rfl
@[simp] theorem State.raise_stamps (s : State) (m : BitVec 64) (src : Nat) (k : EventKind) (d : Nat) : (s.raise m src k d).stamps = s.stamps := rfl
@[simp] theorem State.raise_gen (s : State) (m : BitVec 64) (src : Nat) (k : EventKind) (d : Nat) : (s.raise m src k d).gen = s.gen := rfl
@[simp] theorem State.raise_locked (s : State) (m : BitVec 64) (src : Nat) (k : EventKind) (d : Nat) : (s.raise m src k d).locked = s.locked := rfl
@[simp] theorem State.raise_img (s : State) (m : BitVec 64) (src : Nat) (k : EventKind) (d : Nat) : (s.raise m src k d).img = s.img := rfl
@[simp] theorem State.raise_imgRaw (s : State) (m : BitVec 64) (src : Nat) (k : EventKind) (d : Nat) : (s.raise m src k d).imgRaw = s.imgRaw := rfl
@[simp] theorem State.raise_reg (s : State) (m : BitVec 64) (src : Nat) (k : EventKind) (d : Nat) : (s.raise m src k d).reg = s.reg := rfl
@[simp] theorem State.raise_panes (s : State) (m : BitVec 64) (src : Nat) (k : EventKind) (d : Nat) : (s.raise m src k d).panes = s.panes := rfl
@[simp] theorem State.raise_mesh (s : State) (m : BitVec 64) (src : Nat) (k : EventKind) (d : Nat) : (s.raise m src k d).mesh = s.mesh := rfl
@[simp] theorem State.raise_held (s : State) (m : BitVec 64) (src : Nat) (k : EventKind) (d : Nat) : (s.raise m src k d).held = s.held := rfl
@[simp] theorem State.raise_nextId (s : State) (m : BitVec 64) (src : Nat) (k : EventKind) (d : Nat) : (s.raise m src k d).nextId = s.nextId := rfl
@[simp] theorem State.raise_deadRouters (s : State) (m : BitVec 64) (src : Nat) (k : EventKind) (d : Nat) : (s.raise m src k d).deadRouters = s.deadRouters := rfl
@[simp] theorem State.raise_routedAround (s : State) (m : BitVec 64) (src : Nat) (k : EventKind) (d : Nat) : (s.raise m src k d).routedAround = s.routedAround := rfl
@[simp] theorem State.raise_relays (s : State) (m : BitVec 64) (src : Nat) (k : EventKind) (d : Nat) : (s.raise m src k d).relays = s.relays := rfl
@[simp] theorem State.raise_takeovers (s : State) (m : BitVec 64) (src : Nat) (k : EventKind) (d : Nat) : (s.raise m src k d).takeovers = s.takeovers := rfl
@[simp] theorem State.raise_lastC (s : State) (m : BitVec 64) (src : Nat) (k : EventKind) (d : Nat) : (s.raise m src k d).lastC = s.lastC := rfl
@[simp] theorem State.raise_routesDue (s : State) (m : BitVec 64) (src : Nat) (k : EventKind) (d : Nat) : (s.raise m src k d).routesDue = s.routesDue := rfl
@[simp] theorem State.raise_retireDue (s : State) (m : BitVec 64) (src : Nat) (k : EventKind) (d : Nat) : (s.raise m src k d).retireDue = s.retireDue := rfl
@[simp] theorem State.raise_groupCls (s : State) (m : BitVec 64) (src : Nat) (k : EventKind) (d : Nat) : (s.raise m src k d).groupCls = s.groupCls := rfl
@[simp] theorem State.raise_red (s : State) (m : BitVec 64) (src : Nat) (k : EventKind) (d : Nat) : (s.raise m src k d).red = s.red := rfl
@[simp] theorem State.raise_redHeld (s : State) (m : BitVec 64) (src : Nat) (k : EventKind) (d : Nat) : (s.raise m src k d).redHeld = s.redHeld := rfl
@[simp] theorem State.raise_wicketOut (s : State) (m : BitVec 64) (src : Nat) (k : EventKind) (d : Nat) : (s.raise m src k d).wicketOut = s.wicketOut := rfl
@[simp] theorem State.raise_links (s : State) (m : BitVec 64) (src : Nat) (k : EventKind) (d : Nat) : (s.raise m src k d).links = s.links := rfl
@[simp] theorem State.raise_tokens (s : State) (m : BitVec 64) (src : Nat) (k : EventKind) (d : Nat) : (s.raise m src k d).tokens = s.tokens := rfl
@[simp] theorem State.raise_readySeen (s : State) (m : BitVec 64) (src : Nat) (k : EventKind) (d : Nat) : (s.raise m src k d).readySeen = s.readySeen := rfl
@[simp] theorem State.raise_tokenLate (s : State) (m : BitVec 64) (src : Nat) (k : EventKind) (d : Nat) : (s.raise m src k d).tokenLate = s.tokenLate := rfl
@[simp] theorem State.raise_lateNow (s : State) (m : BitVec 64) (src : Nat) (k : EventKind) (d : Nat) : (s.raise m src k d).lateNow = s.lateNow := rfl
@[simp] theorem State.raise_tokenEvents (s : State) (m : BitVec 64) (src : Nat) (k : EventKind) (d : Nat) : (s.raise m src k d).tokenEvents = s.tokenEvents := rfl
@[simp] theorem State.raise_ctlOut (s : State) (m : BitVec 64) (src : Nat) (k : EventKind) (d : Nat) : (s.raise m src k d).ctlOut = s.ctlOut := rfl
@[simp] theorem State.raise_digestOk (s : State) (m : BitVec 64) (src : Nat) (k : EventKind) (d : Nat) : (s.raise m src k d).digestOk = s.digestOk := rfl
@[simp] theorem State.raise_redRes (s : State) (m : BitVec 64) (src : Nat) (k : EventKind) (d : Nat) : (s.raise m src k d).redRes = s.redRes := rfl
@[simp] theorem State.raise_lanes (s : State) (m : BitVec 64) (src : Nat) (k : EventKind) (d : Nat) : (s.raise m src k d).lanes = s.lanes := rfl
@[simp] theorem State.raise_sipSeen (s : State) (m : BitVec 64) (src : Nat) (k : EventKind) (d : Nat) : (s.raise m src k d).sipSeen = s.sipSeen := rfl
@[simp] theorem State.raise_streamF (s : State) (m : BitVec 64) (src : Nat) (k : EventKind) (d : Nat) : (s.raise m src k d).streamF = s.streamF := rfl
@[simp] theorem State.raise_drv (s : State) (m : BitVec 64) (src : Nat) (k : EventKind) (d : Nat) : (s.raise m src k d).drv = s.drv := rfl
@[simp] theorem State.raise_drvDue (s : State) (m : BitVec 64) (src : Nat) (k : EventKind) (d : Nat) : (s.raise m src k d).drvDue = s.drvDue := rfl
@[simp] theorem State.raise_drvOut (s : State) (m : BitVec 64) (src : Nat) (k : EventKind) (d : Nat) : (s.raise m src k d).drvOut = s.drvOut := rfl
@[simp] theorem State.raise_bolt (s : State) (m : BitVec 64) (src : Nat) (k : EventKind) (d : Nat) : (s.raise m src k d).bolt = s.bolt := rfl
@[simp] theorem State.raise_bufs (s : State) (m : BitVec 64) (src : Nat) (k : EventKind) (d : Nat) : (s.raise m src k d).bufs = s.bufs := rfl
@[simp] theorem State.raise_bufEcc (s : State) (m : BitVec 64) (src : Nat) (k : EventKind) (d : Nat) : (s.raise m src k d).bufEcc = s.bufEcc := rfl
@[simp] theorem State.raise_dram (s : State) (m : BitVec 64) (src : Nat) (k : EventKind) (d : Nat) : (s.raise m src k d).dram = s.dram := rfl
@[simp] theorem State.raise_dramEcc (s : State) (m : BitVec 64) (src : Nat) (k : EventKind) (d : Nat) : (s.raise m src k d).dramEcc = s.dramEcc := rfl
@[simp] theorem State.raise_movers (s : State) (m : BitVec 64) (src : Nat) (k : EventKind) (d : Nat) : (s.raise m src k d).movers = s.movers := rfl
@[simp] theorem State.raise_rdata (s : State) (m : BitVec 64) (src : Nat) (k : EventKind) (d : Nat) : (s.raise m src k d).rdata = s.rdata := rfl
@[simp] theorem State.raise_bells (s : State) (m : BitVec 64) (src : Nat) (k : EventKind) (d : Nat) : (s.raise m src k d).bells = s.bells := rfl
@[simp] theorem State.raise_doms (s : State) (m : BitVec 64) (src : Nat) (k : EventKind) (d : Nat) : (s.raise m src k d).doms = s.doms := rfl
@[simp] theorem State.raise_latchReps (s : State) (m : BitVec 64) (src : Nat) (k : EventKind) (d : Nat) : (s.raise m src k d).latchReps = s.latchReps := rfl
@[simp] theorem State.raise_lintelReps (s : State) (m : BitVec 64) (src : Nat) (k : EventKind) (d : Nat) : (s.raise m src k d).lintelReps = s.lintelReps := rfl
@[simp] theorem State.raise_ledger (s : State) (m : BitVec 64) (src : Nat) (k : EventKind) (d : Nat) : (s.raise m src k d).ledger = s.ledger := rfl
@[simp] theorem State.raise_branchMasked (s : State) (m : BitVec 64) (src : Nat) (k : EventKind) (d : Nat) : (s.raise m src k d).branchMasked = s.branchMasked := rfl
@[simp] theorem State.raise_missed (s : State) (m : BitVec 64) (src : Nat) (k : EventKind) (d : Nat) : (s.raise m src k d).missed = s.missed := rfl
@[simp] theorem State.raise_ceSeen (s : State) (m : BitVec 64) (src : Nat) (k : EventKind) (d : Nat) : (s.raise m src k d).ceSeen = s.ceSeen := rfl
@[simp] theorem State.raise_ceWin (s : State) (m : BitVec 64) (src : Nat) (k : EventKind) (d : Nat) : (s.raise m src k d).ceWin = s.ceWin := rfl
@[simp] theorem State.raise_ceRecorded (s : State) (m : BitVec 64) (src : Nat) (k : EventKind) (d : Nat) : (s.raise m src k d).ceRecorded = s.ceRecorded := rfl
@[simp] theorem State.raise_mbs (s : State) (m : BitVec 64) (src : Nat) (k : EventKind) (d : Nat) : (s.raise m src k d).mbs = s.mbs := rfl
@[simp] theorem State.raise_mbLatch (s : State) (m : BitVec 64) (src : Nat) (k : EventKind) (d : Nat) : (s.raise m src k d).mbLatch = s.mbLatch := rfl
@[simp] theorem State.raise_sill (s : State) (m : BitVec 64) (src : Nat) (k : EventKind) (d : Nat) : (s.raise m src k d).sill = s.sill := rfl
@[simp] theorem State.raise_miso (s : State) (m : BitVec 64) (src : Nat) (k : EventKind) (d : Nat) : (s.raise m src k d).miso = s.miso := rfl
@[simp] theorem State.raise_winBusy (s : State) (m : BitVec 64) (src : Nat) (k : EventKind) (d : Nat) : (s.raise m src k d).winBusy = s.winBusy := rfl
@[simp] theorem State.raise_winHeld (s : State) (m : BitVec 64) (src : Nat) (k : EventKind) (d : Nat) : (s.raise m src k d).winHeld = s.winHeld := rfl
@[simp] theorem State.raise_bridge (s : State) (m : BitVec 64) (src : Nat) (k : EventKind) (d : Nat) : (s.raise m src k d).bridge = s.bridge := rfl
@[simp] theorem State.raise_nor (s : State) (m : BitVec 64) (src : Nat) (k : EventKind) (d : Nat) : (s.raise m src k d).nor = s.nor := rfl
@[simp] theorem State.raise_severRep (s : State) (m : BitVec 64) (src : Nat) (k : EventKind) (d : Nat) : (s.raise m src k d).severRep = s.severRep := rfl
@[simp] theorem State.raise_logq (s : State) (m : BitVec 64) (src : Nat) (k : EventKind) (d : Nat) : (s.raise m src k d).logq = s.logq := rfl
@[simp] theorem State.raise_clamps (s : State) (m : BitVec 64) (src : Nat) (k : EventKind) (d : Nat) : (s.raise m src k d).clamps = s.clamps := rfl
@[simp] theorem State.raise_net (s : State) (m : BitVec 64) (src : Nat) (k : EventKind) (d : Nat) : (s.raise m src k d).net = s.net := rfl
@[simp] theorem State.raise_shut (s : State) (m : BitVec 64) (src : Nat) (k : EventKind) (d : Nat) : (s.raise m src k d).shut = s.shut := rfl
@[simp] theorem State.raise_gpioHigh (s : State) (m : BitVec 64) (src : Nat) (k : EventKind) (d : Nat) : (s.raise m src k d).gpioHigh = s.gpioHigh := rfl
@[simp] theorem State.raise_otp (s : State) (m : BitVec 64) (src : Nat) (k : EventKind) (d : Nat) : (s.raise m src k d).otp = s.otp := rfl
@[simp] theorem State.raise_keyholes (s : State) (m : BitVec 64) (src : Nat) (k : EventKind) (d : Nat) : (s.raise m src k d).keyholes = s.keyholes := rfl
@[simp] theorem State.raise_latchKeys (s : State) (m : BitVec 64) (src : Nat) (k : EventKind) (d : Nat) : (s.raise m src k d).latchKeys = s.latchKeys := rfl
@[simp] theorem State.raise_roster (s : State) (m : BitVec 64) (src : Nat) (k : EventKind) (d : Nat) : (s.raise m src k d).roster = s.roster := rfl
@[simp] theorem State.raise_logs (s : State) (m : BitVec 64) (src : Nat) (k : EventKind) (d : Nat) : (s.raise m src k d).logs = s.logs := rfl
@[simp] theorem State.raise_aon (s : State) (m : BitVec 64) (src : Nat) (k : EventKind) (d : Nat) : (s.raise m src k d).aon = s.aon := rfl
@[simp] theorem State.raise_norRec (s : State) (m : BitVec 64) (src : Nat) (k : EventKind) (d : Nat) : (s.raise m src k d).norRec = s.norRec := rfl
@[simp] theorem State.raise_norSize (s : State) (m : BitVec 64) (src : Nat) (k : EventKind) (d : Nat) : (s.raise m src k d).norSize = s.norSize := rfl
@[simp] theorem State.raise_inReset (s : State) (m : BitVec 64) (src : Nat) (k : EventKind) (d : Nat) : (s.raise m src k d).inReset = s.inReset := rfl
@[simp] theorem State.raise_resetLow (s : State) (m : BitVec 64) (src : Nat) (k : EventKind) (d : Nat) : (s.raise m src k d).resetLow = s.resetLow := rfl
@[simp] theorem State.raise_tap (s : State) (m : BitVec 64) (src : Nat) (k : EventKind) (d : Nat) : (s.raise m src k d).tap = s.tap := rfl
@[simp] theorem State.raise_lostSupplies (s : State) (m : BitVec 64) (src : Nat) (k : EventKind) (d : Nat) : (s.raise m src k d).lostSupplies = s.lostSupplies := rfl
@[simp] theorem State.raise_railLow (s : State) (m : BitVec 64) (src : Nat) (k : EventKind) (d : Nat) : (s.raise m src k d).railLow = s.railLow := rfl
@[simp] theorem State.raise_refLost (s : State) (m : BitVec 64) (src : Nat) (k : EventKind) (d : Nat) : (s.raise m src k d).refLost = s.refLost := rfl
@[simp] theorem State.raise_gpio (s : State) (m : BitVec 64) (src : Nat) (k : EventKind) (d : Nat) : (s.raise m src k d).gpio = s.gpio := rfl
@[simp] theorem State.raise_gpioIn (s : State) (m : BitVec 64) (src : Nat) (k : EventKind) (d : Nat) : (s.raise m src k d).gpioIn = s.gpioIn := rfl
@[simp] theorem State.raise_free (s : State) (m : BitVec 64) (src : Nat) (k : EventKind) (d : Nat) : (s.raise m src k d).free = s.free := rfl
@[simp] theorem State.raise_pending (s : State) (m : BitVec 64) (src : Nat) (k : EventKind) (d : Nat) : (s.raise m src k d).pending = s.pending := rfl

/-! State.report. -/

@[simp] theorem State.report_now (s : State) (r : Report) : (s.report r).now = s.now := rfl
@[simp] theorem State.report_part (s : State) (r : Report) : (s.report r).part = s.part := rfl
@[simp] theorem State.report_causes (s : State) (r : Report) : (s.report r).causes = s.causes := rfl
@[simp] theorem State.report_tick (s : State) (r : Report) : (s.report r).tick = s.tick := rfl
@[simp] theorem State.report_inBnd (s : State) (r : Report) : (s.report r).inBnd = s.inBnd := rfl
@[simp] theorem State.report_readyBnd (s : State) (r : Report) : (s.report r).readyBnd = s.readyBnd := rfl
@[simp] theorem State.report_tickOut (s : State) (r : Report) : (s.report r).tickOut = s.tickOut := rfl
@[simp] theorem State.report_stamps (s : State) (r : Report) : (s.report r).stamps = s.stamps := rfl
@[simp] theorem State.report_gen (s : State) (r : Report) : (s.report r).gen = s.gen := rfl
@[simp] theorem State.report_locked (s : State) (r : Report) : (s.report r).locked = s.locked := rfl
@[simp] theorem State.report_img (s : State) (r : Report) : (s.report r).img = s.img := rfl
@[simp] theorem State.report_imgRaw (s : State) (r : Report) : (s.report r).imgRaw = s.imgRaw := rfl
@[simp] theorem State.report_reg (s : State) (r : Report) : (s.report r).reg = s.reg := rfl
@[simp] theorem State.report_panes (s : State) (r : Report) : (s.report r).panes = s.panes := rfl
@[simp] theorem State.report_mesh (s : State) (r : Report) : (s.report r).mesh = s.mesh := rfl
@[simp] theorem State.report_held (s : State) (r : Report) : (s.report r).held = s.held := rfl
@[simp] theorem State.report_nextId (s : State) (r : Report) : (s.report r).nextId = s.nextId := rfl
@[simp] theorem State.report_deadRouters (s : State) (r : Report) : (s.report r).deadRouters = s.deadRouters := rfl
@[simp] theorem State.report_routedAround (s : State) (r : Report) : (s.report r).routedAround = s.routedAround := rfl
@[simp] theorem State.report_relays (s : State) (r : Report) : (s.report r).relays = s.relays := rfl
@[simp] theorem State.report_takeovers (s : State) (r : Report) : (s.report r).takeovers = s.takeovers := rfl
@[simp] theorem State.report_lastC (s : State) (r : Report) : (s.report r).lastC = s.lastC := rfl
@[simp] theorem State.report_routesDue (s : State) (r : Report) : (s.report r).routesDue = s.routesDue := rfl
@[simp] theorem State.report_retireDue (s : State) (r : Report) : (s.report r).retireDue = s.retireDue := rfl
@[simp] theorem State.report_groupCls (s : State) (r : Report) : (s.report r).groupCls = s.groupCls := rfl
@[simp] theorem State.report_red (s : State) (r : Report) : (s.report r).red = s.red := rfl
@[simp] theorem State.report_redHeld (s : State) (r : Report) : (s.report r).redHeld = s.redHeld := rfl
@[simp] theorem State.report_wicketOut (s : State) (r : Report) : (s.report r).wicketOut = s.wicketOut := rfl
@[simp] theorem State.report_links (s : State) (r : Report) : (s.report r).links = s.links := rfl
@[simp] theorem State.report_tokens (s : State) (r : Report) : (s.report r).tokens = s.tokens := rfl
@[simp] theorem State.report_readySeen (s : State) (r : Report) : (s.report r).readySeen = s.readySeen := rfl
@[simp] theorem State.report_tokenLate (s : State) (r : Report) : (s.report r).tokenLate = s.tokenLate := rfl
@[simp] theorem State.report_lateNow (s : State) (r : Report) : (s.report r).lateNow = s.lateNow := rfl
@[simp] theorem State.report_tokenEvents (s : State) (r : Report) : (s.report r).tokenEvents = s.tokenEvents := rfl
@[simp] theorem State.report_ctlOut (s : State) (r : Report) : (s.report r).ctlOut = s.ctlOut := rfl
@[simp] theorem State.report_digestOk (s : State) (r : Report) : (s.report r).digestOk = s.digestOk := rfl
@[simp] theorem State.report_redRes (s : State) (r : Report) : (s.report r).redRes = s.redRes := rfl
@[simp] theorem State.report_lanes (s : State) (r : Report) : (s.report r).lanes = s.lanes := rfl
@[simp] theorem State.report_sipSeen (s : State) (r : Report) : (s.report r).sipSeen = s.sipSeen := rfl
@[simp] theorem State.report_streamF (s : State) (r : Report) : (s.report r).streamF = s.streamF := rfl
@[simp] theorem State.report_drv (s : State) (r : Report) : (s.report r).drv = s.drv := rfl
@[simp] theorem State.report_drvDue (s : State) (r : Report) : (s.report r).drvDue = s.drvDue := rfl
@[simp] theorem State.report_drvOut (s : State) (r : Report) : (s.report r).drvOut = s.drvOut := rfl
@[simp] theorem State.report_bolt (s : State) (r : Report) : (s.report r).bolt = s.bolt := rfl
@[simp] theorem State.report_bufs (s : State) (r : Report) : (s.report r).bufs = s.bufs := rfl
@[simp] theorem State.report_bufEcc (s : State) (r : Report) : (s.report r).bufEcc = s.bufEcc := rfl
@[simp] theorem State.report_dram (s : State) (r : Report) : (s.report r).dram = s.dram := rfl
@[simp] theorem State.report_dramEcc (s : State) (r : Report) : (s.report r).dramEcc = s.dramEcc := rfl
@[simp] theorem State.report_movers (s : State) (r : Report) : (s.report r).movers = s.movers := rfl
@[simp] theorem State.report_rdata (s : State) (r : Report) : (s.report r).rdata = s.rdata := rfl
@[simp] theorem State.report_bells (s : State) (r : Report) : (s.report r).bells = s.bells := rfl
@[simp] theorem State.report_arrivals (s : State) (r : Report) : (s.report r).arrivals = s.arrivals := rfl
@[simp] theorem State.report_doms (s : State) (r : Report) : (s.report r).doms = s.doms := rfl
@[simp] theorem State.report_lintelReps (s : State) (r : Report) : (s.report r).lintelReps = s.lintelReps := rfl
@[simp] theorem State.report_ledger (s : State) (r : Report) : (s.report r).ledger = s.ledger := rfl
@[simp] theorem State.report_branchMasked (s : State) (r : Report) : (s.report r).branchMasked = s.branchMasked := rfl
@[simp] theorem State.report_missed (s : State) (r : Report) : (s.report r).missed = s.missed := rfl
@[simp] theorem State.report_ceSeen (s : State) (r : Report) : (s.report r).ceSeen = s.ceSeen := rfl
@[simp] theorem State.report_ceWin (s : State) (r : Report) : (s.report r).ceWin = s.ceWin := rfl
@[simp] theorem State.report_ceRecorded (s : State) (r : Report) : (s.report r).ceRecorded = s.ceRecorded := rfl
@[simp] theorem State.report_mbs (s : State) (r : Report) : (s.report r).mbs = s.mbs := rfl
@[simp] theorem State.report_mbLatch (s : State) (r : Report) : (s.report r).mbLatch = s.mbLatch := rfl
@[simp] theorem State.report_sill (s : State) (r : Report) : (s.report r).sill = s.sill := rfl
@[simp] theorem State.report_miso (s : State) (r : Report) : (s.report r).miso = s.miso := rfl
@[simp] theorem State.report_winBusy (s : State) (r : Report) : (s.report r).winBusy = s.winBusy := rfl
@[simp] theorem State.report_winHeld (s : State) (r : Report) : (s.report r).winHeld = s.winHeld := rfl
@[simp] theorem State.report_bridge (s : State) (r : Report) : (s.report r).bridge = s.bridge := rfl
@[simp] theorem State.report_nor (s : State) (r : Report) : (s.report r).nor = s.nor := rfl
@[simp] theorem State.report_severRep (s : State) (r : Report) : (s.report r).severRep = s.severRep := rfl
@[simp] theorem State.report_logq (s : State) (r : Report) : (s.report r).logq = s.logq := rfl
@[simp] theorem State.report_clamps (s : State) (r : Report) : (s.report r).clamps = s.clamps := rfl
@[simp] theorem State.report_net (s : State) (r : Report) : (s.report r).net = s.net := rfl
@[simp] theorem State.report_shut (s : State) (r : Report) : (s.report r).shut = s.shut := rfl
@[simp] theorem State.report_gpioHigh (s : State) (r : Report) : (s.report r).gpioHigh = s.gpioHigh := rfl
@[simp] theorem State.report_otp (s : State) (r : Report) : (s.report r).otp = s.otp := rfl
@[simp] theorem State.report_keyholes (s : State) (r : Report) : (s.report r).keyholes = s.keyholes := rfl
@[simp] theorem State.report_latchKeys (s : State) (r : Report) : (s.report r).latchKeys = s.latchKeys := rfl
@[simp] theorem State.report_roster (s : State) (r : Report) : (s.report r).roster = s.roster := rfl
@[simp] theorem State.report_logs (s : State) (r : Report) : (s.report r).logs = s.logs := rfl
@[simp] theorem State.report_aon (s : State) (r : Report) : (s.report r).aon = s.aon := rfl
@[simp] theorem State.report_norRec (s : State) (r : Report) : (s.report r).norRec = s.norRec := rfl
@[simp] theorem State.report_norSize (s : State) (r : Report) : (s.report r).norSize = s.norSize := rfl
@[simp] theorem State.report_inReset (s : State) (r : Report) : (s.report r).inReset = s.inReset := rfl
@[simp] theorem State.report_resetLow (s : State) (r : Report) : (s.report r).resetLow = s.resetLow := rfl
@[simp] theorem State.report_tap (s : State) (r : Report) : (s.report r).tap = s.tap := rfl
@[simp] theorem State.report_lostSupplies (s : State) (r : Report) : (s.report r).lostSupplies = s.lostSupplies := rfl
@[simp] theorem State.report_railLow (s : State) (r : Report) : (s.report r).railLow = s.railLow := rfl
@[simp] theorem State.report_refLost (s : State) (r : Report) : (s.report r).refLost = s.refLost := rfl
@[simp] theorem State.report_gpio (s : State) (r : Report) : (s.report r).gpio = s.gpio := rfl
@[simp] theorem State.report_gpioIn (s : State) (r : Report) : (s.report r).gpioIn = s.gpioIn := rfl
@[simp] theorem State.report_free (s : State) (r : Report) : (s.report r).free = s.free := rfl
@[simp] theorem State.report_pending (s : State) (r : Report) : (s.report r).pending = s.pending := rfl

/-! State.reportLintel. -/

@[simp] theorem State.reportLintel_now (s : State) (r : Report) : (s.reportLintel r).now = s.now := rfl
@[simp] theorem State.reportLintel_part (s : State) (r : Report) : (s.reportLintel r).part = s.part := rfl
@[simp] theorem State.reportLintel_causes (s : State) (r : Report) : (s.reportLintel r).causes = s.causes := rfl
@[simp] theorem State.reportLintel_tick (s : State) (r : Report) : (s.reportLintel r).tick = s.tick := rfl
@[simp] theorem State.reportLintel_inBnd (s : State) (r : Report) : (s.reportLintel r).inBnd = s.inBnd := rfl
@[simp] theorem State.reportLintel_readyBnd (s : State) (r : Report) : (s.reportLintel r).readyBnd = s.readyBnd := rfl
@[simp] theorem State.reportLintel_tickOut (s : State) (r : Report) : (s.reportLintel r).tickOut = s.tickOut := rfl
@[simp] theorem State.reportLintel_stamps (s : State) (r : Report) : (s.reportLintel r).stamps = s.stamps := rfl
@[simp] theorem State.reportLintel_gen (s : State) (r : Report) : (s.reportLintel r).gen = s.gen := rfl
@[simp] theorem State.reportLintel_locked (s : State) (r : Report) : (s.reportLintel r).locked = s.locked := rfl
@[simp] theorem State.reportLintel_img (s : State) (r : Report) : (s.reportLintel r).img = s.img := rfl
@[simp] theorem State.reportLintel_imgRaw (s : State) (r : Report) : (s.reportLintel r).imgRaw = s.imgRaw := rfl
@[simp] theorem State.reportLintel_reg (s : State) (r : Report) : (s.reportLintel r).reg = s.reg := rfl
@[simp] theorem State.reportLintel_panes (s : State) (r : Report) : (s.reportLintel r).panes = s.panes := rfl
@[simp] theorem State.reportLintel_mesh (s : State) (r : Report) : (s.reportLintel r).mesh = s.mesh := rfl
@[simp] theorem State.reportLintel_held (s : State) (r : Report) : (s.reportLintel r).held = s.held := rfl
@[simp] theorem State.reportLintel_nextId (s : State) (r : Report) : (s.reportLintel r).nextId = s.nextId := rfl
@[simp] theorem State.reportLintel_deadRouters (s : State) (r : Report) : (s.reportLintel r).deadRouters = s.deadRouters := rfl
@[simp] theorem State.reportLintel_routedAround (s : State) (r : Report) : (s.reportLintel r).routedAround = s.routedAround := rfl
@[simp] theorem State.reportLintel_relays (s : State) (r : Report) : (s.reportLintel r).relays = s.relays := rfl
@[simp] theorem State.reportLintel_takeovers (s : State) (r : Report) : (s.reportLintel r).takeovers = s.takeovers := rfl
@[simp] theorem State.reportLintel_lastC (s : State) (r : Report) : (s.reportLintel r).lastC = s.lastC := rfl
@[simp] theorem State.reportLintel_routesDue (s : State) (r : Report) : (s.reportLintel r).routesDue = s.routesDue := rfl
@[simp] theorem State.reportLintel_retireDue (s : State) (r : Report) : (s.reportLintel r).retireDue = s.retireDue := rfl
@[simp] theorem State.reportLintel_groupCls (s : State) (r : Report) : (s.reportLintel r).groupCls = s.groupCls := rfl
@[simp] theorem State.reportLintel_red (s : State) (r : Report) : (s.reportLintel r).red = s.red := rfl
@[simp] theorem State.reportLintel_redHeld (s : State) (r : Report) : (s.reportLintel r).redHeld = s.redHeld := rfl
@[simp] theorem State.reportLintel_wicketOut (s : State) (r : Report) : (s.reportLintel r).wicketOut = s.wicketOut := rfl
@[simp] theorem State.reportLintel_links (s : State) (r : Report) : (s.reportLintel r).links = s.links := rfl
@[simp] theorem State.reportLintel_tokens (s : State) (r : Report) : (s.reportLintel r).tokens = s.tokens := rfl
@[simp] theorem State.reportLintel_readySeen (s : State) (r : Report) : (s.reportLintel r).readySeen = s.readySeen := rfl
@[simp] theorem State.reportLintel_tokenLate (s : State) (r : Report) : (s.reportLintel r).tokenLate = s.tokenLate := rfl
@[simp] theorem State.reportLintel_lateNow (s : State) (r : Report) : (s.reportLintel r).lateNow = s.lateNow := rfl
@[simp] theorem State.reportLintel_tokenEvents (s : State) (r : Report) : (s.reportLintel r).tokenEvents = s.tokenEvents := rfl
@[simp] theorem State.reportLintel_ctlOut (s : State) (r : Report) : (s.reportLintel r).ctlOut = s.ctlOut := rfl
@[simp] theorem State.reportLintel_digestOk (s : State) (r : Report) : (s.reportLintel r).digestOk = s.digestOk := rfl
@[simp] theorem State.reportLintel_redRes (s : State) (r : Report) : (s.reportLintel r).redRes = s.redRes := rfl
@[simp] theorem State.reportLintel_lanes (s : State) (r : Report) : (s.reportLintel r).lanes = s.lanes := rfl
@[simp] theorem State.reportLintel_sipSeen (s : State) (r : Report) : (s.reportLintel r).sipSeen = s.sipSeen := rfl
@[simp] theorem State.reportLintel_streamF (s : State) (r : Report) : (s.reportLintel r).streamF = s.streamF := rfl
@[simp] theorem State.reportLintel_drv (s : State) (r : Report) : (s.reportLintel r).drv = s.drv := rfl
@[simp] theorem State.reportLintel_drvDue (s : State) (r : Report) : (s.reportLintel r).drvDue = s.drvDue := rfl
@[simp] theorem State.reportLintel_drvOut (s : State) (r : Report) : (s.reportLintel r).drvOut = s.drvOut := rfl
@[simp] theorem State.reportLintel_bolt (s : State) (r : Report) : (s.reportLintel r).bolt = s.bolt := rfl
@[simp] theorem State.reportLintel_bufs (s : State) (r : Report) : (s.reportLintel r).bufs = s.bufs := rfl
@[simp] theorem State.reportLintel_bufEcc (s : State) (r : Report) : (s.reportLintel r).bufEcc = s.bufEcc := rfl
@[simp] theorem State.reportLintel_dram (s : State) (r : Report) : (s.reportLintel r).dram = s.dram := rfl
@[simp] theorem State.reportLintel_dramEcc (s : State) (r : Report) : (s.reportLintel r).dramEcc = s.dramEcc := rfl
@[simp] theorem State.reportLintel_movers (s : State) (r : Report) : (s.reportLintel r).movers = s.movers := rfl
@[simp] theorem State.reportLintel_rdata (s : State) (r : Report) : (s.reportLintel r).rdata = s.rdata := rfl
@[simp] theorem State.reportLintel_bells (s : State) (r : Report) : (s.reportLintel r).bells = s.bells := rfl
@[simp] theorem State.reportLintel_arrivals (s : State) (r : Report) : (s.reportLintel r).arrivals = s.arrivals := rfl
@[simp] theorem State.reportLintel_doms (s : State) (r : Report) : (s.reportLintel r).doms = s.doms := rfl
@[simp] theorem State.reportLintel_latchReps (s : State) (r : Report) : (s.reportLintel r).latchReps = s.latchReps := rfl
@[simp] theorem State.reportLintel_ledger (s : State) (r : Report) : (s.reportLintel r).ledger = s.ledger := rfl
@[simp] theorem State.reportLintel_branchMasked (s : State) (r : Report) : (s.reportLintel r).branchMasked = s.branchMasked := rfl
@[simp] theorem State.reportLintel_missed (s : State) (r : Report) : (s.reportLintel r).missed = s.missed := rfl
@[simp] theorem State.reportLintel_ceSeen (s : State) (r : Report) : (s.reportLintel r).ceSeen = s.ceSeen := rfl
@[simp] theorem State.reportLintel_ceWin (s : State) (r : Report) : (s.reportLintel r).ceWin = s.ceWin := rfl
@[simp] theorem State.reportLintel_ceRecorded (s : State) (r : Report) : (s.reportLintel r).ceRecorded = s.ceRecorded := rfl
@[simp] theorem State.reportLintel_mbs (s : State) (r : Report) : (s.reportLintel r).mbs = s.mbs := rfl
@[simp] theorem State.reportLintel_mbLatch (s : State) (r : Report) : (s.reportLintel r).mbLatch = s.mbLatch := rfl
@[simp] theorem State.reportLintel_sill (s : State) (r : Report) : (s.reportLintel r).sill = s.sill := rfl
@[simp] theorem State.reportLintel_miso (s : State) (r : Report) : (s.reportLintel r).miso = s.miso := rfl
@[simp] theorem State.reportLintel_winBusy (s : State) (r : Report) : (s.reportLintel r).winBusy = s.winBusy := rfl
@[simp] theorem State.reportLintel_winHeld (s : State) (r : Report) : (s.reportLintel r).winHeld = s.winHeld := rfl
@[simp] theorem State.reportLintel_bridge (s : State) (r : Report) : (s.reportLintel r).bridge = s.bridge := rfl
@[simp] theorem State.reportLintel_nor (s : State) (r : Report) : (s.reportLintel r).nor = s.nor := rfl
@[simp] theorem State.reportLintel_severRep (s : State) (r : Report) : (s.reportLintel r).severRep = s.severRep := rfl
@[simp] theorem State.reportLintel_logq (s : State) (r : Report) : (s.reportLintel r).logq = s.logq := rfl
@[simp] theorem State.reportLintel_clamps (s : State) (r : Report) : (s.reportLintel r).clamps = s.clamps := rfl
@[simp] theorem State.reportLintel_net (s : State) (r : Report) : (s.reportLintel r).net = s.net := rfl
@[simp] theorem State.reportLintel_shut (s : State) (r : Report) : (s.reportLintel r).shut = s.shut := rfl
@[simp] theorem State.reportLintel_gpioHigh (s : State) (r : Report) : (s.reportLintel r).gpioHigh = s.gpioHigh := rfl
@[simp] theorem State.reportLintel_otp (s : State) (r : Report) : (s.reportLintel r).otp = s.otp := rfl
@[simp] theorem State.reportLintel_keyholes (s : State) (r : Report) : (s.reportLintel r).keyholes = s.keyholes := rfl
@[simp] theorem State.reportLintel_latchKeys (s : State) (r : Report) : (s.reportLintel r).latchKeys = s.latchKeys := rfl
@[simp] theorem State.reportLintel_roster (s : State) (r : Report) : (s.reportLintel r).roster = s.roster := rfl
@[simp] theorem State.reportLintel_logs (s : State) (r : Report) : (s.reportLintel r).logs = s.logs := rfl
@[simp] theorem State.reportLintel_aon (s : State) (r : Report) : (s.reportLintel r).aon = s.aon := rfl
@[simp] theorem State.reportLintel_norRec (s : State) (r : Report) : (s.reportLintel r).norRec = s.norRec := rfl
@[simp] theorem State.reportLintel_norSize (s : State) (r : Report) : (s.reportLintel r).norSize = s.norSize := rfl
@[simp] theorem State.reportLintel_inReset (s : State) (r : Report) : (s.reportLintel r).inReset = s.inReset := rfl
@[simp] theorem State.reportLintel_resetLow (s : State) (r : Report) : (s.reportLintel r).resetLow = s.resetLow := rfl
@[simp] theorem State.reportLintel_tap (s : State) (r : Report) : (s.reportLintel r).tap = s.tap := rfl
@[simp] theorem State.reportLintel_lostSupplies (s : State) (r : Report) : (s.reportLintel r).lostSupplies = s.lostSupplies := rfl
@[simp] theorem State.reportLintel_railLow (s : State) (r : Report) : (s.reportLintel r).railLow = s.railLow := rfl
@[simp] theorem State.reportLintel_refLost (s : State) (r : Report) : (s.reportLintel r).refLost = s.refLost := rfl
@[simp] theorem State.reportLintel_gpio (s : State) (r : Report) : (s.reportLintel r).gpio = s.gpio := rfl
@[simp] theorem State.reportLintel_gpioIn (s : State) (r : Report) : (s.reportLintel r).gpioIn = s.gpioIn := rfl
@[simp] theorem State.reportLintel_free (s : State) (r : Report) : (s.reportLintel r).free = s.free := rfl
@[simp] theorem State.reportLintel_pending (s : State) (r : Report) : (s.reportLintel r).pending = s.pending := rfl

/-! State.at. -/

@[simp] theorem State.at_part (s : State) (t : Nat) : (s.at t).part = s.part := rfl
@[simp] theorem State.at_causes (s : State) (t : Nat) : (s.at t).causes = s.causes := rfl
@[simp] theorem State.at_tick (s : State) (t : Nat) : (s.at t).tick = s.tick := rfl
@[simp] theorem State.at_inBnd (s : State) (t : Nat) : (s.at t).inBnd = s.inBnd := rfl
@[simp] theorem State.at_readyBnd (s : State) (t : Nat) : (s.at t).readyBnd = s.readyBnd := rfl
@[simp] theorem State.at_tickOut (s : State) (t : Nat) : (s.at t).tickOut = s.tickOut := rfl
@[simp] theorem State.at_stamps (s : State) (t : Nat) : (s.at t).stamps = s.stamps := rfl
@[simp] theorem State.at_gen (s : State) (t : Nat) : (s.at t).gen = s.gen := rfl
@[simp] theorem State.at_locked (s : State) (t : Nat) : (s.at t).locked = s.locked := rfl
@[simp] theorem State.at_img (s : State) (t : Nat) : (s.at t).img = s.img := rfl
@[simp] theorem State.at_imgRaw (s : State) (t : Nat) : (s.at t).imgRaw = s.imgRaw := rfl
@[simp] theorem State.at_reg (s : State) (t : Nat) : (s.at t).reg = s.reg := rfl
@[simp] theorem State.at_panes (s : State) (t : Nat) : (s.at t).panes = s.panes := rfl
@[simp] theorem State.at_mesh (s : State) (t : Nat) : (s.at t).mesh = s.mesh := rfl
@[simp] theorem State.at_held (s : State) (t : Nat) : (s.at t).held = s.held := rfl
@[simp] theorem State.at_nextId (s : State) (t : Nat) : (s.at t).nextId = s.nextId := rfl
@[simp] theorem State.at_deadRouters (s : State) (t : Nat) : (s.at t).deadRouters = s.deadRouters := rfl
@[simp] theorem State.at_routedAround (s : State) (t : Nat) : (s.at t).routedAround = s.routedAround := rfl
@[simp] theorem State.at_relays (s : State) (t : Nat) : (s.at t).relays = s.relays := rfl
@[simp] theorem State.at_takeovers (s : State) (t : Nat) : (s.at t).takeovers = s.takeovers := rfl
@[simp] theorem State.at_lastC (s : State) (t : Nat) : (s.at t).lastC = s.lastC := rfl
@[simp] theorem State.at_routesDue (s : State) (t : Nat) : (s.at t).routesDue = s.routesDue := rfl
@[simp] theorem State.at_retireDue (s : State) (t : Nat) : (s.at t).retireDue = s.retireDue := rfl
@[simp] theorem State.at_groupCls (s : State) (t : Nat) : (s.at t).groupCls = s.groupCls := rfl
@[simp] theorem State.at_red (s : State) (t : Nat) : (s.at t).red = s.red := rfl
@[simp] theorem State.at_redHeld (s : State) (t : Nat) : (s.at t).redHeld = s.redHeld := rfl
@[simp] theorem State.at_wicketOut (s : State) (t : Nat) : (s.at t).wicketOut = s.wicketOut := rfl
@[simp] theorem State.at_links (s : State) (t : Nat) : (s.at t).links = s.links := rfl
@[simp] theorem State.at_tokens (s : State) (t : Nat) : (s.at t).tokens = s.tokens := rfl
@[simp] theorem State.at_readySeen (s : State) (t : Nat) : (s.at t).readySeen = s.readySeen := rfl
@[simp] theorem State.at_tokenLate (s : State) (t : Nat) : (s.at t).tokenLate = s.tokenLate := rfl
@[simp] theorem State.at_lateNow (s : State) (t : Nat) : (s.at t).lateNow = s.lateNow := rfl
@[simp] theorem State.at_tokenEvents (s : State) (t : Nat) : (s.at t).tokenEvents = s.tokenEvents := rfl
@[simp] theorem State.at_ctlOut (s : State) (t : Nat) : (s.at t).ctlOut = s.ctlOut := rfl
@[simp] theorem State.at_digestOk (s : State) (t : Nat) : (s.at t).digestOk = s.digestOk := rfl
@[simp] theorem State.at_redRes (s : State) (t : Nat) : (s.at t).redRes = s.redRes := rfl
@[simp] theorem State.at_lanes (s : State) (t : Nat) : (s.at t).lanes = s.lanes := rfl
@[simp] theorem State.at_sipSeen (s : State) (t : Nat) : (s.at t).sipSeen = s.sipSeen := rfl
@[simp] theorem State.at_streamF (s : State) (t : Nat) : (s.at t).streamF = s.streamF := rfl
@[simp] theorem State.at_drv (s : State) (t : Nat) : (s.at t).drv = s.drv := rfl
@[simp] theorem State.at_drvDue (s : State) (t : Nat) : (s.at t).drvDue = s.drvDue := rfl
@[simp] theorem State.at_drvOut (s : State) (t : Nat) : (s.at t).drvOut = s.drvOut := rfl
@[simp] theorem State.at_bolt (s : State) (t : Nat) : (s.at t).bolt = s.bolt := rfl
@[simp] theorem State.at_bufs (s : State) (t : Nat) : (s.at t).bufs = s.bufs := rfl
@[simp] theorem State.at_bufEcc (s : State) (t : Nat) : (s.at t).bufEcc = s.bufEcc := rfl
@[simp] theorem State.at_dram (s : State) (t : Nat) : (s.at t).dram = s.dram := rfl
@[simp] theorem State.at_dramEcc (s : State) (t : Nat) : (s.at t).dramEcc = s.dramEcc := rfl
@[simp] theorem State.at_movers (s : State) (t : Nat) : (s.at t).movers = s.movers := rfl
@[simp] theorem State.at_rdata (s : State) (t : Nat) : (s.at t).rdata = s.rdata := rfl
@[simp] theorem State.at_bells (s : State) (t : Nat) : (s.at t).bells = s.bells := rfl
@[simp] theorem State.at_arrivals (s : State) (t : Nat) : (s.at t).arrivals = s.arrivals := rfl
@[simp] theorem State.at_doms (s : State) (t : Nat) : (s.at t).doms = s.doms := rfl
@[simp] theorem State.at_latchReps (s : State) (t : Nat) : (s.at t).latchReps = s.latchReps := rfl
@[simp] theorem State.at_lintelReps (s : State) (t : Nat) : (s.at t).lintelReps = s.lintelReps := rfl
@[simp] theorem State.at_ledger (s : State) (t : Nat) : (s.at t).ledger = s.ledger := rfl
@[simp] theorem State.at_branchMasked (s : State) (t : Nat) : (s.at t).branchMasked = s.branchMasked := rfl
@[simp] theorem State.at_missed (s : State) (t : Nat) : (s.at t).missed = s.missed := rfl
@[simp] theorem State.at_ceSeen (s : State) (t : Nat) : (s.at t).ceSeen = s.ceSeen := rfl
@[simp] theorem State.at_ceWin (s : State) (t : Nat) : (s.at t).ceWin = s.ceWin := rfl
@[simp] theorem State.at_ceRecorded (s : State) (t : Nat) : (s.at t).ceRecorded = s.ceRecorded := rfl
@[simp] theorem State.at_mbs (s : State) (t : Nat) : (s.at t).mbs = s.mbs := rfl
@[simp] theorem State.at_mbLatch (s : State) (t : Nat) : (s.at t).mbLatch = s.mbLatch := rfl
@[simp] theorem State.at_sill (s : State) (t : Nat) : (s.at t).sill = s.sill := rfl
@[simp] theorem State.at_miso (s : State) (t : Nat) : (s.at t).miso = s.miso := rfl
@[simp] theorem State.at_winBusy (s : State) (t : Nat) : (s.at t).winBusy = s.winBusy := rfl
@[simp] theorem State.at_winHeld (s : State) (t : Nat) : (s.at t).winHeld = s.winHeld := rfl
@[simp] theorem State.at_bridge (s : State) (t : Nat) : (s.at t).bridge = s.bridge := rfl
@[simp] theorem State.at_nor (s : State) (t : Nat) : (s.at t).nor = s.nor := rfl
@[simp] theorem State.at_severRep (s : State) (t : Nat) : (s.at t).severRep = s.severRep := rfl
@[simp] theorem State.at_logq (s : State) (t : Nat) : (s.at t).logq = s.logq := rfl
@[simp] theorem State.at_clamps (s : State) (t : Nat) : (s.at t).clamps = s.clamps := rfl
@[simp] theorem State.at_net (s : State) (t : Nat) : (s.at t).net = s.net := rfl
@[simp] theorem State.at_shut (s : State) (t : Nat) : (s.at t).shut = s.shut := rfl
@[simp] theorem State.at_gpioHigh (s : State) (t : Nat) : (s.at t).gpioHigh = s.gpioHigh := rfl
@[simp] theorem State.at_otp (s : State) (t : Nat) : (s.at t).otp = s.otp := rfl
@[simp] theorem State.at_keyholes (s : State) (t : Nat) : (s.at t).keyholes = s.keyholes := rfl
@[simp] theorem State.at_latchKeys (s : State) (t : Nat) : (s.at t).latchKeys = s.latchKeys := rfl
@[simp] theorem State.at_roster (s : State) (t : Nat) : (s.at t).roster = s.roster := rfl
@[simp] theorem State.at_logs (s : State) (t : Nat) : (s.at t).logs = s.logs := rfl
@[simp] theorem State.at_aon (s : State) (t : Nat) : (s.at t).aon = s.aon := rfl
@[simp] theorem State.at_norRec (s : State) (t : Nat) : (s.at t).norRec = s.norRec := rfl
@[simp] theorem State.at_norSize (s : State) (t : Nat) : (s.at t).norSize = s.norSize := rfl
@[simp] theorem State.at_inReset (s : State) (t : Nat) : (s.at t).inReset = s.inReset := rfl
@[simp] theorem State.at_resetLow (s : State) (t : Nat) : (s.at t).resetLow = s.resetLow := rfl
@[simp] theorem State.at_tap (s : State) (t : Nat) : (s.at t).tap = s.tap := rfl
@[simp] theorem State.at_lostSupplies (s : State) (t : Nat) : (s.at t).lostSupplies = s.lostSupplies := rfl
@[simp] theorem State.at_railLow (s : State) (t : Nat) : (s.at t).railLow = s.railLow := rfl
@[simp] theorem State.at_refLost (s : State) (t : Nat) : (s.at t).refLost = s.refLost := rfl
@[simp] theorem State.at_gpio (s : State) (t : Nat) : (s.at t).gpio = s.gpio := rfl
@[simp] theorem State.at_gpioIn (s : State) (t : Nat) : (s.at t).gpioIn = s.gpioIn := rfl
@[simp] theorem State.at_free (s : State) (t : Nat) : (s.at t).free = s.free := rfl
@[simp] theorem State.at_pending (s : State) (t : Nat) : (s.at t).pending = s.pending := rfl

end Sys2Proof.Machine
end

