-- ==== Sys2Proof/Laws/Issue.lean ====
section
/-!
SUPPORT. Everything the shared operations can do: reading back what they write, what the issue of an instruction answers in each
of its cases, and the frame of an instruction that writes one register.
-/
namespace Sys2Proof.Machine

open Sys2Proof (Instr)

/-! Reading back. -/

/-- A pane reads back as it was set, and every other pane as before. -/
theorem State.pane_setPane (s : State) (p k : Nat) (q : Pane) :
    (s.setPane p q).pane k = if p = k then q else s.pane k := SMap.get_put _ s.panes p k q

theorem State.pane_modPane (s : State) (p k : Nat) (f : Pane → Pane) :
    (s.modPane p f).pane k = if p = k then f (s.pane p) else s.pane k := State.pane_setPane s p k _

/-- Panes are kept apart from everything else. -/
theorem State.modPane_rest (s : State) (p : Nat) (f : Pane → Pane) :
    s.modPane p f = { s with panes := (s.modPane p f).panes } := rfl

/-- A device register reads back as it was written, and every other one as before. -/
theorem State.rd_wr (s : State) (a b : Nat) (v : Word) : (s.wr a v).rd b = if a = b then v else s.rd b :=
  RegFile.rd_wr devReset s.reg a b v

/-- A domain reads back as it was set, and every other domain as before. -/
theorem State.dom_setDom (s : State) (d e : Nat) (x : Dom) : (s.setDom d x).dom e = if d = e then x else s.dom e :=
  SMap.get_put _ s.doms d e x

/-- A bell reads back as it was set, and every other bell as before. -/
theorem State.bellOf_setBell (s : State) (k j : Nat) (b : Bell) : (s.setBell k b).bellOf j = if k = j then b else s.bellOf j :=
  SMap.get_put _ s.bells k j b

/-- A pane control register reads back as it was written, and every other one as before. -/
theorem Pane.cr_setCr (q : Pane) (a b : Nat) (v : Word) : (q.setCr a v).cr b = if a = b then v else q.cr b :=
  RegFile.rd_wr ctlReset q.ctl a b v

/-- A register reads back as it was written; g0 reads 0 (R182). -/
theorem Pane.gr_setGr (q : Pane) (r k : RegNo) (v : Word) :
    (q.setGr r v).gr k = if k = r ∧ r ≠ 0 then v else q.gr k := by
  by_cases hr : r = 0
  · have e : q.setGr r v = q := if_pos hr
    rw [e, if_neg (fun h => h.2 hr)]
  · have e : (q.setGr r v).g = q.g.set r.toNat v (by omega) := by
      unfold Pane.setGr; rw [if_neg hr]
    by_cases hk : k = 0
    · subst hk
      rw [if_neg (fun h => hr h.1.symm)]
      rfl
    · have hg : ∀ x : Pane, x.gr k = x.g[k.toNat]'(by omega) := fun x => if_neg hk
      rw [hg, hg]
      simp only [e]
      by_cases h : k = r
      · subst h; rw [if_pos ⟨rfl, hr⟩]; simp
      · have hn : r.toNat ≠ k.toNat := fun e => h (BitVec.eq_of_toNat_eq e.symm)
        rw [if_neg (fun h' => h h'.1), Vector.getElem_set_ne _ _ hn]

theorem OnlyPane.refl (p : Nat) (s : State) : OnlyPane p s s := ⟨rfl, fun _ _ => rfl⟩

theorem OnlyPane.trans {p : Nat} {s t u : State} (h1 : OnlyPane p s t) (h2 : OnlyPane p t u) : OnlyPane p s u := by
  refine ⟨?_, fun k hk => (h2.2 k hk).trans (h1.2 k hk)⟩
  rw [h2.1, h1.1]

theorem OnlyPane.setPane (p : Nat) (s : State) (q : Pane) : OnlyPane p s (s.setPane p q) :=
  ⟨rfl, fun k hk => by rw [State.pane_setPane, if_neg (Ne.symm hk)]⟩

theorem OnlyPane.modPane (p : Nat) (s : State) (f : Pane → Pane) : OnlyPane p s (s.modPane p f) :=
  OnlyPane.setPane p s _

/-! Loop-back. -/

/-- Loop-back depends on the loop registers alone. -/
theorem loopBack_congr {q r : Pane} (a : Word) (n : Nat) (h1 : r.lc = q.lc) (h2 : r.le = q.le) (h3 : r.lb = q.lb) :
    loopBack r a n = loopBack q a n := by
  induction n generalizing q r with
  | zero => simp [loopBack, h1]
  | succ k ih =>
    simp only [loopBack, h1, h2, h3]
    split
    · split
      · split
        · rfl
        · exact ih rfl rfl rfl
      · exact ih h1 h2 h3
    · exact ih h1 h2 h3

/-- Retirement depends on the loop registers and pc alone. -/
theorem Pane.retire_congr {q r : Pane} (h1 : r.lc = q.lc) (h2 : r.le = q.le) (h3 : r.lb = q.lb) (h4 : r.pc = q.pc) :
    r.retire.pc = q.retire.pc ∧ r.retire.lc = q.retire.lc := by
  simp only [Pane.retire, h4, loopBack_congr q.pc 3 h1 h2 h3, and_self]

/-! The cases of an instruction's issue (R187, R216, R149, R150). -/

theorem State.ready_canIssue {s : State} {i : Instr} {p : PaneNo} {gd : BitVec 4} {srcs : List RegNo}
    (h : s.ready i p gd srcs = true) : s.canIssue p.toNat = true := by
  simp only [State.ready, Bool.and_eq_true] at h; exact h.1.1.1

/-- An instruction that is ready, and whose privilege check passes, has its own effect. -/
theorem State.issue_ready {s : State} {i : Instr} {p : PaneNo} {gd : BitVec 4} {srcs : List RegNo}
    {priv : Pane → Option Nat} {body : State → Pane → Effect}
    (h : s.ready i p gd srcs = true) (hp : priv (s.pane p.toNat) = none) :
    s.issue i p gd priv srcs body = (body s (s.pane p.toNat)).finish p.toNat := by
  simp only [State.ready, Bool.and_eq_true, Option.isNone_iff_eq_none] at h
  obtain ⟨⟨⟨h1, h2⟩, h3⟩, h4⟩ := h
  have h5 : (s.pane p.toNat).wreads.find? (fun x => srcs.any x.writes) = none := by
    rw [List.find?_eq_none]
    intro x hx
    have := List.all_eq_true.mp h4 x hx
    simpa using this
  simp [State.issue, h1, h2, h3, hp, h5]

/-- A pane that cannot issue leaves the state (log 5). -/
theorem State.issue_waits {s : State} {i : Instr} {p : PaneNo} {gd : BitVec 4} {srcs : List RegNo}
    {priv : Pane → Option Nat} {body : State → Pane → Effect} (h : s.canIssue p.toNat = false) :
    s.issue i p gd priv srcs body = s := by
  simp [State.issue, h]

/-- A word that fails a check of R216 takes the undefined-instruction trap, whatever its guard. -/
theorem State.issue_undefined {s : State} {i : Instr} {p : PaneNo} {gd : BitVec 4} {srcs : List RegNo}
    {priv : Pane → Option Nat} {body : State → Pane → Effect} {c : Nat} (h : s.canIssue p.toNat = true)
    (hc : undefCause i = some c) :
    s.issue i p gd priv srcs body = s.takeTrap p.toNat ((s.pane p.toNat).mkTrap 0 c (wordOf i)) := by
  simp [State.issue, h, hc]

/-- An instruction whose guard is false retires and does nothing else (R147, R187). -/
theorem State.issue_skipped {s : State} {i : Instr} {p : PaneNo} {gd : BitVec 4} {srcs : List RegNo}
    {priv : Pane → Option Nat} {body : State → Pane → Effect} (h : s.canIssue p.toNat = true)
    (hc : undefCause i = none) (hg : (s.pane p.toNat).guard gd = false) :
    s.issue i p gd priv srcs body = s.modPane p.toNat Pane.retire := by
  simp [State.issue, h, hc, hg]

/-! An instruction that writes one register. -/

/-- Retiring after a register write that ORs `fl` into STATUS has the frame of `Wrote`. -/
theorem Wrote.of_setGr (s : State) (p : Nat) (rd : RegNo) (v fl : Word) (q : Pane)
    (hq : q = { (s.pane p).setGr rd v with status := (s.pane p).status ||| fl }) :
    Wrote p rd v fl s ((s.setPane p q).modPane p Pane.retire) := by
  have h1 : q.lc = (s.pane p).lc := by subst hq; simp
  have h2 : q.le = (s.pane p).le := by subst hq; simp
  have h3 : q.lb = (s.pane p).lb := by subst hq; simp
  have h4 : q.pc = (s.pane p).pc := by subst hq; simp
  have hr := Pane.retire_congr h1 h2 h3 h4
  refine ⟨(OnlyPane.setPane p s q).trans (OnlyPane.modPane p _ _), ?_⟩
  simp only [State.pane_modPane, State.pane_setPane, if_true]
  refine ⟨fun r => ?_, ?_, hr.1, hr.2, ?_⟩
  · have : q.retire.gr r = ((s.pane p).setGr rd v).gr r := by subst hq; rfl
    rw [this, Pane.gr_setGr]
  · subst hq; rfl
  · subst hq
    simp only [Pane.retire, Pane.setGr]
    split <;> rfl

end Sys2Proof.Machine
end

