-- ==== Sys2Proof/Laws/Integer.lean ====
section
/-!
SUPPORT. The result and the frame of the shared register operations: an instruction that is ready writes its destination and its
flags, and nothing else but pc and the loop counters.
-/
namespace Sys2Proof.Machine

open Sys2Proof (Instr)

/-- A sticky flag is ORed into STATUS (R198). -/
theorem Pane.stick_eq (q : Pane) (i : Nat) (b : Bool) : q.stick i b = { q with status := q.status ||| bitIf i b } := by
  unfold Pane.stick bitIf; split <;> simp

/-- Writing a register leaves STATUS as it is. -/
theorem Pane.setGr_status_or_zero (q : Pane) (r : RegNo) (v : Word) :
    q.setGr r v = { q.setGr r v with status := q.status ||| 0#32 } := by
  simp only [Pane.setGr]; split <;> simp

/-- A ready instruction whose effect is f on the pane alone completes with that effect and retires. -/
theorem paneOp_ready {i : Instr} {p : PaneNo} {gd : BitVec 4} {srcs : List RegNo} {f : Pane → Pane} {s : State}
    (h : s.ready i p gd srcs = true) :
    paneOp i p gd srcs f s = .next ((s.setPane p.toNat (f (s.pane p.toNat))).modPane p.toNat Pane.retire) := by
  unfold paneOp
  rw [State.issue_ready h rfl]
  rfl

/-- A ready instruction that writes v into RD and sets no flag. -/
theorem paneOp_wrote {i : Instr} {p : PaneNo} {gd : BitVec 4} {srcs : List RegNo} {rd : RegNo} {v : Pane → Word} {s : State}
    (h : s.ready i p gd srcs = true) :
    ∃ t, paneOp i p gd srcs (fun q => q.setGr rd (v q)) s = .next t ∧ Wrote p.toNat rd (v (s.pane p.toNat)) 0 s t :=
  ⟨_, paneOp_ready h, Wrote.of_setGr s p.toNat rd _ 0 _ (Pane.setGr_status_or_zero _ _ _)⟩

/-- A ready instruction that writes v into RD and sets flag k when b holds. -/
theorem paneOp_wrote_flag {i : Instr} {p : PaneNo} {gd : BitVec 4} {srcs : List RegNo} {rd : RegNo} {v : Pane → Word} {k : Nat}
    {b : Pane → Bool} {s : State} (h : s.ready i p gd srcs = true) :
    ∃ t, paneOp i p gd srcs (fun q => (q.setGr rd (v q)).stick k (b q)) s = .next t ∧
      Wrote p.toNat rd (v (s.pane p.toNat)) (bitIf k (b (s.pane p.toNat))) s t := by
  refine ⟨_, paneOp_ready h, Wrote.of_setGr s p.toNat rd _ _ _ ?_⟩
  simp only [Pane.stick_eq, Pane.setGr]; split <;> rfl

/-- A ready instruction with two sources. -/
theorem op3_wrote {i : Instr} {p : PaneNo} {gd : BitVec 4} {rd ra rb : RegNo} {f : Word → Word → Word} {s : State}
    (h : s.ready i p gd [ra, rb] = true) :
    ∃ t, op3 i p gd rd ra rb f s = .next t ∧
      Wrote p.toNat rd (f ((s.pane p.toNat).gr ra) ((s.pane p.toNat).gr rb)) 0 s t :=
  paneOp_wrote (v := fun q => f (q.gr ra) (q.gr rb)) h

/-- A ready instruction with two sources that may set V. -/
theorem op3v_wrote {i : Instr} {p : PaneNo} {gd : BitVec 4} {rd ra rb : RegNo} {f : Word → Word → Word × Bool} {s : State}
    (h : s.ready i p gd [ra, rb] = true) :
    ∃ t, op3v i p gd rd ra rb f s = .next t ∧
      Wrote p.toNat rd (f ((s.pane p.toNat).gr ra) ((s.pane p.toNat).gr rb)).1
        (bitIf 0 (f ((s.pane p.toNat).gr ra) ((s.pane p.toNat).gr rb)).2) s t :=
  paneOp_wrote_flag (v := fun q => (f (q.gr ra) (q.gr rb)).1) (b := fun q => (f (q.gr ra) (q.gr rb)).2) h

/-- A ready instruction with one source. -/
theorem op2_wrote {i : Instr} {p : PaneNo} {gd : BitVec 4} {rd ra : RegNo} {f : Word → Word} {s : State}
    (h : s.ready i p gd [ra] = true) :
    ∃ t, op2 i p gd rd ra f s = .next t ∧ Wrote p.toNat rd (f ((s.pane p.toNat).gr ra)) 0 s t :=
  paneOp_wrote (v := fun q => f (q.gr ra)) h

/-- A ready instruction with one source that may set V. -/
theorem op2v_wrote {i : Instr} {p : PaneNo} {gd : BitVec 4} {rd ra : RegNo} {f : Word → Word × Bool} {s : State}
    (h : s.ready i p gd [ra] = true) :
    ∃ t, op2v i p gd rd ra f s = .next t ∧
      Wrote p.toNat rd (f ((s.pane p.toNat).gr ra)).1 (bitIf 0 (f ((s.pane p.toNat).gr ra)).2) s t :=
  paneOp_wrote_flag (v := fun q => (f (q.gr ra)).1) (b := fun q => (f (q.gr ra)).2) h

end Sys2Proof.Machine
end

