-- ==== Sys2Proof/Laws/Arith.lean ====
section
/-!
SUPPORT. The result and the frame of the shared operations of the divisions, the accumulators and binary32.
-/
namespace Sys2Proof.Machine

open Sys2Proof (Instr)

/-- Two flags ORed one after the other. -/
theorem Pane.stick_stick (q : Pane) (i j : Nat) (a b : Bool) :
    (q.stick i a).stick j b = { q with status := q.status ||| (bitIf i a ||| bitIf j b) } := by
  simp only [Pane.stick_eq, BitVec.or_assoc]

/-- The flags of a binary32 result are ORed into STATUS (R198, R235). -/
theorem Pane.stickF_eq (q : Pane) (r : FRes) : q.stickF r = { q with status := q.status ||| r.flags } := by
  simp only [Pane.stickF, Pane.stick_eq, FRes.flags, BitVec.or_assoc]

/-- A division that does not trap writes its result and ORs V and DZ. -/
theorem divOp_wrote {i : Instr} {p : PaneNo} {gd : BitVec 4} {rd ra rb : RegNo} {f : Word → Word → Word × Bool} {s : State}
    (h : s.ready i p gd [ra, rb] = true) (hd : (s.pane p.toNat).gr rb ≠ 0 ∨ (s.pane p.toNat).dze = false) :
    ∃ t, divOp i p gd rd ra rb f s = .next t ∧
      Wrote p.toNat rd (f ((s.pane p.toNat).gr ra) ((s.pane p.toNat).gr rb)).1
        (bitIf 0 (f ((s.pane p.toNat).gr ra) ((s.pane p.toNat).gr rb)).2 ||| bitIf 1 ((s.pane p.toNat).gr rb == 0)) s t := by
  unfold divOp
  rw [State.issue_ready h rfl, if_neg (fun hc => hd.elim (fun h => h hc.1) (fun h => by simp [h] at hc))]
  refine ⟨_, rfl, Wrote.of_setGr s p.toNat rd _ _ _ ?_⟩
  simp only [Pane.stick_stick, Pane.setGr]; split <;> rfl

/-- A division by zero with DZE 1 traps from the unchanged state (R226, R227). -/
theorem divOp_traps {i : Instr} {p : PaneNo} {gd : BitVec 4} {rd ra rb : RegNo} {f : Word → Word → Word × Bool} {s : State}
    (h : s.ready i p gd [ra, rb] = true) (h0 : (s.pane p.toNat).gr rb = 0) (hd : (s.pane p.toNat).dze = true) :
    divOp i p gd rd ra rb f s = .next (s.takeTrap p.toNat ((s.pane p.toNat).mkTrap 6 0 ((s.pane p.toNat).gr ra))) := by
  unfold divOp
  rw [State.issue_ready h rfl, if_pos ⟨h0, hd⟩]
  rfl

/-- A ready instruction whose effect on the pane leaves pc and the loop registers as they are completes with that effect. -/
theorem paneOp_stepped {i : Instr} {p : PaneNo} {gd : BitVec 4} {srcs : List RegNo} {f : Pane → Pane} {s : State} {q : Pane}
    (h : s.ready i p gd srcs = true) (hf : f (s.pane p.toNat) = q) (h1 : q.lc = (s.pane p.toNat).lc)
    (h2 : q.le = (s.pane p.toNat).le) (h3 : q.lb = (s.pane p.toNat).lb) (h4 : q.pc = (s.pane p.toNat).pc) :
    ∃ t, paneOp i p gd srcs f s = .next t ∧ Stepped p.toNat q s t := by
  refine ⟨_, paneOp_ready h, (OnlyPane.setPane _ _ _).trans (OnlyPane.modPane _ _ _), ?_⟩
  have hr := Pane.retire_congr h1 h2 h3 h4
  rw [State.pane_modPane, if_pos rfl, State.pane_setPane, if_pos rfl, hf, ← hr.1, ← hr.2]
  rfl

/-- A binary32 instruction with two sources writes its result and ORs its flags. -/
theorem fop3_wrote {i : Instr} {p : PaneNo} {gd : BitVec 4} {rd ra rb : RegNo} {f : Word → Word → FRes} {s : State}
    (h : s.ready i p gd [ra, rb] = true) :
    ∃ t, fop3 i p gd rd ra rb f s = .next t ∧
      Wrote p.toNat rd (f ((s.pane p.toNat).gr ra) ((s.pane p.toNat).gr rb)).bits
        (f ((s.pane p.toNat).gr ra) ((s.pane p.toNat).gr rb)).flags s t := by
  refine ⟨_, paneOp_ready h, Wrote.of_setGr s p.toNat rd _ _ _ ?_⟩
  simp only [Pane.stickF_eq, Pane.setGr]; split <;> rfl

/-- A binary32 instruction with three sources writes its result and ORs its flags. -/
theorem fop4_wrote {i : Instr} {p : PaneNo} {gd : BitVec 4} {rd ra rb : RegNo} {f : Word → Word → Word → FRes} {s : State}
    (h : s.ready i p gd [rd, ra, rb] = true) :
    ∃ t, fop4 i p gd rd ra rb f s = .next t ∧
      Wrote p.toNat rd (f ((s.pane p.toNat).gr rd) ((s.pane p.toNat).gr ra) ((s.pane p.toNat).gr rb)).bits
        (f ((s.pane p.toNat).gr rd) ((s.pane p.toNat).gr ra) ((s.pane p.toNat).gr rb)).flags s t := by
  refine ⟨_, paneOp_ready h, Wrote.of_setGr s p.toNat rd _ _ _ ?_⟩
  simp only [Pane.stickF_eq, Pane.setGr]; split <;> rfl

/-- A binary32 instruction with one source writes its result and ORs its flags. -/
theorem fop2_wrote {i : Instr} {p : PaneNo} {gd : BitVec 4} {rd ra : RegNo} {f : Word → FRes} {s : State}
    (h : s.ready i p gd [ra] = true) :
    ∃ t, fop2 i p gd rd ra f s = .next t ∧
      Wrote p.toNat rd (f ((s.pane p.toNat).gr ra)).bits (f ((s.pane p.toNat).gr ra)).flags s t := by
  refine ⟨_, paneOp_ready h, Wrote.of_setGr s p.toNat rd _ _ _ ?_⟩
  simp only [Pane.stickF_eq, Pane.setGr]; split <;> rfl

end Sys2Proof.Machine
end

