-- ==== Sys2Proof/Laws/Exec.lean ====
section
/-!
SUPPORT. One equation for each arm of the dispatch, so that no proof unfolds the whole match.
-/
namespace Sys2Proof.Machine

@[simp] theorem exec_add : ∀ p gd rd ra rb s, exec (.add p gd rd ra rb) s = execAdd p gd rd ra rb s := fun _ _ _ _ _ _ => rfl
@[simp] theorem exec_sub : ∀ p gd rd ra rb s, exec (.sub p gd rd ra rb) s = execSub p gd rd ra rb s := fun _ _ _ _ _ _ => rfl
@[simp] theorem exec_and : ∀ p gd rd ra rb s, exec (.and p gd rd ra rb) s = execAnd p gd rd ra rb s := fun _ _ _ _ _ _ => rfl
@[simp] theorem exec_or : ∀ p gd rd ra rb s, exec (.or p gd rd ra rb) s = execOr p gd rd ra rb s := fun _ _ _ _ _ _ => rfl
@[simp] theorem exec_xor : ∀ p gd rd ra rb s, exec (.xor p gd rd ra rb) s = execXor p gd rd ra rb s := fun _ _ _ _ _ _ => rfl
@[simp] theorem exec_andn : ∀ p gd rd ra rb s, exec (.andn p gd rd ra rb) s = execAndn p gd rd ra rb s := fun _ _ _ _ _ _ => rfl
@[simp] theorem exec_min : ∀ p gd rd ra rb s, exec (.min p gd rd ra rb) s = execMin p gd rd ra rb s := fun _ _ _ _ _ _ => rfl
@[simp] theorem exec_max : ∀ p gd rd ra rb s, exec (.max p gd rd ra rb) s = execMax p gd rd ra rb s := fun _ _ _ _ _ _ => rfl
@[simp] theorem exec_minu : ∀ p gd rd ra rb s, exec (.minu p gd rd ra rb) s = execMinu p gd rd ra rb s := fun _ _ _ _ _ _ => rfl
@[simp] theorem exec_maxu : ∀ p gd rd ra rb s, exec (.maxu p gd rd ra rb) s = execMaxu p gd rd ra rb s := fun _ _ _ _ _ _ => rfl
@[simp] theorem exec_adds : ∀ p gd rd ra rb s, exec (.adds p gd rd ra rb) s = execAdds p gd rd ra rb s := fun _ _ _ _ _ _ => rfl
@[simp] theorem exec_subs : ∀ p gd rd ra rb s, exec (.subs p gd rd ra rb) s = execSubs p gd rd ra rb s := fun _ _ _ _ _ _ => rfl
@[simp] theorem exec_neg : ∀ p gd rd ra s, exec (.neg p gd rd ra) s = execNeg p gd rd ra s := fun _ _ _ _ _ => rfl
@[simp] theorem exec_negs : ∀ p gd rd ra s, exec (.negs p gd rd ra) s = execNegs p gd rd ra s := fun _ _ _ _ _ => rfl
@[simp] theorem exec_abs : ∀ p gd rd ra s, exec (.abs p gd rd ra) s = execAbs p gd rd ra s := fun _ _ _ _ _ => rfl
@[simp] theorem exec_shl : ∀ p gd rd ra rb s, exec (.shl p gd rd ra rb) s = execShl p gd rd ra rb s := fun _ _ _ _ _ _ => rfl
@[simp] theorem exec_shr : ∀ p gd rd ra rb s, exec (.shr p gd rd ra rb) s = execShr p gd rd ra rb s := fun _ _ _ _ _ _ => rfl
@[simp] theorem exec_sar : ∀ p gd rd ra rb s, exec (.sar p gd rd ra rb) s = execSar p gd rd ra rb s := fun _ _ _ _ _ _ => rfl
@[simp] theorem exec_ror : ∀ p gd rd ra rb s, exec (.ror p gd rd ra rb) s = execRor p gd rd ra rb s := fun _ _ _ _ _ _ => rfl
@[simp] theorem exec_clz : ∀ p gd rd ra s, exec (.clz p gd rd ra) s = execClz p gd rd ra s := fun _ _ _ _ _ => rfl
@[simp] theorem exec_popc : ∀ p gd rd ra s, exec (.popc p gd rd ra) s = execPopc p gd rd ra s := fun _ _ _ _ _ => rfl
@[simp] theorem exec_sextb : ∀ p gd rd ra s, exec (.sextb p gd rd ra) s = execSextb p gd rd ra s := fun _ _ _ _ _ => rfl
@[simp] theorem exec_sexth : ∀ p gd rd ra s, exec (.sexth p gd rd ra) s = execSexth p gd rd ra s := fun _ _ _ _ _ => rfl
@[simp] theorem exec_zexth : ∀ p gd rd ra s, exec (.zexth p gd rd ra) s = execZexth p gd rd ra s := fun _ _ _ _ _ => rfl
@[simp] theorem exec_mul : ∀ p gd rd ra rb s, exec (.mul p gd rd ra rb) s = execMul p gd rd ra rb s := fun _ _ _ _ _ _ => rfl
@[simp] theorem exec_mulh : ∀ p gd rd ra rb s, exec (.mulh p gd rd ra rb) s = execMulh p gd rd ra rb s := fun _ _ _ _ _ _ => rfl
@[simp] theorem exec_mulhu : ∀ p gd rd ra rb s,
    exec (.mulhu p gd rd ra rb) s = execMulhu p gd rd ra rb s := fun _ _ _ _ _ _ => rfl
@[simp] theorem exec_div : ∀ p gd rd ra rb s, exec (.div p gd rd ra rb) s = execDiv p gd rd ra rb s := fun _ _ _ _ _ _ => rfl
@[simp] theorem exec_divu : ∀ p gd rd ra rb s, exec (.divu p gd rd ra rb) s = execDivu p gd rd ra rb s := fun _ _ _ _ _ _ => rfl
@[simp] theorem exec_rem : ∀ p gd rd ra rb s, exec (.rem p gd rd ra rb) s = execRem p gd rd ra rb s := fun _ _ _ _ _ _ => rfl
@[simp] theorem exec_remu : ∀ p gd rd ra rb s, exec (.remu p gd rd ra rb) s = execRemu p gd rd ra rb s := fun _ _ _ _ _ _ => rfl
@[simp] theorem exec_mac : ∀ p gd acc ra rb s, exec (.mac p gd acc ra rb) s = execMac p gd acc ra rb s := fun _ _ _ _ _ _ => rfl
@[simp] theorem exec_msu : ∀ p gd acc ra rb s, exec (.msu p gd acc ra rb) s = execMsu p gd acc ra rb s := fun _ _ _ _ _ _ => rfl
@[simp] theorem exec_mac2h : ∀ p gd acc ra rb s,
    exec (.mac2h p gd acc ra rb) s = execMac2h p gd acc ra rb s := fun _ _ _ _ _ _ => rfl
@[simp] theorem exec_msu2h : ∀ p gd acc ra rb s,
    exec (.msu2h p gd acc ra rb) s = execMsu2h p gd acc ra rb s := fun _ _ _ _ _ _ => rfl
@[simp] theorem exec_macu : ∀ p gd acc ra rb s,
    exec (.macu p gd acc ra rb) s = execMacu p gd acc ra rb s := fun _ _ _ _ _ _ => rfl
@[simp] theorem exec_aclr : ∀ p gd acc s, exec (.aclr p gd acc) s = execAclr p gd acc s := fun _ _ _ _ => rfl
@[simp] theorem exec_aext : ∀ p gd rd acc rb s,
    exec (.aext p gd rd acc rb) s = execAext p gd rd acc rb s := fun _ _ _ _ _ _ => rfl
@[simp] theorem exec_fadd : ∀ p gd rd ra rb s, exec (.fadd p gd rd ra rb) s = execFadd p gd rd ra rb s := fun _ _ _ _ _ _ => rfl
@[simp] theorem exec_fsub : ∀ p gd rd ra rb s, exec (.fsub p gd rd ra rb) s = execFsub p gd rd ra rb s := fun _ _ _ _ _ _ => rfl
@[simp] theorem exec_fmul : ∀ p gd rd ra rb s, exec (.fmul p gd rd ra rb) s = execFmul p gd rd ra rb s := fun _ _ _ _ _ _ => rfl
@[simp] theorem exec_fma : ∀ p gd rd ra rb s, exec (.fma p gd rd ra rb) s = execFma p gd rd ra rb s := fun _ _ _ _ _ _ => rfl
@[simp] theorem exec_fms : ∀ p gd rd ra rb s, exec (.fms p gd rd ra rb) s = execFms p gd rd ra rb s := fun _ _ _ _ _ _ => rfl
@[simp] theorem exec_fdiv : ∀ p gd rd ra rb s, exec (.fdiv p gd rd ra rb) s = execFdiv p gd rd ra rb s := fun _ _ _ _ _ _ => rfl
@[simp] theorem exec_fsqrt : ∀ p gd rd ra s, exec (.fsqrt p gd rd ra) s = execFsqrt p gd rd ra s := fun _ _ _ _ _ => rfl
@[simp] theorem exec_fmin : ∀ p gd rd ra rb s, exec (.fmin p gd rd ra rb) s = execFmin p gd rd ra rb s := fun _ _ _ _ _ _ => rfl
@[simp] theorem exec_fmax : ∀ p gd rd ra rb s, exec (.fmax p gd rd ra rb) s = execFmax p gd rd ra rb s := fun _ _ _ _ _ _ => rfl
@[simp] theorem exec_fabs : ∀ p gd rd ra s, exec (.fabs p gd rd ra) s = execFabs p gd rd ra s := fun _ _ _ _ _ => rfl
@[simp] theorem exec_fneg : ∀ p gd rd ra s, exec (.fneg p gd rd ra) s = execFneg p gd rd ra s := fun _ _ _ _ _ => rfl
@[simp] theorem exec_fcvtSW : ∀ p gd rd ra s, exec (.fcvtSW p gd rd ra) s = execFcvtSW p gd rd ra s := fun _ _ _ _ _ => rfl
@[simp] theorem exec_fcvtWS : ∀ p gd rd ra s, exec (.fcvtWS p gd rd ra) s = execFcvtWS p gd rd ra s := fun _ _ _ _ _ => rfl
@[simp] theorem exec_fcvtSWu : ∀ p gd rd ra s, exec (.fcvtSWu p gd rd ra) s = execFcvtSWu p gd rd ra s := fun _ _ _ _ _ => rfl
@[simp] theorem exec_fcvtWuS : ∀ p gd rd ra s, exec (.fcvtWuS p gd rd ra) s = execFcvtWuS p gd rd ra s := fun _ _ _ _ _ => rfl
@[simp] theorem exec_addi : ∀ p gd rd ra imm s,
    exec (.addi p gd rd ra imm) s = execAddi p gd rd ra imm s := fun _ _ _ _ _ _ => rfl
@[simp] theorem exec_andi : ∀ p gd rd ra imm s,
    exec (.andi p gd rd ra imm) s = execAndi p gd rd ra imm s := fun _ _ _ _ _ _ => rfl
@[simp] theorem exec_ori : ∀ p gd rd ra imm s, exec (.ori p gd rd ra imm) s = execOri p gd rd ra imm s := fun _ _ _ _ _ _ => rfl
@[simp] theorem exec_xori : ∀ p gd rd ra imm s,
    exec (.xori p gd rd ra imm) s = execXori p gd rd ra imm s := fun _ _ _ _ _ _ => rfl
@[simp] theorem exec_shiftiShl : ∀ p gd rd ra amt s,
    exec (.shiftiShl p gd rd ra amt) s = execShiftiShl p gd rd ra amt s := fun _ _ _ _ _ _ => rfl
@[simp] theorem exec_shiftiShr : ∀ p gd rd ra amt s,
    exec (.shiftiShr p gd rd ra amt) s = execShiftiShr p gd rd ra amt s := fun _ _ _ _ _ _ => rfl
@[simp] theorem exec_shiftiSar : ∀ p gd rd ra amt s,
    exec (.shiftiSar p gd rd ra amt) s = execShiftiSar p gd rd ra amt s := fun _ _ _ _ _ _ => rfl
@[simp] theorem exec_shiftiRor : ∀ p gd rd ra amt s,
    exec (.shiftiRor p gd rd ra amt) s = execShiftiRor p gd rd ra amt s := fun _ _ _ _ _ _ => rfl
@[simp] theorem exec_muli : ∀ p gd rd ra imm s,
    exec (.muli p gd rd ra imm) s = execMuli p gd rd ra imm s := fun _ _ _ _ _ _ => rfl
@[simp] theorem exec_movi : ∀ p gd rd imm s, exec (.movi p gd rd imm) s = execMovi p gd rd imm s := fun _ _ _ _ _ => rfl
@[simp] theorem exec_movhi : ∀ p gd rd imm s, exec (.movhi p gd rd imm) s = execMovhi p gd rd imm s := fun _ _ _ _ _ => rfl
@[simp] theorem exec_orlo : ∀ p gd rd imm s, exec (.orlo p gd rd imm) s = execOrlo p gd rd imm s := fun _ _ _ _ _ => rfl
@[simp] theorem exec_b : ∀ p gd off s, exec (.b p gd off) s = execB p gd off s := fun _ _ _ _ => rfl
@[simp] theorem exec_bl : ∀ p gd off s, exec (.bl p gd off) s = execBl p gd off s := fun _ _ _ _ => rfl
@[simp] theorem exec_br : ∀ p gd reg s, exec (.br p gd reg) s = execBr p gd reg s := fun _ _ _ _ => rfl
@[simp] theorem exec_ret : ∀ p gd s, exec (.ret p gd) s = execRet p gd s := fun _ _ _ => rfl
@[simp] theorem exec_loop : ∀ p gd l r body cnt s,
    exec (.loop p gd l r body cnt) s = execLoop p gd l r body cnt s := fun _ _ _ _ _ _ _ => rfl
@[simp] theorem exec_lb : ∀ p gd rt ra m off s,
    exec (.lb p gd rt ra m off) s = execLb p gd rt ra m off s := fun _ _ _ _ _ _ _ => rfl
@[simp] theorem exec_lbu : ∀ p gd rt ra m off s,
    exec (.lbu p gd rt ra m off) s = execLbu p gd rt ra m off s := fun _ _ _ _ _ _ _ => rfl
@[simp] theorem exec_lh : ∀ p gd rt ra m off s,
    exec (.lh p gd rt ra m off) s = execLh p gd rt ra m off s := fun _ _ _ _ _ _ _ => rfl
@[simp] theorem exec_lhu : ∀ p gd rt ra m off s,
    exec (.lhu p gd rt ra m off) s = execLhu p gd rt ra m off s := fun _ _ _ _ _ _ _ => rfl
@[simp] theorem exec_lw : ∀ p gd rt ra m off s,
    exec (.lw p gd rt ra m off) s = execLw p gd rt ra m off s := fun _ _ _ _ _ _ _ => rfl
@[simp] theorem exec_lwp : ∀ p gd rt ra m off s,
    exec (.lwp p gd rt ra m off) s = execLwp p gd rt ra m off s := fun _ _ _ _ _ _ _ => rfl
@[simp] theorem exec_sb : ∀ p gd rt ra m off s,
    exec (.sb p gd rt ra m off) s = execSb p gd rt ra m off s := fun _ _ _ _ _ _ _ => rfl
@[simp] theorem exec_sh : ∀ p gd rt ra m off s,
    exec (.sh p gd rt ra m off) s = execSh p gd rt ra m off s := fun _ _ _ _ _ _ _ => rfl
@[simp] theorem exec_sw : ∀ p gd rt ra m off s,
    exec (.sw p gd rt ra m off) s = execSw p gd rt ra m off s := fun _ _ _ _ _ _ _ => rfl
@[simp] theorem exec_swp : ∀ p gd rt ra m off s,
    exec (.swp p gd rt ra m off) s = execSwp p gd rt ra m off s := fun _ _ _ _ _ _ _ => rfl
@[simp] theorem exec_storeDrain : ∀ p t s, exec (.storeDrain p t) s = execStoreDrain p t s := fun _ _ _ => rfl
@[simp] theorem exec_windowReadReturn : ∀ p k t s,
    exec (.windowReadReturn p k t) s = execWindowReadReturn p k t s := fun _ _ _ _ => rfl
@[simp] theorem exec_windowStoreResult : ∀ p t s,
    exec (.windowStoreResult p t) s = execWindowStoreResult p t s := fun _ _ _ => rfl
@[simp] theorem exec_cmp : ∀ p gd pd ra i cond b s,
    exec (.cmp p gd pd ra i cond b) s = execCmp p gd pd ra i cond b s := fun _ _ _ _ _ _ _ _ => rfl
@[simp] theorem exec_fcmp : ∀ p gd pd ra i cond b s,
    exec (.fcmp p gd pd ra i cond b) s = execFcmp p gd pd ra i cond b s := fun _ _ _ _ _ _ _ _ => rfl
@[simp] theorem exec_plog : ∀ p gd pd pa na pb nb op s,
    exec (.plog p gd pd pa na pb nb op) s = execPlog p gd pd pa na pb nb op s := fun _ _ _ _ _ _ _ _ _ => rfl
@[simp] theorem exec_post : ∀ p gd ra rb s, exec (.post p gd ra rb) s = execPost p gd ra rb s := fun _ _ _ _ _ => rfl
@[simp] theorem exec_postm : ∀ p gd rd ra rb s,
    exec (.postm p gd rd ra rb) s = execPostm p gd rd ra rb s := fun _ _ _ _ _ _ => rfl
@[simp] theorem exec_reduce : ∀ p gd ra rb s, exec (.reduce p gd ra rb) s = execReduce p gd ra rb s := fun _ _ _ _ _ => rfl
@[simp] theorem exec_vdotH : ∀ p gd acc ra rb k s,
    exec (.vdotH p gd acc ra rb k) s = execVdotH p gd acc ra rb k s := fun _ _ _ _ _ _ _ => rfl
@[simp] theorem exec_vdotF : ∀ p gd rd ra rb k s,
    exec (.vdotF p gd rd ra rb k) s = execVdotF p gd rd ra rb k s := fun _ _ _ _ _ _ _ => rfl
@[simp] theorem exec_vmacH : ∀ p gd rd ra rb k s,
    exec (.vmacH p gd rd ra rb k) s = execVmacH p gd rd ra rb k s := fun _ _ _ _ _ _ _ => rfl
@[simp] theorem exec_vmacF : ∀ p gd rd ra rb k s,
    exec (.vmacF p gd rd ra rb k) s = execVmacF p gd rd ra rb k s := fun _ _ _ _ _ _ _ => rfl
@[simp] theorem exec_bmov : ∀ p gd rd ra rb k s,
    exec (.bmov p gd rd ra rb k) s = execBmov p gd rd ra rb k s := fun _ _ _ _ _ _ _ => rfl
@[simp] theorem exec_bfill : ∀ p gd rd ra rb k s,
    exec (.bfill p gd rd ra rb k) s = execBfill p gd rd ra rb k s := fun _ _ _ _ _ _ _ => rfl
@[simp] theorem exec_bcrc : ∀ p gd rd ra rb k s,
    exec (.bcrc p gd rd ra rb k) s = execBcrc p gd rd ra rb k s := fun _ _ _ _ _ _ _ => rfl
@[simp] theorem exec_fence : ∀ p gd s, exec (.fence p gd) s = execFence p gd s := fun _ _ _ => rfl
@[simp] theorem exec_waitt : ∀ p gd k s, exec (.waitt p gd k) s = execWaitt p gd k s := fun _ _ _ _ => rfl
@[simp] theorem exec_mfs : ∀ p gd reg n s, exec (.mfs p gd reg n) s = execMfs p gd reg n s := fun _ _ _ _ _ => rfl
@[simp] theorem exec_mts : ∀ p gd reg n s, exec (.mts p gd reg n) s = execMts p gd reg n s := fun _ _ _ _ _ => rfl
@[simp] theorem exec_gate : ∀ p gd n s, exec (.gate p gd n) s = execGate p gd n s := fun _ _ _ _ => rfl
@[simp] theorem exec_rtg : ∀ p gd s, exec (.rtg p gd) s = execRtg p gd s := fun _ _ _ => rfl
@[simp] theorem exec_evpop : ∀ p gd reg s, exec (.evpop p gd reg) s = execEvpop p gd reg s := fun _ _ _ _ => rfl
@[simp] theorem exec_evdone : ∀ p gd s, exec (.evdone p gd) s = execEvdone p gd s := fun _ _ _ => rfl
@[simp] theorem exec_evwait : ∀ p gd s, exec (.evwait p gd) s = execEvwait p gd s := fun _ _ _ => rfl
@[simp] theorem exec_trapEntry : ∀ p s, exec (.trapEntry p) s = execTrapEntry p s := fun _ _ => rfl
@[simp] theorem exec_eventEntry : ∀ p s, exec (.eventEntry p) s = execEventEntry p s := fun _ _ => rfl
@[simp] theorem exec_boundary : ∀ s, exec (.boundary) s = execBoundary s := fun _ => rfl
@[simp] theorem exec_sourceEdge : ∀ t s, exec (.sourceEdge t) s = execSourceEdge t s := fun _ _ => rfl
@[simp] theorem exec_tickSourceLoss : ∀ t s, exec (.tickSourceLoss t) s = execTickSourceLoss t s := fun _ _ => rfl
@[simp] theorem exec_tickRelock : ∀ s, exec (.tickRelock) s = execTickRelock s := fun _ => rfl
@[simp] theorem exec_postArrival : ∀ src e s, exec (.postArrival src e) s = execPostArrival src e s := fun _ _ _ => rfl
@[simp] theorem exec_heldPostDelivery : ∀ k s, exec (.heldPostDelivery k) s = execHeldPostDelivery k s := fun _ _ => rfl
@[simp] theorem exec_acknowledgement : ∀ src e t s,
    exec (.acknowledgement src e t) s = execAcknowledgement src e t s := fun _ _ _ _ => rfl
@[simp] theorem exec_reduceContribution : ∀ src e s,
    exec (.reduceContribution src e) s = execReduceContribution src e s := fun _ _ _ => rfl
@[simp] theorem exec_drivePost : ∀ src e s, exec (.drivePost src e) s = execDrivePost src e s := fun _ _ _ => rfl
@[simp] theorem exec_relayForward : ∀ k s, exec (.relayForward k) s = execRelayForward k s := fun _ _ => rfl
@[simp] theorem exec_routerDead : ∀ router reporter t s,
    exec (.routerDead router reporter t) s = execRouterDead router reporter t s := fun _ _ _ _ => rfl
@[simp] theorem exec_routeInstall : ∀ s, exec (.routeInstall) s = execRouteInstall s := fun _ => rfl
@[simp] theorem exec_paneRetirement : ∀ p s, exec (.paneRetirement p) s = execPaneRetirement p s := fun _ _ => rfl
@[simp] theorem exec_takeoverStateCopy : ∀ k s, exec (.takeoverStateCopy k) s = execTakeoverStateCopy k s := fun _ _ => rfl
@[simp] theorem exec_takeoverLogReplay : ∀ k s, exec (.takeoverLogReplay k) s = execTakeoverLogReplay k s := fun _ _ => rfl
@[simp] theorem exec_takeoverRedirect : ∀ k s, exec (.takeoverRedirect k) s = execTakeoverRedirect k s := fun _ _ => rfl
@[simp] theorem exec_takeoverComplete : ∀ k s, exec (.takeoverComplete k) s = execTakeoverComplete k s := fun _ _ => rfl
@[simp] theorem exec_scrubWord : ∀ p s, exec (.scrubWord p) s = execScrubWord p s := fun _ _ => rfl
@[simp] theorem exec_eccRewrite : ∀ p s, exec (.eccRewrite p) s = execEccRewrite p s := fun _ _ => rfl
@[simp] theorem exec_bellArrival : ∀ k sash s, exec (.bellArrival k sash) s = execBellArrival k sash s := fun _ _ _ => rfl
@[simp] theorem exec_bellRecordWrite : ∀ sash s, exec (.bellRecordWrite sash) s = execBellRecordWrite sash s := fun _ _ => rfl
@[simp] theorem exec_holdoffExpiry : ∀ sash group s,
    exec (.holdoffExpiry sash group) s = execHoldoffExpiry sash group s := fun _ _ _ => rfl
@[simp] theorem exec_aonArrivalLatch : ∀ k sash s,
    exec (.aonArrivalLatch k sash) s = execAonArrivalLatch k sash s := fun _ _ _ => rfl
@[simp] theorem exec_sampleFrame : ∀ g bits bad t0 t s,
    exec (.sampleFrame g bits bad t0 t) s = execSampleFrame g bits bad t0 t s := fun _ _ _ _ _ _ => rfl
@[simp] theorem exec_distributionWrite : ∀ bay feed s,
    exec (.distributionWrite bay feed) s = execDistributionWrite bay feed s := fun _ _ _ => rfl
@[simp] theorem exec_rxdataRead : ∀ g lane s, exec (.rxdataRead g lane) s = execRxdataRead g lane s := fun _ _ _ => rfl
@[simp] theorem exec_flush : ∀ g mask s, exec (.flush g mask) s = execFlush g mask s := fun _ _ _ => rfl
@[simp] theorem exec_driveFrameRelease : ∀ g missing bad s,
    exec (.driveFrameRelease g missing bad) s = execDriveFrameRelease g missing bad s := fun _ _ _ _ => rfl
@[simp] theorem exec_interlockPinChange : ∀ door high t s,
    exec (.interlockPinChange door high t) s = execInterlockPinChange door high t s := fun _ _ _ _ => rfl
@[simp] theorem exec_interlockFilterExpiry : ∀ door t s,
    exec (.interlockFilterExpiry door t) s = execInterlockFilterExpiry door t s := fun _ _ _ => rfl
@[simp] theorem exec_rampLimitExpiry : ∀ s, exec (.rampLimitExpiry) s = execRampLimitExpiry s := fun _ => rfl
@[simp] theorem exec_moverExecute : ∀ bay m n s, exec (.moverExecute bay m n) s = execMoverExecute bay m n s := fun _ _ _ _ => rfl
@[simp] theorem exec_moverStageRead : ∀ bay m s, exec (.moverStageRead bay m) s = execMoverStageRead bay m s := fun _ _ _ => rfl
@[simp] theorem exec_moverPaneWrite : ∀ bay m s, exec (.moverPaneWrite bay m) s = execMoverPaneWrite bay m s := fun _ _ _ => rfl
@[simp] theorem exec_moverWriteBack : ∀ bay m s, exec (.moverWriteBack bay m) s = execMoverWriteBack bay m s := fun _ _ _ => rfl
@[simp] theorem exec_moverLate : ∀ bay m s, exec (.moverLate bay m) s = execMoverLate bay m s := fun _ _ _ => rfl
@[simp] theorem exec_dramRefresh : ∀ hot s, exec (.dramRefresh hot) s = execDramRefresh hot s := fun _ _ => rfl
@[simp] theorem exec_zqCalibration : ∀ s, exec (.zqCalibration) s = execZqCalibration s := fun _ => rfl
@[simp] theorem exec_dramScrubRead : ∀ unit s, exec (.dramScrubRead unit) s = execDramScrubRead unit s := fun _ _ => rfl
@[simp] theorem exec_keyholeHash : ∀ p s, exec (.keyholeHash p) s = execKeyholeHash p s := fun _ _ => rfl
@[simp] theorem exec_keyholeSign : ∀ p s, exec (.keyholeSign p) s = execKeyholeSign p s := fun _ _ => rfl
@[simp] theorem exec_keyholePubkey : ∀ p s, exec (.keyholePubkey p) s = execKeyholePubkey p s := fun _ _ => rfl
@[simp] theorem exec_keyholeLog : ∀ p s, exec (.keyholeLog p) s = execKeyholeLog p s := fun _ _ => rfl
@[simp] theorem exec_keyholeCompletion : ∀ bay s, exec (.keyholeCompletion bay) s = execKeyholeCompletion bay s := fun _ _ => rfl
@[simp] theorem exec_logBlockAccept : ∀ s, exec (.logBlockAccept) s = execLogBlockAccept s := fun _ => rfl
@[simp] theorem exec_sealPoint : ∀ t s, exec (.sealPoint t) s = execSealPoint t s := fun _ _ => rfl
@[simp] theorem exec_checkpoint : ∀ s, exec (.checkpoint) s = execCheckpoint s := fun _ => rfl
@[simp] theorem exec_emmcPortFail : ∀ port lost s,
    exec (.emmcPortFail port lost) s = execEmmcPortFail port lost s := fun _ _ _ => rfl
@[simp] theorem exec_emmcRequestComplete : ∀ port s,
    exec (.emmcRequestComplete port) s = execEmmcRequestComplete port s := fun _ _ => rfl
@[simp] theorem exec_streamRequest : ∀ p stream s,
    exec (.streamRequest p stream) s = execStreamRequest p stream s := fun _ _ _ => rfl
@[simp] theorem exec_streamRecordSend : ∀ port s, exec (.streamRecordSend port) s = execStreamRecordSend port s := fun _ _ => rfl
@[simp] theorem exec_ethFrameReceive : ∀ port f s,
    exec (.ethFrameReceive port f) s = execEthFrameReceive port f s := fun _ _ _ => rfl
@[simp] theorem exec_ethLinkChange : ∀ port up s,
    exec (.ethLinkChange port up) s = execEthLinkChange port up s := fun _ _ _ => rfl
@[simp] theorem exec_addressResolution : ∀ port answered s,
    exec (.addressResolution port answered) s = execAddressResolution port answered s := fun _ _ _ => rfl
@[simp] theorem exec_ptpMessageReceive : ∀ port m t s,
    exec (.ptpMessageReceive port m t) s = execPtpMessageReceive port m t s := fun _ _ _ _ => rfl
@[simp] theorem exec_ptpMessageSend : ∀ port kind s,
    exec (.ptpMessageSend port kind) s = execPtpMessageSend port kind s := fun _ _ _ => rfl
@[simp] theorem exec_ptpReceiptTimeout : ∀ port announce s,
    exec (.ptpReceiptTimeout port announce) s = execPtpReceiptTimeout port announce s := fun _ _ _ => rfl
@[simp] theorem exec_gateControlEntry : ∀ port s, exec (.gateControlEntry port) s = execGateControlEntry port s := fun _ _ => rfl
@[simp] theorem exec_announcement : ∀ s, exec (.announcement) s = execAnnouncement s := fun _ => rfl
@[simp] theorem exec_networkKnock : ∀ port dgram t s,
    exec (.networkKnock port dgram t) s = execNetworkKnock port dgram t s := fun _ _ _ _ => rfl
@[simp] theorem exec_sillKnock : ∀ v s, exec (.sillKnock v) s = execSillKnock v s := fun _ _ => rfl
@[simp] theorem exec_pinKnock : ∀ line t s, exec (.pinKnock line t) s = execPinKnock line t s := fun _ _ _ => rfl
@[simp] theorem exec_knockForward : ∀ inn s, exec (.knockForward inn) s = execKnockForward inn s := fun _ _ => rfl
@[simp] theorem exec_knockBroadcast : ∀ inn s, exec (.knockBroadcast inn) s = execKnockBroadcast inn s := fun _ _ => rfl
@[simp] theorem exec_start : ∀ s, exec (.start) s = execStart s := fun _ => rfl
@[simp] theorem exec_hold : ∀ s, exec (.hold) s = execHold s := fun _ => rfl
@[simp] theorem exec_resume : ∀ s, exec (.resume) s = execResume s := fun _ => rfl
@[simp] theorem exec_abort : ∀ s, exec (.abort) s = execAbort s := fun _ => rfl
@[simp] theorem exec_mark : ∀ s, exec (.mark) s = execMark s := fun _ => rfl
@[simp] theorem exec_shutdown : ∀ s, exec (.shutdown) s = execShutdown s := fun _ => rfl
@[simp] theorem exec_report : ∀ s, exec (.report) s = execReport s := fun _ => rfl
@[simp] theorem exec_shutdownTest : ∀ cond failed s,
    exec (.shutdownTest cond failed) s = execShutdownTest cond failed s := fun _ _ _ => rfl
@[simp] theorem exec_shutdownTestEnd : ∀ norOk elapsed s,
    exec (.shutdownTestEnd norOk elapsed) s = execShutdownTestEnd norOk elapsed s := fun _ _ _ => rfl
@[simp] theorem exec_shutdownCancelReopen : ∀ s, exec (.shutdownCancelReopen) s = execShutdownCancelReopen s := fun _ => rfl
@[simp] theorem exec_linkTraining : ∀ link peer t s,
    exec (.linkTraining link peer t) s = execLinkTraining link peer t s := fun _ _ _ _ => rfl
@[simp] theorem exec_linkDown : ∀ link lockLost t s,
    exec (.linkDown link lockLost t) s = execLinkDown link lockLost t s := fun _ _ _ _ => rfl
@[simp] theorem exec_linkRestore : ∀ link s, exec (.linkRestore link) s = execLinkRestore link s := fun _ _ => rfl
@[simp] theorem exec_idleControlBlock : ∀ link received t s,
    exec (.idleControlBlock link received t) s = execIdleControlBlock link received t s := fun _ _ _ _ => rfl
@[simp] theorem exec_boardDigestExchange : ∀ part digest s,
    exec (.boardDigestExchange part digest) s = execBoardDigestExchange part digest s := fun _ _ _ => rfl
@[simp] theorem exec_tickMarkerSend : ∀ t s, exec (.tickMarkerSend t) s = execTickMarkerSend t s := fun _ _ => rfl
@[simp] theorem exec_tickMarkerArrival : ∀ link lead tick residence t s,
    exec (.tickMarkerArrival link lead tick residence t) s = execTickMarkerArrival link lead tick residence t s := fun _ _ _ _ _ _ => rfl
@[simp] theorem exec_agreementToken : ∀ part token t s,
    exec (.agreementToken part token t) s = execAgreementToken part token t s := fun _ _ _ _ => rfl
@[simp] theorem exec_tokenLate : ∀ part s, exec (.tokenLate part) s = execTokenLate part s := fun _ _ => rfl
@[simp] theorem exec_wicketForward : ∀ src link e s,
    exec (.wicketForward src link e) s = execWicketForward src link e s := fun _ _ _ _ => rfl
@[simp] theorem exec_powerReqOpen : ∀ domain s, exec (.powerReqOpen domain) s = execPowerReqOpen domain s := fun _ _ => rfl
@[simp] theorem exec_powerReqAjar : ∀ domain s, exec (.powerReqAjar domain) s = execPowerReqAjar domain s := fun _ _ => rfl
@[simp] theorem exec_powerReqShut : ∀ domain s, exec (.powerReqShut domain) s = execPowerReqShut domain s := fun _ _ => rfl
@[simp] theorem exec_domainEntry : ∀ domain busy s,
    exec (.domainEntry domain busy) s = execDomainEntry domain busy s := fun _ _ _ => rfl
@[simp] theorem exec_domainWake : ∀ domain s, exec (.domainWake domain) s = execDomainWake domain s := fun _ _ => rfl
@[simp] theorem exec_wakeOnAccess : ∀ domain s, exec (.wakeOnAccess domain) s = execWakeOnAccess domain s := fun _ _ => rfl
@[simp] theorem exec_wakeReplay : ∀ domain s, exec (.wakeReplay domain) s = execWakeReplay domain s := fun _ _ => rfl
@[simp] theorem exec_latchReport : ∀ internal k t s,
    exec (.latchReport internal k t) s = execLatchReport internal k t s := fun _ _ _ _ => rfl
@[simp] theorem exec_ledgerAction : ∀ masked t s,
    exec (.ledgerAction masked t) s = execLedgerAction masked t s := fun _ _ _ => rfl
@[simp] theorem exec_latchCounterPoll : ∀ t s, exec (.latchCounterPoll t) s = execLatchCounterPoll t s := fun _ _ => rfl
@[simp] theorem exec_hingeHeartbeat : ∀ hinge answered s,
    exec (.hingeHeartbeat hinge answered) s = execHingeHeartbeat hinge answered s := fun _ _ _ => rfl
@[simp] theorem exec_hingeDead : ∀ hinge t s, exec (.hingeDead hinge t) s = execHingeDead hinge t s := fun _ _ _ => rfl
@[simp] theorem exec_lockstepMismatch : ∀ t s, exec (.lockstepMismatch t) s = execLockstepMismatch t s := fun _ _ => rfl
@[simp] theorem exec_sillRead : ∀ addr crc n done s,
    exec (.sillRead addr crc n done) s = execSillRead addr crc n done s := fun _ _ _ _ _ => rfl
@[simp] theorem exec_sillWrite : ∀ addr words done s,
    exec (.sillWrite addr words done) s = execSillWrite addr words done s := fun _ _ _ _ => rfl
@[simp] theorem exec_sillStatus : ∀ s, exec (.sillStatus) s = execSillStatus s := fun _ => rfl
@[simp] theorem exec_sillBadCommand : ∀ cmd s, exec (.sillBadCommand cmd) s = execSillBadCommand cmd s := fun _ _ => rfl
@[simp] theorem exec_sillWindowAccess : ∀ s, exec (.sillWindowAccess) s = execSillWindowAccess s := fun _ => rfl
@[simp] theorem exec_mbStatusRead : ∀ m s, exec (.mbStatusRead m) s = execMbStatusRead m s := fun _ _ => rfl
@[simp] theorem exec_mailboxPublish : ∀ p v s, exec (.mailboxPublish p v) s = execMailboxPublish p v s := fun _ _ _ => rfl
@[simp] theorem exec_bridgeOpen : ∀ s, exec (.bridgeOpen) s = execBridgeOpen s := fun _ => rfl
@[simp] theorem exec_bridgeClose : ∀ s, exec (.bridgeClose) s = execBridgeClose s := fun _ => rfl
@[simp] theorem exec_bridgeRead : ∀ s, exec (.bridgeRead) s = execBridgeRead s := fun _ => rfl
@[simp] theorem exec_bridgeProgram : ∀ s, exec (.bridgeProgram) s = execBridgeProgram s := fun _ => rfl
@[simp] theorem exec_bridgeErase : ∀ s, exec (.bridgeErase) s = execBridgeErase s := fun _ => rfl
@[simp] theorem exec_bridgeOpComplete : ∀ failed late s,
    exec (.bridgeOpComplete failed late) s = execBridgeOpComplete failed late s := fun _ _ _ => rfl
@[simp] theorem exec_lcReturn : ∀ s, exec (.lcReturn) s = execLcReturn s := fun _ => rfl
@[simp] theorem exec_lcScrap : ∀ s, exec (.lcScrap) s = execLcScrap s := fun _ => rfl
@[simp] theorem exec_slackReset : ∀ p s, exec (.slackReset p) s = execSlackReset p s := fun _ _ => rfl
@[simp] theorem exec_ticknoLoRead : ∀ s, exec (.ticknoLoRead) s = execTicknoLoRead s := fun _ => rfl
@[simp] theorem exec_stampLoRead : ∀ s, exec (.stampLoRead) s = execStampLoRead s := fun _ => rfl
@[simp] theorem exec_lastOverrunLoRead : ∀ p s, exec (.lastOverrunLoRead p) s = execLastOverrunLoRead p s := fun _ _ => rfl
@[simp] theorem exec_tripTickLoRead : ∀ s, exec (.tripTickLoRead) s = execTripTickLoRead s := fun _ => rfl
@[simp] theorem exec_tickLoRead : ∀ s, exec (.tickLoRead) s = execTickLoRead s := fun _ => rfl
@[simp] theorem exec_readClear : ∀ a inc s, exec (.readClear a inc) s = execReadClear a inc s := fun _ _ _ => rfl
@[simp] theorem exec_registerWrite : ∀ a v hw s, exec (.registerWrite a v hw) s = execRegisterWrite a v hw s := fun _ _ _ _ => rfl
@[simp] theorem exec_gpioEdge : ∀ line level t s,
    exec (.gpioEdge line level t) s = execGpioEdge line level t s := fun _ _ _ _ => rfl
@[simp] theorem exec_startSequence : ∀ env s, exec (.startSequence env) s = execStartSequence env s := fun _ _ => rfl
@[simp] theorem exec_powerOnReset : ∀ s, exec (.powerOnReset) s = execPowerOnReset s := fun _ => rfl
@[simp] theorem exec_resetPin : ∀ ns takes stillLow s,
    exec (.resetPin ns takes stillLow) s = execResetPin ns takes stillLow s := fun _ _ _ _ => rfl
@[simp] theorem exec_aonBrownout : ∀ draw s, exec (.aonBrownout draw) s = execAonBrownout draw s := fun _ _ => rfl
@[simp] theorem exec_coreBrownout : ∀ ns s, exec (.coreBrownout ns) s = execCoreBrownout ns s := fun _ _ => rfl
@[simp] theorem exec_supplyLoss : ∀ supply t s, exec (.supplyLoss supply t) s = execSupplyLoss supply t s := fun _ _ _ => rfl
@[simp] theorem exec_domainRailReset : ∀ domain t s,
    exec (.domainRailReset domain t) s = execDomainRailReset domain t s := fun _ _ _ => rfl
@[simp] theorem exec_crossingSever : ∀ crossing parity t s,
    exec (.crossingSever crossing parity t) s = execCrossingSever crossing parity t s := fun _ _ _ _ => rfl
@[simp] theorem exec_crossingRearm : ∀ crossing t s,
    exec (.crossingRearm crossing t) s = execCrossingRearm crossing t s := fun _ _ _ => rfl
@[simp] theorem exec_tapBypass : ∀ s, exec (.tapBypass) s = execTapBypass s := fun _ => rfl
@[simp] theorem exec_tapIdcode : ∀ s, exec (.tapIdcode) s = execTapIdcode s := fun _ => rfl
@[simp] theorem exec_tapSamplePreload : ∀ cells s,
    exec (.tapSamplePreload cells) s = execTapSamplePreload cells s := fun _ _ => rfl
@[simp] theorem exec_tapExtest : ∀ s, exec (.tapExtest) s = execTapExtest s := fun _ => rfl
@[simp] theorem exec_tapScanLoad : ∀ pattern s, exec (.tapScanLoad pattern) s = execTapScanLoad pattern s := fun _ _ => rfl
@[simp] theorem exec_tapLowVoltageTest : ∀ fails s,
    exec (.tapLowVoltageTest fails) s = execTapLowVoltageTest fails s := fun _ _ => rfl
@[simp] theorem exec_tapProvision : ∀ devSeed paneSecret s,
    exec (.tapProvision devSeed paneSecret) s = execTapProvision devSeed paneSecret s := fun _ _ _ => rfl
@[simp] theorem exec_tapScrap : ∀ s, exec (.tapScrap) s = execTapScrap s := fun _ => rfl
@[simp] theorem exec_referenceFailure : ∀ t s, exec (.referenceFailure t) s = execReferenceFailure t s := fun _ _ => rfl
@[simp] theorem exec_certificateFuse : ∀ der s, exec (.certificateFuse der) s = execCertificateFuse der s := fun _ _ => rfl
@[simp] theorem exec_logStoreFormat : ∀ s, exec (.logStoreFormat) s = execLogStoreFormat s := fun _ => rfl
@[simp] theorem exec_supplyReturn : ∀ rail t s, exec (.supplyReturn rail t) s = execSupplyReturn rail t s := fun _ _ _ => rfl

end Sys2Proof.Machine
end

