-- ==== Sys2Proof/Laws/Memory.lean ====
section
/-!
SUPPORT. Pane memory as loads and stores see it: bytes as numbers, the regions, the store buffer, and reads free of ECC errors.
-/
namespace Sys2Proof.Machine

/-- A little-endian read is the sum of its bytes, each at its weight (R11). -/
theorem leNat_readBytes (m : Memory) (a n : Nat) :
    leNat (m.readBytes a n) = ((List.range n).map (fun k => (m.read (a + k)).toNat * 2 ^ (8 * k))).sum := by
  induction n generalizing a with
  | zero => rfl
  | succ n ih =>
    simp only [Memory.readBytes, leNat, ih, List.range_succ_eq_map, List.map_cons, List.sum_cons, List.map_map,
      Nat.mul_zero, pow_zero, mul_one, Nat.add_zero, Nat.add_left_cancel_iff]
    rw [← List.sum_map_mul_left]
    congr 1
    apply List.map_congr_left
    intro k _
    simp only [Function.comp, Nat.succ_eq_add_one, Nat.mul_add, pow_add]
    rw [show a + 1 + k = a + (k + 1) by omega]
    ring

/-- Byte k of a little-endian spelling. -/
theorem leBytes_getD (n v k : Nat) (h : k < n) : (leBytes n v).getD k 0 = BitVec.ofNat 8 (v / 2 ^ (8 * k)) := by
  induction n generalizing v k with
  | zero => omega
  | succ n ih =>
    cases k with
    | zero => simp [leBytes]
    | succ k =>
      simp only [leBytes, List.getD_cons_succ]
      rw [ih _ _ (by omega), Nat.div_div_eq_div_mul]
      congr 2
      rw [Nat.mul_add, pow_add]; ring

theorem leBytes_length (n v : Nat) : (leBytes n v).length = n := by
  induction n generalizing v with
  | zero => rfl
  | succ n ih => simp [leBytes, ih]

/-- A store into pane memory changes its own bytes only. -/
theorem Pane.read_poke (q : Pane) (a n v b : Nat) :
    (q.poke a n v).sram.read b = if a ≤ b ∧ b < a + n then BitVec.ofNat 8 (v / 2 ^ (8 * (b - a))) else q.sram.read b := by
  have h : (q.poke a n v).sram.read b = (Memory.writeBytes q.sram a (leBytes n v)).read b := rfl
  rw [h, Memory.read_writeBytes]
  split
  · rename_i hb
    rw [leBytes_length] at hb
    rw [if_pos hb, ← leBytes_getD n v (b - a) (by omega), List.getD_eq_getElem?_getD, List.getElem?_eq_getElem]
    rfl
  · rename_i hb
    rw [leBytes_length] at hb
    rw [if_neg hb]

/-- Setting ECC marks changes no byte, and no more than the marks. -/
theorem Pane.drainPart_rest (q : Pane) (a n v : Nat) :
    q.drainPart a n v = { q with sram := (q.poke a n v).sram, ecc := (q.drainPart a n v).ecc } := by
  have key : ∀ (l : List Nat) (r : Pane), ∃ e, l.foldl (fun q w =>
      if (a ≤ w ∧ w + 4 ≤ a + n) ∨ q.eccAt w = .correctable then q.setEcc w .clean else q) r = { r with ecc := e } := by
    intro l
    induction l with
    | nil => intro r; exact ⟨r.ecc, rfl⟩
    | cons w l ih =>
      intro r
      simp only [List.foldl_cons]
      split
      · obtain ⟨e, he⟩ := ih (r.setEcc w .clean); exact ⟨e, he⟩
      · exact ih r
  obtain ⟨e, he⟩ := key (wordsOf a n) (q.poke a n v)
  have hd : q.drainPart a n v = { q.poke a n v with ecc := e } := he
  rw [hd]; rfl

/-- A drained store changes its own bytes only (R152, R170). -/
theorem Pane.read_drainPart (q : Pane) (a n v b : Nat) :
    (q.drainPart a n v).sram.read b =
      if a ≤ b ∧ b < a + n then BitVec.ofNat 8 (v / 2 ^ (8 * (b - a))) else q.sram.read b := by
  rw [Pane.drainPart_rest]; exact Pane.read_poke q a n v b

theorem placeOf_sram {a : Nat} (h : a < 0xE000) : placeOf a = .sram := if_pos h

theorem placeOf_inbox {a : Nat} (h1 : 0xE000 ≤ a) (h2 : a < 0xF000) : placeOf a = .inbox := by
  unfold placeOf; rw [if_neg (by omega), if_pos h2]

theorem placeOf_buf {a : Nat} (h1 : 0x10000000 ≤ a) (h2 : a < 0x10200000) : placeOf a = .buf := by
  unfold placeOf; rw [if_neg (by omega), if_neg (by omega), if_neg (by omega), if_pos ⟨h1, h2⟩]

theorem placeOf_dram {a : Nat} (h1 : 0x40000000 ≤ a) (h2 : a < 0x80000000) : placeOf a = .dram := by
  unfold placeOf; rw [if_neg (by omega), if_neg (by omega), if_neg (by omega), if_neg (by omega), if_pos ⟨h1, h2⟩]

/-- The effective address (R211). -/
theorem Pane.ea_toNat (q : Pane) (ra : RegNo) (m : Bool) (off : BitVec 10) :
    (q.ea ra m off).toNat = (if m then q.gr ra else q.gr ra + off.signExtend 32).toNat := rfl

/-- A load that no buffered store overlaps reads memory (R154). -/
theorem Pane.lookup_memory {q : Pane} {a n : Nat} (h : ∀ e ∈ q.sb, ¬ (e.addr < a + n ∧ a < e.addr + e.size)) :
    q.lookup a n = .memory := by
  unfold Pane.lookup
  split
  · unfold Pane.sbLook
    have : q.sb.reverse.find? (fun e => decide (e.addr < a + n) && decide (a < e.addr + e.size)) = none := by
      rw [List.find?_eq_none]; intro e he; have := h e (by simpa using he); simpa using this
    rw [this]
  · have : ∀ l : List SbEntry, (∀ e ∈ l, ¬ (e.addr < a + n ∧ a < e.addr + e.size)) → splitLook a n l = .memory := by
      intro l
      induction l with
      | nil => intro _; rfl
      | cons e l ih =>
        intro hl
        unfold splitLook
        rw [if_neg (hl e (by simp))]
        exact ih (fun f hf => hl f (by simp [hf]))
    exact this _ (fun e he => h e (by simpa using he))

/-- The words under clean bytes are clean. -/
theorem Pane.words_clean {q : Pane} {a n : Nat} (h : ∀ k < n, q.eccAt (a + k) = .clean) :
    ∀ w ∈ wordsOf a n, q.eccAt w = .clean := by
  intro w hw
  unfold wordsOf at hw
  split at hw
  · simp at hw
  · simp only [List.mem_map, List.mem_range] at hw
    obtain ⟨k, hk, rfl⟩ := hw
    have : ∃ j < n, (a + j) / 4 = a / 4 + k := by
      by_cases hk0 : k = 0
      · exact ⟨0, by omega, by omega⟩
      · exact ⟨(a / 4 + k) * 4 - a, by omega, by omega⟩
    obtain ⟨j, hj, e⟩ := this
    have := h j hj
    unfold Pane.eccAt at this ⊢
    rw [e] at this
    rw [show (a / 4 + k) * 4 / 4 = a / 4 + k by omega]
    exact this

/-- A read of clean words corrects nothing. -/
theorem State.correctRead_clean {s : State} {p a n : Nat} (h : ∀ w ∈ wordsOf a n, (s.pane p).eccAt w = .clean) :
    s.correctRead p a n = s := by
  unfold State.correctRead
  revert h
  generalize wordsOf a n = l
  induction l with
  | nil => intro _; rfl
  | cons w l ih =>
    intro h
    simp only [List.foldl_cons]
    rw [if_neg (by rw [h w (by simp)]; decide)]
    exact ih (fun w hw => h w (by simp [hw]))

/-- Clean words hold no uncorrectable error. -/
theorem Pane.firstUe_clean {q : Pane} {a n : Nat} (h : ∀ w ∈ wordsOf a n, q.eccAt w = .clean) : q.firstUe a n = none := by
  unfold Pane.firstUe; rw [List.find?_eq_none]; intro w hw; rw [h w hw]; decide

/-- Takeovers keep their own log of drained words: a drain notes no more than that (R135). -/
theorem State.logTakeover_rest (s : State) (p w : Nat) : s.logTakeover p w = { s with takeovers := (s.logTakeover p w).takeovers } := by
  unfold State.logTakeover; split <;> rfl

theorem State.drained_rest (s : State) (p a n : Nat) : s.drained p a n = { s with takeovers := (s.drained p a n).takeovers } := by
  unfold State.drained
  generalize wordsOf a n = l
  induction l generalizing s with
  | nil => rfl
  | cons w l ih =>
    simp only [List.foldl_cons]
    rw [ih, State.logTakeover_rest s p w]

/-- A pane that waits for nothing is not moved on by a poll. -/
theorem State.poll_awake {s : State} {p : Nat} (h1 : (s.pane p).phase ≠ .fence) (h2 : (s.pane p).phase ≠ .waitt)
    (h3 : (s.pane p).phase ≠ .waittIn) (h4 : (s.pane p).phase ≠ .evwait) : s.poll p = s := by
  unfold State.poll
  cases h : (s.pane p).phase <;> simp_all

end Sys2Proof.Machine
end

