-- ==== Sys2Proof/Tests/Slice0.lean ====
section
/-!
SUPPORT. Tests: words written out from the spec's encodings, terms that are not well formed, values the spec works out, and for the
statements with hypotheses a state and operands that meet them.
-/
open Sys2Proof Sys2Proof.Machine

set_option Elab.async false

namespace Sys2Proof.Tests

/-! Helpers: small states. -/

/-- A part in RUNNING, out of reset, with nothing else. -/
def up : State := { State.reset with part := .running, inReset := false }
/-- The same, with pane 0 as q says. -/
def with0 (q : Pane) : State := { up with panes := [(0, q)] }
/-- The same, with pane 0 issuing instructions. -/
def run0 (q : Pane) : State := with0 { q with phase := .run }
/-- Registers g1, g2, ... at the listed values. -/
def regs (l : List Nat) : Vector Word 32 := Vector.ofFn (fun i => BitVec.ofNat 32 ((0 :: l).getD i.val 0))
/-- A pane whose registers g1, g2, ... hold the listed values. -/
def pane (l : List Nat) : Pane := { Pane.reset with g := regs l }
/-- The word decodes to the instruction of pane 3. -/
def spells (w : Nat) (i : Instr) : Bool :=
  match decodeWord 3 0 w with
  | .ok j => j == i
  | .error _ => false

/-! Words of R209 to R215, bit by bit, of each family of instructions. -/

theorem test_decode_register_words :
    spells 0b0000_0000001_00001_00010_00011_001010 (.adds 3 0 1 2 3) ∧
    spells 0b0000_0000010_11111_00010_00011_001001 (.divu 3 0 31 2 3) ∧
    spells 0b0000_0000011_00001_00010_00011_000010 (.mac2h 3 0 1 2 3) ∧
    spells 0b0011_0000100_00001_00010_00011_000011 (.fma 3 3 1 2 3) ∧
    spells 0b0000_0001000_00001_00010_11111111111 (.addi 3 0 1 2 0x7FF) ∧
    spells 0b0000_0001100_00001_00010_11_000_100000 (.shiftiRor 3 0 1 2 32) ∧
    spells 0b0000_0010001_00001_1000000000000001 (.movhi 3 0 1 0x8001) := by decide +kernel

theorem test_decode_memory_and_send_words :
    spells 0b0000_0100101_00010_00101_1_1111111000 (.lwp 3 0 2 5 true 0x3F8) ∧
    spells 0b0000_0101000_00100_00101_0_0000000001 (.sb 3 0 4 5 false 1) ∧
    spells 0b0000_0000101_00001_00010_00011_000001 (.postm 3 0 1 2 3) ∧
    spells 0b0000_0000101_00000_00010_00011_000010 (.reduce 3 0 2 3) ∧
    spells 0b0000_0000110_00001_00010_00011_001010 (.bcrc 3 0 1 2 3 0) := by decide +kernel

theorem test_decode_control_words :
    spells 0b0000_0110000_011_00001_1_0010_11111111 (.cmp 3 0 3 1 true 2 0xFF) ∧
    spells 0b0000_0110010_001_010_1_011_0_10_00000000 (.plog 3 0 1 2 true 3 false 2) ∧
    spells 0b0010_0011001_000000000000000000001 (.bl 3 2 1) ∧
    spells 0b0000_0111000_01_0_00000111_0000001010 (.loop 3 0 1 false 7 10) ∧
    spells 0b0000_1000000_00001_00100100_000_00010 (.mfs 3 0 1 0x24) ∧
    spells 0b0000_1000000_00000_00010010_000_00110 (.gate 3 0 18) ∧
    spells 0b0000_1000000_00101_00000000_000_01000 (.evpop 3 0 5) := by decide +kernel

/-! Terms that are not well formed, and what stops them. -/

theorem test_ill_formed_words :
    wellFormed (.add 0 8 1 2 3) = false ∧ wellFormed (.mac 0 0 2 1 1) = false ∧ wellFormed (.lwp 0 0 3 1 false 0) = false ∧
    wellFormed (.plog 0 0 1 0 false 0 false 3) = false ∧ wellFormed (.cmp 0 0 0 1 false 0 0) = false ∧
    wellFormed (.mfs 0 0 1 0x3F) = false ∧ wellFormed (.add 0 0 1 2 3) = true := by decide +kernel

theorem test_ill_formed_units :
    wellFormed (.linkRestore 6) = false ∧ wellFormed (.gpioEdge 48 true 0) = false ∧ wellFormed (.domainWake 109) = false ∧
    wellFormed (.crossingRearm 109 0) = false ∧ wellFormed (.supplyLoss 12 0) = false ∧ wellFormed (.linkRestore 5) = true ∧
    wellFormed (.supplyReturn (.domain 108) 0) = true := by decide +kernel


/-! States and operands that meet the hypotheses of the statements, clause by clause, at boundary values where a clause has a range. -/

theorem test_meets_DecodeOfEncode :
    encodeNat (.lwp 0 0 30 31 true 0x3FF) = some 0x25EFFFF ∨ (encodeNat (.add 5 0 1 2 3)).any (fun w => checkWord w == none) := by
  decide +kernel

theorem test_meets_EncodeOfDecode : 0x002110C0 < 2 ^ 32 ∧ spells 0x002110C0 (.add 3 0 1 2 3) := by decide +kernel

theorem test_meets_GuardsAndEncodingChecks :
    (encodeNat (.add 0 8 1 2 3)).bind checkWord = some 0 ∧ (encodeNat (.mac 0 0 2 1 1)).bind checkWord = some 3 ∧
    paneOf (.add 0 8 1 2 3) = some 0 ∧ (run0 (pane [])).canIssue 0 = true ∧
    guardOf (.add 0 1 1 2 3) = some 1 ∧ undefCause (.add 0 1 1 2 3) = none ∧ ((run0 (pane [])).pane 0).guard 1 = false := by
  decide +kernel

theorem test_meets_IntegerResults :
    ∀ x ∈ Claims.intResults 0 0 1 2 3 7 9, (run0 (pane [0, 7, 9])).ready x.1 0 0 [2, 3] = true := by decide +kernel

theorem test_meets_UnaryAndImmediateResults :
    (∀ x ∈ Claims.unaryResults 0 0 1 2 7 ++ Claims.immResults 0 0 1 2 0x7FF 63 7, (run0 (pane [0, 7])).ready x.1 0 0 [2] = true) ∧
    (run0 (pane [])).ready (.movi 0 0 31 0x8000) 0 0 [] = true ∧ (run0 (pane [])).ready (.movhi 0 0 0 1) 0 0 [] = true ∧
    (run0 (pane [])).ready (.orlo 0 0 1 1) 0 0 [1] = true := by decide +kernel

theorem test_meets_SaturatingResults :
    let s := run0 (pane [0, 0x80000000, 0xFFFFFFFF])
    s.ready (.adds 0 0 1 2 3) 0 0 [2, 3] = true ∧ s.ready (.subs 0 0 1 2 3) 0 0 [2, 3] = true ∧
    s.ready (.negs 0 0 1 2) 0 0 [2] = true ∧ s.ready (.neg 0 0 1 2) 0 0 [2] = true ∧ s.ready (.abs 0 0 1 2) 0 0 [2] = true := by
  decide +kernel

theorem test_meets_DivisionResults :
    (∀ x ∈ Claims.divResults 0 0 1 2 3 0x80000000 0xFFFFFFFF,
      (run0 (pane [0, 0x80000000, 0xFFFFFFFF])).ready x.1 0 0 [2, 3] = true) ∧
    ((run0 (pane [0, 5])).pane 0).dze = false ∧
    (let s := run0 { pane [0, 5] with status := 0x200 }
     (s.pane 0).dze = true ∧ (s.pane 0).gr 3 = 0 ∧
       ∀ x ∈ Claims.divResults 0 0 1 2 3 5 0, s.ready x.1 0 0 [2, 3] = true) := by decide +kernel

theorem test_meets_AccumulatorResults :
    (∀ x ∈ Claims.macTerms 0 0 1 2 3 5 6, (run0 (pane [0, 5, 6])).ready x.1 0 0 [2, 3] = true) ∧
    (run0 (pane [])).ready (.aclr 0 0 1) 0 0 [] = true ∧ (run0 (pane [0, 0, 63])).ready (.aext 0 0 4 1 3) 0 0 [3] = true := by
  decide +kernel

theorem test_meets_FloatResults :
    ∀ x ∈ Claims.floatResults 0 0 1 2 3 0 0x7F800001 0, (run0 (pane [0, 0x7F800001])).ready x.1 0 0 x.2.1 = true := by decide +kernel

theorem test_meets_NaNsAreCanonical :
    ∃ x ∈ Claims.floatResults 0 0 1 2 3 0 0x7F800001 0, (x.1 ≠ .fcvtWS 0 0 1 2 ∧ x.1 ≠ .fcvtWuS 0 0 1 2) ∧
      isNaN x.2.2.bits = true := by decide +kernel

theorem test_meets_PredicateResults :
    let s := run0 (pane [0, 5, 6])
    s.ready (.cmp 0 0 1 2 true 7 0xFF) 0 0 [2] = true ∧ s.ready (.cmp 0 0 7 2 false 0 0x18) 0 0 [2, 3] = true ∧
    s.ready (.fcmp 0 0 1 2 false 4 0x18) 0 0 [2, 3] = true ∧ s.ready (.plog 0 0 1 0 true 7 false 2) 0 0 [] = true := by
  decide +kernel

theorem test_meets_BranchesAndLoops :
    let s := run0 { pane [0, 0x100, 0x102, 0] with lr := 0x40 }
    let s2 := run0 { pane [] with lr := 0x41 }
    let s3 := run0 { pane [] with lc := #v[0, 0, 1] }
    let s4 := run0 { pane [] with lc := #v[1, 0, 0] }
    s.ready (.b 0 0 0x100000) 0 0 [] = true ∧ s.ready (.bl 0 0 1) 0 0 [] = true ∧
    (s.ready (.br 0 0 2) 0 0 [2] = true ∧ ((s.pane 0).gr 2).toNat % 4 = 0) ∧
    (s.ready (.ret 0 0) 0 0 [] = true ∧ (s.pane 0).lr.toNat % 4 = 0) ∧
    (s.ready (.br 0 0 3) 0 0 [3] = true ∧ ((s.pane 0).gr 3).toNat % 4 ≠ 0) ∧
    (s2.ready (.ret 0 0) 0 0 [] = true ∧ (s2.pane 0).lr.toNat % 4 ≠ 0) ∧
    (s.ready (.loop 0 0 0 true 255 0x80) 0 0 [4] = true ∧ (s.pane 0).gr 4 = 0 ∧ ∀ k : Fin 3, (s.pane 0).lc[k] = 0) ∧
    s.ready (.loop 0 0 2 false 0 1) 0 0 [] = true ∧
    (s3.ready (.loop 0 0 1 false 0 1) 0 0 [] = true ∧ ∃ k : Fin 3, k.val > 1 ∧ (s3.pane 0).lc[k] ≠ 0) ∧
    (s4.ready (.loop 0 0 1 false 0 1) 0 0 [] = true ∧ (¬ ∃ k : Fin 3, k.val > 1 ∧ (s4.pane 0).lc[k] ≠ 0) ∧
      ∃ k : Fin 3, k.val < 1 ∧ (s4.pane 0).lc[k] ≠ 0 ∧
        ((s4.pane 0).pc.toNat < (s4.pane 0).lb[k].toNat ∨ 4 > (s4.pane 0).le[k].toNat)) := by decide +kernel

/-- R244, R154: the values of the corner cases of the loads, at both ends of local memory and of the front inbox. -/
theorem test_meets_LocalLoads :
    ∀ a ∈ [0, 0xDFF8, 0xE000, 0xEFF8], ∀ x ∈ Claims.loads 0 0 2 1 false 0,
      (run0 (pane [a])).ready x.1 0 0 [1] = true ∧ Claims.readable ((run0 (pane [a])).pane 0) a x.2.1 ∧
      ∀ k < x.2.1, ((run0 (pane [a])).pane 0).eccAt (a + k) = .clean := by
  unfold Claims.readable; decide +kernel

theorem test_meets_StoreBufferDecides :
    (∀ x ∈ Claims.loads 0 0 2 1 false 0,
      let q : Pane := { pane [0x100] with sb := [{ addr := 0x100, size := x.2.1, data := 7, split := false }] }
      (run0 q).ready x.1 0 0 [1] = true ∧ Claims.readable ((run0 q).pane 0) 0x100 x.2.1) ∧
    (let e : SbEntry := { addr := 0x103, size := 1, data := 7, split := false }
     let q : Pane := { pane [0x100] with sb := [e] }
     (run0 q).ready (.lw 0 0 2 1 false 0) 0 0 [1] = true ∧ Claims.readable ((run0 q).pane 0) 0x100 4 ∧
       Claims.overlap e 0x100 4 ∧ e.addr ≠ 0x100) := by
  unfold Claims.readable Claims.overlap; decide +kernel

/-- A pane at ring 2 that may read, and not write, the first 512 bytes of its memory. -/
def ring2 (l : List Nat) : Pane := { pane l with status := 0x2000, ctl := [(0x10, 0x80020100)] }

theorem test_meets_AccessesTrap :
    (run0 (pane [0xDFFF])).ready (.sw 0 0 2 1 false 0) 0 0 [1, 2] = true ∧
    (let s := run0 (ring2 [0x200])
     s.ready (.lb 0 0 2 1 false 0) 0 0 [1] = true ∧ (s.pane 0).canRead (s.pane 0).ring 0x200 = false ∧
       (s.pane 0).canWrite (s.pane 0).ring 0x200 = false) ∧
    (let s := run0 (ring2 [0x1FF])
     s.ready (.sb 0 0 2 1 false 0) 0 0 [1, 2] = true ∧ (s.pane 0).canRead (s.pane 0).ring 0x1FF = true ∧
       (s.pane 0).canWrite (s.pane 0).ring 0x1FF = false) ∧
    (run0 (pane [0xE001])).ready (.lh 0 0 2 1 false 0) 0 0 [1] = true ∧
    (run0 (pane [0xEFF8])).ready (.swp 0 0 2 1 false 0) 0 0 [1, 2, 3] = true ∧
    (run0 (pane [0xF000])).ready (.lw 0 0 2 1 false 0) 0 0 [1] = true ∧
    (run0 (pane [0xFFFFFFF])).ready (.lb 0 0 2 1 false 0) 0 0 [1] = true := by decide +kernel

theorem test_meets_StoresEnterBuffer :
    (∀ a ∈ [0, 1, 0xDFF8], ∀ x ∈ Claims.stores 0 0 2 1 false 0, (run0 (pane [a])).ready x.1 0 0 x.2.2 = true ∧
      Claims.bufferable (run0 (pane [a])) ((run0 (pane [a])).pane 0) a x.2.1) ∧
    (∀ x ∈ Claims.stores 0 0 2 1 true 8, (run0 (pane [0x101FFFF8])).ready x.1 0 0 x.2.2 = true ∧
      Claims.bufferable (run0 (pane [0x101FFFF8])) ((run0 (pane [0x101FFFF8])).pane 0) 0x101FFFF8 x.2.1) ∧
    (let e : SbEntry := { addr := 0, size := 1, data := 0, split := false }
     let q : Pane := { pane [1] with sb := [e, e, e] }
     (run0 q).ready (.sh 0 0 2 1 false 0) 0 0 [1, 2] = true ∧ Claims.bufferable (run0 q) ((run0 q).pane 0) 1 2 ∧
       ((run0 q).pane 0).sb.length + (Claims.entries 1 2 0).length > 4) := by
  unfold Claims.bufferable Claims.entries; decide +kernel

theorem test_meets_StoreDrains :
    (let e : SbEntry := { addr := 0xDFF8, size := 8, data := 1, split := false }
     let q : Pane := { pane [] with sb := [e], phase := .run }
     (with0 q).paneUp 0 = true ∧ Claims.awake q ∧ q.sb = e :: [] ∧ e.addr + e.size ≤ 0xE000 ∧ 0 < e.size) ∧
    (let e : SbEntry := { addr := 0x101FFFFF, size := 1, data := 1, split := false }
     let q : Pane := { pane [] with sb := [e], phase := .run }
     (with0 q).paneUp 0 = true ∧ Claims.awake q ∧ q.sb = e :: [] ∧ 0x10000000 ≤ e.addr ∧ e.addr < 0x10200000 ∧
       (with0 q).domOpen 64 = true ∧ ∀ r ∈ q.wreads, r.status ≠ .waiting) := by
  unfold Claims.awake; decide +kernel

/-- A window read under way. -/
def read0 : WRead :=
  { addr := 0x10000008, size := 4, dest := some 5, dest2 := none, signed := false, status := .waiting, df := false, off := 8 }

theorem test_meets_WindowLoadsAnswer :
    (∀ x ∈ Claims.loads 0 0 2 1 false 0, (run0 (pane [0x101FFFF8])).ready x.1 0 0 [1] = true) ∧
    ((run0 { pane [0x10000000] with wreads := [read0, read0, read0] }).ready (.lw 0 0 2 1 false 0) 0 0 [1] = true ∧
      ((run0 { pane [] with wreads := [read0, read0, read0] }).pane 0).outstanding = 3) ∧
    (let q : Pane := { pane [] with wreads := [read0], phase := .run }
     Claims.awake q ∧ q.wreads[0]? = some read0 ∧ q.wstores = [] ∧ (with0 q).domOpen 64 = true ∧
       (with0 q).bulkEcc (.buf 0) 8 = .clean ∧
       ({ with0 q with bufEcc := [(0, [(1, .uncorrectable)])] } : State).bulkEcc (.buf 0) 8 = .uncorrectable) ∧
    (let w : WStore := { addr := 0x10000000, size := 8, data := 5, df := false, tag := 0, off := 0 }
     let q : Pane := { pane [] with wstores := [w], phase := .run }
     Claims.awake q ∧ q.wstores = w :: [] ∧ (with0 q).ringForeign 0 0 w.off w.size = false ∧
       ((with0 q).wr (Config.bay 0 + 0x100) 0x80000001).ringForeign 0 0 w.off w.size = true) := by
  unfold Claims.awake; decide +kernel

theorem test_meets_SpecialRegisters :
    (∀ x ∈ Claims.sregs (pane []) 0 0, (run0 (pane [])).ready (.mfs 0 0 31 (BitVec.ofNat 8 x.1)) 0 0 [] = true) ∧
    (∀ x ∈ Claims.mtsWrites (pane [5]) 5, (run0 (pane [5])).ready (.mts 0 0 1 (BitVec.ofNat 8 x.1)) 0 0 [1] = true) ∧
    (let s := run0 { pane [] with status := 0x2000 }
     s.ready (.mfs 0 0 1 0x45) 0 0 [] = true ∧ s.ready (.mts 0 0 1 0x40) 0 0 [] = true ∧ 2 ≤ (s.pane 0).ring) := by decide +kernel

/-- A pane whose descriptors 3, 16 and 18 are valid: entered at 0x400, at ring 0, from every ring. -/
def gated (q : Pane) : Pane :=
  ((((q.setCr 0xA30 0x400).setCr 0xA38 0x800000F0).setCr 0xB00 0x400).setCr 0xB08 0x800000F0).setCr 0xB28 0x800000F0

/-- A memory-permission trap that waits. -/
def waits (q : Pane) : Pane := { q with entry := some (q.mkTrap 3 1 0x20), phase := .run }

theorem test_meets_TrapsEnterOrHalt :
    (let q := waits (gated (pane []))
     q.entry = some (q.mkTrap 3 1 0x20) ∧ q.settled = true ∧ q.failure = none ∧ q.descValid 3 = true ∧ q.fdepth < 4) ∧
    (let q := waits (pane [])
     q.settled = true ∧ q.failure = none ∧ q.descValid 3 = false) ∧
    (let q := waits { gated (pane []) with fdepth := 4 }
     q.settled = true ∧ q.failure = none ∧ q.fdepth ≥ 4) := by decide +kernel

theorem test_meets_GatesEnterAndReturn :
    (let q := { gated (pane []) with status := 0x2000 }
     let attr := q.cr (0xA08 + 16 * 18)
     (run0 q).ready (.gate 0 0 18) 0 0 [] = true ∧ q.descValid 18 = true ∧ attr.bit (4 + q.ring) = true ∧ attr.fld 0 2 ≤ q.ring ∧
       q.settled = true ∧ q.failure = none ∧ q.fdepth < 4) ∧
    (let q := { pane [] with fdepth := 4 }
     (run0 q).ready (.rtg 0 0) 0 0 [] = true ∧ 0 < q.fdepth ∧
       q.ring ≤ (q.frames.getD (q.fdepth - 1) Frame.zero).estatus.fld 12 2 ∧ ∀ r ∈ q.wreads, r.status ≠ .waiting) := by
  decide +kernel

theorem test_meets_PrivilegeTraps :
    (let q := { pane [] with status := 0x3000 }
     2 ≤ q.ring ∧ (run0 q).ready (.evpop 0 0 1) 0 0 [] = true ∧ (run0 q).ready (.evdone 0 0) 0 0 [] = true ∧
       (run0 q).ready (.evwait 0 0) 0 0 [] = true ∧ q.fdepth = 0 ∧ (run0 q).ready (.rtg 0 0) 0 0 [] = true) ∧
    (run0 (gated (pane []))).ready (.gate 0 0 16) 0 0 [] = true ∧ (run0 (pane [])).ready (.gate 0 0 63) 0 0 [] = true ∧
    (let q := (gated (pane [])).setCr 0xB28 0x800000E0
     q.descValid 18 = true ∧ (q.cr 0xB28).bit (4 + q.ring) = false ∧ (run0 q).ready (.gate 0 0 18) 0 0 [] = true) ∧
    (let q := (gated (pane [])).setCr 0xB28 0x800000F1
     q.descValid 18 = true ∧ (q.cr 0xB28).bit (4 + q.ring) = true ∧ q.ring < (q.cr 0xB28).fld 0 2) ∧
    (let q := { pane [] with status := 0x1000, fdepth := 1 }
     (q.frames.getD (q.fdepth - 1) Frame.zero).estatus.fld 12 2 < q.ring ∧ (run0 q).ready (.rtg 0 0) 0 0 [] = true) := by
  decide +kernel

/-- A pane with an event queue of two slots at 0x100 and one record in slot 0. -/
def queued (q : Pane) : Pane := { q.setCr 0xF00 0x101 with evWr := 1, evUsed := 1, evUnclaimed := 1 }
/-- A claimed record. -/
def claim (slot depth : Nat) : StackRec := { slot := slot, prio := 7, depth := depth }

theorem test_meets_EventsAreHandled :
    ((run0 (pane [])).ready (.evpop 0 0 1) 0 0 [] = true ∧ (pane []).evUnclaimed = 0) ∧
    (let q := { queued (pane []) with evStack := List.replicate 8 (claim 0 0) }
     (run0 q).ready (.evpop 0 0 1) 0 0 [] = true ∧ 0 < q.evUnclaimed ∧ 8 ≤ q.evStack.length) ∧
    (let q := { queued (pane []) with status := 0x4000 }
     (run0 q).ready (.evpop 0 0 1) 0 0 [] = true ∧ (run0 q).ready (.evwait 0 0) 0 0 [] = true ∧ 0 < q.evUnclaimed ∧
       q.evStack.length < 8 ∧ q.ring ≤ 1) ∧
    (run0 (pane [])).ready (.evdone 0 0) 0 0 [] = true ∧
    ({ pane [] with evStack := [claim 0 1] } : Pane).evStack = claim 0 1 :: [] ∧
    (let q := { pane [] with evStack := [claim 1 0] }.setCr 0xF00 0x101
     (run0 q).ready (.evdone 0 0) 0 0 [] = true ∧ (claim 1 0).slot ≠ q.evFree ∧ q.evFree ∉ q.evDone) ∧
    (let q := { queued (pane []) with evUnclaimed := 0, evStack := [claim 0 0] }
     (run0 q).ready (.evdone 0 0) 0 0 [] = true ∧ (claim 0 0).slot = q.evFree ∧ 0 < q.evUsed ∧
       (0 + 1) % q.evSlots ∉ q.evDone) ∧
    (let q := { queued (gated (pane [])) with phase := .stall }
     (with0 q).paneUp 0 = true ∧ q.interrupt = true ∧ q.em = false ∧ q.fdepth < 4 ∧ q.entry = none ∧ q.settled = true ∧
       q.failure = none ∧ q.descValid 16 = true) := by decide +kernel

theorem test_meets_FenceAndWaittRetire :
    (let q := pane []
     (run0 q).ready (.fence 0 0) 0 0 [] = true ∧ (run0 q).ready (.waitt 0 0 5) 0 0 [] = true ∧ q.sb = [] ∧ q.wreads = [] ∧
       q.unacked = [] ∧ q.failure = none ∧ q.awaits = false ∧ q.tag = (run0 q).tickStart q.cls (run0 q).tick ∧ q.overClose = none) ∧
    (let q := { pane [] with tag := 1, awaits := true }
     (run0 q).ready (.waitt 0 0 5) 0 0 [] = true ∧ q.failure = none ∧ q.awaits = true) ∧
    (let q := { pane [] with overClose := some 3 }
     let s : State := { run0 q with tick := 9 }
     s.ready (.waitt 0 0 5) 0 0 [] = true ∧ q.awaits = false ∧ q.tag < s.tickStart q.cls s.tick ∧ s.holdsClass q.cls = false) ∧
    (let q := { pane [] with sb := [{ addr := 0, size := 1, data := 0, split := false }] }
     (run0 q).ready (.fence 0 0) 0 0 [] = true ∧ q.sb ≠ []) ∧
    (let q := { pane [] with wreads := [{ read0 with status := .uncorrectable }] }
     (run0 q).ready (.fence 0 0) 0 0 [] = true ∧ (q.failure.isSome) ∧ ∀ r ∈ q.wreads, r.status ≠ .waiting) := by decide +kernel

/-- A pane with a valid outgoing entry 63 to channel 3 of pane 2, with two credits. -/
def posting (l : List Nat) : Pane := (pane l).setCr 0x3F8 0x80000083 |>.setCr 0x3FC 2

theorem test_meets_PostsSend :
    (run0 (posting [0x84, 7])).ready (.post 0 0 1 2) 0 0 [1, 2] = true ∧ (posting []).outEntry 0x84 = none ∧
    (posting []).outEntry 0x83 = some 63 ∧ (posting []).credit 63 = 2 ∧ (posting []).used 63 = 0 ∧
    (posting []).discards 63 = false ∧ ((posting []).setCr 0x3F8 0x80400083).discards 63 = true ∧
    Claims.wholeMesh up ∧ (0x83 : Word).fld 16 3 = (up.rd Config.board).fld 0 3 ∧ (0x83 : Word).bit 19 = false ∧
    ((posting []).setCr 0x3FC 0x20002).used 63 = 2 ∧
    (∀ n ∈ [0, 1, 2, 3], (run0 (posting [n, 0x83, 0xEFF8])).ready (.postm 0 0 1 2 3) 0 0 [1, 2, 3] = true) ∧
    (run0 (posting [1, 0x83, 0xEFF9])).ready (.postm 0 0 1 2 3) 0 0 [1, 2, 3] = true ∧
    (∀ k < 8, (posting []).canRead 0 (0xEFF8 + k) = true ∧ (posting []).eccAt (0xEFF8 + k) = .clean) := by
  unfold Claims.wholeMesh; decide +kernel

theorem test_meets_ReduceSends :
    (let q := (posting [0x83, 5]).setCr 0x813 0x85
     let s := (run0 q).wr (Config.transom + 0x10C) 0x80000000
     s.ready (.reduce 0 0 1 2) 0 0 [1, 2] = true ∧ q.outEntry 0x83 = some 63 ∧ (0x83 : Word).fld 0 6 < 16 ∧
       (s.rd (Config.transom + 0x100 + 4 * 3)).bit 31 = true ∧ (q.cr 0x813).bit 7 = true ∧ (3, 0) ∉ q.reduced) ∧
    (run0 (posting [0x83, 5])).ready (.reduce 0 0 1 2) 0 0 [1, 2] = true ∧ ((posting []).cr 0x813).bit 7 = false := by decide +kernel

theorem test_meets_VectorSteps :
    (∀ n ∈ [1, 2, 3], ∀ y ∈ [0x100, 0x102],
      let q := pane [5, 0x200, n * 65536 + y]
      (run0 q).ready (.vdotH 0 0 1 2 3 1) 0 0 [2, 3] = true ∧ Claims.runs (run0 q) 0 n (vecOp q 2 3 2 2 false (vdotH 1)) ∧
      (run0 q).ready (.vmacH 0 0 1 2 3 1) 0 0 [1, 2, 3] = true ∧ Claims.runs (run0 q) 0 n (vecOp q 2 3 2 2 true (vmacH 1))) ∧
    (let q := pane [5, 0x200, 0x10100]
     (run0 q).ready (.vdotF 0 0 1 2 3 1) 0 0 [1, 2, 3] = true ∧ Claims.runs (run0 q) 0 1 (vecOp q 2 3 4 1 false (vdotF 1)) ∧
      (run0 q).ready (.vmacF 0 0 1 2 3 1) 0 0 [1, 2, 3] = true ∧ Claims.runs (run0 q) 0 1 (vecOp q 2 3 4 1 true (vmacF 1))) := by
  unfold Claims.runs; decide +kernel

theorem test_meets_ByteBlockSteps :
    ∀ n ∈ [1, 8, 9],
      let q := pane [0x104, 0x100, n]
      (run0 q).ready (.bmov 0 0 1 2 3 1) 0 0 [1, 2, 3] = true ∧ Claims.runs (run0 q) 0 n (bmov q 1 2 3) ∧
      (run0 q).ready (.bfill 0 0 1 2 3 1) 0 0 [1, 2, 3] = true ∧ Claims.runs (run0 q) 0 n (bfill q 1 2 3) ∧
      (run0 q).ready (.bcrc 0 0 1 2 3 1) 0 0 [1, 2, 3] = true ∧ Claims.runs (run0 q) 0 n (bcrc q 1 2 3) := by
  unfold Claims.runs; decide +kernel

/-- RUNNING with the generator on, its next edge at 10,000 ns, a T0 of 1,000 ns and TICK_IN as its source. -/
def timed : State :=
  (({ up with locked := true, gen := { State.reset.gen with on := true, next := 10000 * 2 ^ 32, period := 1000 * 2 ^ 32,
                                                             lastEdge := some 8500 } } : State).wr Config.transom 1).wr
    (Config.transom + 4) 1000
/-- The same in another state of the part, with one knock pending. -/
def knocked (p : PartState) (k : Knock) : State :=
  { timed with part := p, net := { NetState.reset with knocks := [{ knock := k, arg := 5, due := some 0, path := 2, reply := none }] } }

theorem test_meets_BoundariesRun :
    timed.gen.on = true ∧ State.reset.gen.on = false ∧ Claims.coming (knocked .ready .start) .start ∧
    Claims.coming (knocked .running .hold) .hold ∧ Claims.coming (knocked .holding .resume) .resume ∧
    Claims.coming (knocked .aborted .shutdown) .shutdown ∧
    (let s := knocked .running .mark
     Claims.coming s .mark ∧ s.part.takesMark = true ∧ (s.net.knocks.filter (fun x => x.knock == .mark)).length = 1) ∧
    Claims.coming (knocked .running .report) .report ∧ Claims.coming (knocked .running .abort) .abort := by
  unfold Claims.coming; decide +kernel

/-- A part in READY with one START pending, and nothing against it. -/
def startable : State :=
  { knocked .ready .start with bolt := { Bolt.reset with abortIn := { Bolt.reset.abortIn with asserted := false },
                                                          door := { Bolt.reset.door with asserted := false } },
                               retireDue := [(5, 0x0301, 10001)], causes := [.bolt 770] }

theorem test_meets_KnocksComplete :
    (startable.parts = 1 ∧ Claims.coming startable .start ∧ ¬ Claims.coming startable .shutdown ∧ startable.part = .ready ∧
      Claims.startable startable ∧ (∀ r ∈ startable.retireDue, (startable.gen.next + 2 ^ 31) / 2 ^ 32 < r.2.2) ∧
      ∀ c ∈ startable.causes, startable.causeTarget c = none) ∧
    (let s := knocked .faulted .report
     let s2 := knocked .running .report
     let up1 := { ((s2.wr (Config.net 1) 4).wr (Config.net 1 + 0x24) 1) with tick := 3 }
     Claims.coming s2 .report ∧ s.part.takesMark = false ∧ s2.part.takesMark = true ∧
       (s2.net.knocks.filter (fun x => x.knock == .report)).length = 1 ∧ s2.logs.stopped = false ∧ up1.netUp 1 = true ∧
       Claims.freePort up1 1) := by
  unfold Claims.coming Claims.startable Claims.freePort; decide +kernel

theorem test_meets_KnocksAreDecided :
    timed.parts = 1 ∧ (knocked .ready .start).startCode = some 3 ∧
    ({ knocked .ready .start with bolt := { Bolt.reset with abortIn := { Bolt.reset.abortIn with asserted := false },
                                                            door := { Bolt.reset.door with asserted := false } } } :
      State).startCode = none := by decide +kernel

theorem test_meets_OneChangeTakesEffect :
    ({ timed with causes := [.knock .hold, .bolt 770] } : State).nextState = some .aborted ∧ timed.nextState = none := by
  decide +kernel

theorem test_meets_TickSourcesSteer :
    (timed.gen.on = true ∧ timed.tickSrc = 1 ∧ timed.severed (Claims.sourceCrossing timed) = false ∧ timed.holdover = false ∧
      timed.slewing = false ∧ Claims.syncCounts timed ∧ (timed.phaseErr (Claims.rootTime timed 10040)).natAbs = 100 ∧
      (timed.phaseErr (Claims.rootTime timed 10041)).natAbs = 101) ∧
    (timed.wr (Config.cross + 0x100 + 4 * 107) 1).severed (Claims.sourceCrossing timed) = true ∧
    (timed.gen.lastEdge = some 8500 ∧ 3 * timed.nominal ≤ (max timed.now 10000 - 8500) * 2 ^ 33) ∧
    (let s := { timed with gen := { timed.gen with good := 16, seenEdge := some 9900, ivl := some 1001 } }
     s.gen.on = true ∧ s.tickLocked = false ∧ s.slewing = false ∧ 16 ≤ s.gen.good ∧ s.gen.seenEdge ≠ none ∧
       s.gen.ivl = some 1001 ∧ s.legalIvl 1001 = true) ∧
    Claims.syncCounts (timed.wr Config.transom 0x2) ∧ ¬ Claims.syncCounts (timed.wr Config.transom 0x102) := by
  unfold Claims.syncCounts; decide +kernel

/-- An event of source 40, or of a level source, on its way to sash 0. -/
def event (k : EventKind) : BellEvent := { src := 40, kind := k, detail := 7, todo := 1 }
/-- Sash 0 with source 40 enabled for position 0. -/
def belled (s : State) : State := ((s.wr (Config.bell 0 + 0x44) 0x100).wr (Config.bell 0 + 40) 0x20001).wr (Config.bell 0 + 44) 1

theorem test_meets_BellsDeliver :
    (let s := belled { up with arrivals := [event .edge] }
     s.arrivals[0]? = some (event .edge) ∧ (event .edge).todo.getLsbD 0 = true ∧ s.bellOpen 0 = true ∧ s.srcEn 0 40 = true) ∧
    (let s := belled { up with arrivals := [event .edge], doms := [(0, { Dom.reset with st := .ajar })] }
     s.bellOpen 0 = false ∧ s.srcEn 0 40 = true ∧ (s.groupCfg 0 5).bit 19 = false) ∧
    (let s := belled { with0 (queued (pane [])) with bells := [(0, { Bell.reset with pend := 1#64 <<< 40, count := [(40, 3)] })] }
     s.bellOpen 0 = true ∧ rrNext 8 (s.bellOf 0).lastGroup (fun g => (s.groupReady 0 g).isSome) = some 5 ∧
       (s.groupReady 0 5).isSome ∧
       rrNext 8 ((s.bellOf 0).nextSrc.getD 5 0) (fun x => (s.bellOf 0).pend.getLsbD (8 * 5 + x)) = some 0) := by decide +kernel

/-- Words of a descriptor in slot 0 of mover 0 of bay 0: from buffer 1 at 8 to buffer 2 at 16, 12 bytes in one row. -/
def descr (src0 src1 dst0 dst1 : Nat) : State :=
  { up with bufs := [(0, Memory.writeBytes [] 0 ([src0, src1, dst0, dst1, 12, 0, 0, 0x81010001].flatMap (leBytes 4))),
                     (1, Memory.writeBytes [] 8 (leBytes 12 0xABCDEF0123456789))],
            reg := [(Config.bay 0 + 0x100, 0x80000000)] }
/-- A submission of it. -/
def sub : MvSub := { slot := 0, subEnd := 0, due := 1, begun := false, read := false, moved := 0, crc := 0, status := none, late := false }
/-- The state with these submissions. -/
def moving (s : State) (l : List MvSub) : State := { s with movers := [(0, { Mover.reset with subs := l })] }

theorem test_meets_MoversMove :
    (let s := moving (descr 8 0x40 16 0x80) [sub]
     (s.mover 0 0).subs.find? (fun e => e.slot == (s.mover 0 0).next) = some sub ∧ s.domOpen 64 = true ∧ sub.moved = 0 ∧
       (∀ i < 4, s.bulkEcc (.buf 0) (s.mvSlot 0 0 0 + 8 * i) = .clean) ∧
       ({ s with bufEcc := [(0, [(3, .uncorrectable)])] } : State).bulkEcc (.buf 0) (s.mvSlot 0 0 0 + 8 * 3) = .uncorrectable ∧
       s.mvCheck 0 0 0 = none ∧ s.mvSpace 0 0 0 0 = .bulk (.buf 1) ∧ s.mvSpace 0 0 0 2 = .bulk (.buf 2) ∧ s.mvRows 0 0 0 = 1 ∧
       s.mvLen 0 0 0 = 12 ∧ ∀ i < 12, s.bulkEcc (.buf 1) (8 + i) = .clean) ∧
    (moving (descr 8 0x70 16 0x80) [sub]).mvCheck 0 0 0 = some 2 ∧
    (let s := { moving (descr 8 0x20 16 0x80) [{ sub with begun := true }] with panes := [(0, { Pane.reset with phase := .stall })] }
     s.mvSpace 0 0 0 0 = .pane 0 ∧ (s.pane 0).stalledFor 0 = true ∧ s.paneUp 0 = true ∧
       ∀ r ∈ s.mvRanges 0 0 0 0, ∀ k < r.2, (s.pane 0).eccAt (r.1 + k) = .clean) ∧
    (let g : Staged := { slot := 0, pane := 0, rows := [(16, 4), (32, 4)], ready := true }
     let s := { up with movers := [(0, { Mover.reset with staged := some g, staging := leBytes 8 0x1122334455667788 })],
                        panes := [(0, { Pane.reset with phase := .stall })] }
     (s.mover 0 0).staged = some g ∧ g.ready = true ∧ (s.pane g.pane).phase = .stall ∧ s.paneUp g.pane = true) ∧
    (let s := { moving (descr 8 0x40 16 0x80) [{ sub with status := some 0 }] with gen := timed.gen, locked := true }
     s.mvCloses 0 0 { sub with status := some 0 } = true) ∧
    (let s := { moving (descr 8 0x40 16 0x80) [sub] with gen := timed.gen, locked := true }
     s.mvCloses 0 0 sub = true) := by decide +kernel

/-- DRAM of one unit, up, with the patrol on. -/
def dram1 : State := (((up.wr (Config.dram + 4) 2).wr (Config.dram + 8) 0x100).wr (Config.dram + 0x40) 1)

theorem test_meets_DramIsKept :
    (dram1.rd (Config.dram + 4)).fld 0 2 = 2 ∧ (dram1.rd (Config.dram + 0x40)).fld 0 8 ≠ 0 ∧ dram1.dramRefuses = false ∧
    64 * 1048575 < dram1.bulkSize .dram ∧ (∀ k < 8, dram1.bulkEcc .dram (64 * 1048575 + 8 * k) = .clean) ∧
    ({ dram1 with dramEcc := [(7, .correctable)] } : State).bulkEcc .dram 56 = .correctable ∧
    ({ dram1 with dramEcc := [(0, .uncorrectable)] } : State).bulkEcc .dram 0 = .uncorrectable ∧
    (∀ k < 8, k ≠ 0 → ({ dram1 with dramEcc := [(0, .uncorrectable)] } : State).bulkEcc .dram (8 * k) = .clean) := by
  decide +kernel

/-- A message of the mesh for channel 3 of pane 5, from pane 2, with two words. -/
def msg (kind : MsgKind) (tag : Nat) : Msg :=
  { kind := kind, sub := 0, vn := false, dev := 0, dest := 5, chan := 3, index := 1, srcDev := 0, srcPane := 2, tag := tag,
    words := [7, 8], poison := [false, true], id := 1, tick := 0, relay := none }
/-- Pane 5 with channel 3 of three words, from pane 2. -/
def receiver : Pane := ((pane []).setCr 0x430 0x80000C00).setCr 0x438 2
/-- That pane, and these messages on the mesh. -/
def meshed (l : List Msg) : State := { up with panes := [(5, receiver)], mesh := l }

/-- With every router alive an acknowledgement finds its way. -/
theorem test_ackWay (s : State) (m : Msg) (r : Nat) (h : Claims.wholeMesh s) : Claims.ackWay s m r := by
  intro d hd
  rw [h.1, h.2] at hd
  simp at hd

theorem test_meets_ackWay : Claims.ackWay (meshed []) (msg .post 0) 5 := test_ackWay _ _ _ (by unfold Claims.wholeMesh; decide +kernel)

theorem test_meets_postArrives :
    ∀ tag ∈ [0, 1, 2, 255],
      Claims.onMesh (meshed [msg .post tag]) 0 (msg .post tag) .post ∧ (meshed []).paneUp 5 = true ∧
      ((meshed []).pane 5).inValid 3 = true ∧ ((meshed []).pane 5).copyOf 3 2 = some 0 ∧ 1 + 2 ≤ ((meshed []).pane 5).inSize 3 := by
  unfold Claims.onMesh; decide +kernel

theorem test_meets_MessagesArrive :
    (let s := { up with mesh := [msg .post 0] }
     Claims.onMesh s 0 (msg .post 0) .post ∧ s.paneUp 5 = true ∧ (s.pane 5).inValid 3 = false) ∧
    (let s := { meshed [] with held := [msg .post 1] }
     s.held[0]? = some (msg .post 1) ∧ (msg .post 1).kind = .post ∧ (msg .post 1).srcDev = s.partNo) ∧
    (let s := with0 { pane [] with unacked := [{ id := 1, tag := 0 }] }
     Claims.onMesh { s with mesh := [{ msg .ack 0 with dest := 0 }] } 0 { msg .ack 0 with dest := 0 } .ack ∧ Claims.awake (s.pane 0)) ∧
    Claims.onMesh (meshed [msg .reduce 0]) 0 (msg .reduce 0) .reduce ∧ (msg .reduce 0).tag % 256 = 0 ∧
    (let s := ({ up with mesh := [msg .drivePost 0] }.wr (Config.dop 0 + 0x400 + 16 * 5) 1).wr (Config.dop 0 + 0x404 + 16 * 5) 2
     Claims.onMesh s 0 (msg .drivePost 0) .drivePost ∧ s.slotValid 5 = true ∧ s.slotCopy 5 2 = some 0 ∧ (s.slot 5).back 0 = none ∧
       s.slotValid 6 = false ∧ s.slotCopy 5 3 = none) ∧
    (let s := { up with mesh := [{ msg .post 0 with relay := some 40 }] }
     (s.mesh[0]?).map (fun m => (m.relay, m.kind, m.dev)) = some (some 40, .post, s.partNo)) := by
  unfold Claims.onMesh Claims.awake; decide +kernel

/-- A pair of parts with links 2 and 3 carrying traffic. -/
def paired : State := ((up.wr Config.board 0x110).wr (Config.wicket 2) 3).wr (Config.wicket 2 + 4) 0x20

theorem test_meets_wicketForwards :
    (∃ k, (paired.exitLink 2 1) = some k) ∧ paired.partNo = 0 ∧ paired.linkCarries 2 = true ∧ paired.severed 94 = false ∧
    Claims.wholeMesh paired ∧ (paired.wr (Config.cross + 0x100 + 4 * 94) 1).severed 94 = true ∧ 6 ≤ (6 : BitVec 3).toNat := by
  unfold Claims.wholeMesh; refine ⟨⟨2, ?_⟩, ?_⟩ <;> decide +kernel

/-- A pane whose task of class 0 is primary 1, with pane 2 its twin and pane 3 the spare. -/
def copying (stage : Nat) : State :=
  { timed with tick := 9, takeovers := [{ retired := 1, twin := 2, spare := 3, base := 7, stage := stage, log := [] }],
               panes := [(1, (pane []).setCr 0x100 0x100), (2, (pane []).setCr 0 1)] }

theorem test_meets_SparesTakeOver :
    neighbourBit 1 0 = some 3 ∧ (0 : Nat) ∉ up.deadRouters ∧
    (let s := { timed with routesDue := [(0, 9000), (1, 9001)] }
     s.gen.on = true ∧ s.inBnd = false ∧ s.routesDue.any (fun x => decide (x.2 + 1000 ≤ s.gen.nextNs)) = true ∧
       ([(1, 9001)] : List (Nat × Nat)).any (fun x => decide (x.2 + 1000 ≤ s.gen.nextNs)) = false) ∧
    (let s := { timed with retireDue := [(0, 0x0101, 10000)] }
     s.retireDue.find? (fun x => x.1 == 0 && decide (x.2.2 ≤ s.gen.nextNs)) = some (0, 0x0101, 10000) ∧ (s.pane 0).retired = false) ∧
    (∃ x, (copying 0).takeovers[0]? = some x ∧ x.stage = 0 ∧ (copying 0).ticking = true ∧
      x.base ≤ (copying 0).tick / (copying 0).mult ((copying 0).pane x.retired).cls) ∧
    (∃ x, (copying 1).takeovers[0]? = some x ∧ x.stage = 1 ∧
      (copying 1).nextTick % (copying 1).mult ((copying 1).pane x.retired).cls = 0 ∧
      x.base + 2 ≤ (copying 1).nextTick / (copying 1).mult ((copying 1).pane x.retired).cls ∧ x.log.length ≤ 1024) ∧
    (∃ x, (copying 2).takeovers[0]? = some x ∧ x.stage = 2 ∧ x.base + 3 ≤ (copying 2).nextTick / 1 ∧
      ((copying 2).pane x.retired).role = 0 ∧ x.spare ≠ x.twin ∧ x.spare ≠ x.retired ∧ x.twin ≠ x.retired) := by
  refine ⟨by decide +kernel, by decide +kernel, by decide +kernel, by decide +kernel, ⟨_, rfl, ?_⟩, ⟨_, rfl, ?_⟩, ⟨_, rfl, ?_⟩⟩ <;>
    decide +kernel

theorem test_meets_LatchesMendMemory :
    (with0 ((pane []).setCr 0x4C 1)).paneUp 0 = true ∧ ((pane []).setCr 0x4C 1).hasTask = false ∧
    ({ pane [] with ecc := [(0, .uncorrectable)] } : Pane).eccAt 0 = .uncorrectable ∧
    ({ pane [] with ecc := [(0, .correctable)] } : Pane).eccAt 0 = .correctable ∧
    ({ pane [] with phase := .stall, rewrite := [0] } : Pane).phase = .stall := by decide +kernel

/-- Group 0 of the sample ports on, with one slot, its lane 7 in the given mode, and this FIFO in it. -/
def sampled (mode : Nat) (l : List FifoEntry) : State :=
  { (up.wr (Config.sip 0) 1).wr (Config.sip 0 + 4) (BitVec.ofNat 32 (mode * 2 ^ 14)) with
    locked := true, lanes := [(7, { RxLane.reset with fifo := l })] }
/-- A FIFO entry. -/
def entry (v : Nat) : FifoEntry := { word := BitVec.ofNat 32 v, ok := true, fin := true }
/-- Stream 255 of bay 0 on lane 7, to channel 3 of pane 5: one word of each frame, of up to `frames` frames a tick. -/
def streamed (frames : Nat) : State :=
  ((sampled 1 [entry 9, entry 10]).wr (Config.dist 0 + 0x100 + 8 * 255)
    (BitVec.ofNat 32 (2 ^ 31 + 7 * 2 ^ 19 + 3 * 2 ^ 10 + 5))).wr
    (Config.dist 0 + 0x104 + 8 * 255) (BitVec.ofNat 32 (frames * 2 ^ 5))

theorem test_meets_frameEnters :
    (let s := sampled 1 (List.replicate 255 (entry 9))
     s.sipEn 0 = true ∧ s.domOpen 80 = true ∧ s.acquires = true ∧ s.laneMode 7 = 1 ∧ s.laneMode 6 = 0 ∧ s.sipSlots 0 = 1 ∧
       s.severed 7 = false ∧ (s.rd (Config.sip 0)).fld 6 1 = 0 ∧ 32 * s.sipSlots 0 + 0 ≤ (List.replicate 32 (0x80 : BitVec 8)).length ∧
       ¬ 32 * s.sipSlots 0 + 0 ≤ (List.replicate 31 (0x80 : BitVec 8)).length ∧
       (s.lane 7).rearmAt = 0 ∧ (s.lane 7).flushAt = 0 ∧ (s.lane 7).fifo.length + s.sipSlots 0 = 256 ∧
       (({ s with lanes := [(7, { RxLane.reset with flushAt := 1 })] } : State).lane 7).flushAt = 1) ∧
    256 < ((sampled 1 (List.replicate 256 (entry 9))).lane 7).fifo.length + (sampled 1 []).sipSlots 0 := by decide +kernel

theorem test_meets_lanesAreRead :
    (sampled 2 [entry 9]).laneMode 7 = 2 ∧ ((sampled 2 [entry 9]).lane 7).fifo = entry 9 :: [] ∧
    (sampled 1 []).laneMode 7 ≠ 2 ∧ ((sampled 2 []).lane 7).fifo = [] ∧ (0x80 : BitVec 8).getLsbD (7 : BitVec 3).toNat = true := by
  decide +kernel

theorem test_meets_frameIsDistributed :
    (let s := streamed 1
     s.laneMode 7 = 1 ∧ s.domOpen 64 = true ∧ s.bayFaulted 0 = false ∧ s.streamsOf 0 7 = [255] ∧ s.paneUp 5 = true ∧
       s.ticking = true ∧ (s.lane 7).taken = [] ∧ s.engines 7 = [0] ∧ (s.lane 7).fifo = ([] ++ [entry 9]) ++ [entry 10] ∧
       (entry 9).fin = true ∧ SMap.get (fun _ => 0) s.streamF 255 < (s.streamB 0 255).fld 5 10 ∧ (s.pane 5).inValid 3 = false) ∧
    (let s : State := { streamed 1 with panes := [(5, ((pane []).setCr 0x430 0x80000C00).setCr 0x438 0)] }
     (s.pane 5).inValid 3 = true ∧ 0 * 1 + 1 ≤ (s.pane 5).inSize 3 ∧ (s.pane 5).copyOf 3 (s.partNo * 1024 + 5 / 32 * 32) = some 0) ∧
    ((streamed 0).streamB 0 255).fld 5 10 ≤ SMap.get (fun _ => 0) (streamed 0).streamF 255 := by decide +kernel

/-- Drive group 0 on, with one entry in slot 63. -/
def driven (e : FifoEntry) : State :=
  { (up.wr (Config.dop 0) 0xF).wr (Config.dop 0 + 4) 0x80 with drv := [(63, { DriveSlot.reset with fifo := [e] })], drvDue := [0] }
/-- The part with a bolt whose interlock pins are high and filtered low, or the reverse. -/
def locking (high asserted : Bool) (since : Nat) : State :=
  let p : Interlock := { high := high, since := since, asserted := asserted }
  { up.wr (Config.bolt + 4) 0x102 with locked := true, bolt := { Bolt.reset with abortIn := p, door := p } }

theorem test_meets_DriveIsGuarded :
    (let s := driven (entry 9)
     0 ∈ s.drvDue ∧ 0 ∉ up.drvDue ∧ s.domOpen 88 = true ∧ s.slotSent 63 = true ∧ s.slotSent 0 = false ∧ 63 < 128 ∧ 63 / 64 = 0 ∧
       (s.slot 63).fifo = entry 9 :: [] ∧ (entry 9).ok = true ∧ 127 / 64 ≠ 0) ∧
    ((driven { entry 9 with ok := false }).slot 63).fifo = { entry 9 with ok := false } :: [] ∧
    (let s := locking false false 5
     s.acquires = true ∧ (s.bolt.pin true).since + (s.rd (Config.bolt + 4)).fld 8 8 * 100 ≤ max s.now 105 ∧
       (s.bolt.pin true).asserted = (s.bolt.pin true).high ∧
       max s.now 104 < (s.bolt.pin true).since + (s.rd (Config.bolt + 4)).fld 8 8 * 100) ∧
    ((locking true true 0).bolt.pin false).asserted = ((locking true true 0).bolt.pin false).high ∧
    (let s := { ((up.wr (Config.bolt + 8) 1).wr (slotReg 5 0) 1).wr (lastReg 5) 7 with
                part := .aborted, bolt := { Bolt.reset with mode := .rampAbort, rampFrames := 1 }, gen := { State.reset.gen with on := true } }
     s.gen.on = true ∧ s.drvDue = [] ∧ s.part = .aborted ∧ s.bolt.mode = .rampAbort ∧ s.inBnd = false ∧ (s.rd (Config.bolt + 8)).toNat ≠ 0 ∧ (s.rd (Config.bolt + 8)).toNat ≤ s.bolt.rampFrames ∧
       s.slotValid 5 = true ∧ s.lastOf 5 ≠ 0) ∧
    up.limPeak 191 = 0 ∧ up.limRms 191 = 0 ∧ up.limRate 191 = 0 ∧
    (let s := up.wr (limitReg 191 0) 7
     s.limPeak 191 = 7 ∧ s.limPeak 191 < (-8 : Int).natAbs) := by decide +kernel

/-- A request of pane 0 in service at the keyhole of bay 0. -/
def kh (op src dst len : Nat) : KhReq :=
  { client := .pane, pane := 0, op := op, src := src, dst := dst, len := len, begun := some { tick := 0, copy := some (List.replicate len 0) },
    sent := false, answer := none }
/-- The keyhole of bay 0 with these requests, on a part whose secrets are fused, with the latch key of pane 0. -/
def asked (l : List KhReq) : State :=
  { up with keyholes := [(0, l)], otp := { Otp.blank with lc := 1, paneSecret := some (List.replicate 32 7) },
            latchKeys := [(0, List.replicate 32 7)], logs := { LogStore.reset with started := [0] } }

theorem test_meets_KeyholesServe :
    (let q := pane []
     (run0 q).canIssue 0 = true ∧ q.ring ≤ 1 ∧ q.sb = [] ∧ q.settled = true ∧ (asked []).keyhole 0 = [] ∧
       ({ kh 1 0 32 4 with begun := none } : KhReq).err = 0 ∧ (q.cr 0x890).fld 0 2 ≠ 1 ∧ (q.cr 0x890).fld 0 2 ≠ 2 ∧
       ((q.setCr 0x890 1).cr 0x890).fld 0 2 = 1 ∧ ((q.setCr 0x890 2).cr 0x890).fld 0 2 = 2) ∧
    (up.domOpen 64 = true ∧ ({ up with doms := [(64, { Dom.reset with st := .shut })] } : State).domOpen 64 = false) ∧
    (∀ x, (asked [kh 1 0 32 4, { kh 1 0 64 4 with pane := 1 }]).keyhole 0 = kh 1 0 32 4 :: [x] → x.pane ≠ 0) ∧
    (kh 0 0 0 0).err = 1 ∧ (kh 1 0 31 4).err = 2 ∧ (kh 1 0 32 4).err = 0 ∧ (kh 2 0 64 1024).err = 0 ∧ (kh 3 0 0 0).err = 0 ∧
    (kh 4 4096 0 4028).err = 0 ∧ (kh 4 4096 0 4029).err = 2 ∧ (∀ k < 1024, up.bulkEcc (.buf 0) k = .clean) ∧
    ((kh 1 0 32 4).begun = some { tick := 0, copy := some (Memory.readBytes ((asked []).buf 0) 0 4) } ∧ (kh 1 0 32 4).client = .pane ∧
      (asked []).latchKey 0 = some (List.replicate 32 7) ∧ (asked []).logs.started.contains ((asked []).partNo * 1024 + 0) = true) := by
  refine ⟨by decide +kernel, by decide +kernel, ?_, by decide +kernel⟩
  intro x h
  have e : (asked [kh 1 0 32 4, { kh 1 0 64 4 with pane := 1 }]).keyhole 0 = [kh 1 0 32 4, { kh 1 0 64 4 with pane := 1 }] := by
    decide +kernel
  rw [e] at h
  cases h
  decide

theorem test_meets_panes_keys : (asked []).paneSeed 5 ≠ none ∧ (asked []).panePub 0 ≠ none := by
  constructor
  · simp [State.paneSeed, State.keysInForce, asked, Otp.blank]
  · simp only [State.panePub, Option.map_eq_none_iff, ne_eq]; decide +kernel

/-- A log store of port 0 alone, with 64 blocks, this write pointer and one request. -/
def storing (wp : Nat) : State :=
  { up.wr Config.logstore 1 with
    logs := { LogStore.reset with port0 := { Emmc.none with cap := 64, wp := wp }, cpDue := true,
                                  queue := [{ producer := 5, kind := 0, payload := [1], bay := some 0, tick := 0 }] } }

theorem test_meets_LogIsKept :
    (let s := storing 62
     s.upPorts = [false] ∧ s.domOpen 99 = true ∧ s.severed 99 = false ∧ s.severed 100 = false ∧ s.logs.stopped = false ∧ s.logs.port0.wp < s.logs.port0.cap - s.logs.port0.cap / 64 ∧
       s.logs.port0.cap - s.logs.port0.cap / 64 ≤ (storing 63).logs.port0.wp ∧ s.logs.cpDue = true ∧ s.upPorts ≠ [] ∧
       s.emmcUp false = true ∧ s.emmcUp true = false ∧ ({ s with part := .ready } : State).upPorts ≠ []) ∧
    (let c : Chain := { head := [], next := 3, sealedTo := 0, sealedHead := [], run := 0, last := 0 }
     let s := { up with locked := true, lastC := 5, logs := { LogStore.reset with sealAt := 5, chains := [(7, c)], started := [7] } }
     let s2 := { s.wr (Config.ident + 8) 0x200000 with otp := { Otp.blank with lc := 2, devSeed := some [] } }
     ({ s with lastC := 4 } : State).lastC < s.logs.sealAt ∧ s.logs.sealAt ≤ s.lastC ∧ s.part.started = true ∧ s.part ≠ .faulted ∧
       s.sealing = true ∧ s.logs.round = [] ∧ s.logs.stopped = false ∧ 0 < s.sealPeriod ∧ SMap.at? s.logs.chains 7 = some c ∧
       s.logs.started.contains 7 = true ∧ s.sealsSigned = false ∧ s2.sealsSigned = true) := by decide +kernel

/-- Port 1 on, up, with an IPv4 address. -/
def ethed : State := ((up.wr (Config.net 1) 0x80004).wr (Config.net 1 + 0x24) 1).wr (Config.net 1 + 0xC) 0xC0A80001

/-- The image of stream 63: valid, on port 1, of pane 5, in the clear, to an IPv4 address. -/
def streaming : State :=
  { (ethed.wr (Config.dram + 4) 2).wr (Config.dram + 8) 0x100 with
    img := [(imgKey 0x15 1 63 0, 1), (imgKey 0x15 2 63 0, 1), (imgKey 0x15 4 63 0, 0), (imgKey 0x15 5 63 0, 0xFFFF * 2 ^ 80)],
    panes := [(0, { (((pane []).setCr 0x8C4 4).setCr 0x8C8 4) with phase := .run })],
    net := { NetState.reset with resolved := [63] } }

theorem test_meets_EthernetWorks :
    ethed.netUp 1 = true ∧ ethed.domOpen 91 = true ∧ ethed.severed 91 = false ∧ Claims.freePort ethed 1 ∧ (ethed.rd (Config.net 1)).fld 4 12 = 0 ∧
    (ethed.rd (Config.net 1 + 0xC)).toNat ≠ 0 ∧ up.netEn 0 = false ∧ ethed.part.started = true ∧
    (let s := (ethed.wr (Config.net 1 + 0x60) 100).wr (Config.net 1 + 0x100) 0x64FF
     s.gateCount 1 = 1) ∧
    (let s := streaming
     s.canIssue 0 = true ∧ (s.pane 0).ring ≤ 1 ∧ (s.pane 0).sb = [] ∧ (s.pane 0).settled = true ∧ s.stCheck 0 63 0 4 4 = none ∧ s.stCheck 0 62 0 4 4 = some 1 ∧
       s.stCheck 0 63 0 65540 4 = some 2 ∧ s.stCheck 0 63 0 4 1428 = some 3 ∧ s.stCheck 0 63 0 4 1424 = none) ∧
    (let r : StreamReq := { pane := 0, stream := 63, off := 8, len := 8, unit := 4, tick := 0, stamp := 0, sent := 0, err := 0 }
     let s := { streaming with net := { streaming.net with reqs := [r] } }
     s.reqsAt 1 = r :: [] ∧ s.domOpen 98 = true ∧ Claims.freePort s 1 ∧ s.netUp 1 = true ∧ 63 ∈ s.net.resolved ∧ s.strEnc 63 = false ∧ 0 < s.recSize r ∧ r.sent * s.recSize r < r.len ∧
       ∀ i < 8, s.bulkEcc .dram (8 + i) = .clean) := by unfold Claims.freePort; decide +kernel

theorem test_meets_TimeFollowsGrandmaster :
    up.timePort ≠ some 1 ∧ up.netUp 1 = false ∧ (ethed.wr (Config.net 1) 4).timePort ≠ some 1 ∧ (ethed.wr (Config.net 1) 4).netUp 1 = true ∧
    ethed.severed 91 = false ∧ ethed.timePort = some 1 ∧ ethed.timeState 1 = 0 ∧ (ethed.setTimeState 1 3).timeState 1 = 3 ∧
    (ethed.setTimeState 1 3).timePort = some 1 ∧ (ethed.setTimeState 1 2).timeState 1 = 2 ∧
    (ethed.setTimeState 1 2).timePort = some 1 ∧ 1000000 < (-1000001 : Int).natAbs ∧ (1000000 : Int).natAbs ≤ 1000000 := by
  decide +kernel

/-- A knock datagram: HOLD with key slot 7, for board 0 and any device. -/
def dgram : List Byte := leBytes 4 0x4B574B41 ++ [1, 1, 7, 0] ++ List.replicate 96 0
/-- Port 1 up, in state p, with HOLD enabled for the sill and line 47 the pin of HOLD, which has been high since 5 ns. -/
def knockable (p : PartState) : State :=
  { ((ethed.wr (Config.knock + 4) 2).wr (Config.knock + 0x14) 47) with part := p, gpioHigh := [(47, 5)] }

theorem test_meets_networkKnocks :
    (knockable .running).netUp 1 = true ∧ (knockable .running).severed 91 = false ∧
    (SMap.get (fun _ => []) (knockable .running).net.verified 1).length < 64 ∧ dgramFormed (1#8 :: dgram) = false ∧
    dgramFormed dgram = true ∧ dg dgram 8 4 = (knockable .running).boardId ∧ dg dgram 16 8 = 0 ∧
    Knock.ofNum (dg dgram 5 1) = some .hold ∧ (knockable .starting).part = .starting ∧
    (knockable .running).part.started = true ∧ (knockable .running).parts = 1 ∧ (knockable .running).net.knocks = [] := by decide +kernel

theorem test_meets_localKnocks :
    (knockable .running).inReset = false ∧ (knockable .running).otp.lc ≠ 4 ∧ (knockable .running).severed 106 = false ∧
    Knock.ofNum ((1 : Word).fld 0 3) = some .hold ∧ ((knockable .running).rd (Config.knock + 4)).bit Knock.hold.num = true ∧
    Knock.ofNum ((6 : Word).fld 0 3) = some .report ∧ ((knockable .running).rd (Config.knock + 4)).bit Knock.report.num = false ∧
    SMap.at? (knockable .running).gpioHigh 47 = some 5 ∧ (knockable .running).pinKnocks 47 = [.hold] ∧
    5 + 10000 ≤ max (knockable .running).now 10005 ∧ max (knockable .running).now 10004 < 5 + 10000 := by decide +kernel

/-- A part of a pair: number `n`, with part `m` as master, and its enabled link 2 in training. -/
def boarded (n m steps : Nat) : State :=
  { ((timed.wr Config.board (BitVec.ofNat 32 (n + 0x110 + m * 4096))).wr (Config.wicket 2)
      (BitVec.ofNat 32 (3 - 2 * n))).wr (Config.wicket 2 + 4) 2 with
    links := [(2, { Link.reset with steps := steps })] }
/-- The same with the link UP, carrying traffic or not. -/
def linked (n m : Nat) (carry : Bool) : State := (boarded n m 5).wr (Config.wicket 2 + 4) (if carry then 0x23 else 3)

theorem test_meets_boardKnocks :
    2 ≤ (linked 0 0 true).parts ∧ (linked 1 0 true).master ≠ (linked 1 0 true).partNo ∧
    (linked 1 0 true).exitLink (linked 1 0 true).master 0 = some 2 ∧ (linked 0 0 true).master = (linked 0 0 true).partNo ∧
    (linked 0 0 true).net.board = [] ∧ (linked 0 0 true).net.knocks = [] := by decide +kernel

/-- A peer that shows the board of `boarded 0 0`. -/
def peer : PeerInfo :=
  { latency := 100, deviceId := 5, cert := [], challenge := [], signature := [], boardId := 0, parts := 2, topology := 1, master := 0, period := 1000 * 2 ^ 32,
    n1 := (boarded 0 0 4).divider 1, n2 := (boarded 0 0 4).divider 2, n3 := (boarded 0 0 4).divider 3, part := 1, link := 0 }

theorem test_meets_linksTrain :
    (boarded 0 0 3).linkEn 2 = true ∧ (boarded 0 0 3).part ≠ .off ∧ (boarded 0 0 3).severed 94 = false ∧
    (boarded 0 0 3).linkState 2 = 2 ∧ ((boarded 0 0 3).link 2).steps = 3 ∧ (boarded 0 0 3).otp.cert = [] ∧
    ({ boarded 0 0 3 with otp := { Otp.blank with lc := 2, cert := [1], devSeed := some [] } } : State).deviceKey = some [] ∧
    (boarded 0 0 4).linkState 2 = 2 ∧ ((boarded 0 0 4).link 2).steps = 4 ∧ (boarded 0 0 4).sameBoard 2 peer = true ∧
    (boarded 0 0 4).sameBoard 2 { peer with n2 := 0 } = false ∧ (boarded 0 0 4).linkPeer 2 ≠ (boarded 0 0 4).partNo := by decide +kernel

theorem test_meets_BoardsAgree :
    (linked 0 0 true).linkState 2 = 3 ∧ ((linked 0 0 true).link 2).lastIn + 300 ≤ max (linked 0 0 true).now 300 ∧
    (linked 0 0 false).gen.on = true ∧ (linked 0 0 false).linkCarries 2 = false ∧
    ((linked 0 0 false).link 2).upAt + 1000 ≤ (linked 0 0 false).gen.nextNs ∧
    (linked 0 0 true).severed 94 = false ∧ ((linked 0 0 true).link 2).lastOut + 100 ≤ max (linked 0 0 true).now 100 ∧
    max (linked 0 0 true).now 99 < ((linked 0 0 true).link 2).lastOut + 100 ∧
    1 ≠ (linked 0 0 true).partNo ∧ 1 < (linked 0 0 true).parts ∧ (linked 0 0 true).boardUp = true ∧
    (linked 0 0 true).gen.nextNs ≤ max (linked 0 0 true).now 9000 + 1000 ∧
    max (linked 0 0 true).now 8999 + 1000 < (linked 0 0 true).gen.nextNs ∧
    (let s := (linked 1 0 true).wr Config.transom 0x23
     s.master ≠ s.partNo ∧ s.markerLink = 2 ∧ s.gen.on = true ∧ s.tickSrc = 3 ∧ s.holdover = false ∧ s.slewing = false ∧
       (s.phaseErr (9000 + (16000 - (s.rd (Config.wicket 2 + 8)).fld 0 16 + 8) / 16)).natAbs ≤ 100) ∧
    ((linked 0 0 true).rd (Config.board + 4)).bit 9 = false ∧ (linked 0 0 true).nextTick % 16 = 1 ∧
    SMap.at? (linked 0 0 true).tokens 1 = none ∧ (linked 0 0 true).lateNow = [] ∧
    1 ∈ ((linked 0 0 true).wr (Config.board + 4) 2).tokenParts ∧
    SMap.get (fun _ => 0) ({ linked 0 0 true with tokenLate := [(1, 1)] } : State).tokenLate 1 + 1 = 2 := by decide +kernel

/-- Domain d of the part as x says. -/
def domed (d : Nat) (x : Dom) : State := { up with doms := [(d, x)] }

theorem test_meets_requestsJudged :
    108 < (109 : BitVec 8).toNat ∧ up.lockedOpen 108 = true ∧ up.lockedOpen 63 = false ∧
    (let s := up.wr (Config.pwr + 8) 1
     64 ≤ 71 ∧ (s.rd (Config.pwr + 8)).bit 0 = true) ∧
    (up.rd (Config.pwr + 0xC)).fld 8 8 < up.ajarOthers 63 + 1 ∧
    (let s := up.wr (Config.pwr + 0xC) 0x100
     ¬ (s.rd (Config.pwr + 0xC)).fld 8 8 < s.ajarOthers 63 + 1 ∧ s.lockedOpen 63 = false ∧ (s.dom 63).moving = none ∧
       (s.dom 63).replay = false ∧ (s.dom 63).st ≠ .ajar ∧ (s.dom 63).st = .isOpen) ∧
    ((domed 63 { Dom.reset with moving := some .shut, pend := some .ajar }).dom 63).moving ≠ none := by decide +kernel

theorem test_meets_DomainsObey :
    (let s := domed 90 { Dom.reset with moving := some .shut }
     (s.dom 90).pend = none ∧ (s.dom 90).replay = false ∧ (s.dom 90).moving = some .shut ∧ s.busyUnit 90 false = none ∧
       (s.dom 90).st = .isOpen) ∧
    (let s := { domed 64 { Dom.reset with moving := some .shut } with keyholes := [(0, [kh 1 0 32 4])] }
     s.busyUnit 64 false = some 4 ∧ (s.dom 64).st = .isOpen ∧ (s.dom 64).moving = some .shut) ∧
    (let x := { Dom.reset with st := .shut, moving := some .isOpen, lost := true }
     ((domed 0 x).dom 0).moving = some .isOpen ∧ ((domed 80 { x with lost := false }).dom 80).lost = false ∧
       (domed 80 { x with lost := false }).domLevels 80 = [] ∧ ((domed 72 { x with moving := some .shut }).dom 72).moving = some .shut) ∧
    ((domed 108 { Dom.reset with st := .ajar }).dom 108).moving = none ∧
    ((domed 108 { Dom.reset with st := .ajar, replay := true }).dom 108).replay = true := by decide +kernel

/-- Reports the latches have made, and those the lintel holds. -/
def reported (l : List Report) : State :=
  { up with latchReps := l.map (fun r => { rep := r, at' := 0 }), lintelReps := l.map (fun r => { rep := r, at' := 0 }) }

theorem test_meets_FaultsAreRecorded :
    (∀ r ∈ [Report.sramUe 1023, .halt 1023],
      (reported [r]).latchReps[0]? = some { rep := r, at' := 0 } ∧ (reported [r]).hingeDead (colOf 1023) = false) ∧
    (∀ x ∈ Claims.reports 1023 1022 31 7 5, (reported [x.1]).lintelReps = [{ rep := x.1, at' := 0 }]) ∧
    up.ledger.length < 1022 ∧ (up.pane 1023).retired = false ∧ up.lintelReps = [] ∧
    (let s := { up with missed := [(31, 3)] }
     3 ≤ SMap.get (fun _ => 0) s.missed 31 ∧ s.hingeDead 31 = false ∧ SMap.get (fun _ => 0) s.missed 30 < 3) ∧
    ((up.wr (Config.fault + 0xC) 0x80000000).hingeDead 31 = true) ∧ up.part ≠ .off ∧ up.part ≠ .faulted ∧ timed.gen.on = true ∧
    up.gen.on = false ∧ State.reset.part = .off := by decide +kernel

theorem test_meets_SillAnswers :
    Claims.sillPlain up ∧ (∃ x ∈ Claims.sillWords up, (0x28 : BitVec 16).toNat = x.1) ∧ (1 : BitVec 16).toNat % 4 ≠ 0 ∧
    (let s := up.swr 4 5
     s.sillUp = true ∧ s.otp.lc ≠ 4 ∧ s.severed 106 = false ∧ s.sillCrc = true ∧
       (0 : Byte) ≠ crc8 ([0x02#8] ++ leBytes 2 0x44 ++ Word.bytes 1)) ∧
    (let x : WinAccess := { sillAddr := 0x1000, addr := Config.transom + 0x24, data := none }
     let s := { up with winBusy := some x }
     s.domOpen (regDomain x.addr) = true ∧ { x with data := some 7 }.data = some 7) ∧ up.winBusy = none := by
  refine ⟨by unfold Claims.sillPlain; decide +kernel, ⟨(0x28, up.srd 0x28), by simp [Claims.sillWords], rfl⟩, ?_⟩
  decide +kernel

/-- A part in READY with a NOR device of 2 MiB, its bridge open, ADDR and LEN set, and this operation under way. -/
def bridged (addr len : Nat) (b : Option BridgeOp) : State :=
  { (((up.swr 0x104 1).swr 0x108 (BitVec.ofNat 32 addr)).swr 0x10C (BitVec.ofNat 32 len)) with
    part := .ready, norSize := 2097152, bridge := b }

theorem test_meets_BridgeReachesNor :
    (let s := bridged 2097151 1 none
     s.sillUp = true ∧ s.otp.lc ≠ 4 ∧ s.severed 106 = false ∧ s.part = .ready ∧ s.domOpen 101 = true ∧ (s.srd 0x104).bit 0 = true ∧ s.bridge = none ∧
       (s.srd 0x108).fld 0 28 + (s.srd 0x10C).fld 0 9 ≤ s.norSize) ∧
    (let s := bridged 0xFFF00 256 none
     (s.srd 0x108).fld 0 28 + (s.srd 0x10C).fld 0 9 ≤ s.norSize - 1048576 ∧
       (s.srd 0x108).fld 0 28 % 256 + (s.srd 0x10C).fld 0 9 ≤ 256) ∧
    (let s := bridged 0xF0000 0 none
     (s.srd 0x108).fld 0 28 + 65536 ≤ s.norSize - 1048576 ∧ (s.srd 0x108).fld 0 28 % 65536 = 0) ∧
    (∀ op ∈ [1, 2, 3], ∀ lost : Bool,
      let b : BridgeOp := { op := op, addr := 0xF0000, len := 256, closing := false, lost := lost }
      (bridged 0 0 (some b)).domOpen 101 = true ∧ (bridged 0 0 (some b)).bridge = some b ∧ (bridged 0 0 (some b)).sillUp = true ∧ b.len ≤ 256) ∧
    up.part ≠ .ready ∧ (up.srd 0x104).bit 0 = false ∧ up.sillUp = true := by decide +kernel

theorem test_meets_RegistersObey :
    (∀ o ∈ [0x000, 0x100, 0x200, 0xF00], ∃ r, Claims.inAperture up 1023 o r ∧ o ∉ [0x110, 0x118, 0x840, 0x88C, 0x8CC, 0x940]) ∧
    up.part ≠ .off ∧ up.domOpen 106 = true ∧ up.domOpen 107 = true ∧ up.domOpen (72 + bayOf 1023) = true ∧
    (up.mb 31).owner = none ∧
    (let s := { up with mbs := [(31, { Mailbox.reset with owner := some 5 })] }
     (s.mb 31).owner = some 5 ∧ 5 ≠ s.primaryOf 0) := by
  refine ⟨?_, by decide +kernel⟩
  intro o h
  simp only [List.mem_cons, List.not_mem_nil, or_false] at h
  rcases h with rfl | rfl | rfl | rfl <;>
    exact ⟨_, ⟨by decide +kernel, by decide +kernel, by decide, rfl, by decide +kernel⟩, by decide⟩

/-- A shutdown under way, at a step of the test. -/
def testing (step sub : Nat) : State :=
  { up with part := .shuttingDown, shut := { Shutdown.none with cancellable := true, step := step, sub := sub, holding := true } }
/-- Conditions in which the test runs. -/
def testCond : TestCond := { vddMv := 1000, islandMv := 825, refCount := 1249695, tj := -40 }

theorem test_meets_LifeCycleHolds :
    (∀ x ∈ [(0, 15), (63, 15), (64, 31), (92, 0)],
      (testing x.1 x.2).part = .shuttingDown ∧ (testing x.1 x.2).shut.cancellable = true ∧ (testing x.1 x.2).shut.step < 93) ∧
    testCond.fails = 0 ∧ { testCond with vddMv := 1001 }.fails ≠ 0 ∧ 93 ≤ (testing 93 0).shut.step ∧
    ({ testing 5 0 with part := .holding } : State).shut.holding = true ∧ up.shut.holding = false ∧
    (let s := { up with otp := { Otp.blank with lc := 1, fused := 1 } }
     s.otp.lc = 1 ∧ s.otp.cert = [] ∧ (List.replicate 2048 (1 : Byte)).length ≤ 2048) ∧ up.otp.lc ≠ 1 ∧
    ({ up with resetLow := true } : State).resetLow = true ∧ up.otp.lc = 0 ∧ up.otp.fused = 0 ∧ up.resetLow = false := by
  decide +kernel

theorem test_meets_LifeCycleGoesForward : up.otp.forward = true ∧ step up = .next up := ⟨by decide +kernel, rfl⟩

theorem test_meets_ResetsAndSupplies :
    up.inReset = false ∧ up.part ≠ .off ∧ State.reset.part = .off ∧ up.domOpen 63 = true ∧ up.heldBySupply 108 = false ∧ up.severed 107 = false ∧
    (let s := timed.wr (Config.cross + 0x100 + 4 * 107) 0x34
     s.severed 107 = false ∧ (s.rd (Config.cross + 0x100 + 4 * 107)).bit 2 ≠ (s.rd (Config.cross + 0x100 + 4 * 107)).bit 3) ∧
    (let s := timed.wr (Config.cross + 0x100) 1
     s.severed 0 = true ∧ s.sidesUp 0 = true ∧ s.gen.on = true ∧ SMap.get (fun _ => 0) s.severRep 0 + 1000 ≤ s.gen.nextNs) ∧
    108 < (109 : BitVec 7).toNat ∧ 48 ≤ (48 : BitVec 6).toNat ∧ 11 < (12 : BitVec 4).toNat := by decide +kernel

theorem test_meets_StartReachesReady :
    State.reset.part = .off ∧ State.reset.inReset = true ∧ State.reset.resetLow = false ∧ State.reset.lostSupplies = [] ∧
    State.reset.otp.lc ≠ 4 ∧ ({ State.reset with otp := { Otp.blank with lc := 4, fused := 4 } } : State).otp.lc = 4 := by
  decide +kernel

/-! Words and results the spec works out: its tables of encoded instructions and of edge results (06). -/

theorem test_encoding_examples :
    spells 0x004110C8 (.div 3 0 1 2 3) ∧ spells 0x0184241F (.shiftiSar 3 0 4 4 31) ∧ spells 0x02271000 (.movhi 3 0 7 0x1000) ∧
    spells 0x02470040 (.orlo 3 0 7 0x40) ∧ spells 0x008A5B03 (.fma 3 0 10 11 12) ∧ spells 0x00A33D01 (.postm 3 0 3 7 20) ∧
    spells 0x00C110CA (.bcrc 3 0 1 2 3 0) ∧ spells 0x03200040 (.bl 3 0 0x40) ∧ spells 0x0564F3F8 (.swp 3 0 4 30 false 0x3F8) ∧
    spells 0x0628A130 (.fcmp 3 0 2 5 false 1 0x30) ∧ spells 0x064C9400 (.plog 3 0 3 1 false 2 true 0) ∧
    spells 0x08012002 (.mfs 3 0 1 0x20) ∧ spells 0x08000001 (.waitt 3 0 0) ∧ spells 0x08000005 (.ret 3 0) := by decide +kernel

/-- The instruction, on g2 and g3 of these values with clear flags, leaves this in g1 and these flags. -/
def edge (i : Instr) (a b r : Nat) (flags : Word) : Bool :=
  match exec i (run0 (pane [0, a, b])) with
  | .next t => (t.pane 0).gr 1 == BitVec.ofNat 32 r && (t.pane 0).status == flags
  | _ => false

theorem test_edge_results_integer :
    edge (.neg 0 0 1 2) 0x80000000 0 0x80000000 1 ∧ edge (.negs 0 0 1 2) 0x80000000 0 0x7FFFFFFF 1 ∧
    edge (.adds 0 0 1 2 3) 0x7FFFFFF0 0x20 0x7FFFFFFF 1 ∧ edge (.div 0 0 1 2 3) 0x80000000 0xFFFFFFFF 0x80000000 1 ∧
    edge (.rem 0 0 1 2 3) 0x80000000 0xFFFFFFFF 0 0 ∧ edge (.div 0 0 1 2 3) 0xFFFFFFF9 0 0x80000000 2 ∧
    edge (.rem 0 0 1 2 3) 0xFFFFFFF9 2 0xFFFFFFFF 0 ∧ edge (.divu 0 0 1 2 3) 7 0 0xFFFFFFFF 2 ∧
    edge (.sar 0 0 1 2 3) 0x80000000 40 0xFFFFFFFF 0 ∧ edge (.shl 0 0 1 2 3) 1 32 0 0 ∧
    edge (.ror 0 0 1 2 3) 1 33 0x80000000 0 := by decide +kernel

theorem test_edge_results_float :
    edge (.fadd 0 0 1 2 3) 0x7F7FFFFF 0x7F7FFFFF 0x7F800000 0x140 ∧ edge (.fmul 0 0 1 2 3) 0x00800000 0x3F000000 0x00400000 0 ∧
    edge (.fmul 0 0 1 2 3) 1 0x3F000000 0 0x180 ∧ edge (.fadd 0 0 1 2 3) 0x3F800000 0xBF800000 0 0 ∧
    edge (.fmax 0 0 1 2 3) 0x80000000 0 0 0 ∧ edge (.fmin 0 0 1 2 3) 0x7FC00001 0x3F800000 0x7FC00000 0x10 ∧
    edge (.fcvtWS 0 0 1 2) 0x40200000 0 2 0x100 ∧ edge (.fcvtWS 0 0 1 2) 0xC0200000 0 0xFFFFFFFE 0x100 ∧
    edge (.fcvtWS 0 0 1 2) 0x4F000000 0 0x7FFFFFFF 0x10 ∧ edge (.fcvtWuS 0 0 1 2) 0xBE99999A 0 0 0x100 := by decide +kernel

end Sys2Proof.Tests
end

section
/-!
PROOF. The sill port: what a frame of one word answers and leaves, and the outstanding window access (R588 to R597).
-/
namespace Sys2Proof.Machine

open Sys2Proof (Instr)

/-! Registers of the sill block. -/

/-- A sill register reads back as it was written, and every other one as before. -/
theorem State.srd_swr (s : State) (a b : Nat) (v : Word) : (s.swr a v).srd b = if a = b then v else s.srd b :=
  RegFile.rd_wr sillReset s.sill a b v

/-- A part that is not SCRAPPED answers every word of the block (R420). -/
theorem State.sillOpen_of_alive {s : State} (h : s.otp.lc ≠ 4) (a : Nat) : s.sillOpen a = true := by
  simp [State.sillOpen, h]

/-! Reads. -/

/-- The state in which the words of a read frame are read: the bytes of TURN have drawn their free values. -/
def State.pastTurn (s : State) : State := { s with free := s.free + s.sillTurn }

/-- The words that `Claims.sillWords` lists stand in the sill block, at aligned addresses below the window. -/
theorem sillWords_implemented {s : State} {x : Nat × Word} (hx : x ∈ Claims.sillWords s) :
    sillHas x.1 = true ∧ x.1 % 4 = 0 ∧ x.1 < 0x8000 := by
  have hall : ∀ a ∈ [0, 8, 0xC, 0x10, 0x14, 0x18, 0x24, 0x28], sillHas a = true ∧ a % 4 = 0 ∧ a < 0x8000 := by decide
  exact hall x.1 (List.mem_map_of_mem (f := Prod.fst) hx)

/-- A read of a listed word answers it; TICK_LO latches TICK_HI, and an error counter clears (R14, R596). -/
theorem State.sillRead_sillWords {s : State} {x : Nat × Word} (hx : x ∈ Claims.sillWords s) :
    s.sillRead x.1 = (x.2, if x.1 = 0x18 then s.swr 0x1C (BitVec.ofNat 32 (s.shownTick / 2 ^ 32))
      else if x.1 = 0x24 ∨ x.1 = 0x28 then s.swr x.1 0 else s) := by
  simp only [Claims.sillWords, List.mem_cons, List.not_mem_nil, or_false] at hx
  rcases hx with rfl | rfl | rfl | rfl | rfl | rfl | rfl | rfl <;> simp [State.sillRead]

/-- A frame of one implemented, aligned word of the block. -/
theorem State.readWord_block {s : State} {a : Nat} (done : Bool) (h4 : a % 4 = 0) (hw : a < 0x8000) (hh : sillHas a = true)
    (hs : s.otp.lc ≠ 4) : s.readWord a 0 done = ((s.sillRead a).1, stOk, (s.sillRead a).2) := by
  have hw' : ¬ a ≥ 0x8000 := by omega
  simp [State.readWord, h4, hw', hh, State.sillOpen_of_alive hs]

/-- An address that is not a multiple of 4 (R590). -/
theorem State.readWord_misaligned {s : State} {a : Nat} (k : Nat) (done : Bool) (h4 : a % 4 ≠ 0) :
    s.readWord a k done = (0, stErr, s) := by
  simp [State.readWord, h4]

/-- A read frame of one word at a port that answers without CRC. -/
theorem execSillRead_plain {s : State} (h : Claims.sillPlain s) (addr : BitVec 16) (c : Byte) (done : Bool) :
    execSillRead addr c 1 done s =
      .next ((s.pastTurn.readWord addr.toNat 0 done).2.2.sendMiso (freeBytes s.sillTurn s.free
        ++ (Word.bytes (s.pastTurn.readWord addr.toNat 0 done).1 ++ [(s.pastTurn.readWord addr.toNat 0 done).2.1]))) := by
  obtain ⟨hup, -, hsev, hcrc⟩ := h
  have hcrc' : s.pastTurn.sillCrc = false := hcrc
  simp only [execSillRead, ← State.pastTurn.eq_def, hup, hsev, hcrc', readWords, State.framed]
  simp

/-- What a read of a listed word leaves: TICK_HI takes the upper half of the tick number, an error counter 0. -/
theorem State.srd_sillRead {s : State} {x : Nat × Word} (hx : x ∈ Claims.sillWords s) (a : Nat) :
    (s.sillRead x.1).2.srd a = if x.1 = 0x18 ∧ a = 0x1C then BitVec.ofNat 32 (s.shownTick / 2 ^ 32)
      else if (x.1 = 0x24 ∨ x.1 = 0x28) ∧ a = x.1 then 0 else s.srd a := by
  rw [State.sillRead_sillWords hx]
  by_cases h18 : x.1 = 0x18
  · simp [h18, State.srd_swr, eq_comm]
  · by_cases hc : x.1 = 0x24 ∨ x.1 = 0x28 <;> simp [h18, hc, State.srd_swr, eq_comm]

/-- A read of the sill block touches neither the panes nor the device registers. -/
theorem State.sillRead_frame (s : State) (a : Nat) : (s.sillRead a).2.panes = s.panes ∧ (s.sillRead a).2.reg = s.reg := by
  simp only [State.sillRead, State.latchMb, State.swr, apply_ite Prod.snd, apply_ite State.panes, apply_ite State.reg, ite_self,
    and_self]

theorem sillReads : Claims.sillReads := by
  intro s addr c done h
  have hturn : (freeBytes s.sillTurn s.free).length = max ((s.srd 4).fld 1 3) 1 := by simp [freeBytes, State.sillTurn]
  obtain ⟨hup, hlc, hsev, hcrc⟩ := id h
  have htakes : s.sillTakes = true := by simp [State.sillTakes, hup, hlc]
  refine ⟨?word, ?misaligned, ?tickLo, ?mbStatus⟩
  case word =>
    intro x hx ha
    obtain ⟨hhas, h4, hlt⟩ := sillWords_implemented hx
    have hx' : x ∈ Claims.sillWords s.pastTurn := hx
    obtain ⟨hp, hr⟩ := s.pastTurn.sillRead_frame x.1
    rw [exec_sillRead, execSillRead_plain h, ha, State.readWord_block (s := s.pastTurn) done h4 hlt hhas hlc]
    refine ⟨_, _, rfl, ?_, hturn, hp, hr, State.srd_sillRead hx'⟩
    simp [State.sendMiso, State.sillRead_sillWords hx', stOk]
  case misaligned =>
    intro h4
    have hzero : Word.bytes 0 = [0#8, 0#8, 0#8, 0#8] := by decide
    rw [exec_sillRead, execSillRead_plain h, State.readWord_misaligned 0 done h4, hzero]
    exact ⟨_, freeBytes s.sillTurn s.free, rfl, rfl, rfl, rfl, rfl⟩
  case tickLo =>
    have hx : (0x18, BitVec.ofNat 32 s.shownTick) ∈ Claims.sillWords s := by simp [Claims.sillWords]
    have hne : ∀ a, a ≠ 0x1C → (s.sillRead 0x18).2.srd a = s.srd a := fun a ha => by simp [State.srd_sillRead hx, ha]
    refine ⟨{ (s.sillRead 0x18).2 with rdata := (s.sillRead 0x18).1.setWidth 64 }, ?_, ?_, (s.sillRead_frame 0x18).2, ?_, hne⟩
    · simp [execTickLoRead, htakes, hsev]
    · simp [State.sillRead_sillWords hx]
    · exact (State.srd_sillRead hx 0x1C).trans (by simp)
  case mbStatus =>
    intro m
    have hread : s.sillRead (0x1000 + 0x80 * m.toNat) = ((s.mb m.toNat).status, s.latchMb m.toNat) := by
      have ho : (0x1000 + 0x80 * m.toNat) % 0x80 = 0 := by omega
      have hin : 0x1000 + 0x80 * m.toNat < 0x2000 := by omega
      simp [State.sillRead, State.mbWord, ho, hin]
    refine ⟨{ s.latchMb m.toNat with rdata := (s.mb m.toNat).status.setWidth 64 }, ?_, rfl, rfl, rfl, ?_⟩
    · simp [execMbStatusRead, htakes, hsev, hread]
    · intro j
      exact (SMap.get_put _ s.mbLatch m.toNat j (s.mb m.toNat)).trans (by simp [eq_comm, State.latchedMb])

/-! Writes. -/

/-- A write frame of one word at a port that answers. -/
theorem execSillWrite_one {s : State} (hup : s.sillUp = true) (hsev : s.severed 106 = false) (addr : BitVec 16) (v : Word)
    (c : Byte) (done : Bool) :
    execSillWrite addr [(v, c)] done s =
      .next ((s.writeWord addr.toNat 0 v c done).2.sendMiso (if s.sillCrc then
        [(s.writeWord addr.toNat 0 v c done).1, crc8 [(s.writeWord addr.toNat 0 v c done).1]]
        else [(s.writeWord addr.toNat 0 v c done).1])) := by
  simp [execSillWrite, hup, hsev, writeWords]

/-- ARG_LO and ARG_HI take every bit (R596). -/
theorem State.sillWrite_arg {s : State} {a : Nat} (ha : a = 0x40 ∨ a = 0x44) (v : Word) : s.sillWrite a v = s.swr a v := by
  have hreg : sillRegOf a = some (Reg.rw a 0xFFFFFFFF) := by rcases ha with rfl | rfl <;> decide
  have hmask : (s.srd a &&& ~~~(BitVec.ofNat 32 0xFFFFFFFF)) ||| (v &&& BitVec.ofNat 32 0xFFFFFFFF) = v := by
    have hall : ∀ x : Word, (x &&& ~~~BitVec.allOnes 32) ||| (v &&& BitVec.allOnes 32) = v := fun x => by
      rw [BitVec.not_allOnes, BitVec.and_zero, BitVec.zero_or, BitVec.and_allOnes]
    exact hall (s.srd a)
  rcases ha with rfl | rfl <;> simp [State.sillWrite, hreg, Reg.write, Reg.rw, Reg.mk1] at hmask ⊢ <;> rw [hmask]

theorem sillWrites : Claims.sillWrites := by
  intro s addr v c done ha hup hlc hsev
  have h4 : addr.toNat % 4 = 0 := by omega
  have hw : ¬ addr.toNat ≥ 0x8000 := by omega
  have hhas : sillHas addr.toNat = true := by rcases ha with h | h <;> rw [h] <;> decide
  refine ⟨fun hcrc => ?plain, fun hcrc hne => ?crc⟩
  case plain =>
    have hword : s.writeWord addr.toNat 0 v c done = (stOk, s.swr addr.toNat v) := by
      simp [State.writeWord, hcrc, h4, hw, hhas, State.sillOpen_of_alive hlc, State.sillWrite_arg ha]
    rw [exec_sillWrite, execSillWrite_one hup hsev, hword, hcrc]
    exact ⟨_, rfl, rfl, rfl, rfl, fun a => (s.srd_swr addr.toNat a v).trans (by simp [eq_comm])⟩
  case crc =>
    have hword : s.writeWord addr.toNat 0 v c done = (stCrc, s.crcErr) := by
      simp only [State.writeWord, hcrc, Bool.true_and, bne_iff_ne, ne_eq, hne, not_false_eq_true, if_true]
    rw [exec_sillWrite, execSillWrite_one hup hsev, hword, hcrc]
    refine ⟨_, rfl, rfl, rfl, ?_, fun a ha => (s.srd_swr 0x24 a _).trans (if_neg (Ne.symm ha))⟩
    refine (congrArg BitVec.toNat ((s.srd_swr 0x24 0x24 _).trans (if_pos rfl))).trans ?_
    simp [satAdd]

/-! The status, and the outstanding window access. -/

/-- A read of a device register leaves the window alone. -/
theorem State.devRead_window (s : State) (a : Nat) (inc : Word) :
    (s.devRead a inc).2.winBusy = s.winBusy ∧ (s.devRead a inc).2.winHeld = s.winHeld := by
  unfold State.devRead State.spend
  repeat' split
  all_goals simp

theorem State.paneRead_window (s : State) (p o : Nat) (inc : Word) :
    (s.paneRead p o inc).2.winBusy = s.winBusy ∧ (s.paneRead p o inc).2.winHeld = s.winHeld := by
  unfold State.paneRead State.modPane
  repeat' split
  all_goals simp

/-- So does a read through the window (R593). -/
theorem State.winRead_window (s : State) (a : Nat) :
    (s.winRead a).2.winBusy = s.winBusy ∧ (s.winRead a).2.winHeld = s.winHeld := by
  unfold State.winRead State.mgmtRead
  split
  · split
    · exact s.paneRead_window _ _ 0
    · exact s.devRead_window a 0
  · exact ⟨rfl, rfl⟩

/-- The outstanding access, once its domain is open (R593). -/
theorem execSillWindowAccess_open {s : State} {x : WinAccess} (hb : s.winBusy = some x) (hd : s.domOpen (regDomain x.addr) = true) :
    execSillWindowAccess s = .next (match x.data with
      | some v => State.winWrite { s with winBusy := none } x.addr v
      | none => { (State.winRead { s with winBusy := none } x.addr).2 with
          winHeld := SMap.put (State.winRead { s with winBusy := none } x.addr).2.winHeld x.sillAddr
            (State.winRead { s with winBusy := none } x.addr).1 }) := by
  simp only [execSillWindowAccess, hb, State.winRun, hd, Bool.not_true, Bool.false_eq_true, if_false]
  cases x.data <;> rfl

theorem sillAnswers_frames : Claims.sillAnswers := by
  intro s cmd x
  refine ⟨fun hup hsev => ?_, fun hup hsev h1 h2 h3 => ?_, fun hb hd => ⟨fun v hv => ?_, fun hv => ?_⟩, fun hb => ?_⟩
  · cases hb : s.winBusy <;> simp [execSillStatus, State.sillEvent, State.sendMiso, hup, hsev, hb, stWait, stOk]
  · simp [execSillBadCommand, State.sillEvent, State.sendMiso, hup, hsev, h1, h2, h3, stErr]
  · rw [exec_sillWindowAccess, execSillWindowAccess_open hb hd, hv]
  · obtain ⟨hbusy, hheld⟩ := State.winRead_window { s with winBusy := none } x.addr
    rw [exec_sillWindowAccess, execSillWindowAccess_open hb hd, hv]
    refine ⟨_, rfl, hbusy, fun a => ?_⟩
    rw [SMap.at?_put, hheld]
    simp only [eq_comm]
  · simp [execSillWindowAccess, hb]

/-- Settles O51: the frames of one word, without CRC and with one that fails, the status byte, and the window access. -/
theorem sillAnswers : Obligations.SillAnswers := ⟨sillReads, sillWrites, sillAnswers_frames⟩

end Sys2Proof.Machine
end

section
/-!
PROOF. Register accesses: the kinds of the pane registers, the halves that a read latches, and publications (R12 to R17, R85,
R87, R390, R597, R602, R603).
-/
namespace Sys2Proof.Machine

/-! Pane registers through the latch aperture. -/

/-- The address of offset o of pane p in the latch aperture (R597). -/
theorem apertureOf_aperture (p : PaneNo) {o : Nat} (ho : o < 0x1000) :
    apertureOf (Config.aperture p.toNat + o) = some (p.toNat, o) := by
  have hp := p.isLt
  have hpane : (0xF8000000 + 0x1000 * p.toNat + o - 0xF8000000) / 0x1000 = p.toNat := by omega
  have hoff : (0xF8000000 + 0x1000 * p.toNat + o - 0xF8000000) % 0x1000 = o := by omega
  rw [Config.aperture, apertureOf, if_pos (by omega), hpane, hoff]

/-- As a word, the address is itself. -/
theorem aperture_toNat (p : PaneNo) {o : Nat} (ho : o < 0x1000) :
    (BitVec.ofNat 32 (0xF8000000 + 0x1000 * p.toNat + o)).toNat = Config.aperture p.toNat + o := by
  have hp := p.isLt
  simp only [BitVec.toNat_ofNat, Config.aperture]; omega

/-- A pane's latch aperture lies in the domain of its strip (R556). -/
theorem regDomain_of_aperture {a p o : Nat} (h : apertureOf a = some (p, o)) : regDomain a = 72 + bayOf p := by
  simp only [regDomain, h]

theorem regDomain_aperture (p : PaneNo) : regDomain (Config.aperture p.toNat) = 72 + bayOf p.toNat :=
  regDomain_of_aperture (apertureOf_aperture p (o := 0) (by decide))

/-- An access to a domain that is open happens. -/
theorem State.reach_open {s : State} {a : Nat} (hp : s.part ≠ .off) (hd : s.domOpen (regDomain a) = true) (f : State → State) :
    s.reach a f = f s := by
  simp [State.reach, hp, hd]

/-- A read of a register of a pane in an open strip. -/
theorem State.readReg_aperture {s : State} {a p o : Nat} (hp : s.part ≠ .off) (hd : s.domOpen (72 + bayOf p) = true)
    (ha : apertureOf a = some (p, o)) (inc : Word) :
    s.readReg a inc = { (s.paneRead p o inc).2 with rdata := (s.paneRead p o inc).1.setWidth 64 } := by
  simp only [State.readReg, State.reach_open hp (by rwa [regDomain_of_aperture ha]), State.mgmtRead, ha]

/-- What a write leaves of a register by its kind is what the statement says (R12, R13, R15, R17). -/
theorem Reg.write_eq_afterWrite (r : Reg) (locked : Bool) (old v hw : Word) :
    r.write locked old v hw = Claims.afterWrite r locked old v hw := rfl

/-- The offsets at which a write, or a read, sets off more than the register's kind says. -/
abbrev latchEffects : List Nat := [0x110, 0x118, 0x840, 0x88C, 0x8CC, 0x940]

/-- A write of a plain register changes that register alone. -/
theorem State.paneWrite_plain {s : State} {p o : Nat} {r : Reg} (hr : paneRegOf false o 1 = some r) (ho : o ∉ latchEffects)
    (v hw : Word) :
    s.paneWrite p o v hw = s.modPane p (fun q => q.setCr o (Claims.afterWrite r s.locked (q.cr o) v hw)) := by
  simp only [List.mem_cons, List.not_mem_nil, or_false, not_or] at ho
  obtain ⟨-, h118, h840, h88C, h8CC, h940⟩ := ho
  simp only [State.paneWrite, hr, if_neg h118, if_neg h840, if_neg h88C, if_neg h8CC, if_neg h940, Reg.write_eq_afterWrite]

/-- A read of a plain register answers its value, and clears it if it is one of the RC kind (R14). -/
theorem State.paneRead_plain {s : State} {p o : Nat} {r : Reg} (hr : paneRegOf false o 1 = some r) (ho : o ∉ latchEffects)
    (inc : Word) :
    s.paneRead p o inc = ((s.paneView p o).getD ((s.pane p).cr o),
      if r.kind = .rc then s.modPane p (fun q => q.setCr o (r.afterRead (q.cr o) inc)) else s) := by
  have h110 : o ≠ 0x110 := fun h => ho (by simp [h])
  simp only [State.paneRead, hr, if_neg h110]

/-- One control register of one pane takes a value: what the pane and its registers are then. -/
theorem State.modPane_setCr (s : State) (p o : Nat) (f : Pane → Word) :
    { (s.modPane p (fun q => q.setCr o (f q))).pane p with ctl := (s.pane p).ctl } = s.pane p ∧
    ∀ x, ((s.modPane p (fun q => q.setCr o (f q))).pane p).cr x = if x = o then f (s.pane p) else (s.pane p).cr x := by
  rw [State.pane_modPane, if_pos rfl]
  refine ⟨rfl, fun x => (Pane.cr_setCr _ o x _).trans ?_⟩
  simp only [eq_comm]

theorem registersObey_plain : Claims.registersObey := by
  intro s p o r v hw q a ⟨hpart, hdom, ho, hr, hwhole⟩ hplain
  have hap : apertureOf a.toNat = some (p.toNat, o) := aperture_toNat p ho ▸ apertureOf_aperture p ho
  have hreg : (mgmtRegOf a.toNat 4).isSome = true := by simpa only [mgmtRegOf, hap] using hwhole
  have hopen : s.domOpen (regDomain a.toNat) = true := by rwa [regDomain_of_aperture hap]
  constructor
  · obtain ⟨hrest, hcr⟩ := s.modPane_setCr p.toNat o (fun q => Claims.afterWrite r s.locked (q.cr o) v hw)
    refine ⟨_, ?_, OnlyPane.modPane _ s _, hrest, hcr⟩
    simp only [exec_registerWrite, execRegisterWrite, hreg, Bool.true_or, if_true, State.reach_open hpart hopen,
      State.mgmtWrite, hap, State.paneWrite_plain hr hplain]
  · have hexec : exec (.readClear a hw) s = .next
        { (s.paneRead p.toNat o hw).2 with rdata := (s.paneRead p.toNat o hw).1.setWidth 64 } := by
      rw [exec_readClear, execReadClear, if_pos hreg, State.readReg_aperture hpart hdom hap]
    rw [hexec, State.paneRead_plain hr hplain]
    by_cases hrc : r.kind = .rc
    · obtain ⟨hrest, hcr⟩ := s.modPane_setCr p.toNat o (fun q => r.afterRead (q.cr o) hw)
      simp only [if_pos hrc]
      refine ⟨_, rfl, hrest, rfl, rfl, fun x => (hcr x).trans ?_⟩
      simp only [Reg.afterRead, hrc, and_true]; rfl
    · simp only [hrc, and_false, if_false]
      exact ⟨_, rfl, rfl, rfl, rfl, fun _ => rfl⟩

/-! Halves that a read latches. -/

/-- A read of a register of a block at an address outside the aperture, in an open domain. -/
theorem State.readReg_dev {s : State} {a : Nat} (hp : s.part ≠ .off) (hd : s.domOpen (regDomain a) = true)
    (ha : apertureOf a = none) :
    s.readReg a 0 = { (s.devRead a 0).2 with rdata := (s.devRead a 0).1.setWidth 64 } := by
  simp only [State.readReg, State.reach_open hp hd, State.mgmtRead, ha]

/-- A read of the low half of a two-register number of a block (R85, R390): `h` is its high half, and `v` the number. -/
theorem State.readReg_latches {s : State} {a h v : Nat} {r : Reg} (hp : s.part ≠ .off) (hd : s.domOpen (regDomain a) = true)
    (ha : apertureOf a = none) (hr : (blockOf a).bind (fun b => b.regs.find? (fun r => r.covers false (b.offset a) 1)) = some r)
    (hkind : r.kind ≠ .rc) (hview : s.devView a = some (BitVec.ofNat 32 v)) (hlatch : s.latchOf a = some (h, v / 2 ^ 32)) :
    s.readReg a 0 = { s.wr h (BitVec.ofNat 32 (v / 2 ^ 32)) with rdata := (BitVec.ofNat 32 v).setWidth 64 } := by
  have hread : s.devRead a 0 = (BitVec.ofNat 32 v, s.wr h (BitVec.ofNat 32 (v / 2 ^ 32))) := by
    simp only [State.devRead, hr, hview, hlatch, if_neg hkind, Option.getD_some]
  rw [State.readReg_dev hp hd ha, hread]

/-- What such a read leaves. -/
theorem latched (s : State) (h v : Nat) :
    let t : State := { s.wr h (BitVec.ofNat 32 (v / 2 ^ 32)) with rdata := (BitVec.ofNat 32 v).setWidth 64 }
    t.rdata = (BitVec.ofNat 32 v).setWidth 64 ∧ t.rd h = BitVec.ofNat 32 (v / 2 ^ 32) ∧ OnlyRegs [h] { s with rdata := t.rdata } t := by
  refine ⟨rfl, (s.rd_wr h h _).trans (if_pos rfl), rfl, fun a ha => (s.rd_wr h a _).trans (if_neg ?_)⟩
  exact fun e => ha (by simp [e])

theorem halvesLatch : Claims.halvesLatch := by
  intro s p low latches hpart
  refine ⟨fun hd => ⟨?tick, ?stamp⟩, fun hd => ?trip, fun hd => ⟨?overrun, ?slack⟩⟩
  case tick =>
    have hread := State.readReg_latches (s := s) (a := Config.transom + 0x28) (h := Config.transom + 0x2C) (v := s.shownTick)
      hpart hd (by decide) (r := Reg.ro 0x28) (by decide) (by decide) rfl rfl
    exact ⟨_, by rw [exec_ticknoLoRead, execTicknoLoRead, hread], latched s _ _⟩
  case stamp =>
    have hstamp : s.stamps.getD 0 0 = s.stamps[0] := by simp [Vector.getD]
    have hread := State.readReg_latches (s := s) (a := Config.transom + 0x30) (h := Config.transom + 0x34) (v := s.stamps[0])
      hpart hd (by decide) (r := Reg.ro 0x30) (by decide) (by decide) (congrArg (fun n => some (BitVec.ofNat 32 n)) hstamp)
      (congrArg (fun n => some (Config.transom + 0x34, n / 2 ^ 32)) hstamp)
    exact ⟨_, by rw [exec_stampLoRead, execStampLoRead, hread], latched s _ _⟩
  case trip =>
    have hread := State.readReg_latches (s := s) (a := Config.bolt + 0x10) (h := Config.bolt + 0x14) (v := s.bolt.tripTick)
      hpart hd (by decide) (r := Reg.ro 0x10) (by decide) (by decide) rfl rfl
    exact ⟨_, by rw [exec_tripTickLoRead, execTripTickLoRead, hread], latched s _ _⟩
  case overrun =>
    have hread : s.paneRead p.toNat 0x110 0 = (BitVec.ofNat 32 (s.pane p.toNat).lastOver,
        s.modPane p.toNat (fun q => q.setCr 0x114 (BitVec.ofNat 32 (q.lastOver / 2 ^ 32)))) := by
      have hr : paneRegOf false 0x110 1 = some (Reg.ro 0x110) := by decide
      simp [State.paneRead, hr, Reg.ro, Reg.mk1, State.paneView]
    have hap := apertureOf_aperture p (o := 0x110) (by decide)
    obtain ⟨-, hcr⟩ := s.modPane_setCr p.toNat 0x114 (fun q => BitVec.ofNat 32 (q.lastOver / 2 ^ 32))
    refine ⟨{ s.modPane p.toNat (fun q => q.setCr 0x114 (BitVec.ofNat 32 (q.lastOver / 2 ^ 32))) with
      rdata := low (s.pane p.toNat).lastOver }, ?_, rfl, (hcr 0x114).trans (if_pos rfl), rfl⟩
    rw [exec_lastOverrunLoRead, execLastOverrunLoRead, State.readReg_aperture hpart hd hap, hread]
  case slack =>
    have hwrite : s.paneWrite p.toNat 0x118 1 0 = (s.modPane p.toNat (fun q => q.setCr 0x118 (q.cr 0x118))).modPane p.toNat
        (fun q => q.setCr 0x108 0x7FFFFFFF#32) := by
      have hr : paneRegOf false 0x118 1 = some (Reg.ro 0x118) := by decide
      have hb : Word.bit 1 0 = true := by decide
      simp only [State.paneWrite, hr, Reg.write, Reg.ro, Reg.mk1, hb, if_true, Nat.reduceEqDiff]
    obtain ⟨-, hcr⟩ := s.modPane_setCr p.toNat 0x118 (fun q => q.cr 0x118)
    obtain ⟨-, hcr'⟩ := (s.modPane p.toNat (fun q => q.setCr 0x118 (q.cr 0x118))).modPane_setCr p.toNat 0x108 (fun _ => 0x7FFFFFFF#32)
    refine ⟨_, ?_, (OnlyPane.modPane p.toNat s _).trans (OnlyPane.modPane p.toNat _ _), (hcr' 0x108).trans (if_pos rfl), fun x hx => ?_⟩
    · rw [exec_slackReset, execSlackReset, State.reach_open hpart (by rwa [regDomain_aperture]), hwrite]
    · rw [hcr', if_neg hx, hcr]
      split <;> simp_all

/-! Publications. -/

/-- A rewrite of MB_PUB, which holds no bits, leaves every register as it reads. -/
theorem Pane.cr_rewrite (q : Pane) (a x : Nat) : (q.setCr a (q.cr a)).cr x = q.cr x := by
  rw [Pane.cr_setCr]; split <;> simp_all

/-- The primary of a task hangs on the roles and the tasks of the panes, and on the image. -/
theorem State.primaryOf_congr {s t : State} (hreg : t.reg = s.reg) (himg : t.img = s.img)
    (hcr : ∀ n x, (t.pane n).cr x = (s.pane n).cr x) (p : Nat) : t.primaryOf p = s.primaryOf p := by
  simp only [State.primaryOf, State.partNo, State.rd, hreg, Pane.role, Pane.hasTask, hcr, State.fv, State.field, himg]

/-- The write of MB_PUB itself, before what it sets off. -/
def State.pubWritten (s : State) (p : Nat) : State := s.modPane p (fun q => q.setCr 0x940 (q.cr 0x940))

theorem State.pubWritten_cr (s : State) (p n x : Nat) : ((s.pubWritten p).pane n).cr x = (s.pane n).cr x := by
  rw [State.pubWritten, State.pane_modPane]
  split
  · subst_vars; exact Pane.cr_rewrite _ _ _
  · rfl

theorem execMailboxPublish_open {s : State} {p : PaneNo} (hp : s.part ≠ .off) (hd : s.domOpen (72 + bayOf p.toNat) = true) (v : Word) :
    execMailboxPublish p v s = .next ((s.pubWritten p.toNat).publish p.toNat v) := by
  have hr : paneRegOf false 0x940 1 = some (Reg.ro 0x940) := by decide
  rw [execMailboxPublish, State.reach_open hp (by rwa [regDomain_aperture])]
  simp only [State.paneWrite, hr, Reg.write, Reg.ro, Reg.mk1, Nat.reduceEqDiff, if_true, if_false, State.pubWritten]

/-- A publication for a mailbox that no other task owns waits for the commit (R602). -/
theorem State.publish_taken {s : State} {p : Nat} {v : Word}
    (h : (s.mb (v.fld 0 5)).owner = none ∨ (s.mb (v.fld 0 5)).owner = some (s.primaryOf p)) :
    s.publish p v = s.modPane p (fun q => q.publish v) := by
  rcases h with h | h <;> simp only [State.publish, h, if_true]

/-- One for a mailbox that another task owns is refused (R603). -/
theorem State.publish_refused {s : State} {p o : Nat} {v : Word} (h : (s.mb (v.fld 0 5)).owner = some o) (ho : o ≠ s.primaryOf p) :
    s.publish p v = s.modPane p (fun q => q.setCr 0x944 3) := by
  simp only [State.publish, h, if_neg ho]

theorem mailboxesTake : Claims.mailboxesTake := by
  intro s p v q m ws hpart hdom
  have hpane : (s.pubWritten p.toNat).pane p.toNat = q.setCr 0x940 (q.cr 0x940) := by simp [State.pubWritten, State.pane_modPane, q]
  have hprim : (s.pubWritten p.toNat).primaryOf p.toNat = s.primaryOf p.toNat :=
    State.primaryOf_congr (s := s) (t := s.pubWritten p.toNat) rfl rfl (s.pubWritten_cr p.toNat) p.toNat
  have honly (f : Pane → Pane) : OnlyPane p.toNat s ((s.pubWritten p.toNat).modPane p.toNat f) :=
    (OnlyPane.modPane _ s _).trans (OnlyPane.modPane _ _ f)
  refine ⟨fun howner => ?_, fun o howner hother => ?_⟩
  · refine ⟨_, by rw [exec_mailboxPublish, execMailboxPublish_open hpart hdom, State.publish_taken (hprim ▸ howner)],
      honly _, ?_, ?_⟩
    · rw [State.pane_modPane, if_pos rfl]
      exact (Pane.cr_setCr _ 0x944 0x944 1).trans (if_pos rfl)
    · rw [State.pane_modPane, if_pos rfl, hpane]
      simp only [Pane.publish, Pane.cr_rewrite]
      rfl
  · refine ⟨_, by rw [exec_mailboxPublish, execMailboxPublish_open hpart hdom, State.publish_refused (s := s.pubWritten p.toNat) howner (hprim ▸ hother)],
      honly _, ?_, ?_⟩
    · rw [State.pane_modPane, if_pos rfl]
      exact (Pane.cr_setCr _ 0x944 0x944 3).trans (if_pos rfl)
    · rw [State.pane_modPane, if_pos rfl, hpane]
      rfl

/-- Settles O53: accesses through the latch aperture, the latched halves, and the mailboxes. -/
theorem registersObey : Obligations.RegistersObey := ⟨registersObey_plain, halvesLatch, mailboxesTake⟩

end Sys2Proof.Machine
end

section
/-!
PROOF. What START hangs on at its boundary (R36, R441, R523), and the steps that keep it.
-/
namespace Sys2Proof.Machine

/-! What a step may keep. -/

/-- The part's state, its lock point, its tick number and the causes of a change of state stay. -/
@[simp] abbrev SameRun (s t : State) : Prop :=
  t.part = s.part ∧ t.locked = s.locked ∧ t.tick = s.tick ∧ t.causes = s.causes

/-- The registers by which a START is decided: its clamp counters and STRICT (R441), the dividers (R52) and KNOCK.CLASS, by which a
knock is due (R523), the interlock crossing (R636), and BOARD, for the parts of the board. -/
def startInputs : List Nat :=
  [Config.start, Config.start + 0x20, Config.start + 0x24, Config.transom + 0xC, Config.transom + 0x10, Config.transom + 0x14,
   Config.knock, Config.cross + 0x2B0, Config.board]

/-- What they hold in a register file. -/
def startWords (m : RegFile) : List Word := startInputs.map (RegFile.rd devReset m)

/-- All but those registers by which a START is decided at the coming boundary: also the generator, the count of READY's boundaries,
the retirements due, the knocks pending, the interlock pins and the NOR bridge. -/
@[simp] abbrev SameStand (s t : State) : Prop :=
  SameRun s t ∧ t.gen = s.gen ∧ t.readyBnd = s.readyBnd ∧ t.retireDue = s.retireDue ∧ t.net.knocks = s.net.knocks ∧
    t.bolt.abortIn.asserted = s.bolt.abortIn.asserted ∧ t.bolt.door.asserted = s.bolt.door.asserted ∧
    RegFile.rd sillReset t.sill 0x104 = RegFile.rd sillReset s.sill 0x104

/-- All by which a START is decided stays. -/
@[simp] abbrev SameStart (s t : State) : Prop := SameStand s t ∧ startWords t.reg = startWords s.reg

theorem SameRun.refl (s : State) : SameRun s s := ⟨rfl, rfl, rfl, rfl⟩
theorem SameStart.refl (s : State) : SameStart s s := ⟨⟨⟨rfl, rfl, rfl, rfl⟩, rfl, rfl, rfl, rfl, rfl, rfl, rfl⟩, rfl⟩

theorem SameRun.trans {s t u : State} (h1 : SameRun s t) (h2 : SameRun t u) : SameRun s u := by
  obtain ⟨hp, hl, ht, hc⟩ := h1
  obtain ⟨hp', hl', ht', hc'⟩ := h2
  exact ⟨hp'.trans hp, hl'.trans hl, ht'.trans ht, hc'.trans hc⟩

theorem SameStart.trans {s t u : State} (h1 : SameStart s t) (h2 : SameStart t u) : SameStart s u := by
  obtain ⟨⟨hr, hg, hn, hd, hk, ha, ho, hb⟩, hw⟩ := h1
  obtain ⟨⟨hr', hg', hn', hd', hk', ha', ho', hb'⟩, hw'⟩ := h2
  exact ⟨⟨SameRun.trans hr hr', hg'.trans hg, hn'.trans hn, hd'.trans hd, hk'.trans hk, ha'.trans ha, ho'.trans ho, hb'.trans hb⟩,
    hw'.trans hw⟩

/-! What each of them gives, by name. -/

theorem SameStand.run {s t : State} (h : SameStand s t) : SameRun s t := h.1

section
variable {s t : State} (h : SameStart s t)
include h

theorem SameStart.run : SameRun s t := h.1.1
theorem SameStart.part : t.part = s.part := h.1.1.1
theorem SameStart.causes : t.causes = s.causes := h.1.1.2.2.2
theorem SameStart.retireDue : t.retireDue = s.retireDue := h.1.2.2.2.1
theorem SameStart.knocks : t.net.knocks = s.net.knocks := h.1.2.2.2.2.1

/-- A register by which a START is decided reads as before. -/
theorem SameStart.rd {a : Nat} (ha : a ∈ startInputs) : t.rd a = s.rd a := List.map_inj_left.mp h.2 a ha

end

/-- A fold of steps that keep the run keeps it. -/
theorem foldl_sameRun {α : Type} {f : State → α → State} (l : List α) (s : State) (h : ∀ t, ∀ x ∈ l, SameRun t (f t x)) :
    SameRun s (l.foldl f s) := by
  induction l generalizing s with
  | nil => exact SameRun.refl s
  | cons x r ih =>
    exact SameRun.trans (h s x List.mem_cons_self) (ih (f s x) (fun t y hy => h t y (List.mem_cons_of_mem x hy)))

/-- A fold of steps that keep what a START hangs on keeps it. -/
theorem foldl_sameStart {α : Type} {f : State → α → State} (l : List α) (s : State) (h : ∀ t, ∀ x ∈ l, SameStart t (f t x)) :
    SameStart s (l.foldl f s) := by
  induction l generalizing s with
  | nil => exact SameStart.refl s
  | cons x r ih =>
    exact SameStart.trans (h s x List.mem_cons_self) (ih (f s x) (fun t y hy => h t y (List.mem_cons_of_mem x hy)))

/-- Either branch of a choice keeps it. -/
theorem sameStart_ite {c : Prop} [Decidable c] {s t u : State} (ht : SameStart s t) (hu : SameStart s u) :
    SameStart s (if c then t else u) := by
  split
  · exact ht
  · exact hu

/-! Registers. -/

/-- A write of another register. -/
theorem startWords_wr {a : Nat} (ha : a ∉ startInputs) (m : RegFile) (v : Word) :
    startWords (RegFile.wr devReset m a v) = startWords m :=
  List.map_congr_left fun b hb => (RegFile.rd_wr devReset m a b v).trans (if_neg fun h : a = b => ha (h ▸ hb))

@[simp] theorem State.wr_sameStand (s : State) (a : Nat) (v : Word) : SameStand s (s.wr a v) :=
  ⟨⟨rfl, rfl, rfl, rfl⟩, rfl, rfl, rfl, rfl, rfl, rfl, rfl⟩
@[simp] theorem State.bump_sameStand (s : State) (a n k : Nat) : SameStand s (s.bump a n k) := s.wr_sameStand a _
@[simp] theorem State.setBits_sameStand (s : State) (a : Nat) (m : Word) : SameStand s (s.setBits a m) := s.wr_sameStand a _
@[simp] theorem State.clrBits_sameStand (s : State) (a : Nat) (m : Word) : SameStand s (s.clrBits a m) := s.wr_sameStand a _
@[simp] theorem State.wrFld_sameStand (s : State) (a lo n v : Nat) : SameStand s (s.wrFld a lo n v) := s.wr_sameStand a _

@[simp] theorem State.startWords_wr {a : Nat} (s : State) (v : Word) (ha : a ∉ startInputs) :
    startWords (s.wr a v).reg = startWords s.reg := Machine.startWords_wr ha s.reg v
@[simp] theorem State.startWords_bump {a : Nat} (s : State) (n k : Nat) (ha : a ∉ startInputs) :
    startWords (s.bump a n k).reg = startWords s.reg := s.startWords_wr _ ha
@[simp] theorem State.startWords_setBits {a : Nat} (s : State) (m : Word) (ha : a ∉ startInputs) :
    startWords (s.setBits a m).reg = startWords s.reg := s.startWords_wr _ ha
@[simp] theorem State.startWords_clrBits {a : Nat} (s : State) (m : Word) (ha : a ∉ startInputs) :
    startWords (s.clrBits a m).reg = startWords s.reg := s.startWords_wr _ ha
@[simp] theorem State.startWords_wrFld {a : Nat} (s : State) (lo n v : Nat) (ha : a ∉ startInputs) :
    startWords (s.wrFld a lo n v).reg = startWords s.reg := s.startWords_wr _ ha

/-- The addresses of the registers by which a START is decided, as numbers. -/
theorem not_mem_startInputs {a : Nat} (h : a < 0xF0002000 ∨ (0xF0002024 < a ∧ a < 0xF000400C) ∨ (0xF0004014 < a ∧ a < 0xF0082000) ∨
    (0xF0082000 < a ∧ a < 0xF0090800) ∨ (0xF0090800 < a ∧ a < 0xF00D02B0) ∨ 0xF00D02B0 < a) : a ∉ startInputs := by
  simp only [startInputs, Config.start, Config.transom, Config.knock, Config.cross, Config.board, List.mem_cons, List.not_mem_nil,
    or_false]
  omega

@[simp] theorem bolt_not_mem_startInputs {o : Nat} (h : o < 0x7C000) : Config.bolt + o ∉ startInputs :=
  not_mem_startInputs (by simp only [Config.bolt]; omega)
@[simp] theorem pwr_not_mem_startInputs {o : Nat} (h : o < 0x302B0) : Config.pwr + o ∉ startInputs :=
  not_mem_startInputs (by simp only [Config.pwr]; omega)
/-- The registers of a drive group, whatever its number: their offsets are none of those of `startInputs`. -/
theorem dop_not_mem_startInputs (g : Nat) {o : Nat} (h : 4 ≤ o ∧ o < 0x200) : Config.dop g + o ∉ startInputs := by
  simp only [startInputs, Config.start, Config.transom, Config.knock, Config.cross, Config.board, Config.dop, List.mem_cons,
    List.not_mem_nil, or_false]
  omega

/-! Events, the log and what leaves the ports. -/

@[simp] theorem State.raise_sameStart (s : State) (m : BitVec 64) (src : Nat) (k : EventKind) (d : Nat) :
    SameStart s (s.raise m src k d) := SameStart.refl s
@[simp] theorem State.edge_sameStart (s : State) (m : BitVec 64) (src d : Nat) : SameStart s (s.edge m src d) := SameStart.refl s
@[simp] theorem State.paneEdge_sameStart (s : State) (p src : Nat) : SameStart s (s.paneEdge p src) := SameStart.refl s
@[simp] theorem State.report_sameStart (s : State) (r : Report) : SameStart s (s.report r) := SameStart.refl s
@[simp] theorem State.reportLintel_sameStart (s : State) (r : Report) : SameStart s (s.reportLintel r) := SameStart.refl s
@[simp] theorem State.setPane_sameStart (s : State) (p : Nat) (q : Pane) : SameStart s (s.setPane p q) := SameStart.refl s
@[simp] theorem State.modPane_sameStart (s : State) (p : Nat) (f : Pane → Pane) : SameStart s (s.modPane p f) := SameStart.refl s
@[simp] theorem State.setBent_sameStart (s : State) (e : Nat) (x : BoltEntry) : SameStart s (s.setBent e x) := SameStart.refl s
@[simp] theorem State.setSlot_sameStart (s : State) (d : Nat) (x : DriveSlot) : SameStart s (s.setSlot d x) := SameStart.refl s
@[simp] theorem State.setLane_sameStart (s : State) (l : Nat) (x : RxLane) : SameStart s (s.setLane l x) := SameStart.refl s
@[simp] theorem State.setMover_sameStart (s : State) (b m : Nat) (x : Mover) : SameStart s (s.setMover b m x) := SameStart.refl s

@[simp] theorem State.logAt_sameStart (s : State) (t c : Nat) (l : List Nat) : SameStart s (s.logAt t c l) := by
  unfold State.logAt; split <;> exact SameStart.refl s
@[simp] theorem State.logEv_sameStart (s : State) (c : Nat) (l : List Nat) : SameStart s (s.logEv c l) := s.logAt_sameStart _ c l

@[simp] theorem State.queueOut_sameStart (s : State) (i ns : Nat) (f : NetOut) : SameStart s (s.queueOut i ns f) := by
  unfold State.queueOut; split <;> exact SameStart.refl s

@[simp] theorem State.netSend_sameStart (s : State) (q k : Nat) (l : List Byte) (v6 : Bool) : SameStart s (s.netSend q k l v6) := by
  simp only [State.netSend]; split
  · exact SameStart.refl s
  · exact s.queueOut_sameStart _ _ _

@[simp] theorem State.announceOn_sameStart (s : State) (q : Nat) : SameStart s (s.announceOn q) := by
  simp only [State.announceOn]
  split
  · exact SameStart.refl s
  · split <;> simp [State.draw]

@[simp] theorem State.announce_sameStart (s : State) : SameStart s s.announce := by simp [State.announce]

/-! The bolt before RUNNING. -/

@[simp] theorem State.latchTrip_sameStart (s : State) (c a : Nat) : SameStart s (s.latchTrip c a) := by
  unfold State.latchTrip
  split
  · simp
  · exact SameStart.refl s

@[simp] theorem State.boltRun_sameStart (s : State) (e : Nat) (ks : List Nat) : SameStart s (s.boltRun e ks) := by
  unfold State.boltRun
  cases ks with
  | nil => simp
  | cons k r => dsimp only; split <;> simp

@[simp] theorem State.boltEval_sameStart (s : State) (e : Nat) (x : Int) (l : List Nat) : SameStart s (s.boltEval e x l) := by
  simp [State.boltEval]

@[simp] theorem State.tapSample_sameStart (s : State) (i : Nat) (fr : List FifoEntry) : SameStart s (s.tapSample i fr) := by
  unfold State.tapSample
  dsimp only
  split
  · exact SameStart.refl s
  · split <;> simp

@[simp] theorem State.boltWarn_sameStart (s : State) : SameStart s s.boltWarn := by
  unfold State.boltWarn
  dsimp only
  split <;> exact SameStart.refl s

@[simp] theorem State.tapTick_sameStart (s : State) (i : Nat) : SameStart s (s.tapTick i) := by
  unfold State.tapTick
  dsimp only
  split
  · exact SameStart.refl s
  · split
    · split
      · split <;> simp
      · exact SameStart.refl s
    · exact foldl_sameStart _ s fun t f _ => t.tapSample_sameStart i f

@[simp] theorem State.boltTaps_sameStart (s : State) : SameStart s s.boltTaps :=
  (foldl_sameStart _ s fun t i _ => t.tapTick_sameStart i).trans (State.boltWarn_sameStart _)

/-! A frame that leaves before the next close (R350): a group of any number, as `State.drvDue` may name it. -/

@[simp] theorem State.underrun_sameStart (s : State) (d : Nat) : SameStart s (s.underrun d) := by
  have hbits : Config.dop (d / 64) + 8 + 4 * (d % 64 / 32) ∉ startInputs := by
    rw [Nat.add_assoc]; exact dop_not_mem_startInputs _ (by omega)
  have hcount : Config.dop (d / 64) + 0x18 ∉ startInputs := dop_not_mem_startInputs _ (by omega)
  have hset : SameStart s ((s.setBits (Config.dop (d / 64) + 8 + 4 * (d % 64 / 32)) (1#32 <<< (d % 64 % 32))).bump
      (Config.dop (d / 64) + 0x18) 16 1) := by simp [hbits, hcount]
  exact sameStart_ite (hset.trans (State.raise_sameStart _ _ _ _ _)) hset

@[simp] theorem State.drivePoison_sameStart (s : State) (d : Nat) : SameStart s (s.drivePoison d) := by
  have hbits : Config.dop (d / 64) + 0x10 + 4 * (d % 64 / 32) ∉ startInputs := by
    rw [Nat.add_assoc]; exact dop_not_mem_startInputs _ (by omega)
  have hcount : Config.dop (d / 64) + 0x1C ∉ startInputs := dop_not_mem_startInputs _ (by omega)
  simp [State.drivePoison, hbits, hcount]

@[simp] theorem State.sendBad_sameStart (s : State) (d : Nat) : SameStart s (s.sendBad d) := by
  unfold State.sendBad
  dsimp only
  split <;> simp

@[simp] theorem State.sendSlot_sameStart (s : State) (missing bad : List Nat) (d : Nat) :
    SameStart s (s.sendSlot missing bad d) := by
  have hlast : lastReg d ∉ startInputs := by
    rw [lastReg, Nat.add_assoc]; exact dop_not_mem_startInputs _ (by omega)
  unfold State.sendSlot
  dsimp only
  split
  · simp
  · split
    · simp
    · split <;> simp [hlast]

@[simp] theorem State.afterFrame_sameStart (s : State) : SameStart s s.afterFrame := by
  unfold State.afterFrame
  split <;> exact SameStart.refl s

@[simp] theorem State.sendFrame_sameStart (s : State) (g : Nat) (missing bad : List Nat) :
    SameStart s (s.sendFrame g missing bad) :=
  SameStart.trans (foldl_sameStart _ s fun t k _ => t.sendSlot_sameStart missing bad (64 * g + k)) (State.afterFrame_sameStart _)

/-! The close and the gather (R56). -/

@[simp] theorem State.losePart_sameStart (s : State) (q : Nat) : SameStart s (s.losePart q) := by
  have hstatus : Config.board + 4 ∉ startInputs := by decide
  unfold State.losePart
  split <;> simp [hstatus]

@[simp] theorem State.lateToken_sameStart (s : State) (q : Nat) : SameStart s (s.lateToken q) := by
  have hcount : Config.board + 0x10 ∉ startInputs := by decide
  unfold State.lateToken
  dsimp only
  split
  · exact SameStart.refl s
  · split <;> simp [hcount]

@[simp] theorem State.mvJudge_sameStart (s : State) (b m : Nat) : SameStart s (s.mvJudge b m) := by
  refine foldl_sameStart _ s fun t d _ => ?_
  split
  · exact SameStart.refl t
  · exact SameStart.refl t

/-- What the close does last: the counted frames are gone, and the GPIO levels are sampled (R71, R371). -/
theorem State.clearFrames_sameStart (s : State) (l : SMap RxLane) :
    SameStart s (State.sampleGpio { s with lanes := l }) := SameStart.refl s

@[simp] theorem State.closeStep_sameStart (s : State) : SameStart s s.closeStep := by
  have hframes : SameStart s s.releaseFrames := foldl_sameStart _ s fun t g _ => t.sendFrame_sameStart g [] []
  have htokens (t : State) (l : List Nat) : SameStart t (l.foldl (fun s q => s.lateToken q) t) :=
    foldl_sameStart l t fun t q _ => t.lateToken_sameStart q
  have hmovers (t : State) (l : List Nat) : SameStart t (l.foldl (fun s k => s.mvJudge (k / 4) (k % 4)) t) :=
    foldl_sameStart l t fun t k _ => t.mvJudge_sameStart (k / 4) (k % 4)
  refine SameStart.trans ?_ (State.clearFrames_sameStart _ _)
  refine SameStart.trans ?_ (State.boltTaps_sameStart _)
  exact (hframes.trans (htokens _ _)).trans (hmovers _ _)

@[simp] theorem State.markDead_sameStart (s : State) (r : Nat) : SameStart s (s.markDead r) := by
  refine foldl_sameStart _ s fun t n _ => ?_
  split <;> exact SameStart.refl t

@[simp] theorem State.ledgerAdd_sameStart (s : State) (c x a : Nat) : SameStart s (s.ledgerAdd c x a) := by
  have hcount : Config.fault ∉ startInputs := by decide
  have hlen : Config.fault + 4 ∉ startInputs := by decide
  simp [State.ledgerAdd, hcount, hlen]

/-- The three folds of `State.assignRelays`. -/
theorem clearRelays_sameStart (l : List Nat) (s : State) : SameStart s (l.foldl (fun s p =>
    if ((s.pane p).cr 0x844).bit 4 then s.modPane p (fun q => q.setCr 0x844 ((q.cr 0x844).withBit 4 false)) else s) s) :=
  foldl_sameStart l s fun t p _ => sameStart_ite (t.modPane_sameStart p _) (SameStart.refl t)

theorem markRelays_sameStart (l : SMap Nat) (s : State) : SameStart s (l.foldl (fun (s : State) (r : Nat × Nat) =>
    s.modPane r.1 (fun q => q.setCr 0x844 (q.cr 0x844 ||| 0x10#32))) s) :=
  foldl_sameStart l s fun t r _ => t.modPane_sameStart r.1 _

theorem lostChannels_sameStart (l : SMap Nat) (s : State) : SameStart s (l.foldl (fun (s : State) (c : Nat × Nat) =>
    if c.2 = 1024 ∧ SMap.at? s.relays c.1 ≠ some 1024 then s.ledgerAdd 0x030B (s.keyChannel c.1).1 (s.keyChannel c.1).2 else s) s) :=
  foldl_sameStart l s fun t _ _ => sameStart_ite (t.ledgerAdd_sameStart _ _ _) (SameStart.refl t)

theorem State.setRelays_sameStart (s : State) (l : SMap Nat) : SameStart s { s with relays := l } := SameStart.refl s

@[simp] theorem State.assignRelays_sameStart (s : State) : SameStart s s.assignRelays := by
  refine SameStart.trans ?_ (State.setRelays_sameStart _ _)
  refine SameStart.trans ?_ (lostChannels_sameStart _ _)
  exact (clearRelays_sameStart _ s).trans (markRelays_sameStart _ _)

@[simp] theorem State.installRoutes_sameStart (s : State) (c : Nat) : SameStart s (s.installRoutes c) := by
  unfold State.installRoutes
  dsimp only
  split
  · exact SameStart.refl s
  · have hmark (t : State) (l : List (Nat × Nat)) : SameStart t (l.foldl (fun s x => s.markDead x.1) t) :=
      foldl_sameStart l t fun t x _ => t.markDead_sameStart x.1
    refine SameStart.trans ?_ (State.assignRelays_sameStart _)
    exact hmark _ _

theorem State.restoreLink_sameStart (s : State) (c : Nat) {k : Nat} (hk : k < 6) : SameStart s (s.restoreLink c k) := by
  have hstatus : Config.wicket k + 4 ∉ startInputs := not_mem_startInputs (by simp only [Config.wicket]; omega)
  unfold State.restoreLink
  split <;> simp [hstatus]

theorem State.watermark_sameStart (s : State) {l : Nat} (hl : l < 64) (old peak : Nat) : SameStart s (s.watermark l old peak) := by
  have hnotice : Config.sip (l / 8) + 0x10 ∉ startInputs := not_mem_startInputs (by simp only [Config.sip]; omega)
  have hlevel : laneReg l 8 ∉ startInputs := not_mem_startInputs (by simp only [laneReg, Config.sip]; omega)
  unfold State.watermark
  dsimp only
  split
  · exact SameStart.refl s
  · split <;> simp [hnotice, hlevel]

theorem State.dropFifos_sameStart (s : State) (c : Nat) : SameStart s (s.dropFifos c false) := by
  unfold State.dropFifos
  split
  · exact SameStart.trans (SameStart.refl s) (State.watermark_sameStart _ ‹_› _ _)
  · split
    · exact foldl_sameStart _ s fun t k _ => SameStart.refl t
    · split <;> exact SameStart.refl s

theorem State.rearm_sameStart (s : State) {c : Nat} (hc : c < 109) (h108 : c ≠ 108) : SameStart s (s.rearm c) := by
  have hcross : Config.cross + 0x100 + 4 * c ∉ startInputs := not_mem_startInputs (by simp only [Config.cross]; omega)
  have hcount : Config.cross + 0x24 ∉ startInputs := by decide
  have hclear : SameStart s ((s.clrBits (Config.cross + 0x100 + 4 * c) 15#32).bump (Config.cross + 0x24) 16 1) := by
    simp [hcross, hcount]
  refine SameStart.trans (hclear.trans (State.dropFifos_sameStart _ c)) ?_
  refine sameStart_ite (SameStart.trans ?_ (State.raise_sameStart _ _ _ _ _)) ?_ <;>
    exact sameStart_ite (SameStart.refl _) (SameStart.refl _)

/-- The interlock crossing that is not severed is not re-armed. -/
theorem State.rearmAll_sameStart (s : State) (close : Nat) (h : s.severed 108 = false) : SameStart s (s.rearmAll close) := by
  refine foldl_sameStart _ s fun t c hc => ?_
  simp only [List.mem_filter, List.mem_range, State.rearmDue, Bool.and_eq_true] at hc
  obtain ⟨hlt, ⟨hsev, -⟩, -⟩ := hc
  exact t.rearm_sameStart hlt fun h108 => by simp [h108, h] at hsev

/-- Nothing that a START hangs on changes at the gather, where no retirement is due. -/
theorem State.gatherStep_sameStart (s : State) (b : Bnd) (hsev : s.severed 108 = false)
    (hret : ∀ r ∈ s.retireDue, b.close < r.2.2) : SameStart s (s.gatherStep b) := by
  have hroutes : SameStart s (s.gatherReports.installRoutes b.close) :=
    SameStart.trans (SameStart.refl s) (State.installRoutes_sameStart s.gatherReports b.close)
  have hnone : (s.gatherReports.installRoutes b.close).retirements b.close = s.gatherReports.installRoutes b.close := by
    obtain ⟨⟨-, -, -, hdue, -⟩, -⟩ := hroutes
    have hfilter : s.retireDue.filter (fun r => decide (r.2.2 ≤ b.close)) = [] :=
      List.filter_eq_nil_iff.mpr fun r hr => by simpa using hret r hr
    rw [State.retirements, hdue, hfilter, List.foldl_nil]
  have hlinks : SameStart s ((List.range 6).foldl (fun s k => s.restoreLink b.close k) (s.gatherReports.installRoutes b.close)) :=
    hroutes.trans (foldl_sameStart _ _ fun t k hk => t.restoreLink_sameStart b.close (List.mem_range.mp hk))
  have hsev' : (Config.cross + 0x100 + 4 * 108) ∈ startInputs := by decide
  rw [State.gatherStep, hnone]
  exact hlinks.trans (State.rearmAll_sameStart _ b.close ((congrArg (fun w => Word.bit w 0) (hlinks.rd hsev')).trans hsev))

/-- The first boundary of READY (R357, R492, R518, R572). -/
theorem State.ceilings_sameStart (s : State) : SameStart s s.ceilings := by
  refine foldl_sameStart _ s fun t k hk => ?_
  have hrail : Config.pwr + 0x400 + 4 * k ∉ startInputs := by
    rw [Nat.add_assoc]; exact pwr_not_mem_startInputs (by have := List.mem_range.mp hk; omega)
  split <;> simp [hrail]

theorem State.newEphemeral_sameStart {s t : State} (h : SameStart s t) (e : Option (List Byte)) (n : Nat) :
    SameStart s { t with net := { s.net with eph := e }, free := n } := by
  obtain ⟨⟨hr, hg, hn, hd, -, ha, ho, hb⟩, hw⟩ := h
  exact ⟨⟨hr, hg, hn, hd, rfl, ha, ho, hb⟩, hw⟩

theorem State.setLogs_sameStart (s : State) (l : LogStore) : SameStart s { s with logs := l } := SameStart.refl s

theorem State.firstBoundary_sameStart (s : State) : SameStart s s.firstBoundary := by
  have hopen : SameStart s s.boltOpen.ceilings := SameStart.trans (SameStart.refl s) s.boltOpen.ceilings_sameStart
  unfold State.firstBoundary
  refine sameStart_ite ?_ (SameStart.refl s)
  refine SameStart.trans ?_ (State.announce_sameStart _)
  exact (State.newEphemeral_sameStart hopen _ _).trans (State.setLogs_sameStart _ _)

end Sys2Proof.Machine
end

section
/-!
PROOF. The knocks due at a boundary of a READY part of its own that nothing keeps from RUNNING (R36, R441, R523).
-/
namespace Sys2Proof.Machine

/-- A READY part of its own that no code of R441 keeps from RUNNING. -/
def TakesStart (s : State) : Prop := s.part = .ready ∧ s.parts = 1 ∧ s.startCode = none

/-! What is read of the registers and the bolt alone. -/

theorem State.parts_congr {s t : State} (h : SameStart s t) : t.parts = s.parts :=
  congrArg (fun w => Word.fld w 4 3 + 1) (h.rd (show Config.board ∈ startInputs by decide))

theorem State.severed_congr {s t : State} (h : SameStart s t) : t.severed 108 = s.severed 108 :=
  congrArg (fun w => Word.bit w 0) (h.rd (show Config.cross + 0x100 + 4 * 108 ∈ startInputs by decide))

theorem State.startCode_congr {s t : State} (h : SameStart s t) : t.startCode = s.startCode := by
  have hsev := State.severed_congr h
  have hstart := h.rd (show Config.start ∈ startInputs by decide)
  have hrefused := h.rd (show Config.start + 0x20 ∈ startInputs by decide)
  have hclamped := h.rd (show Config.start + 0x24 ∈ startInputs by decide)
  obtain ⟨⟨⟨hpart, -, -, -⟩, -, -, -, -, habort, hdoor, hbridge⟩, -⟩ := h
  have hopen : t.bridgeOpen = s.bridgeOpen := congrArg (fun w => Word.bit w 0) hbridge
  rw [State.startCode, State.startCode, State.boltVeto, State.boltVeto, hopen, hsev, hstart, hrefused, hclamped, hpart, habort, hdoor]

theorem State.divider_congr {s t : State} (h : SameStart s t) {k : Nat} (hk : 1 ≤ k ∧ k ≤ 3) : t.divider k = s.divider k := by
  have hreg : Config.transom + 8 + 4 * k ∈ startInputs := by
    obtain ⟨h1, h3⟩ := hk
    interval_cases k <;> decide
  exact congrArg (fun w => max (Word.fld w 0 16) 1 + 1) (h.rd hreg)

theorem State.mult_congr {s t : State} (h : SameStart s t) {k : Nat} (hk : k ≤ 3) : t.mult k = s.mult k := by
  induction k with
  | zero => rfl
  | succ k ih => rw [State.mult, State.mult, ih (by omega), State.divider_congr h (by omega)]

theorem State.knockClass_le (s : State) (k : Nat) : s.knockClass k ≤ 3 := by
  unfold State.knockClass Word.fld bitsOf
  omega

/-- In READY the dividers run from its first boundary (R54). -/
theorem State.bndNo_of_ready {s : State} (h : s.part = .ready) : s.bndNo = s.readyBnd := by
  simp [State.bndNo, State.ticking, PartState.ticking, h]

/-- A knock is due at READY's boundary as it was before the steps that keep what a START hangs on. -/
theorem State.knockDue_congr {s t : State} (h : SameStart s t) (hp : s.part = .ready) (x : PendKnock) :
    t.knockDue x = s.knockDue x := by
  have hclass : t.knockClass x.knock.num = s.knockClass x.knock.num :=
    congrArg (fun w => Word.fld w (2 * x.knock.num) 2) (h.rd (show Config.knock ∈ startInputs by decide))
  have hmult := State.mult_congr h (s.knockClass_le x.knock.num)
  obtain ⟨⟨⟨hpart, -, -, -⟩, -, hbnd, -, -, -, -, -⟩, -⟩ := h
  simp only [State.knockDue, State.bndNo_of_ready hp, State.bndNo_of_ready (hpart.trans hp), hbnd, hclass, hmult]

theorem TakesStart.of_sameStart {s t : State} (h : SameStart s t) (hs : TakesStart s) : TakesStart t := by
  obtain ⟨hpart, hparts, hcode⟩ := hs
  exact ⟨h.part.trans hpart, (State.parts_congr h).trans hparts, (State.startCode_congr h).trans hcode⟩

/-- None of the codes 1 to 4 of R441 holds, and the part is READY: code 5 does not hold either. -/
theorem takesStart_of_startable {s : State} (hparts : s.parts = 1) (hready : s.part = .ready) (h : Claims.startable s) :
    TakesStart s := by
  obtain ⟨hrefused, hclamped, habort, hdoor, hsev, hbridge⟩ := h
  refine ⟨hready, hparts, ?_⟩
  have hveto : s.boltVeto = false := by simp [State.boltVeto, habort, hdoor, hsev]
  have hopen : s.bridgeOpen = false := hbridge
  cases hstrict : (s.rd Config.start).bit 9 with
  | false => simp [State.startCode, hrefused, hstrict, hveto, hopen, hready]
  | true => simp [State.startCode, hrefused, hclamped hstrict, hveto, hopen, hready]

/-! A refusal changes nothing that a START hangs on (R522, R525). -/

theorem State.swr_sameStart (s : State) {a : Nat} (v : Word) (ha : a ≠ 0x104) : SameStart s (s.swr a v) := by
  have hbridge : RegFile.rd sillReset (s.swr a v).sill 0x104 = RegFile.rd sillReset s.sill 0x104 :=
    (RegFile.rd_wr sillReset s.sill a 0x104 v).trans (if_neg ha)
  exact ⟨⟨⟨rfl, rfl, rfl, rfl⟩, rfl, rfl, rfl, rfl, rfl, rfl, hbridge⟩, rfl⟩

@[simp] theorem State.sillResult_sameStart (s : State) (k o : Nat) : SameStart s (s.sillResult k o) := s.swr_sameStart _ (by decide)

@[simp] theorem State.knockReply_sameStart (s : State) (k : Nat) (r : Nat × Nat × Nat) (o d : Nat) :
    SameStart s (s.knockReply k r o d) :=
  SameStart.trans (SameStart.refl s) (s.draw.2.netSend_sameStart _ _ _ _)

/-- The registers and the bell of a refusal. -/
theorem State.refusalRegs_sameStart (s : State) (w : Word) (k : Nat) :
    SameStart s (((s.bump (Config.knock + 0x8C) 16 1).wr (Config.knock + 0x90) w).edge allBells 47 k) := by
  have hcount : Config.knock + 0x8C ∉ startInputs := by decide
  have hlast : Config.knock + 0x90 ∉ startInputs := by decide
  simp [hcount, hlast]

@[simp] theorem State.refuseNum_sameStart (s : State) (k path : Nat) (reply : Option (Nat × Nat × Nat)) (reason arg : Nat) :
    SameStart s (s.refuseNum k path reply reason arg) := by
  have hlog := (s.refusalRegs_sameStart (BitVec.ofNat 32 (k % 8 + reason * 16 + path * 256 + 2 ^ 31)) k).trans
    (State.logEv_sameStart _ (0x0200 + reason) [k, arg, path])
  have hsill := sameStart_ite (c := path = 1) (hlog.trans (State.sillResult_sameStart _ k reason)) hlog
  cases reply with
  | none => exact hsill
  | some r => exact hsill.trans (State.knockReply_sameStart _ _ _ _ _)

theorem State.mark_sameStart (s : State) (arg : DWord) : SameStart s (s.mark arg) := by
  have hcount : Config.knock + 0x84 ∉ startInputs := by decide
  simp [State.mark, hcount]

theorem State.reportKnock_sameStart (s : State) : SameStart s s.reportKnock :=
  s.announce_sameStart.trans (State.logEv_sameStart _ _ _)

/-! The decision (R523). -/

/-- In READY a knock other than START and SHUTDOWN is refused, or acts at once: it changes nothing that a START hangs on. -/
theorem State.decideKnock_sameStart {s : State} (hready : s.part = .ready) {x : PendKnock} (hstart : x.knock ≠ .start)
    (hshut : x.knock ≠ .shutdown) : SameStart s (s.decideKnock x) := by
  have hrefuse (k : Knock) : SameStart s (s.refuse k x.path x.reply 5 0) := s.refuseNum_sameStart _ _ _ _ _
  unfold State.decideKnock
  split
  case h_1 h => exact absurd h hstart
  case h_2 => rw [hready]; exact hrefuse .hold
  case h_3 => rw [hready]; exact hrefuse .resume
  case h_4 => rw [hready]; exact hrefuse .abort
  case h_5 => exact sameStart_ite (s.mark_sameStart _) (hrefuse .mark)
  case h_6 h => exact absurd h hshut
  case h_7 => exact sameStart_ite s.reportKnock_sameStart (hrefuse .report)

theorem State.decideKnock_start {s : State} (h : TakesStart s) {x : PendKnock} (hstart : x.knock = .start) :
    s.decideKnock x = s.cause (.knock .start) := by
  obtain ⟨hready, hparts, hcode⟩ := h
  simp [State.decideKnock, hstart, hready, State.startRefusal, hparts, hcode]

/-- Knocks with no SHUTDOWN among them: each START is a cause, and the part takes a START as before. -/
theorem State.decideKnock_foldl {s : State} (h : TakesStart s) {l : List PendKnock} (hshut : ∀ x ∈ l, x.knock ≠ .shutdown) :
    TakesStart (l.foldl (fun s x => s.decideKnock x) s) ∧
      (l.foldl (fun s x => s.decideKnock x) s).causes =
        s.causes ++ List.replicate (l.countP (fun x => x.knock == .start)) (.knock .start) := by
  induction l generalizing s with
  | nil => exact ⟨h, (List.append_nil _).symm⟩
  | cons x r ih =>
    have hr := fun y hy => hshut y (List.mem_cons_of_mem x hy)
    by_cases hstart : x.knock = .start
    · obtain ⟨htakes, hcauses⟩ := ih (s := s.cause (.knock .start)) h hr
      simp only [List.foldl_cons, State.decideKnock_start h hstart]
      refine ⟨htakes, hcauses.trans ?_⟩
      simp [hstart, State.cause, List.replicate_succ]
    · have hkeep := State.decideKnock_sameStart h.1 hstart (hshut x List.mem_cons_self)
      obtain ⟨htakes, hcauses⟩ := ih (h.of_sameStart hkeep) hr
      refine ⟨htakes, hcauses.trans ?_⟩
      rw [hkeep.causes]
      simp [hstart]

/-- The decision of a boundary at which a START is due, and no SHUTDOWN: the part is READY still, and START is a cause beside those
there were. -/
theorem State.decideKnocks_start {s : State} (h : TakesStart s) (hdue : ∃ x ∈ s.net.knocks, x.knock = .start ∧ s.knockDue x = true)
    (hshut : ∀ x ∈ s.net.knocks, s.knockDue x = true → x.knock ≠ .shutdown) :
    s.decideKnocks.part = .ready ∧ .knock .start ∈ s.decideKnocks.causes ∧
      ∀ c ∈ s.decideKnocks.causes, c ∈ s.causes ∨ c = .knock .start := by
  have hlist : ∀ x ∈ s.net.knocks.filter s.knockDue, x.knock ≠ .shutdown := fun x hx =>
    hshut x (List.mem_of_mem_filter hx) (List.of_mem_filter hx)
  obtain ⟨⟨hready, -, -⟩, hcauses⟩ := State.decideKnock_foldl
    (s := { s with net := { s.net with knocks := s.net.knocks.filter (fun x => !s.knockDue x) } }) h hlist
  have hcount : 0 < (s.net.knocks.filter s.knockDue).countP (fun x => x.knock == .start) := by
    obtain ⟨x, hmem, hstart, hd⟩ := hdue
    exact List.countP_pos_iff.mpr ⟨x, List.mem_filter.mpr ⟨hmem, hd⟩, by simp [hstart]⟩
  refine ⟨hready, hcauses ▸ List.mem_append_right _ (List.mem_replicate.mpr ⟨by omega, rfl⟩), fun c hc => ?_⟩
  exact (List.mem_append.mp (hcauses ▸ hc)).imp_right List.eq_of_mem_replicate

end Sys2Proof.Machine
end

section
/-!
PROOF. What a boundary does after the decision but for the state change keeps the part's state, the lock point and the tick number
(R56 to R88).
-/
namespace Sys2Proof.Machine

theorem sameRun_ite {c : Prop} [Decidable c] {s t u : State} (ht : SameRun s t) (hu : SameRun s u) :
    SameRun s (if c then t else u) := by
  split
  · exact ht
  · exact hu

/-! Trips, tokens and the drive slots of a state that resolves none. -/

@[simp] theorem State.beginAction_sameRun (s : State) (m : BoltMode) (c : Option Nat) : SameRun s (s.beginAction m c) := SameRun.refl s

theorem State.setBolt_sameRun (s : State) (b : Bolt) : SameRun s { s with bolt := b } := SameRun.refl s

@[simp] theorem State.noteTrip_sameRun (s : State) (c a : Nat) : SameRun s (s.noteTrip c a) := by
  unfold State.noteTrip
  exact sameRun_ite ((s.setBolt_sameRun _).trans (State.wr_sameStand _ _ _).run)
    (sameRun_ite (s.wr_sameStand _ _).run (SameRun.refl s))

/-- Trips are causes of a state change and leave the rest of it to the boundary (R371). -/
theorem State.takeTrips_sameRun (s : State) :
    SameRun { s with causes := s.causes ++ s.bolt.trips.map (fun t => .bolt t.1) } s.takeTrips := by
  unfold State.takeTrips
  dsimp only
  split
  · next hnone => simp [List.isEmpty_iff.mp hnone]
  · have hnote (t : State) (c a : Nat) : SameRun t ((s.bolt.trips.foldl (fun s t =>
        s.logEv (0x0400 + (BoltMode.ofAction t.2).actionCode) [t.1]) t).noteTrip c a) :=
      (foldl_sameRun _ t fun u _ _ => (u.logEv_sameStart _ _).run).trans (State.noteTrip_sameRun _ c a)
    refine SameRun.trans (State.setBolt_sameRun _ { s.bolt with trips := [] }) ?_
    exact sameRun_ite ((hnote _ _ _).trans (State.beginAction_sameRun _ _ _)) (hnote _ _ _)

theorem State.sendTokens_sameRun (s : State) (b : Bnd) : SameRun s (s.sendTokens b) :=
  sameRun_ite (SameRun.refl s) (SameRun.refl s)

theorem State.spendSlots_sameRun (s : State) (n : Nat) : SameRun s (s.spendSlots n) :=
  foldl_sameRun _ s fun t d _ => sameRun_ite (t.setSlot_sameStart d _).run (SameRun.refl t)

/-! The commit in a state in which no task runs (R66, R117, R335, R603, R617). -/

theorem State.commitChannel_sameRun (s : State) (b : Bnd) (p c : Nat) : SameRun s (s.commitChannel b p c) := by
  unfold State.commitChannel
  dsimp only
  split <;> simp

theorem State.channelStep_sameRun (s : State) (b : Bnd) (commits : Bool) (p c : Nat) : SameRun s (s.channelStep b commits p c) := by
  unfold State.channelStep
  refine sameRun_ite (SameRun.refl s) (SameRun.trans ?_ (State.modPane_sameStart _ p _).run)
  exact sameRun_ite (s.commitChannel_sameRun b p c) (sameRun_ite (s.modPane_sameStart p _).run (SameRun.refl s))

theorem State.channels_sameRun (s : State) (b : Bnd) (commits : Bool) : SameRun s (s.channels b commits) :=
  foldl_sameRun _ s fun t p _ => foldl_sameRun _ t fun u c _ => u.channelStep_sameRun b commits p c

theorem State.redDeliver_sameRun (s : State) (g : Nat) (r : Word × Word) : SameRun s (s.redDeliver g r) :=
  foldl_sameRun _ s fun t p _ => sameRun_ite (t.modPane_sameStart p _).run (SameRun.refl t)

theorem State.redSuspects_sameRun (s : State) (g : Nat) (l : List Nat) : SameRun s (s.redSuspects g l) :=
  foldl_sameRun l s fun t _ _ => (t.report_sameStart _).run

theorem State.setRedRes_sameRun (s : State) (l : SMap (Word × Word)) : SameRun s { s with redRes := l } := SameRun.refl s

theorem State.setRed_sameRun (s : State) (l : SMap Contribution) (h : List Nat) : SameRun s { s with red := l, redHeld := h } := SameRun.refl s

theorem State.groupStep_sameRun (s : State) (b : Bnd) (commits : Bool) (g : Nat) : SameRun s (s.groupStep b commits g) := by
  unfold State.groupStep
  refine sameRun_ite (SameRun.refl s) (SameRun.trans ?_ (State.setRed_sameRun _ _ _))
  refine sameRun_ite (SameRun.refl s) ?_
  exact ((s.setRedRes_sameRun _).trans (State.redDeliver_sameRun _ g _)).trans (State.redSuspects_sameRun _ g _)

theorem State.groups_sameRun (s : State) (b : Bnd) (commits : Bool) : SameRun s (s.groups b commits) :=
  foldl_sameRun _ s fun t g _ => t.groupStep_sameRun b commits g

theorem State.spendPubs_sameRun (s : State) (b : Bnd) (p : Nat) : SameRun s (s.spendPubs b p) :=
  sameRun_ite (SameRun.refl s) (s.setPane_sameStart p _).run

theorem State.mailboxes_sameRun (s : State) (b : Bnd) : SameRun s (s.mailboxes b false) :=
  foldl_sameRun _ s fun t p _ => t.spendPubs_sameRun b p

theorem State.streamStep_sameRun (s : State) (b : Bnd) (commits : Bool) (bay n : Nat) :
    SameRun s (s.streamStep b commits bay n) := by
  unfold State.streamStep
  exact sameRun_ite (SameRun.refl s) (sameRun_ite (SameRun.refl s) (SameRun.refl s))

theorem State.streams_sameRun (s : State) (b : Bnd) (commits : Bool) : SameRun s (s.streams b commits) :=
  foldl_sameRun _ s fun t bay _ => foldl_sameRun _ t fun u n _ => u.streamStep_sameRun b commits bay n

@[simp] theorem State.setBulkEcc_sameRun (s : State) (k : Bulk) (a : Nat) (m : EccMark) : SameRun s (s.setBulkEcc k a m) := by
  cases k <;> exact SameRun.refl s

@[simp] theorem State.bulkCorrect_sameRun (s : State) (k : Bulk) (a : Nat) : SameRun s (s.bulkCorrect k a) := by
  cases k <;> exact SameRun.refl s

@[simp] theorem State.bulkPoke_sameRun (s : State) (k : Bulk) (a n v : Nat) : SameRun s (s.bulkPoke k a n v) := by
  cases k <;> exact SameRun.refl s

@[simp] theorem State.bulkWrite_sameRun (s : State) (k : Bulk) (a n v : Nat) : SameRun s (s.bulkWrite k a n v) := by
  have hpoke := s.bulkPoke_sameRun k a n v
  exact sameRun_ite (hpoke.trans (State.setBulkEcc_sameRun _ k a _))
    (sameRun_ite (hpoke.trans (State.bulkCorrect_sameRun _ k a)) hpoke)

theorem State.mvWriteBack_sameRun (s : State) (b m : Nat) (d : MvSub) (st : Nat) : SameRun s (s.mvWriteBack b m d st) := by
  unfold State.mvWriteBack
  dsimp only
  split <;> split <;> simp

theorem State.mvBack_sameRun (s : State) (b m : Nat) : SameRun s (s.mvBack b m) := by
  refine foldl_sameRun _ s fun t d _ => ?_
  split
  · exact sameRun_ite (t.mvWriteBack_sameRun b m d _) (SameRun.refl t)
  · exact SameRun.refl t

/-- The commit of a state that commits nothing. -/
theorem State.commitStep_sameRun (s : State) (b : Bnd) (l : List Nat) (h : s.part.commits = false) :
    SameRun s (s.commitStep b l) := by
  have hmovers (t : State) : SameRun t ((List.range 32).foldl (fun s k => s.mvBack (k / 4) (k % 4)) t) :=
    foldl_sameRun _ t fun u k _ => u.mvBack_sameRun (k / 4) (k % 4)
  have hfield : SameRun s (s.wrFld (Config.transom + 0x40) 0 11 0) := (s.wrFld_sameStand _ 0 11 0).run
  rw [State.commitStep, h]
  exact ((((hfield.trans (State.channels_sameRun _ b false)).trans (State.groups_sameRun _ b false)).trans
    (State.mailboxes_sameRun _ b)).trans (State.streams_sameRun _ b false)).trans (hmovers _)

end Sys2Proof.Machine
end

section
/-!
PROOF. RUNNING takes effect from READY (R36, R53), and the steps from there to the open keep it (R69 to R88, R135, R350, R573).
-/
namespace Sys2Proof.Machine

/-! Movers, waits and the open (R63, R73, R408). -/

theorem State.corrected_sameRun (s : State) (p : Nat) : SameRun s (s.corrected p) := SameRun.refl s

theorem State.correctRead_sameRun (s : State) (p a n : Nat) : SameRun s (s.correctRead p a n) :=
  foldl_sameRun _ s fun t _ _ => sameRun_ite ((t.corrected_sameRun p).trans (State.modPane_sameStart _ p _).run) (SameRun.refl t)

theorem State.mvStageRead_sameRun (s : State) (b m : Nat) : SameRun s (s.mvStageRead b m) := by
  unfold State.mvStageRead
  dsimp only
  split
  · exact SameRun.refl s
  · split
    · refine sameRun_ite (SameRun.refl s) (SameRun.trans ?_ (State.setMover_sameStart _ b m _).run)
      exact foldl_sameRun _ s fun t r _ => t.correctRead_sameRun _ r.1 r.2
    · exact SameRun.refl s

theorem State.mvLand_sameRun (s : State) (b m : Nat) : SameRun s (s.mvLand b m) := by
  unfold State.mvLand
  dsimp only
  split
  · exact SameRun.refl s
  · exact (s.modPane_sameStart _ _).run.trans (State.setMover_sameStart _ b m _).run

theorem State.mvPaneWrite_sameRun (s : State) (b m : Nat) : SameRun s (s.mvPaneWrite b m) := by
  unfold State.mvPaneWrite
  dsimp only
  split
  · exact SameRun.refl s
  · exact sameRun_ite (s.mvLand_sameRun b m) (SameRun.refl s)

theorem State.lateWrites_sameRun (s : State) (p : Nat) : SameRun s (s.lateWrites p) := by
  unfold State.lateWrites
  dsimp only
  refine SameRun.trans ?_ (State.modPane_sameStart _ p _).run
  refine SameRun.trans ?_ (foldl_sameRun _ _ fun t k _ => t.mvStageRead_sameRun (k / 4) (k % 4))
  refine SameRun.trans ?_ (State.setPane_sameStart _ p _).run
  refine foldl_sameRun _ s fun t k _ => ?_
  split
  · exact sameRun_ite (t.mvLand_sameRun (k / 4) (k % 4)) (SameRun.refl t)
  · exact SameRun.refl t

theorem State.retireWaitt_sameRun (s : State) (p : Nat) : SameRun s (s.retireWaitt p) := by
  have hlate (c : Prop) [Decidable c] : SameRun s (if c then s.lateWrites p else s) :=
    sameRun_ite (s.lateWrites_sameRun p) (SameRun.refl s)
  exact sameRun_ite ((hlate _).trans (State.setPane_sameStart _ p _).run) ((hlate _).trans (State.setPane_sameStart _ p _).run)

theorem State.enter_sameRun (s : State) (p n : Nat) (epc ecause eaddr : Word) : SameRun s (s.enter p n epc ecause eaddr) :=
  sameRun_ite (SameRun.refl s) (s.setPane_sameStart p _).run

theorem State.takeTrap_sameRun (s : State) (p : Nat) (t : Trap) : SameRun s (s.takeTrap p t) :=
  sameRun_ite (s.setPane_sameStart p _).run ((s.setPane_sameStart p _).run.trans (State.enter_sameRun _ p _ _ _ _))

theorem State.poll_sameRun (s : State) (p : Nat) : SameRun s (s.poll p) := by
  have htrap (q : Pane) (t : Trap) : SameRun s ((s.setPane p q).takeTrap p t) :=
    (s.setPane_sameStart p q).run.trans (State.takeTrap_sameRun _ p t)
  have hset (q : Pane) : SameRun s (s.setPane p q) := (s.setPane_sameStart p q).run
  unfold State.poll
  dsimp only
  split
  case h_1 => refine sameRun_ite (SameRun.refl s) ?_; split <;> solve_by_elim
  case h_2 => refine sameRun_ite (SameRun.refl s) ?_; split; exacts [htrap _ _, s.retireWaitt_sameRun p]
  case h_3 => refine sameRun_ite (SameRun.refl s) ?_; split; exacts [htrap _ _, hset _]
  case h_4 => exact sameRun_ite (hset _) (SameRun.refl s)
  case h_5 => exact SameRun.refl s

theorem State.openPane_sameRun (s : State) (b : Bnd) (p : Nat) : SameRun s (s.openPane b p) :=
  sameRun_ite (SameRun.refl s) (sameRun_ite (s.setPane_sameStart p _).run (SameRun.refl s))

theorem State.setShut_sameRun (s : State) (x : Shutdown) : SameRun s { s with shut := x } := SameRun.refl s

theorem State.openStep_sameRun (s : State) (b : Bnd) : SameRun s (s.openStep b) := by
  have hmovers (l : List Nat) : SameRun s (l.foldl (fun s k => (s.mvStageRead (k / 4) (k % 4)).mvPaneWrite (k / 4) (k % 4)) s) :=
    foldl_sameRun l s fun t k _ => (t.mvStageRead_sameRun (k / 4) (k % 4)).trans (State.mvPaneWrite_sameRun _ (k / 4) (k % 4))
  have hopen (t : State) (l : List Nat) : SameRun t (l.foldl (fun s p => (s.openPane b p).clearMarks b p) t) :=
    foldl_sameRun l t fun u p _ => (u.openPane_sameRun b p).trans (State.modPane_sameStart _ p _).run
  have hpoll (t : State) (l : List Nat) : SameRun t (l.foldl (fun s p =>
      if (s.pane p).phase == .waitt || (s.pane p).phase == .waittIn then s.poll p else s) t) :=
    foldl_sameRun l t fun u p _ => sameRun_ite (u.poll_sameRun p) (SameRun.refl u)
  exact (((hmovers _).trans (hopen _ _)).trans (hpoll _ _)).trans (State.setShut_sameRun _ _)

/-! The frame and the governor (R350, R573). -/

theorem State.pushDrive_sameRun (s : State) (d : Nat) (v : Word) : SameRun s (s.pushDrive d v) :=
  sameRun_ite (s.wr_sameStand _ _).run (s.setSlot_sameStart d _).run

theorem State.setFrame_sameRun (s : State) (l : List Nat) (b : Bolt) : SameRun s { s with drvDue := l, bolt := b } := SameRun.refl s

theorem State.frameWrite_sameRun (s : State) : SameRun s s.frameWrite := by
  refine SameRun.trans ?_ (State.setFrame_sameRun _ _ _)
  exact foldl_sameRun _ s fun t x _ => t.pushDrive_sameRun x.1 x.2

theorem State.governSash_sameRun (s : State) (k : Nat) : SameRun s (s.governSash k) := by
  have hslack (t : State) (l : List Nat) : SameRun t (l.foldl (fun s p => s.modPane p (fun q => { q with minSlack := none })) t) :=
    foldl_sameRun l t fun u p _ => (u.modPane_sameStart p _).run
  have hfields (a b n m : Nat) : SameRun s ((s.wrFld a 0 7 n).wrFld b 0 16 m) :=
    (s.wrFld_sameStand a 0 7 n).1.trans (State.wrFld_sameStand _ b 0 16 m).run
  unfold State.governSash
  dsimp only
  split
  · exact SameRun.refl s
  · refine SameRun.trans ?_ (hslack _ _)
    exact sameRun_ite (hfields _ _ _ _) ((hfields _ _ _ _).trans (State.bump_sameStand _ _ 16 1).run)

theorem State.govern_sameRun (s : State) (due : Nat → Bool) : SameRun s (s.govern due) := by
  refine sameRun_ite (foldl_sameRun _ s fun t k _ => ?_) (SameRun.refl s)
  split
  · exact sameRun_ite (t.governSash_sameRun k) (SameRun.refl t)
  · exact SameRun.refl t

/-! Takeovers (R135 to R137). -/

theorem State.setTakeover_sameRun (s : State) (k : Nat) (t : Takeover) : SameRun s (s.setTakeover k t) := SameRun.refl s

theorem State.takeoverReplay_sameRun (s : State) (k : Nat) (t : Takeover) (o : Nat) : SameRun s (s.takeoverReplay k t o) :=
  sameRun_ite ((s.setTakeover_sameRun k _).trans (State.ledgerAdd_sameStart _ _ _ _).run)
    ((s.modPane_sameStart _ _).run.trans (State.setTakeover_sameRun _ k _))

theorem State.takeoverCopy_sameRun (s : State) (k : Nat) (t : Takeover) : SameRun s (s.takeoverCopy k t) :=
  (s.modPane_sameStart _ _).run.trans (State.setTakeover_sameRun _ k _)

theorem State.mapEntriesTo_sameRun (s : State) (p : Nat) (f : Word → Word) : SameRun s (s.mapEntriesTo p f) :=
  foldl_sameRun _ s fun t n _ => (t.setPane_sameStart n _).run

theorem State.takeoverRedirect_sameRun (s : State) (k : Nat) (t : Takeover) : SameRun s (s.takeoverRedirect k t) := by
  have hmovers (u : State) (l : List Nat) : SameRun u (l.foldl (fun s i =>
      let a := Config.bay (i / 4) + 0x100 + 0x40 * (i % 4)
      if s.mvEn (i / 4) (i % 4) && s.mvOwner (i / 4) (i % 4) == t.retired then s.wr a ((s.rd a).withFld 0 10 t.spare) else s) u) :=
    foldl_sameRun l u fun v i _ => sameRun_ite (v.wr_sameStand _ _).run (SameRun.refl v)
  refine SameRun.trans ?_ (State.setTakeover_sameRun _ k _)
  exact ((s.mapEntriesTo_sameRun _ _).trans (State.modPane_sameStart _ _ _).run).trans (hmovers _ _)

theorem State.redirectStep_sameRun (s : State) (k o : Nat) : SameRun s (s.redirectStep k o) := by
  unfold State.redirectStep
  split
  · exact SameRun.refl s
  · next t _ =>
    refine sameRun_ite ?_ (SameRun.refl s)
    have hreplay := s.takeoverReplay_sameRun k t (o - 1)
    dsimp only
    split
    · exact sameRun_ite (hreplay.trans (State.takeoverRedirect_sameRun _ k _)) hreplay
    · exact hreplay

theorem State.swapIncoming_sameRun (s : State) (prim : Bool) (a b c : Nat) : SameRun s (s.swapIncoming prim a b c) :=
  foldl_sameRun _ s fun t n _ => (t.modPane_sameStart n _).run

theorem State.swapSlots_sameRun (s : State) (prim : Bool) (a b c : Nat) : SameRun s (s.swapSlots prim a b c) := by
  refine foldl_sameRun _ s fun t d _ => ?_
  dsimp only
  split
  · exact SameRun.refl t
  · next i _ =>
    have hsrc (l l' : List Nat) : SameRun t ((l.foldl (fun s k => s.wrFld (slotReg d (4 + 4 * k)) 0 13 (l'.getD k 0)) t).clrBits (redReg d)
        (1#32 <<< (3 + i))) :=
      (foldl_sameRun l t fun u k _ => (u.wrFld_sameStand _ 0 13 _).run).trans (State.clrBits_sameStand _ _ _).run
    split
    · exact sameRun_ite ((hsrc _ _).trans (State.wrFld_sameStand _ _ 1 2 _).run) (hsrc _ _)
    · exact hsrc _ _

theorem State.setTaken_sameRun (s : State) (i : SMap Nat) (m : SMap Mailbox) (l : List Takeover) :
    SameRun s { s with img := i, mbs := m, takeovers := l } := SameRun.refl s

theorem State.takeoverComplete_sameRun (s : State) (k : Nat) (t : Takeover) (n : Nat) : SameRun s (s.takeoverComplete k t n) := by
  have hswap (prim : Bool) (a b c : Nat) : SameRun s ((s.swapIncoming prim a b c).swapSlots prim a b c) :=
    (s.swapIncoming_sameRun prim a b c).trans (State.swapSlots_sameRun _ prim a b c)
  unfold State.takeoverComplete
  dsimp only
  refine SameRun.trans ?_ (State.edge_sameStart _ _ _ _).run
  refine SameRun.trans ?_ (State.ledgerAdd_sameStart _ _ _ _).run
  refine SameRun.trans ?_ (State.wrFld_sameStand _ _ _ _ _).run
  refine SameRun.trans ?_ (State.setTaken_sameRun _ _ _ _)
  refine SameRun.trans ?_ (State.modPane_sameStart _ _ _).run
  exact sameRun_ite ((hswap _ _ _ _).trans (State.modPane_sameStart _ _ _).run) (hswap _ _ _ _)

theorem State.completeStep_sameRun (s : State) (k o n : Nat) : SameRun s (s.completeStep k o n) := by
  unfold State.completeStep
  split
  · exact SameRun.refl s
  · next t _ =>
    refine sameRun_ite ?_ (SameRun.refl s)
    have hreplay := s.takeoverReplay_sameRun k t (o - 1)
    dsimp only
    split
    · exact hreplay
    · next t1 _ =>
      refine sameRun_ite hreplay (sameRun_ite (hreplay.trans (State.setTakeover_sameRun _ k _)) ?_)
      have hagain := hreplay.trans (State.takeoverReplay_sameRun _ k t1 o)
      split
      · exact hagain.trans (State.takeoverComplete_sameRun _ k _ n)
      · exact hagain

theorem State.takeoverSteps_sameRun (s : State) (n : Nat) : SameRun s (s.takeoverSteps n) := by
  refine foldl_sameRun _ s fun t k _ => ?_
  unfold State.takeoverStep
  split
  · exact SameRun.refl t
  · exact sameRun_ite (SameRun.refl t) (sameRun_ite (t.takeoverReplay_sameRun k _ _) (sameRun_ite
      (sameRun_ite (t.takeoverCopy_sameRun k _) (SameRun.refl t)) (sameRun_ite (t.redirectStep_sameRun k _) (t.completeStep_sameRun k _ n))))

/-! What the boundary does last (R44, R86). -/

theorem State.tickOutStep_sameRun (s : State) (b : Bnd) : SameRun s (s.tickOutStep b) :=
  sameRun_ite (SameRun.refl s) (SameRun.refl s)

theorem State.setGen_sameRun (s : State) (g : Gen) : SameRun s { s with gen := g } := SameRun.refl s

theorem State.advance_sameRun (s : State) : SameRun s s.advance := by
  have hgen (g : Gen) (c : Prop) [Decidable c] (a : Nat) : SameRun s (if c then ({ s with gen := g } : State).bump a 32 1 else { s with gen := g }) :=
    sameRun_ite ((s.setGen_sameRun g).trans (State.bump_sameStand _ a 32 1).run) (s.setGen_sameRun g)
  exact sameRun_ite (((hgen _ _ _).trans (State.setGen_sameRun _ _)).trans (State.wr_sameStand _ _ _).run) (hgen _ _ _)

end Sys2Proof.Machine
end

section
/-!
PROOF. A START that is decided takes READY to RUNNING, and the boundary ends in RUNNING with tick 0 (R36, R40, R53).
-/
namespace Sys2Proof.Machine

/-- The part runs, its lock point is passed, and its tick number is 0 (R15, R36, R53). -/
def RunsFromZero (s : State) : Prop := s.part = .running ∧ s.locked = true ∧ s.tick = 0

theorem RunsFromZero.of_sameRun {s t : State} (h : RunsFromZero s) (hst : SameRun s t) : RunsFromZero t := by
  obtain ⟨hpart, hlock, htick⟩ := h
  obtain ⟨hp, hl, ht, -⟩ := hst
  exact ⟨hp.trans hpart, hl.trans hlock, ht.trans htick⟩

/-! RUNNING takes effect (R68, R336, R351). -/

theorem State.watermark_sameRun (s : State) (l old peak : Nat) : SameRun s (s.watermark l old peak) := by
  unfold State.watermark
  dsimp only
  split
  · exact SameRun.refl s
  · split <;> simp

theorem State.dropFrames_sameRun (s : State) (l k : Nat) : SameRun s (s.dropFrames l k) :=
  (s.setLane_sameStart l _).run.trans (State.watermark_sameRun _ l _ _)

theorem State.dropEarly_sameRun (s : State) : SameRun s s.dropEarly := by
  refine foldl_sameRun _ s fun t l _ => sameRun_ite ?_ (SameRun.refl t)
  refine SameRun.trans ?_ (State.dropFrames_sameRun _ l _)
  exact foldl_sameRun _ t fun u f _ => (u.bump_sameStand (laneReg l 0x18) 16 _).run

theorem State.boltStart_sameRun (s : State) : SameRun s s.boltStart := by
  refine SameRun.trans ?_ (State.setBolt_sameRun _ _)
  exact foldl_sameRun _ s fun t d _ => (t.wr_sameStand _ _).1.trans (State.setSlot_sameStart _ d _).run

theorem State.startRun_runs (s : State) : RunsFromZero s.startRun := by
  have hpanes (t : State) (l : List Nat) : SameRun t (l.foldl (fun s p => s.startPane p) t) :=
    foldl_sameRun l t fun u p _ => (u.setPane_sameStart p _).run
  have hrest (t : State) (l : List Nat) :
      SameRun t (((l.foldl (fun s p => s.startPane p) t).wrFld (Config.transom + 0x40) 0 11 0).boltStart.ceilings.dropEarly) :=
    ((((hpanes t l).trans (State.wrFld_sameStand _ _ _ _ _).run).trans (State.boltStart_sameRun _)).trans
      (State.ceilings_sameStart _).run).trans (State.dropEarly_sameRun _)
  exact RunsFromZero.of_sameRun ⟨rfl, rfl, rfl⟩ (hrest _ _)

/-! The change that takes effect (R40). -/

theorem State.logChange_sameRun (s : State) (t : PartState) (l : List (Cause × Option PartState)) : SameRun s (s.logChange t l) :=
  (s.logAt_sameStart _ _ _).run.trans (foldl_sameRun _ _ fun u _ _ => (u.logEv_sameStart _ _).run)

theorem State.setTokenEvents_sameRun (s : State) (x : Nat × Nat × Nat) : SameRun s { s with tokenEvents := x } := SameRun.refl s

/-- Where every change due leads to RUNNING, it is the one that takes effect. -/
theorem State.nextState_running {s : State} (hone : ∃ c ∈ s.causes, s.causeTarget c = some .running)
    (hall : ∀ c ∈ s.causes, s.causeTarget c = some .running ∨ s.causeTarget c = none) : s.nextState = some .running := by
  have hrep : s.causes.filterMap s.causeTarget = List.replicate (s.causes.filterMap s.causeTarget).length .running :=
    List.eq_replicate_of_mem fun t ht => by
      obtain ⟨c, hc, htarget⟩ := List.mem_filterMap.mp ht
      rcases hall c hc with h | h <;> simp_all
  have hpos : 0 < (s.causes.filterMap s.causeTarget).length := by
    obtain ⟨c, hc, htarget⟩ := hone
    exact List.length_pos_of_mem (List.mem_filterMap.mpr ⟨c, hc, htarget⟩)
  obtain ⟨n, hn⟩ := Nat.exists_eq_succ_of_ne_zero hpos.ne'
  have hstays (n : Nat) : (List.replicate n PartState.running).foldl (fun a t => match a with
      | none => some t
      | some u => if t.rank < u.rank then some t else some u) (some PartState.running) = some .running := by
    induction n with
    | zero => rfl
    | succ n ih => simpa [List.replicate_succ] using ih
  rw [State.nextState, hrep, hn, List.replicate_succ, List.foldl_cons]
  exact hstays n

/-- The state change of a READY part for which START is the one cause that leads anywhere. -/
theorem State.stateStep_runs {s : State} (hready : s.part = .ready) (hstart : .knock .start ∈ s.causes)
    (hall : ∀ c ∈ s.causes, c = .knock .start ∨ s.causeTarget c = none) : RunsFromZero s.stateStep := by
  have htarget : s.causeTarget (.knock .start) = some .running := by simp [State.causeTarget, hready]
  have hnext : s.nextState = some .running :=
    State.nextState_running ⟨_, hstart, htarget⟩ fun c hc => (hall c hc).imp_left (by rintro rfl; exact htarget)
  have hchange : RunsFromZero (({ s with causes := [] } : State).changeTo .running) := by
    have hrun := State.startRun_runs { s with causes := [] }
    simpa [State.changeTo, hready] using hrun
  unfold State.stateStep
  rw [hnext]
  dsimp only
  rw [if_neg (by simp)]
  exact hchange.of_sameRun ((((State.logChange_sameRun _ _ _).trans (State.setTokenEvents_sameRun _ _)).trans
    (State.edge_sameStart _ _ _ _).run).trans (State.announce_sameStart _).run)

/-! The boundary. -/

/-- A boundary that has come to RUNNING runs from tick 0 to its end. -/
theorem State.secondHalf_runs {s : State} (b : Bnd) (stamp : Nat) (h : RunsFromZero s.stateStep) :
    RunsFromZero (s.secondHalf b stamp) := by
  have hon : (s.stateStep.part == PartState.off) = false := by rw [h.1]; rfl
  have hstamp : SameRun s.stateStep (s.stateStep.stampStep s.stateStep.bnd stamp) := SameRun.refl _
  unfold State.secondHalf
  dsimp only
  rw [hon]
  exact h.of_sameRun (((((hstamp.trans (State.frameWrite_sameRun _)).trans (State.govern_sameRun _ _)).trans
    (State.takeoverSteps_sameRun _ _)).trans (State.openStep_sameRun _ _)).trans (State.tickOutStep_sameRun _ _))

theorem State.endBoundary_runs {s : State} (close : Nat) (h : RunsFromZero s) : RunsFromZero (s.endBoundary close) := by
  have hon : (s.part == PartState.off) = false := by rw [h.1]; rfl
  unfold State.endBoundary
  dsimp only
  rw [hon]
  exact RunsFromZero.of_sameRun h (State.advance_sameRun _)

/-- What a cause leads to from READY. -/
theorem State.causeTarget_of_ready {s t : State} (hs : s.part = .ready) (ht : t.part = .ready) (c : Cause) :
    t.causeTarget c = s.causeTarget c := by
  cases c with
  | knock k => cases k <;> simp [State.causeTarget, hs, ht]
  | bolt | shutdownDone | lockstep | ledger => simp [State.causeTarget, hs, ht]

/-- In READY nothing overruns, no drive slot is resolved and nothing commits: after the decision and the trips the first half leaves
the state and its causes as they are (R345, R617). -/
theorem State.afterTrips_sameRun {s : State} (b : Bnd) (h : s.part = .ready) :
    SameRun s (((s.abortPolicies (if s.part.commits && !s.shut.holding then s.overrunList b else [])).driveStep b).commitStep b
      (if s.part.commits && !s.shut.holding then s.overrunList b else [])) := by
  have hslots := s.spendSlots_sameRun b.n
  have hpart : (s.spendSlots b.n).part.commits = false := by rw [hslots.1, h]; rfl
  have hdrive : s.driveStep b = s.spendSlots b.n := by simp [State.driveStep, State.drives, h]
  have hidle : (s.part.commits && !s.shut.holding) = false := by rw [h]; rfl
  rw [hidle]
  exact (hdrive ▸ hslots).trans (hdrive ▸ State.commitStep_sameRun (s.spendSlots b.n) b [] hpart)

/-- The first half of a boundary at which a START is due, nothing stops it, and nothing else changes the state: the part is READY
still, and START is the cause of what follows. -/
theorem State.firstHalf_start {s : State} (b : Bnd) (h : TakesStart s) (hsev : s.severed 108 = false)
    (hret : ∀ r ∈ s.retireDue, b.close < r.2.2) (hdue : ∃ x ∈ s.net.knocks, x.knock = .start ∧ s.knockDue x = true)
    (hshut : ∀ x ∈ s.net.knocks, s.knockDue x = true → x.knock ≠ .shutdown) (hcauses : ∀ c ∈ s.causes, s.causeTarget c = none) :
    (s.firstHalf b).part = .ready ∧ .knock .start ∈ (s.firstHalf b).causes ∧
      ∀ c ∈ (s.firstHalf b).causes, c = .knock .start ∨ (s.firstHalf b).causeTarget c = none := by
  have hclose := s.firstBoundary_sameStart.trans (State.closeStep_sameStart _)
  have hgather : SameStart s (s.firstBoundary.closeStep.gatherStep b) := hclose.trans
    (State.gatherStep_sameStart _ b ((State.severed_congr hclose).trans hsev) (hclose.retireDue ▸ hret))
  have hready := h.1
  have hknocks : (s.firstBoundary.closeStep.gatherStep b).net.knocks = s.net.knocks := hgather.knocks
  have hsame := State.knockDue_congr hgather hready
  obtain ⟨hpart, hmem, hfrom⟩ := State.decideKnocks_start (h.of_sameStart hgather)
    (by simpa only [hknocks, hsame] using hdue) (by simpa only [hknocks, hsame] using hshut)
  obtain ⟨htrips, -, -, hbolts⟩ := State.takeTrips_sameRun (s.firstBoundary.closeStep.gatherStep b).decideKnocks
  have htokens := State.sendTokens_sameRun (s.firstBoundary.closeStep.gatherStep b).decideKnocks.takeTrips b
  have hlast := htokens.trans (State.afterTrips_sameRun b (htokens.1.trans (htrips.trans hpart)))
  obtain ⟨hpart', -, -, hcauses'⟩ := hlast
  have hready' : (s.firstHalf b).part = .ready := hpart'.trans (htrips.trans hpart)
  have hlist := hcauses'.trans hbolts
  refine ⟨hready', (congrArg (_ ∈ ·) hlist).mpr (List.mem_append_left _ hmem), fun c hc => ?_⟩
  rw [State.causeTarget_of_ready hready hready']
  rcases List.mem_append.mp ((congrArg (c ∈ ·) hlist).mp hc) with hc | hc
  · rcases hfrom c hc with hold | hstart
    · exact .inr (hcauses c ((congrArg (c ∈ ·) hgather.causes).mp hold))
    · exact .inl hstart
  · obtain ⟨n, -, rfl⟩ := List.mem_map.mp hc
    exact .inr (by simp [State.causeTarget, hready])

end Sys2Proof.Machine
end

section
/-!
PROOF. START at its boundary (R36, R523).
-/
namespace Sys2Proof.Machine

/-- The state in which the steps of the coming boundary begin: its time and its tick number. -/
def State.begun (s : State) : State := { s.at s.gen.nextNs with tick := (s.at s.gen.nextNs).nextTick, inBnd := true }

/-- With its stamps (R70). -/
def State.stamped (s : State) : State := s.begun.stampStep s.begun.bnd s.nextStamp

/-- The boundary is its two halves from there (R56). -/
theorem State.boundary_eq (s : State) (h : s.gen.on = true) : s.boundary =
    ((s.stamped.firstHalf s.begun.bnd).secondHalf s.begun.bnd s.nextStamp).endBoundary s.begun.bnd.close := by
  unfold State.boundary
  rw [if_neg (by simp [h])]
  rfl

theorem State.mult_of_reg {s t : State} (h : t.reg = s.reg) (k : Nat) : t.mult k = s.mult k := by
  induction k with
  | zero => rfl
  | succ k ih => rw [State.mult, State.mult, ih, State.divider, State.divider, State.rd, State.rd, h]

/-- A READY part's knocks are due at the boundary as they are before it. -/
theorem State.knockDue_stamped {s : State} (h : s.part = .ready) (x : PendKnock) : s.stamped.knockDue x = s.knockDue x := by
  have hbnd : s.stamped.bndNo = s.readyBnd := State.bndNo_of_ready (s := s.stamped) h
  have hclass : s.stamped.knockClass x.knock.num = s.knockClass x.knock.num := rfl
  unfold State.knockDue
  rw [hbnd, hclass, State.bndNo_of_ready h, State.mult_of_reg (show s.stamped.reg = s.reg from rfl)]

/-- A START due at the coming boundary of a READY part of its own that nothing stops, with no other change of state due, takes
the part to RUNNING with tick 0. -/
theorem State.boundary_runs {s : State} (h : TakesStart s) (hsev : s.severed 108 = false)
    (hret : ∀ r ∈ s.retireDue, s.gen.nextNs < r.2.2) (hstart : Claims.coming s .start) (hshut : ¬ Claims.coming s .shutdown)
    (hcauses : ∀ c ∈ s.causes, s.causeTarget c = none) : RunsFromZero s.boundary := by
  obtain ⟨hon, hdue⟩ := hstart
  have hready := h.1
  have htarget (c : Cause) : s.stamped.causeTarget c = s.causeTarget c :=
    State.causeTarget_of_ready (t := s.stamped) hready hready c
  have hdue' : ∃ x ∈ s.net.knocks, x.knock = .start ∧ s.stamped.knockDue x = true := by
    simpa only [State.knockDue_stamped hready] using hdue
  have hshut' : ∀ x ∈ s.net.knocks, s.stamped.knockDue x = true → x.knock ≠ .shutdown := fun x hx hd hk =>
    hshut ⟨hon, x, hx, hk, (State.knockDue_stamped hready x).symm.trans hd⟩
  obtain ⟨hpart, hmem, hall⟩ := State.firstHalf_start (s := s.stamped) s.begun.bnd h hsev hret hdue' hshut'
    fun c hc => (htarget c).trans (hcauses c hc)
  rw [State.boundary_eq s hon]
  exact State.endBoundary_runs _ (State.secondHalf_runs _ _ (State.stateStep_runs hpart hmem hall))

/-- A knock that is coming is one for its row (R523). -/
theorem State.knockComing_of_coming {s : State} {k : Knock} (h : Claims.coming s k) : s.knockComing k = true := by
  obtain ⟨hon, x, hx, hk, hdue⟩ := h
  simp only [State.knockComing, hon, Bool.true_and, List.any_eq_true]
  exact ⟨x, hx, by simp [hk, hdue]⟩

theorem exec_start_of_coming {s : State} (h : Claims.coming s .start) : exec .start s = .next s.boundary :=
  congrArg Host.Outcome.next (if_pos (State.knockComing_of_coming h))

end Sys2Proof.Machine
end

section
/-!
PROOF. REPORT before its boundary: the announcement, the log and the pending set (R519, R523, R526).
-/
namespace Sys2Proof.Machine

/-! What an announcement changes (R513, R519). -/

/-- `n` free numbers are drawn, `o` leaves the ports, and `w` waits there. -/
def State.sent (s : State) (n : Nat) (o : List NetOut) (w : List (Nat × Nat × NetOut)) : State :=
  { s with net := { s.net with out := s.net.out ++ o, waiting := s.net.waiting ++ w }, free := s.free + n }

theorem State.sent_nil (s : State) : s.sent 0 [] [] = s := by
  simp [State.sent]

theorem State.sent_sent (s : State) (n n' : Nat) (o o' : List NetOut) (w w' : List (Nat × Nat × NetOut)) :
    (s.sent n o w).sent n' o' w' = s.sent (n + n') (o ++ o') (w ++ w') := by
  simp [State.sent, Nat.add_assoc]

/-- A frame leaves its port, or waits there; it leaves a port where no gate list runs and no frame waits. -/
theorem State.queueOut_eq_sent (s : State) (i ns : Nat) (f : NetOut) :
    ∃ o w, s.queueOut i ns f = s.sent 0 o w ∧ (∀ x ∈ w, x.2.2.port = f.port) ∧ (Claims.freePort s f.port → f ∈ o) := by
  unfold State.queueOut
  split
  · exact ⟨[f], [], by simp [State.sent], by simp, fun _ => List.mem_singleton_self f⟩
  · next hgate =>
    refine ⟨[], [(i, ns, f)], by simp [State.sent], by simp, fun hfree => absurd ?_ hgate⟩
    obtain ⟨hnone, hwait⟩ := hfree
    have hopen : s.gateOpen f.port i ns = true := by simp [State.gateOpen, hnone]
    rw [hopen, Bool.true_and, List.all_eq_true]
    exact fun x hx => by simp [hwait x hx]

/-- An announcement goes by queue 7. -/
theorem State.netSend_announcement_eq_sent (s : State) (q : Nat) (l : List Byte) (v6 : Bool) :
    ∃ o w, s.netSend q 0x10 l v6 = s.sent 0 o w ∧ (∀ x ∈ w, x.2.2.port = q) ∧
      (Claims.freePort s q → ∃ x ∈ o, x.port = q ∧ x.kind = 0x10) := by
  obtain ⟨o, w, heq, hwait, hfree⟩ := s.queueOut_eq_sent 7 (s.wireNs q v6 l.length) { port := q, kind := 0x10, bytes := l }
  exact ⟨o, w, heq, hwait, fun h => ⟨_, hfree h, rfl, rfl⟩⟩

theorem State.announceOn_eq_sent (s : State) (q : Nat) :
    ∃ n o w, s.announceOn q = s.sent n o w ∧ (∀ x ∈ w, x.2.2.port = q) ∧
      (s.netUp q = true → Claims.freePort s q → ∃ x ∈ o, x.port = q ∧ x.kind = 0x10) := by
  unfold State.announceOn
  dsimp only
  split
  · next hdown => exact ⟨0, [], [], s.sent_nil.symm, by simp, fun hup => by simp [hup] at hdown⟩
  · have hdraw : s.draw.2 = s.sent 1 [] [] := by simp [State.draw, State.sent]
    rw [hdraw]
    generalize s.recHeader _ _ _ _ _ _ _ _ _ _ _ ++ s.annBody ++ s.deviceSign _ = l
    obtain ⟨o, w, heq, hwait, hfree⟩ := (s.sent 1 [] []).netSend_announcement_eq_sent q l true
    have hfree' : Claims.freePort s q → ∃ x ∈ o, x.port = q ∧ x.kind = 0x10 := fun h => hfree (by simpa [State.sent, Claims.freePort] using h)
    rw [heq, State.sent_sent]
    split
    · exact ⟨_, _, _, rfl, by simpa using hwait, fun _ h => by simpa using hfree' h⟩
    · obtain ⟨o', w', heq', hwait', -⟩ := (s.sent (1 + 0) ([] ++ o) ([] ++ w)).netSend_announcement_eq_sent q l false
      rw [heq', State.sent_sent]
      refine ⟨_, _, _, rfl, ?_, fun _ h => ?_⟩
      · intro x hx
        rcases List.mem_append.mp hx with hx | hx
        · exact hwait x hx
        · exact hwait' x hx
      · obtain ⟨x, hx, hport⟩ := hfree' h
        exact ⟨x, List.mem_append_left _ hx, hport⟩

/-- What one port's announcement leaves to wait is at that port: another port stays free. -/
theorem Claims.freePort_sent {s : State} {q r n : Nat} {o : List NetOut} {w : List (Nat × Nat × NetOut)} (h : Claims.freePort s q)
    (hw : ∀ x ∈ w, x.2.2.port = r) (hne : r ≠ q) : Claims.freePort (s.sent n o w) q := by
  obtain ⟨hnone, hwait⟩ := h
  refine ⟨hnone, fun x hx => ?_⟩
  rcases List.mem_append.mp hx with hx | hx
  · exact hwait x hx
  · exact (hw x hx).trans_ne hne

theorem State.announce_eq_sent (s : State) : ∃ n o w, s.announce = s.sent n o w ∧
    ∀ q < 2, s.netUp q = true → Claims.freePort s q → ∃ x ∈ o, x.port = q ∧ x.kind = 0x10 := by
  obtain ⟨n, o, w, heq, hwait, hfirst⟩ := s.announceOn_eq_sent 0
  obtain ⟨n', o', w', heq', -, hsecond⟩ := (s.sent n o w).announceOn_eq_sent 1
  refine ⟨n + n', o ++ o', w ++ w', by rw [State.announce, heq, heq', State.sent_sent], fun q hq hup hfree => ?_⟩
  interval_cases q
  · obtain ⟨x, hx, hport⟩ := hfirst hup hfree
    exact ⟨x, List.mem_append_left _ hx, hport⟩
  · obtain ⟨x, hx, hport⟩ := hsecond hup (Claims.freePort_sent hfree hwait (by decide))
    exact ⟨x, List.mem_append_right _ hx, hport⟩

/-! The log of the counters (R526; log 23). -/

/-- Fifteen counters fill five entries, three to an entry. -/
theorem rowsOf_counters {l : List Nat} (h : l.length = 15) :
    rowsOf (0 :: l) = [0, 3, 6, 9, 12].map (fun k => [0, l.getD k 0, l.getD (k + 1) 0, l.getD (k + 2) 0]) :=
  match l, h with
  | [_, _, _, _, _, _, _, _, _, _, _, _, _, _, _], _ => rfl

/-- The state in which the coming boundary's REPORT acts, with the REPORTs out of the pending set. -/
def State.reporting (s : State) : State :=
  { s with tick := s.nextTick, inBnd := true, stamps := s.stamps.set 0 s.nextStamp,
           net := { s.net with knocks := s.net.knocks.filter (fun x => x.knock != .report) } }

/-- A REPORT that is taken acts on that state alone; then the tick number and the stamps are those before it. -/
theorem State.knockEarly_report {s : State} (h : Claims.coming s .report) (htakes : s.part.takesMark = true)
    (hone : (s.net.knocks.filter (fun x => x.knock == .report)).length = 1) :
    s.knockEarly .report =
      { s.reporting.reportKnock.showPending with tick := s.tick, inBnd := false, stamps := s.stamps } := by
  obtain ⟨x, hx⟩ := List.length_eq_one_iff.mp hone
  have hknock : x.knock = .report := by
    have hmem : x ∈ s.net.knocks.filter (fun x => x.knock == .report) := hx ▸ List.mem_singleton_self x
    simpa using List.of_mem_filter hmem
  have hdecide : s.reporting.decideKnock x = s.reporting.reportKnock := by
    have htakes' : s.reporting.part.takesMark = true := htakes
    simp [State.decideKnock, hknock, htakes']
  unfold State.knockEarly
  rw [State.knockComing_of_coming h, if_neg (by simp), State.early]
  dsimp only
  rw [hx, List.foldl_cons, List.foldl_nil]
  exact congrArg (fun t : State => { t.showPending with tick := s.tick, inBnd := false, stamps := s.stamps }) hdecide

/-- What a REPORT that is taken leaves: the announcements, and the counters in the log. -/
theorem State.reportKnock_eq {s : State} (hlog : s.logs.stopped = false) : ∃ n o w,
    s.reporting.reportKnock = { s.reporting.sent n o w with
      logq := s.logq ++ [0, 3, 6, 9, 12].map (fun k =>
        { code := 0x0291, args := [0, (Claims.counters s).getD k 0, (Claims.counters s).getD (k + 1) 0, (Claims.counters s).getD (k + 2) 0],
          tick := s.nextTick, stamp := s.nextStamp }) } ∧
    ∀ q < 2, s.netUp q = true → Claims.freePort s q → ∃ x ∈ o, x.port = q ∧ x.kind = 0x10 := by
  obtain ⟨n, o, w, heq, hports⟩ := s.reporting.announce_eq_sent
  refine ⟨n, o, w, ?_, hports⟩
  have hrows : rowsOf (0 :: reportAddrs.map (fun a => (s.reporting.rd a).toNat)) = _ :=
    rowsOf_counters (l := Claims.counters s) rfl
  have hstamp : (s.reporting.sent n o w).stamps.getD 0 0 = s.nextStamp := by simp [State.reporting, State.sent, Vector.getD]
  have hstopped : (s.reporting.sent n o w).logs.stopped = false := hlog
  rw [State.reportKnock, heq, State.logEv, State.logAt, if_neg (by simp [hstopped]), hstamp, hrows, List.map_map]
  rfl

/-- Settles O60: what START hangs on stays up to its decision, the change it causes is the one due, and what follows keeps RUNNING and
tick 0; a REPORT is its announcement and its log. -/
theorem knocksComplete : Obligations.KnocksComplete := by
  intro s
  refine ⟨fun hparts hstart hshut hready hable hret hcauses => ?start, fun hreport htakes hone hlog => ?report⟩
  case start =>
    obtain ⟨-, -, -, -, hsev, -⟩ := id hable
    exact ⟨s.boundary, exec_start_of_coming hstart,
      State.boundary_runs (takesStart_of_startable hparts hready hable) hsev hret hstart hshut hcauses⟩
  case report =>
    obtain ⟨n, o, w, heq, hports⟩ := State.reportKnock_eq hlog
    refine ⟨s.knockEarly .report, rfl, ?_⟩
    rw [State.knockEarly_report hreport htakes hone, heq]
    refine ⟨rfl, rfl, rfl, rfl, rfl, List.take_left, fun q hq hup hfree => ?_⟩
    obtain ⟨x, hx, hport⟩ := hports q hq hup hfree
    exact ⟨x, List.drop_left.symm ▸ hx, hport⟩

end Sys2Proof.Machine
end

section
/-!
PROOF. The state after reset (R36, R85 to R640): what an unlisted register reads as.
-/
namespace Sys2Proof.Machine

/-- No register has been written at reset: each reads as `devReset` says. -/
theorem State.rd_reset (a : Nat) : State.reset.rd a = devReset a := rfl

/-- The rails of the sashes stand at step 70 (R571, R578). -/
theorem devReset_rail {k : Nat} (hk : k < 64) : devReset (Config.pwr + 0x400 + 4 * k) = 70#32 := by
  have hin : 0xF00A0400 ≤ Config.pwr + 0x400 + 4 * k ∧ Config.pwr + 0x400 + 4 * k < 0xF00A0500 := by
    simp only [Config.pwr]; omega
  rw [devReset, if_pos hin]

/-- The register of a crossing shows its KIND (R633, R634). -/
theorem devReset_crossing {c : Nat} (hc : c ≤ 108) : devReset (Config.cross + 0x100 + 4 * c) = crossKind c := by
  have hrail : ¬ (0xF00A0400 ≤ Config.cross + 0x100 + 4 * c ∧ Config.cross + 0x100 + 4 * c < 0xF00A0500) := by
    simp only [Config.cross]; omega
  have hin : 0xF00D0100 ≤ Config.cross + 0x100 + 4 * c ∧ Config.cross + 0x100 + 4 * c < 0xF00D02B4 := by
    simp only [Config.cross]; omega
  have hnum : (Config.cross + 0x100 + 4 * c - 0xF00D0100) / 4 = c := by simp only [Config.cross]; omega
  rw [devReset, if_neg hrail, if_pos hin, hnum]

/-- KIND of the crossings, by what they join (R633). -/
theorem crossKind_of_le {c : Nat} (hc : c ≤ 108) : crossKind c =
    if (80 ≤ c ∧ c < 88) ∨ 107 ≤ c then 0x30#32 else if c = 88 ∨ c = 89 then 0x40#32
    else if 102 ≤ c ∧ c < 106 then 0x10#32 else 0#32 := by
  have hall : ∀ c < 109, crossKind c = if (80 ≤ c ∧ c < 88) ∨ 107 ≤ c then 0x30#32 else if c = 88 ∨ c = 89 then 0x40#32
      else if 102 ≤ c ∧ c < 106 then 0x10#32 else 0#32 := by decide
  exact hall c (by omega)

/-- Every other register is 0. -/
theorem devReset_other {a : Nat} (hrail : ¬ (Config.pwr + 0x400 ≤ a ∧ a < Config.pwr + 0x500))
    (hcross : ¬ (Config.cross + 0x100 ≤ a ∧ a < Config.cross + 0x2B4)) : devReset a = 0 := by
  exact (if_neg hrail).trans (if_neg hcross)

theorem Pane.gr_reset (r : RegNo) : Pane.reset.gr r = 0 := by
  simp [Pane.gr, Pane.reset]

/-- Settles O58: no map of the state lists an entry at reset, so that every read is a default. -/
theorem resetValues : Obligations.ResetValues := by
  refine ⟨rfl, rfl, rfl, rfl, rfl, rfl, rfl, fun a => rfl, fun k hk => ?rails, fun c hc => ?crossings, fun a => ?others,
    fun p => ⟨rfl, rfl, Pane.gr_reset, fun a => rfl⟩, fun b a => rfl, fun a => rfl⟩
  case rails => rw [State.rd_reset, devReset_rail hk]
  case crossings => rw [State.rd_reset, devReset_crossing hc, crossKind_of_le hc]
  case others => exact devReset_other

end Sys2Proof.Machine
end

section
/-!
PROOF. Of the changes due at a boundary the first in the order of R40 takes effect.
-/
namespace Sys2Proof.Machine

/-! The first of the targets (R40). -/

/-- One more target against the first so far. -/
def firstOf (a : Option PartState) (t : PartState) : Option PartState :=
  match a with
  | none => some t
  | some u => if t.rank < u.rank then some t else some u

theorem State.nextState_eq (s : State) : s.nextState = (s.causes.filterMap s.causeTarget).foldl firstOf none := rfl

theorem firstOf_some_iff (u t : PartState) : firstOf (some u) t = some (if t.rank < u.rank then t else u) := by
  simp only [firstOf]; split <;> rfl

/-- The fold answers the first so far or a target of the list, of the lowest rank. -/
theorem foldl_firstOf_some (l : List PartState) (u : PartState) :
    ∃ t, l.foldl firstOf (some u) = some t ∧ (t = u ∨ t ∈ l) ∧ t.rank ≤ u.rank ∧ ∀ v ∈ l, t.rank ≤ v.rank := by
  induction l generalizing u with
  | nil => exact ⟨u, rfl, .inl rfl, le_refl _, by simp⟩
  | cons x r ih =>
    obtain ⟨t, heq, hmem, hle, hall⟩ := ih (if x.rank < u.rank then x else u)
    refine ⟨t, by rw [List.foldl_cons, firstOf_some_iff, heq], ?_, ?_, ?_⟩ <;> grind

/-- The state that comes next is one that a cause leads to, and no cause leads to one before it. -/
theorem State.nextState_some {s : State} {t : PartState} (h : s.nextState = some t) :
    (∃ c ∈ s.causes, s.causeTarget c = some t) ∧ ∀ c ∈ s.causes, ∀ u, s.causeTarget c = some u → t.rank ≤ u.rank := by
  rw [State.nextState_eq] at h
  cases hl : s.causes.filterMap s.causeTarget with
  | nil => simp [hl] at h
  | cons x r =>
    obtain ⟨t', heq, hmem, hle, hall⟩ := foldl_firstOf_some r x
    have ht : t' = t := by simpa [hl, firstOf, heq] using h
    subst ht
    have hin : t' ∈ s.causes.filterMap s.causeTarget := hl ▸ List.mem_cons.mpr hmem
    refine ⟨List.mem_filterMap.mp hin, fun c hc u hu => ?_⟩
    have hmem' : u ∈ x :: r := hl ▸ List.mem_filterMap.mpr ⟨c, hc, hu⟩
    rcases List.mem_cons.mp hmem' with rfl | hr
    · exact hle
    · exact hall u hr

/-- Nothing comes next where no cause leads anywhere. -/
theorem State.nextState_none {s : State} (h : s.nextState = none) : ∀ c ∈ s.causes, s.causeTarget c = none := by
  rw [State.nextState_eq] at h
  cases hl : s.causes.filterMap s.causeTarget with
  | nil => exact List.filterMap_eq_nil_iff.mp hl
  | cons x r =>
    obtain ⟨t, heq, -⟩ := foldl_firstOf_some r x
    simp [hl, firstOf, heq] at h

/-! The change takes effect. -/

theorem State.cancelShutdown_part (s : State) (t : PartState) : (s.cancelShutdown t).part = t := rfl

/-- The part is in the state it changes to. -/
theorem State.changeTo_part (s : State) (t : PartState) : (s.changeTo t).part = t := by
  unfold State.changeTo
  split
  · rfl
  · cases t with
    | running =>
      dsimp only
      split
      · exact s.startRun_runs.1
      · rfl
    | off | starting | ready | holding | aborted | faulted | shuttingDown => rfl


/-! What follows the change: the log, the bell, the announcement, and in FAULTED the final seal (R40, R41, R494). -/

theorem State.setLogq_sameRun (s : State) (l : List LogEvent) : SameRun s { s with logq := l } := SameRun.refl s

theorem State.discards_sameRun (s : State) (c n : Nat) : SameRun s (s.discards c n) := (s.wr_sameStand _ _).run

theorem State.logAccept_sameRun (s : State) (r : LogReq) : SameRun s (s.logAccept r).1 := by
  have hgone (t : State) (l : List Bool) : SameRun t (l.foldl (fun s q => s.discards (99 + q.toNat) 1) t) :=
    foldl_sameRun l t fun u q _ => u.discards_sameRun _ 1
  have hcount (t : State) : SameRun t (t.bump (Config.logstore + 0x10) 16 1) := (t.bump_sameStand _ _ _).run
  unfold State.logAccept
  split
  · refine SameRun.trans ?_ (State.wr_sameStand _ _ _).run
    refine SameRun.trans ?_ (State.bump_sameStand _ _ _ _).run
    exact (s.setLogs_sameStart _).run.trans (hgone _ _)
  · split
    · exact ((s.setBits_sameStand _ _).run.trans (State.setLogs_sameStart _ _).run).trans (State.announce_sameStart _).run
    · refine SameRun.trans ?_ (hcount _)
      exact (s.setBits_sameStand _ _).run.trans
        (sameRun_ite (SameRun.refl _) ((State.logEv_sameStart _ _ _).run.trans (State.setLogs_sameStart _ _).run))
  · exact sameRun_ite (SameRun.refl s) (hcount s)

theorem State.closeEvents_sameRun (n : Nat) (s : State) : SameRun s (s.closeEvents n) := by
  induction n generalizing s with
  | zero => exact SameRun.refl s
  | succ n ih =>
    refine sameRun_ite (SameRun.refl s) (SameRun.trans ?_ (ih _))
    exact (s.setLogq_sameRun _).trans (State.logAccept_sameRun _ _)

theorem State.sealBlocks_sameRun (n : Nat) (s : State) (l : List (List Byte)) : SameRun s (s.sealBlocks n l) := by
  induction n generalizing s l with
  | zero => exact SameRun.refl s
  | succ n ih =>
    refine sameRun_ite (SameRun.refl s) (SameRun.trans ?_ (ih _ _))
    exact (s.logAccept_sameRun _).trans (State.bump_sameStand _ _ _ _).run

theorem State.sealWrite_sameRun (s : State) (l : List SealEntry) : SameRun s (s.sealWrite l) :=
  SameRun.trans (SameRun.refl s) (State.sealBlocks_sameRun _ _ _)

theorem State.sealFinish_sameRun (s : State) : SameRun s s.sealFinish :=
  sameRun_ite (SameRun.refl s) (SameRun.trans (SameRun.refl s) (State.sealWrite_sameRun _ _))

theorem State.checkpoint_sameRun (s : State) : SameRun s s.checkpoint :=
  foldl_sameRun _ s fun t _ _ => sameRun_ite (t.discards_sameRun _ 1) (SameRun.refl t)

theorem State.finalSeal_sameRun (s : State) : SameRun s s.finalSeal := by
  have hseal : SameRun s (s.sealNow true false State.producers) :=
    (s.sealFinish_sameRun.trans (State.closeEvents_sameRun _ _)).trans (State.sealWrite_sameRun _ _)
  exact sameRun_ite (SameRun.refl s) (hseal.trans ((State.checkpoint_sameRun _).trans (SameRun.refl _)))

/-- The boundary's change of state, and what only records it. -/
theorem State.stateStep_some {s : State} {t : PartState} (h : s.nextState = some t) :
    SameRun (({ s with causes := [] } : State).changeTo t) s.stateStep := by
  have hlog (u : State) (l : List (Cause × Option PartState)) (x : Nat × Nat × Nat) :
      SameRun u (({ u.logChange t l with tokenEvents := x } : State).edge allBells 28 t.code).announce :=
    (((u.logChange_sameRun t l).trans (State.setTokenEvents_sameRun _ x)).trans (State.edge_sameStart _ _ _ _).run).trans
      (State.announce_sameStart _).run
  unfold State.stateStep
  rw [h]
  exact sameRun_ite ((hlog _ _ _).trans (State.finalSeal_sameRun _)) (hlog _ _ _)

theorem State.stateStep_none {s : State} (h : s.nextState = none) : s.stateStep = { s with causes := [] } := by
  unfold State.stateStep
  rw [h]

/-- Settles O33: the fold over the targets keeps the one of the lowest rank, and the change to it is what the boundary makes. -/
theorem oneChangeTakesEffect : Obligations.OneChangeTakesEffect := by
  intro s rank
  have hrank (p : PartState) : rank p = p.rank := by cases p <;> rfl
  refine ⟨fun t ht => ?_, fun hnone => ⟨State.nextState_none hnone, State.stateStep_none hnone⟩⟩
  obtain ⟨hcause, hfirst⟩ := State.nextState_some ht
  exact ⟨hcause, by simpa only [hrank] using hfirst, (State.stateStep_some ht).1.trans (State.changeTo_part _ t)⟩

end Sys2Proof.Machine
end

section
/-!
PROOF. A knock that is decided: refused, or a cause of a change of state, or at once its action (R36, R38, R441, R523).
-/
namespace Sys2Proof.Machine

/-! What the log, the bells and the ports leave as it was. -/

/-- The run, the panes, the device registers, the pending knocks and the tick of the last MARK stay. -/
abbrev SameTold (s t : State) : Prop :=
  SameRun s t ∧ t.panes = s.panes ∧ t.reg = s.reg ∧ t.net.knocks = s.net.knocks ∧ t.net.markTick = s.net.markTick

theorem SameTold.refl (s : State) : SameTold s s := ⟨SameRun.refl s, rfl, rfl, rfl, rfl⟩

theorem SameTold.trans {s t u : State} (h1 : SameTold s t) (h2 : SameTold t u) : SameTold s u := by
  obtain ⟨hr, hp, hg, hk, hm⟩ := h1
  obtain ⟨hr', hp', hg', hk', hm'⟩ := h2
  exact ⟨hr.trans hr', hp'.trans hp, hg'.trans hg, hk'.trans hk, hm'.trans hm⟩

section
variable {s t : State} (h : SameTold s t)
include h

theorem SameTold.run : SameRun s t := h.1
theorem SameTold.part : t.part = s.part := h.1.1
theorem SameTold.causes : t.causes = s.causes := h.1.2.2.2
theorem SameTold.panes : t.panes = s.panes := h.2.1
theorem SameTold.reg : t.reg = s.reg := h.2.2.1
theorem SameTold.knocks : t.net.knocks = s.net.knocks := h.2.2.2.1
theorem SameTold.markTick : t.net.markTick = s.net.markTick := h.2.2.2.2
theorem SameTold.rd (a : Nat) : t.rd a = s.rd a := congrArg (fun m => RegFile.rd devReset m a) h.reg

end

theorem State.edge_told (s : State) (m : BitVec 64) (src d : Nat) : SameTold s (s.edge m src d) := SameTold.refl s
theorem State.swr_told (s : State) (a : Nat) (v : Word) : SameTold s (s.swr a v) := SameTold.refl s
theorem State.sillResult_told (s : State) (k o : Nat) : SameTold s (s.sillResult k o) := s.swr_told _ _

theorem State.logAt_told (s : State) (t c : Nat) (l : List Nat) : SameTold s (s.logAt t c l) := by
  unfold State.logAt; split <;> exact SameTold.refl s

theorem State.logEv_told (s : State) (c : Nat) (l : List Nat) : SameTold s (s.logEv c l) := s.logAt_told _ c l

theorem State.announce_told (s : State) : SameTold s s.announce := by
  obtain ⟨n, o, w, heq, -⟩ := s.announce_eq_sent
  exact heq ▸ SameTold.refl s

theorem State.queueOut_told (s : State) (i ns : Nat) (f : NetOut) : SameTold s (s.queueOut i ns f) := by
  unfold State.queueOut; split <;> exact SameTold.refl s

theorem State.netSend_told (s : State) (q k : Nat) (l : List Byte) (v6 : Bool) : SameTold s (s.netSend q k l v6) := by
  simp only [State.netSend]
  split
  · exact SameTold.refl s
  · exact s.queueOut_told _ _ _

theorem State.knockReply_told (s : State) (k : Nat) (r : Nat × Nat × Nat) (o d : Nat) : SameTold s (s.knockReply k r o d) :=
  SameTold.trans (SameTold.refl s) (s.draw.2.netSend_told _ _ _ _)

/-! A refusal (R522, R525). -/

/-- REFUSED counts, and LAST_REFUSED takes `w`. -/
def State.countRefusal (s : State) (w : Word) : State := (s.bump (Config.knock + 0x8C) 16 1).wr (Config.knock + 0x90) w

theorem State.rd_countRefusal (s : State) (w : Word) : (s.countRefusal w).rd (Config.knock + 0x90) = w :=
  (State.rd_wr _ _ _ w).trans (if_pos rfl)

/-- A refusal writes these two registers; its bell, its log and its answers change nothing more. -/
theorem State.refuse_told (s : State) (k : Knock) (path : Nat) (reply : Option (Nat × Nat × Nat)) (reason arg : Nat) :
    SameTold (s.countRefusal (BitVec.ofNat 32 (k.num + reason * 16 + path * 256 + 2 ^ 31))) (s.refuse k path reply reason arg) := by
  have hnum : k.num % 8 = k.num := by cases k <;> rfl
  unfold State.refuse State.refuseNum
  rw [hnum]
  have hlog := State.logEv_told ((s.countRefusal (BitVec.ofNat 32 (k.num + reason * 16 + path * 256 + 2 ^ 31))).edge allBells 47 k.num)
    (0x0200 + reason) [k.num, arg, path]
  have hanswer (t : State) : SameTold t (if path = 1 then t.sillResult k.num reason else t) := by
    split
    · exact t.sillResult_told _ _
    · exact SameTold.refl t
  cases reply with
  | none => exact ((State.edge_told _ _ _ _).trans hlog).trans (hanswer _)
  | some r => exact (((State.edge_told _ _ _ _).trans hlog).trans (hanswer _)).trans (State.knockReply_told _ _ _ _ _)

theorem State.countRefusal_causes (s : State) (w : Word) : (s.countRefusal w).causes = s.causes := rfl

theorem State.refuse_causes (s : State) (k : Knock) (path : Nat) (reply : Option (Nat × Nat × Nat)) (reason arg : Nat) :
    (s.refuse k path reply reason arg).causes = s.causes :=
  (s.refuse_told k path reply reason arg).causes.trans (s.countRefusal_causes _)

/-- The code of a refusal, by the knock, the reason and the path, stands in LAST_REFUSED. -/
theorem State.rd_refuse (s : State) (k : Knock) (path : Nat) (reply : Option (Nat × Nat × Nat)) (reason arg : Nat) :
    (s.refuse k path reply reason arg).rd (Config.knock + 0x90) = BitVec.ofNat 32 (k.num + reason * 16 + path * 256 + 2 ^ 31) :=
  ((s.refuse_told k path reply reason arg).rd _).trans (s.rd_countRefusal _)

/-- No register below the knock block is written. -/
theorem State.rd_refuse_of_lt {a : Nat} (ha : a < Config.knock) (s : State) (k : Knock) (path : Nat)
    (reply : Option (Nat × Nat × Nat)) (reason arg : Nat) : (s.refuse k path reply reason arg).rd a = s.rd a := by
  rw [(s.refuse_told k path reply reason arg).rd, State.countRefusal, State.rd_wr, if_neg (by omega), State.bump, State.rd_wr,
    if_neg (by omega)]

/-! The decision, knock by knock. -/

/-- The states in which a knock is valid (R36, R38, R526). -/
def State.takesKnock (s : State) (k : Knock) : Bool :=
  match k with
  | .start => s.part == .ready
  | .hold => s.part == .running
  | .resume => s.part == .holding || (s.part == .shuttingDown && s.shut.cancellable)
  | .abort => s.part == .running || s.part == .holding
  | .shutdown => s.part == .ready || s.part == .running || s.part == .holding || s.part == .aborted
  | .mark | .report => s.part.takesMark

/-- A knock that its state does not take is refused with reason 5, and a START leaves its code (R442, R523). -/
theorem State.decideKnock_refused {s : State} {x : PendKnock} (h : s.takesKnock x.knock = false) :
    ∃ u arg, (u = s ∨ ∃ v, u = s.wr (Config.start + 0x44) v) ∧ s.decideKnock x = u.refuse x.knock x.path x.reply 5 arg := by
  unfold State.decideKnock
  cases hk : x.knock with
  | start =>
    have hpart : (s.part == .ready) = false := by simpa [State.takesKnock, hk] using h
    exact ⟨_, _, .inr ⟨_, rfl⟩, if_pos (by simp [bne, hpart])⟩
  | hold | resume | abort | mark | shutdown | report =>
    rw [hk] at h
    exact ⟨s, 0, .inl rfl, if_neg (fun htakes => Bool.false_ne_true (h.symm.trans htakes))⟩

/-- A START in READY with a code of R441 is refused with reason 6. -/
theorem State.decideKnock_start_code {s : State} {x : PendKnock} {c : Nat} (h : s.takesKnock .start = true) (hk : x.knock = .start)
    (hc : s.startRefusal = some c) : s.decideKnock x = s.refuseStart x c 6 := by
  have hpart : s.part = .ready := by simpa [State.takesKnock] using h
  simp [State.decideKnock, hk, hpart, hc]

/-- One with none of them is a cause. -/
theorem State.decideKnock_start_cause {s : State} {x : PendKnock} (h : s.takesKnock .start = true) (hk : x.knock = .start)
    (hc : s.startRefusal = none) : s.decideKnock x = s.cause (.knock .start) := by
  have hpart : s.part = .ready := by simpa [State.takesKnock] using h
  simp [State.decideKnock, hk, hpart, hc]

/-- The other knocks that change the state are causes where they are valid; an ABORT is a trip beside it. -/
theorem State.decideKnock_cause {s : State} {x : PendKnock} (h : s.takesKnock x.knock = true)
    (hk : x.knock = .hold ∨ x.knock = .resume ∨ x.knock = .shutdown ∨ x.knock = .abort) :
    s.decideKnock x = (if x.knock = .abort then s.latchTrip 770 s.knockAction else s).cause (.knock x.knock) := by
  unfold State.decideKnock
  rcases hk with hk | hk | hk | hk <;> rw [hk] at h ⊢ <;> exact if_pos h

/-- MARK and REPORT act at once. -/
theorem State.decideKnock_mark {s : State} {x : PendKnock} (h : s.part.takesMark = true) (hk : x.knock = .mark) :
    s.decideKnock x = s.mark x.arg := by
  simp [State.decideKnock, hk, h]

theorem State.decideKnock_report {s : State} {x : PendKnock} (h : s.part.takesMark = true) (hk : x.knock = .report) :
    s.decideKnock x = s.reportKnock := by
  simp [State.decideKnock, hk, h]

/-! What a decision keeps. -/

/-- The part's state, the panes and the pending knocks stay, and no cause is lost. -/
abbrev Decides (s t : State) : Prop :=
  t.part = s.part ∧ t.panes = s.panes ∧ t.net.knocks = s.net.knocks ∧ s.causes ⊆ t.causes

theorem Decides.refl (s : State) : Decides s s := ⟨rfl, rfl, rfl, List.Subset.refl _⟩

theorem Decides.trans {s t u : State} (h1 : Decides s t) (h2 : Decides t u) : Decides s u := by
  obtain ⟨hp, hq, hk, hc⟩ := h1
  obtain ⟨hp', hq', hk', hc'⟩ := h2
  exact ⟨hp'.trans hp, hq'.trans hq, hk'.trans hk, List.Subset.trans hc hc'⟩

theorem SameTold.decides {s t : State} (h : SameTold s t) : Decides s t :=
  ⟨h.part, h.panes, h.knocks, h.causes ▸ List.Subset.refl _⟩

theorem State.wr_decides (s : State) (a : Nat) (v : Word) : Decides s (s.wr a v) := Decides.refl s

theorem State.cause_decides (s : State) (c : Cause) : Decides s (s.cause c) := ⟨rfl, rfl, rfl, List.subset_append_left _ _⟩

theorem State.refuse_decides (s : State) (k : Knock) (path : Nat) (reply : Option (Nat × Nat × Nat)) (reason arg : Nat) :
    Decides s (s.refuse k path reply reason arg) :=
  ((s.wr_decides _ _).trans (State.wr_decides _ _ _)).trans (s.refuse_told k path reply reason arg).decides

theorem State.latchTrip_decides (s : State) (c a : Nat) : Decides s (s.latchTrip c a) := by
  unfold State.latchTrip
  split
  · exact ⟨rfl, rfl, rfl, List.Subset.refl s.causes⟩
  · exact Decides.refl s

/-- The trip of an ABORT that is taken. -/
theorem State.abortTrip_decides (s : State) (k : Knock) :
    Decides s (if k = .abort then s.latchTrip 770 s.knockAction else s) := by
  split
  · exact s.latchTrip_decides _ _
  · exact Decides.refl s

theorem State.mark_decides (s : State) (arg : DWord) : Decides s (s.mark arg) :=
  (s.wr_decides _ _).trans (State.logEv_told _ _ _).decides

theorem State.reportKnock_decides (s : State) : Decides s s.reportKnock :=
  (s.announce_told.trans (State.logEv_told _ _ _)).decides

theorem State.decideKnock_decides (s : State) (x : PendKnock) : Decides s (s.decideKnock x) := by
  cases h : s.takesKnock x.knock with
  | false =>
    obtain ⟨u, arg, hu, heq⟩ := State.decideKnock_refused h
    rw [heq]
    rcases hu with rfl | ⟨v, rfl⟩
    · exact State.refuse_decides _ _ _ _ _ _
    · exact (s.wr_decides _ v).trans (State.refuse_decides _ _ _ _ _ _)
  | true =>
    cases hk : x.knock with
    | start =>
      rw [hk] at h
      cases hc : s.startRefusal with
      | none => exact State.decideKnock_start_cause h hk hc ▸ s.cause_decides _
      | some c => exact State.decideKnock_start_code h hk hc ▸ (s.wr_decides _ _).trans (State.refuse_decides _ _ _ _ _ _)
    | hold | resume | shutdown | abort =>
      exact State.decideKnock_cause h (by simp [hk]) ▸ (s.abortTrip_decides _).trans (State.cause_decides _ _)
    | mark =>
      rw [hk] at h
      exact State.decideKnock_mark h hk ▸ s.mark_decides _
    | report =>
      rw [hk] at h
      exact State.decideKnock_report h hk ▸ s.reportKnock_decides

/-- A START that is refused leaves its code, with bit 31 (R442). -/
theorem State.rd_refuseStart (s : State) (x : PendKnock) (c reason : Nat) :
    (s.refuseStart x c reason).rd (Config.start + 0x44) = BitVec.ofNat 32 (c + 2 ^ 31) :=
  (State.rd_refuse_of_lt (by decide) _ _ _ _ _ _).trans ((s.rd_wr _ _ _).trans (if_pos rfl))

theorem State.refuseStart_causes (s : State) (x : PendKnock) (c reason : Nat) : (s.refuseStart x c reason).causes = s.causes := by
  rw [State.refuseStart, State.refuse_causes, State.wr_causes]

theorem State.startRefusal_alone {s : State} (h : s.parts = 1) : s.startRefusal = s.startCode := by
  simp [State.startRefusal, h]

theorem State.mem_causes_cause (s : State) (c : Cause) : c ∈ (s.cause c).causes :=
  List.mem_append_right _ (List.mem_singleton_self c)

/-- Settles O32: a refusal writes two registers and no cause, a START leaves its code besides, and a valid knock is a cause. -/
theorem knocksAreDecided : Obligations.KnocksAreDecided := by
  intro s x hparts valid t
  have hvalid : valid = s.takesKnock x.knock := by
    simp only [valid]
    cases x.knock <;> rfl
  obtain ⟨hpart, hpanes, -, -⟩ := s.decideKnock_decides x
  rw [hvalid, ← State.startRefusal_alone hparts]
  refine ⟨hpart, hpanes, fun h => ?refused, fun h hk c hc => ?code, fun h hk hc => ?taken, fun h hk => ?cause⟩
  case refused =>
    obtain ⟨u, arg, hu, heq⟩ := State.decideKnock_refused h
    have hcauses : u.causes = s.causes := by rcases hu with rfl | ⟨v, rfl⟩ <;> rfl
    simp only [t, heq]
    exact ⟨(u.refuse_causes _ _ _ _ _).trans hcauses, u.rd_refuse _ _ _ _ _⟩
  case code =>
    rw [hk] at h
    simp only [t, State.decideKnock_start_code h hk hc]
    refine ⟨s.refuseStart_causes x c 6, s.rd_refuseStart x c 6, (State.rd_refuse _ _ _ _ _ _).trans ?_⟩
    rw [Knock.num, Nat.zero_add]
  case taken =>
    rw [hk] at h
    simp only [t, State.decideKnock_start_cause h hk hc]
    rfl
  case cause =>
    simp only [t, State.decideKnock_cause h hk]
    exact State.mem_causes_cause _ _

end Sys2Proof.Machine
end

section
/-!
PROOF. Reports, the fault ledger, the hinges and the lintel's lockstep (R27, R124, R494, R582 to R586).
-/
namespace Sys2Proof.Machine

/-! Reports on their way to the lintel (R582, R583). -/

/-- The report of a pane goes by its own hinge while that is alive. -/
theorem State.reportVia_own {s : State} {r : Report} {p : Nat} (hr : s.reporterOf r = some p) (hlive : s.hingeDead (colOf p) = false) :
    s.reportVia r = some r := by
  simp [State.reportVia, hr, hlive]

/-- A latch with an internal error marks its pane, and makes its report (R124). -/
def State.latchFault (s : State) (q : Nat) : State := (s.modPane q (fun x => { x with faulty := 15 })).report (.latchErr q)

theorem State.latchFault_pane (s : State) (q j : Nat) :
    (s.latchFault q).pane j = if q = j then { s.pane q with faulty := 15 } else s.pane j :=
  s.pane_modPane q j (fun x => { x with faulty := 15 })

theorem State.latchFault_latchReps (s : State) (q : Nat) :
    (s.latchFault q).latchReps = s.latchReps ++ [{ rep := .latchErr q, at' := s.now }] := rfl

theorem execLatchReport_internal (q : PaneNo) (k t : Nat) (s : State) (hlive : s.hingeDead (colOf q.toNat) = false) :
    execLatchReport (some q) k t s = .next
      (State.reportLintel { (s.at t).latchFault q.toNat with latchReps := s.latchReps } (.latchErr q.toNat)) := by
  have hlast : ((s.at t).latchFault q.toNat).latchReps[(s.at t).latchReps.length]? = some { rep := .latchErr q.toNat, at' := max s.now t } :=
    List.getElem?_concat_length
  have hvia : ((s.at t).latchFault q.toNat).reportVia (.latchErr q.toNat) = some (.latchErr q.toNat) :=
    State.reportVia_own (p := q.toNat) rfl hlive
  have herase : ((s.at t).latchFault q.toNat).latchReps.eraseIdx (s.at t).latchReps.length = s.latchReps := by
    rw [State.latchFault_latchReps, List.eraseIdx_append_of_length_le (le_refl _), Nat.sub_self]
    exact List.append_nil _
  simp only [execLatchReport, Option.isSome_some, if_true, ← State.latchFault.eq_def, hlast, hvia, herase]

theorem reportsReach : Claims.reportsReach := by
  intro s p q k n r
  refine ⟨fun hk hrep hlive => ?pane, fun hlive => ?latch⟩
  case pane =>
    have hvia : (s.at n).reportVia r.rep = some r.rep := by
      rcases hrep with h | h <;> exact h ▸ State.reportVia_own (p := p.toNat) rfl hlive
    have hk' : (s.at n).latchReps[k]? = some r := hk
    simp only [exec_latchReport, execLatchReport, Option.isSome_none, Bool.false_eq_true, if_false, hk', hvia]
    rfl
  case latch =>
    refine ⟨_, (exec_latchReport _ _ _ _).trans (execLatchReport_internal q k n s hlive), rfl, rfl, ?_, fun j hj => ?_⟩
    · exact ((s.at n).latchFault_pane _ _).trans (if_pos rfl)
    · exact ((s.at n).latchFault_pane _ _).trans (if_neg fun h => hj h.symm)

end Sys2Proof.Machine
end

section
/-!
PROOF. What the lintel does about a report: the entry in the ledger, the retirement that is due, and the test of containment
(R366, R584 to R586).
-/
namespace Sys2Proof.Machine

/-! What these actions leave. -/

/-- The time, the panes, the reports that the lintel holds and the retirements that are due stay. -/
abbrev SameDesk (s t : State) : Prop :=
  t.now = s.now ∧ t.panes = s.panes ∧ t.lintelReps = s.lintelReps ∧ t.retireDue = s.retireDue

theorem SameDesk.refl (s : State) : SameDesk s s := ⟨rfl, rfl, rfl, rfl⟩

theorem SameDesk.trans {s t u : State} (h1 : SameDesk s t) (h2 : SameDesk t u) : SameDesk s u := by
  obtain ⟨hn, hp, hl, hr⟩ := h1
  obtain ⟨hn', hp', hl', hr'⟩ := h2
  exact ⟨hn'.trans hn, hp'.trans hp, hl'.trans hl, hr'.trans hr⟩

theorem State.wr_desk (s : State) (a : Nat) (v : Word) : SameDesk s (s.wr a v) ∧ (s.wr a v).ledger = s.ledger := ⟨SameDesk.refl s, rfl⟩

theorem State.logAt_desk (s : State) (t c : Nat) (l : List Nat) : SameDesk s (s.logAt t c l) ∧ (s.logAt t c l).ledger = s.ledger := by
  unfold State.logAt; split <;> exact ⟨SameDesk.refl s, rfl⟩

theorem State.setLedger_desk (s : State) (l : List LedgerEntry) : SameDesk s { s with ledger := l } := SameDesk.refl s

theorem State.ledgerAdd_desk (s : State) (c x a : Nat) : SameDesk s (s.ledgerAdd c x a) :=
  (((s.setLedger_desk _).trans (State.wr_desk _ _ _).1).trans (State.wr_desk _ _ _).1).trans (State.logAt_desk _ _ _ _).1

/-- An entry of a ledger that has room stands last (R586). -/
theorem State.ledgerAdd_ledger {s : State} (c x a : Nat) (h : s.ledger.length < 1024) :
    (s.ledgerAdd c x a).ledger = s.ledger ++ [{ code := c, subject := x, arg := a, tick := s.shownTick }] := by
  have hkept (e : LedgerEntry) : (s.ledger ++ [e]).drop ((s.ledger ++ [e]).length - 1024) = s.ledger ++ [e] := by
    rw [List.length_append, List.length_singleton, Nat.sub_eq_zero_of_le (by omega), List.drop_zero]
  simp only [State.ledgerAdd, State.logEv, (State.logAt_desk _ _ _ _).2, State.bump, State.wr_ledger, hkept]

/-- FAULTED becomes due, or takes effect, with no entry of its own (R366). -/
theorem State.fatal_desk (s : State) (c : Cause) : SameDesk s (s.fatal c) ∧ (s.fatal c).ledger = s.ledger := by
  have hbolt (t : State) : SameDesk t t.boltFault ∧ t.boltFault.ledger = t.ledger := by
    unfold State.boltFault
    dsimp only
    split <;> exact ⟨SameDesk.refl t, rfl⟩
  unfold State.fatal
  split
  · exact ⟨SameDesk.refl s, rfl⟩
  · obtain ⟨hdesk, hledger⟩ := hbolt s
    dsimp only
    split
    · exact ⟨hdesk, hledger⟩
    · obtain ⟨hlog, hsame⟩ := State.logAt_desk ((s.boltFault.cause c).edge allBells 28 PartState.faulted.code)
        (s.boltFault.cause c).tick (0x0100 + PartState.faulted.code)
        (((s.boltFault.cause c).causes.map Cause.logCode).length :: (s.boltFault.cause c).causes.map Cause.logCode)
      exact ⟨hdesk.trans hlog, hsame.trans hledger⟩

/-- At most `n` entries of faults that are not contained stand behind those there were. -/
abbrev Uncontained (n : Nat) (s t : State) : Prop :=
  SameDesk s t ∧ ∃ post, t.ledger = s.ledger ++ post ∧ post.length ≤ n ∧ ∀ x ∈ post, x.code = 0x0310

theorem Uncontained.of_same {n : Nat} {s t : State} (hdesk : SameDesk s t) (hledger : t.ledger = s.ledger) : Uncontained n s t :=
  ⟨hdesk, [], by simp [hledger], Nat.zero_le n, by simp⟩

theorem Uncontained.trans {n m : Nat} {s t u : State} (h1 : Uncontained n s t) (h2 : Uncontained m t u) : Uncontained (n + m) s u := by
  obtain ⟨hdesk, post, heq, hlen, hcode⟩ := h1
  obtain ⟨hdesk', post', heq', hlen', hcode'⟩ := h2
  refine ⟨hdesk.trans hdesk', post ++ post', by rw [heq', heq, List.append_assoc], ?_, fun x hx => ?_⟩
  · rw [List.length_append]; omega
  · exact (List.mem_append.mp hx).elim (hcode x) (hcode' x)

theorem State.notContained_uncontained {s : State} (code arg : Nat) (h : s.ledger.length < 1024) :
    Uncontained 1 s (s.notContained code arg) := by
  unfold State.notContained
  split
  · exact Uncontained.of_same (SameDesk.refl s) rfl
  · have hentry := State.ledgerAdd_ledger (s := s.wrFld (Config.fault + 0x10) 0 16 code) 0x0310 code arg h
    obtain ⟨hfatal, hsame⟩ := State.fatal_desk ((s.wrFld (Config.fault + 0x10) 0 16 code).ledgerAdd 0x0310 code arg) (.ledger code)
    refine ⟨((State.wr_desk _ _ _).1.trans (State.ledgerAdd_desk _ _ _ _)).trans hfatal, _, hsame.trans hentry, le_refl _, ?_⟩
    simp

/-- The test of containment (R585). -/
theorem State.contain_uncontained {s : State} (code : Nat) (h : s.ledger.length < 1024) : Uncontained 1 s (s.contain code) := by
  unfold State.contain
  split
  · exact State.notContained_uncontained _ _ h
  · split
    · exact State.notContained_uncontained _ _ h
    · exact Uncontained.of_same (SameDesk.refl s) rfl

end Sys2Proof.Machine
end

section
/-!
PROOF. LEDGER_ACTION: each report of R582 with its entry and its retirement (R584 to R586).
-/
namespace Sys2Proof.Machine

/-! A retirement that becomes due. -/

/-- The time, the panes, the reports that the lintel holds and the ledger stay. -/
abbrev SameEntries (s t : State) : Prop :=
  t.now = s.now ∧ t.panes = s.panes ∧ t.lintelReps = s.lintelReps ∧ t.ledger = s.ledger

theorem SameEntries.refl (s : State) : SameEntries s s := ⟨rfl, rfl, rfl, rfl⟩

theorem SameEntries.trans {s t u : State} (h1 : SameEntries s t) (h2 : SameEntries t u) : SameEntries s u := by
  obtain ⟨hn, hp, hl, he⟩ := h1
  obtain ⟨hn', hp', hl', he'⟩ := h2
  exact ⟨hn'.trans hn, hp'.trans hp, hl'.trans hl, he'.trans he⟩

theorem State.retireAt_entries (s : State) (p c t : Nat) : SameEntries s (s.retireAt p c t) := by
  unfold State.retireAt
  split
  · exact SameEntries.refl s
  · split <;> exact SameEntries.refl s

/-- A pane that is not retired is due for it then. -/
theorem State.mem_retireDue_retireAt {s : State} {p : Nat} (c t : Nat) (h : (s.pane p).retired = false) :
    ∃ y ∈ (s.retireAt p c t).retireDue, y.1 = p := by
  unfold State.retireAt
  rw [if_neg (by simp [h])]
  split
  · next r hr =>
    have hp : r.1 = p := by simpa using List.find?_some hr
    exact ⟨(p, r.2.1, min r.2.2 t), List.mem_map.mpr ⟨r, List.mem_of_find?_eq_some hr, if_pos hp⟩, rfl⟩
  · exact ⟨(p, c, t), List.mem_append_right _ (List.mem_singleton_self _), rfl⟩

/-- What a report of R582 sets off beside its entry keeps the retirements due. -/
theorem State.declareDead_entries (s : State) (r : Nat) : SameEntries s (s.declareDead r) ∧ (s.declareDead r).retireDue = s.retireDue := by
  unfold State.declareDead
  split <;> exact ⟨SameEntries.refl s, rfl⟩

theorem State.routesAt_entries (s : State) (r t : Nat) : SameEntries s (s.routesAt r t) ∧ (s.routesAt r t).retireDue = s.retireDue := by
  unfold State.routesAt
  split <;> exact ⟨SameEntries.refl s, rfl⟩

/-! A report's entry. -/

/-- One entry with this code and subject, of the present tick, stands behind those there were; beside it only the retirements due
have changed, and where `retires` the pane `p` is due. -/
def Files (code subject : Nat) (retires : Prop) (p : Nat) (s t : State) : Prop :=
  (t.now = s.now ∧ t.panes = s.panes ∧ t.lintelReps = s.lintelReps) ∧
  (∃ e, t.ledger = s.ledger ++ [e] ∧ e.code = code ∧ e.subject = subject ∧ e.tick = s.shownTick) ∧
  (retires → ∃ y ∈ t.retireDue, y.1 = p)

/-- An entry alone retires nothing. -/
theorem State.ledgerAdd_files {s : State} (h : s.ledger.length < 1024) (c x a p : Nat) :
    Files c x False p s (s.ledgerAdd c x a) := by
  obtain ⟨hn, hp, hl, -⟩ := s.ledgerAdd_desk c x a
  exact ⟨⟨hn, hp, hl⟩, ⟨_, State.ledgerAdd_ledger c x a h, rfl, rfl, rfl⟩, False.elim⟩

theorem Files.trans_entries {c x p : Nat} {r : Prop} {s t u : State} (h : Files c x r p s t) (hu : SameEntries t u)
    (hr : r → ∃ y ∈ u.retireDue, y.1 = p) : Files c x r p s u := by
  obtain ⟨⟨hn, hp, hl⟩, ⟨e, he, hcode⟩, -⟩ := h
  obtain ⟨hn', hp', hl', he'⟩ := hu
  exact ⟨⟨hn'.trans hn, hp'.trans hp, hl'.trans hl⟩, ⟨e, he'.trans he, hcode⟩, hr⟩

theorem Files.not_retiring {c x p : Nat} {s t : State} {r : Prop} (h : Files c x False p s t) (hr : ¬ r) : Files c x r p s t :=
  ⟨h.1, h.2.1, fun hr' => absurd hr' hr⟩

/-- An entry, and the retirement of pane p. -/
theorem State.ledgerAdd_retireAt_files {s : State} (h : s.ledger.length < 1024) (c x a p c' t : Nat) :
    Files c x ((s.pane p).retired = false) p s ((s.ledgerAdd c x a).retireAt p c' t) := by
  obtain ⟨⟨hn, hp, hl⟩, hentry, -⟩ := State.ledgerAdd_files h c x a p
  have hpane : (s.ledgerAdd c x a).pane p = s.pane p := congrArg (fun m => SMap.get (fun _ => Pane.reset) m p) hp
  obtain ⟨hn', hp', hl', he'⟩ := (s.ledgerAdd c x a).retireAt_entries p c' t
  obtain ⟨e, he, hcode⟩ := hentry
  exact ⟨⟨hn'.trans hn, hp'.trans hp, hl'.trans hl⟩, ⟨e, he'.trans he, hcode⟩,
    fun hlive => State.mem_retireDue_retireAt c' t (hpane ▸ hlive)⟩

/-- What follows a retirement and keeps the retirements due. -/
theorem Files.then_keeps {c x p : Nat} {r : Prop} {s t u : State} (h : Files c x r p s t)
    (hu : SameEntries t u ∧ u.retireDue = t.retireDue) : Files c x r p s u :=
  h.trans_entries hu.1 (hu.2 ▸ h.2.2)

/-- Each report of R582 with its code, its subject and its retirement. -/
theorem State.reportAct_files {s : State} (h : s.ledger.length < 1024) {p n k b a t0 : Nat} {x : Report × Nat × Nat × Bool}
    (hx : x ∈ Claims.reports p n k b a) :
    Files x.2.1 x.2.2.1 (x.2.2.2 = true ∧ (s.pane p).retired = false) p s (s.reportAct x.1 t0).1 := by
  have hadd (c y z : Nat) : Files c y (false = true ∧ (s.pane p).retired = false) p s (s.ledgerAdd c y z) :=
    (State.ledgerAdd_files h c y z p).not_retiring (by simp)
  have hretire (c y z c' t : Nat) : Files c y (true = true ∧ (s.pane p).retired = false) p s ((s.ledgerAdd c y z).retireAt p c' t) := by
    simpa using State.ledgerAdd_retireAt_files h c y z p c' t
  simp only [Claims.reports, List.mem_cons, List.not_mem_nil, or_false] at hx
  rcases hx with rfl | rfl | rfl | rfl | rfl | rfl | rfl | rfl | rfl
  case inl =>
    simp only [State.reportAct]
    split
    · exact (hadd _ _ _).trans_entries (State.retireAt_entries _ _ _ _) (by simp)
    · exact hadd _ _ _
  case inr.inr.inl =>
    exact ((hretire _ _ _ _ _).then_keeps (State.declareDead_entries _ _)).then_keeps (State.routesAt_entries _ _ _)
  case inr.inr.inr.inl => exact (hretire _ _ _ _ _).then_keeps (State.routesAt_entries _ _ _)
  case inr.inl => exact hretire _ _ _ _ _
  case inr.inr.inr.inr.inl => exact hretire _ _ _ _ _
  all_goals exact hadd _ _ _

/-- The test of containment that follows an action leaves its entry in place. -/
theorem State.noted_of_files {c x p n m : Nat} {r : Prop} {s t u : State} (h : Files c x r p s t) (hu : Uncontained n t u) (hm : n ≤ m) :
    ∃ e post, u.ledger = s.ledger ++ e :: post ∧ e.code = c ∧ e.subject = x ∧ e.tick = s.shownTick ∧ post.length ≤ m ∧
      ∀ y ∈ post, y.code = 0x0310 := by
  obtain ⟨-, ⟨e, he, hcode, hsubject, htick⟩, -⟩ := h
  obtain ⟨-, post, hpost, hlen, hcodes⟩ := hu
  exact ⟨e, post, by rw [hpost, he]; simp, hcode, hsubject, htick, hlen.trans hm, hcodes⟩

theorem Files.ledger_length {c x p : Nat} {r : Prop} {s t : State} (h : Files c x r p s t) : t.ledger.length = s.ledger.length + 1 := by
  obtain ⟨-, ⟨e, he, -⟩, -⟩ := h
  rw [he, List.length_append, List.length_singleton]

theorem Uncontained.ledger_length_le {n : Nat} {s t : State} (h : Uncontained n s t) : t.ledger.length ≤ s.ledger.length + n := by
  obtain ⟨-, post, heq, hlen, -⟩ := h
  rw [heq, List.length_append]; omega

/-- A masked copy: its entry, and one more where it is a second copy fault of its branch (R585). -/
theorem State.maskedAct_uncontained {s : State} (bolt : Bool) (a : Nat) (h : (s.ledgerAdd 0x030E bolt.toNat a).ledger.length < 1024) :
    Uncontained 1 (s.ledgerAdd 0x030E bolt.toNat a) (s.maskedAct bolt a) := by
  unfold State.maskedAct
  dsimp only
  split
  · exact Uncontained.of_same (State.wr_desk _ _ _).1 rfl
  · split
    · exact State.notContained_uncontained _ _ h
    · exact Uncontained.of_same (SameDesk.refl _) rfl

/-- The state in which the lintel acts on the report it has taken from its queue. -/
def State.acting (s : State) (n : Nat) (rest : List TimedReport) : State := { s.at n with lintelReps := rest }

theorem execLedgerAction_report {s : State} {r : TimedReport} {rest : List TimedReport} (n : Nat) (h : s.lintelReps = r :: rest) :
    execLedgerAction none n s = .next (((s.acting n rest).reportAct r.rep r.at').1.contain ((s.acting n rest).reportAct r.rep r.at').2) := by
  have h' : (s.at n).lintelReps = r :: rest := h
  simp only [execLedgerAction, h', State.acting]

theorem ledgerActs : Claims.ledgerActs := by
  intro s p k a n r rest bolt hroom noted
  refine ⟨fun x hx hreps hrep => ?report, fun hnone => ?idle, ?masked⟩
  case report =>
    have hroom' : (s.acting n rest).ledger.length < 1022 := hroom
    have hfiles := State.reportAct_files (t0 := r.at') (Nat.lt_trans hroom' (by decide)) hx
    have hcontain := State.contain_uncontained ((s.acting n rest).reportAct x.1 r.at').2
      (show ((s.acting n rest).reportAct x.1 r.at').1.ledger.length < 1024 by rw [hfiles.ledger_length]; omega)
    have hnoted := State.noted_of_files hfiles hcontain one_le_two
    obtain ⟨⟨hnow, hpanes, hreps'⟩, -, hdue⟩ := hfiles
    obtain ⟨⟨hnow', hpanes', hreps'', hdue'⟩, -⟩ := hcontain
    refine ⟨_, ?_, hnow'.trans hnow, hreps''.trans hreps', hnoted, fun hretires hlive => hdue' ▸ hdue ⟨hretires, hlive⟩,
      hpanes'.trans hpanes⟩
    rw [exec_ledgerAction, execLedgerAction_report n hreps, hrep]
  case idle =>
    have hnone' : (s.at n).lintelReps = [] := hnone
    simp only [exec_ledgerAction, execLedgerAction, hnone']
    rfl
  case masked =>
    have hroom' : (s.at n).ledger.length < 1022 := hroom
    have hfiles := State.ledgerAdd_files (Nat.lt_trans hroom' (by decide)) 0x030E bolt.toNat a p
    have hmasked := State.maskedAct_uncontained bolt a (by rw [hfiles.ledger_length]; omega)
    have hboth := hmasked.trans (State.contain_uncontained 0x030E (by
      have := hmasked.ledger_length_le
      rw [hfiles.ledger_length] at this
      omega))
    have hnoted := State.noted_of_files hfiles hboth (le_refl _)
    obtain ⟨⟨hnow, hpanes, -⟩, -⟩ := hfiles
    obtain ⟨⟨hnow', hpanes', -, -⟩, -⟩ := hboth
    exact ⟨_, rfl, hnow'.trans hnow, hnoted, hpanes'.trans hpanes⟩

end Sys2Proof.Machine
end

section
/-!
PROOF. The latch counters, the hinges and the lintel's lockstep (R27, R36, R494, R583, R584, R586).
-/
namespace Sys2Proof.Machine

/-! The poll (R584). -/

/-- One pane's counters: what the poll reads of them is their sum. -/
theorem State.pollPane_seen (s : State) (t p : Nat) : (s.pollPane t p).now = s.now ∧ (s.pollPane t p).panes = s.panes ∧
    ∀ j, SMap.get (fun _ => 0) (s.pollPane t p).ceSeen j = if p = j then (s.pane p).ceTotal else SMap.get (fun _ => 0) s.ceSeen j := by
  have hset (j : Nat) := SMap.get_set (fun _ => 0) s.ceSeen p j (s.pane p).ceTotal
  unfold State.pollPane
  dsimp only
  generalize List.filter _ _ ++ _ = win
  split <;> exact ⟨rfl, rfl, hset⟩

/-- The poll over a list of panes. -/
theorem State.poll_seen (t : Nat) (l : List Nat) (s : State) :
    (l.foldl (fun s p => s.pollPane t p) s).now = s.now ∧ (l.foldl (fun s p => s.pollPane t p) s).panes = s.panes ∧
    ∀ j, SMap.get (fun _ => 0) (l.foldl (fun s p => s.pollPane t p) s).ceSeen j =
      if j ∈ l then (s.pane j).ceTotal else SMap.get (fun _ => 0) s.ceSeen j := by
  induction l generalizing s with
  | nil => exact ⟨rfl, rfl, fun j => by simp⟩
  | cons p r ih =>
    obtain ⟨hnow, hpanes, hseen⟩ := s.pollPane_seen t p
    obtain ⟨hnow', hpanes', hseen'⟩ := ih (s.pollPane t p)
    have hpane (j : Nat) : (s.pollPane t p).pane j = s.pane j := congrArg (fun m => SMap.get (fun _ => Pane.reset) m j) hpanes
    refine ⟨hnow'.trans hnow, hpanes'.trans hpanes, fun j => (hseen' j).trans ?_⟩
    rw [hpane, hseen]
    by_cases hr : j ∈ r
    · simp [hr]
    · by_cases hp : p = j
      · simp [hp]
      · simp [hr, hp, Ne.symm hp]

/-! Hinges (R583). -/

/-- Declaring hinge h dead marks it and no other. -/
theorem State.hingeDead_setBits (s : State) {h j : Nat} (hj : j < 32) :
    (s.setBits (Config.fault + 0xC) (1#32 <<< h)).hingeDead j = (s.hingeDead j || decide (h = j)) := by
  have hrd : (s.setBits (Config.fault + 0xC) (1#32 <<< h)).rd (Config.fault + 0xC) = s.rd (Config.fault + 0xC) ||| 1#32 <<< h :=
    (s.rd_wr _ _ _).trans (if_pos rfl)
  have hbit : (1#32 <<< h).getLsbD j = decide (h = j) := by
    rw [BitVec.getLsbD_shiftLeft, BitVec.getLsbD_one]
    grind
  rw [State.hingeDead, hrd, Word.bit, BitVec.getLsbD_or, hbit]
  rfl

theorem hingesAreWatched : Claims.hingesAreWatched := by
  intro s hinge answered n h missed
  have hlt : h < 32 := hinge.isLt
  refine ⟨?poll, ?heartbeat, fun hmissed hlive => ?dead, fun hstays => ?alive⟩
  case poll =>
    obtain ⟨hnow, hpanes, hseen⟩ := State.poll_seen n (SMap.keys s.panes) (s.at n)
    exact ⟨_, rfl, hnow, hpanes, fun p hp => (hseen p).trans (if_pos hp)⟩
  case heartbeat =>
    refine ⟨_, rfl, rfl, fun j => (SMap.get_set (fun _ => 0) s.missed h j _).trans ?_⟩
    simp only [eq_comm (a := h)]
    rfl
  case dead =>
    have hexec : execHingeDead hinge n s =
        .next (((s.at n).setBits (Config.fault + 0xC) (1#32 <<< h)).reportLintel (.hingeDead h)) := by
      have hgo : (decide (missed < 3) || s.hingeDead h) = false := by simp [hlive]; omega
      exact if_neg (Bool.eq_false_iff.mp hgo)
    have hbit (j : Nat) (hj : j < 32) := (s.at n).hingeDead_setBits (h := h) hj
    refine ⟨_, (exec_hingeDead _ _ _).trans hexec, (hbit h hlt).trans (by simp), rfl, rfl, fun j hj hj' => (hbit j hj').trans ?_⟩
    rw [decide_eq_false (Ne.symm hj), Bool.or_false]
    rfl
  case alive =>
    have hstop : (decide (missed < 3) || s.hingeDead h) = true := by simpa using hstays
    exact (exec_hingeDead _ _ _).trans (if_pos hstop)

/-! Lockstep (R27, R366, R494). -/

/-- A fault outside OFF and FAULTED drives DRIVE_KILL_N and ABORT_OUT_N low at once; FAULTED is due at the next boundary, or
takes effect where no generator runs (R366). -/
theorem State.fatal_faults {s : State} (c : Cause) (hon : s.part ≠ .off) (hok : s.part ≠ .faulted) :
    (s.fatal c).bolt.kill = true ∧ (s.fatal c).bolt.abortOut = true ∧
    (s.gen.on = true → (s.fatal c).part = s.part ∧ c ∈ (s.fatal c).causes) ∧
    (s.gen.on = false → (s.fatal c).part = .faulted) := by
  have hbolt : s.boltFault.bolt.kill = true ∧ s.boltFault.bolt.abortOut = true ∧ s.boltFault.part = s.part ∧
      s.boltFault.gen = s.gen := by
    unfold State.boltFault
    dsimp only
    split
    · exact ⟨rfl, rfl, rfl, rfl⟩
    · exact ⟨rfl, rfl, rfl, rfl⟩
  obtain ⟨hkill, habort, hpart, hgen⟩ := hbolt
  have hlive : (s.part == .off || s.part == .faulted) = false := by simp [hon, hok]
  unfold State.fatal
  rw [if_neg (Bool.eq_false_iff.mp hlive)]
  dsimp only
  cases hg : s.gen.on with
  | true =>
    have hg' : (s.boltFault.cause c).gen.on = true := (congrArg Gen.on hgen).trans hg
    rw [if_pos hg']
    exact ⟨hkill, habort, fun _ => ⟨hpart, State.mem_causes_cause _ c⟩, fun h => by simp at h⟩
  | false =>
    have hg' : (s.boltFault.cause c).gen.on = false := (congrArg Gen.on hgen).trans hg
    have hlog (t : State) (a k : Nat) (l : List Nat) : (t.logAt a k l).bolt = t.bolt := by
      unfold State.logAt; split <;> rfl
    rw [if_neg (Bool.eq_false_iff.mp hg')]
    exact ⟨(congrArg Bolt.kill (hlog _ _ _ _)).trans hkill, (congrArg Bolt.abortOut (hlog _ _ _ _)).trans habort,
      fun h => by simp at h, fun _ => rfl⟩

/-- The state in which a mismatch of the lockstep is a fault. -/
def State.mismatched (s : State) (n : Nat) : State := (s.at n).wrFld (Config.fault + 0x10) 0 16 0x0311

theorem lockstepFaults : Claims.lockstepFaults := by
  intro s n
  refine ⟨fun hon => ?fault, fun hoff => ?off⟩
  case fault =>
    have hexec : execLockstepMismatch n s = .next (let t := (s.mismatched n).fatal .lockstep
        { t with logs := { t.logs with stopped := true }, logq := [],
                 aon := { t.aon with lockEntry := some { code := 0x0311, subject := 0, arg := 0, tick := s.shownTick } } }) :=
      if_neg (by simpa using hon)
    obtain ⟨⟨-, hpanes, -⟩, -⟩ := (s.mismatched n).fatal_desk .lockstep
    exact ⟨_, (exec_lockstepMismatch _ _).trans hexec, rfl, rfl, rfl, hpanes,
      fun hok => State.fatal_faults (s := s.mismatched n) .lockstep hon hok⟩
  case off => exact (exec_lockstepMismatch _ _).trans (if_pos (by simp [hoff]))

/-- Settles O50: reports go by their hinges, the ledger takes their entries, the hinges are counted, and the lockstep faults. -/
theorem faultsAreRecorded : Obligations.FaultsAreRecorded := ⟨reportsReach, ledgerActs, hingesAreWatched, lockstepFaults⟩

end Sys2Proof.Machine
end

section
/-!
PROOF. A knock that acts before its boundary (R523, R526; log 25).
-/
set_option Elab.async false

namespace Sys2Proof.Machine

/-- Knocks decided one after the other keep what each keeps. -/
theorem decideKnock_foldl_decides (l : List PendKnock) (s : State) : Decides s (l.foldl (fun s x => s.decideKnock x) s) := by
  induction l generalizing s with
  | nil => exact Decides.refl s
  | cons x r ih => exact (s.decideKnock_decides x).trans (ih _)

/-- The state in which the knocks of kind k act early, with them out of the pending set. -/
def State.fore (s : State) (k : Knock) : State :=
  { s with tick := s.nextTick, inBnd := true, stamps := s.stamps.set 0 s.nextStamp,
           net := { s.net with knocks := s.net.knocks.filter (fun x => x.knock != k) } }

/-- The state after the knocks of kind k have acted early. -/
def State.foreDecided (s : State) (k : Knock) : State :=
  (s.net.knocks.filter (fun x => x.knock == k)).foldl (fun s x => s.decideKnock x) (s.fore k)

theorem State.foreDecided_decides (s : State) (k : Knock) : Decides (s.fore k) (s.foreDecided k) := decideKnock_foldl_decides _ _

theorem State.knockEarly_eq {s : State} {k : Knock} (h : Claims.coming s k) :
    s.knockEarly k = { (s.foreDecided k).showPending with tick := s.tick, inBnd := false, stamps := s.stamps } := by
  unfold State.knockEarly
  rw [State.knockComing_of_coming h, if_neg (by simp)]
  rfl

/-- What knocks that act early leave: they are out of the pending set, and the state, the tick number and the panes stand. -/
theorem State.knockEarly_keeps {s : State} {k : Knock} (h : Claims.coming s k) :
    (s.knockEarly k).net.knocks = s.net.knocks.filter (fun x => x.knock != k) ∧ (s.knockEarly k).tick = s.tick ∧
      (s.knockEarly k).part = s.part ∧ (s.knockEarly k).panes = s.panes := by
  obtain ⟨hpart, hpanes, hknocks, -⟩ := s.foreDecided_decides k
  rw [State.knockEarly_eq h]
  exact ⟨hknocks, rfl, hpart, hpanes⟩

/-- One MARK that is taken acts alone. -/
theorem State.foreDecided_mark {s : State} (htakes : s.part.takesMark = true)
    (hone : (s.net.knocks.filter (fun x => x.knock == .mark)).length = 1) : ∃ arg, s.foreDecided .mark = (s.fore .mark).mark arg := by
  obtain ⟨x, hx⟩ := List.length_eq_one_iff.mp hone
  have hknock : x.knock = .mark := by
    have hmem : x ∈ s.net.knocks.filter (fun x => x.knock == .mark) := hx ▸ List.mem_singleton_self x
    simpa using List.of_mem_filter hmem
  refine ⟨x.arg, ?_⟩
  rw [State.foreDecided, hx, List.foldl_cons, List.foldl_nil]
  exact State.decideKnock_mark htakes hknock

/-- A MARK counts, and notes the tick number (R526). -/
theorem State.mark_counts (s : State) (arg : DWord) :
    (s.mark arg).rd (Config.knock + 0x84) = s.rd (Config.knock + 0x84) + 1 ∧ (s.mark arg).net.markTick = s.nextTick := by
  have hlog (t : State) (l : List Nat) : SameTold t (t.logEv 0x0290 l) := t.logEv_told _ _
  exact ⟨((hlog _ _).rd _).trans ((s.rd_wr _ _ _).trans (if_pos rfl)), (hlog _ _).markTick⟩

/-- The tick number of the coming boundary is the same seen from within it. -/
theorem State.nextTick_fore (s : State) (k : Knock) : (s.fore k).nextTick = s.nextTick := by
  cases h : s.ticking with
  | false => simp [State.nextTick, h, show (s.fore k).ticking = false from h]
  | true =>
    have h' : (s.fore k).ticking = true := h
    simp only [State.nextTick, h', if_true]
    rfl

theorem State.knockEarly_mark {s : State} (h : Claims.coming s .mark) (htakes : s.part.takesMark = true)
    (hone : (s.net.knocks.filter (fun x => x.knock == .mark)).length = 1) :
    (s.knockEarly .mark).rd (Config.knock + 0x84) = s.rd (Config.knock + 0x84) + 1 ∧
      (s.knockEarly .mark).net.markTick = s.nextTick := by
  obtain ⟨arg, heq⟩ := State.foreDecided_mark htakes hone
  obtain ⟨hcount, htick⟩ := (s.fore .mark).mark_counts arg
  rw [State.knockEarly_eq h, heq]
  refine ⟨?_, htick.trans (s.nextTick_fore _)⟩
  exact ((State.rd_wr _ _ _ _).trans (if_neg (by decide))).trans hcount

/-- A knock of the list that its state takes as a cause is one after all of them. -/
theorem decideKnock_foldl_cause {k : Knock} (hk : k = .hold ∨ k = .resume ∨ k = .shutdown ∨ k = .abort) {l : List PendKnock}
    (hmem : ∃ x ∈ l, x.knock = k) {s : State} (htakes : ∀ t : State, t.part = s.part → t.takesKnock k = true) :
    Cause.knock k ∈ (l.foldl (fun s x => s.decideKnock x) s).causes := by
  obtain ⟨x, hx, rfl⟩ := hmem
  obtain ⟨l1, l2, rfl⟩ := List.append_of_mem hx
  obtain ⟨hpart, -, -, -⟩ := decideKnock_foldl_decides l1 s
  rw [List.foldl_append, List.foldl_cons]
  obtain ⟨-, -, -, hcauses⟩ := decideKnock_foldl_decides l2 ((l1.foldl (fun s x => s.decideKnock x) s).decideKnock x)
  refine hcauses ?_
  rw [State.decideKnock_cause (htakes _ hpart) hk]
  exact State.mem_causes_cause _ _

theorem State.knockEarly_abort {s : State} (h : Claims.coming s .abort) (hpart : s.part = .running ∨ s.part = .holding) :
    Cause.knock .abort ∈ (s.knockEarly .abort).causes := by
  obtain ⟨-, x, hx, hk, -⟩ := id h
  rw [State.knockEarly_eq h]
  refine decideKnock_foldl_cause (.inr (.inr (.inr rfl))) ⟨x, List.mem_filter.mpr ⟨hx, by simp [hk]⟩, hk⟩ fun t ht => ?_
  have ht' : t.part = s.part := ht
  simpa [State.takesKnock, ht'] using hpart

end Sys2Proof.Machine
end

section
/-!
PROOF. What every step of a boundary leaves as it is, in any state of the part, but the decision of the knocks and the change of
state (R56).
-/
set_option Elab.async false

namespace Sys2Proof.Machine

/-- The code of a refused START (R442), the dividers of the tick classes (R52), and KNOCK.CLASS, by which a knock is due (R523). -/
def onwardInputs : List Nat :=
  [Config.start + 0x44, Config.transom + 0xC, Config.transom + 0x10, Config.transom + 0x14, Config.knock]

/-- What they hold in a register file. -/
def onwardWords (m : RegFile) : List Word := onwardInputs.map (RegFile.rd devReset m)

/-- The state of the part, its tick number, its generator and its pending knocks stay, and no cause of a change is lost. -/
abbrev Onward (s t : State) : Prop :=
  t.part = s.part ∧ t.locked = s.locked ∧ t.tick = s.tick ∧ t.inBnd = s.inBnd ∧ t.readyBnd = s.readyBnd ∧ t.gen = s.gen ∧
    t.net.knocks = s.net.knocks ∧ s.causes ⊆ t.causes ∧ onwardWords t.reg = onwardWords s.reg

theorem Onward.refl (s : State) : Onward s s := ⟨rfl, rfl, rfl, rfl, rfl, rfl, rfl, List.Subset.refl _, rfl⟩

section
variable {s t u : State} (h : Onward s t)
include h

theorem Onward.part : t.part = s.part := h.1
theorem Onward.gen : t.gen = s.gen := h.2.2.2.2.2.1
theorem Onward.knocks : t.net.knocks = s.net.knocks := h.2.2.2.2.2.2.1
theorem Onward.causes : s.causes ⊆ t.causes := h.2.2.2.2.2.2.2.1
theorem Onward.rd {a : Nat} (ha : a ∈ onwardInputs) : t.rd a = s.rd a := List.map_inj_left.mp h.2.2.2.2.2.2.2.2 a ha

/-- A step that writes none of it. -/
theorem Onward.keep (hpart : u.part = t.part := by rfl) (hlock : u.locked = t.locked := by rfl) (htick : u.tick = t.tick := by rfl)
    (hin : u.inBnd = t.inBnd := by rfl) (hready : u.readyBnd = t.readyBnd := by rfl) (hgen : u.gen = t.gen := by rfl)
    (hknocks : u.net.knocks = t.net.knocks := by rfl) (hcauses : u.causes = t.causes := by rfl) (hreg : u.reg = t.reg := by rfl) :
    Onward s u := by
  obtain ⟨hp, hl, ht, hi, hr, hg, hk, hc, hw⟩ := h
  exact ⟨hpart.trans hp, hlock.trans hl, htick.trans ht, hin.trans hi, hready.trans hr, hgen.trans hg, hknocks.trans hk,
    hcauses ▸ hc, hreg ▸ hw⟩

theorem Onward.trans (h' : Onward t u) : Onward s u := by
  obtain ⟨hp, hl, ht, hi, hr, hg, hk, hc, hw⟩ := h
  obtain ⟨hp', hl', ht', hi', hr', hg', hk', hc', hw'⟩ := h'
  exact ⟨hp'.trans hp, hl'.trans hl, ht'.trans ht, hi'.trans hi, hr'.trans hr, hg'.trans hg, hk'.trans hk,
    List.Subset.trans hc hc', hw'.trans hw⟩

theorem Onward.foldl {α : Type} {f : State → α → State} (l : List α) (hf : ∀ u, Onward s u → ∀ x ∈ l, Onward s (f u x)) :
    Onward s (l.foldl f t) := by
  induction l generalizing t with
  | nil => exact h
  | cons x r ih => exact ih (hf t h x List.mem_cons_self) fun u hu y hy => hf u hu y (List.mem_cons_of_mem x hy)

theorem Onward.ite {c : Prop} [Decidable c] (h' : Onward s u) : Onward s (if c then t else u) := by
  split
  · exact h
  · exact h'

/-! Registers, events and panes. -/

theorem Onward.wr {a : Nat} (v : Word) (ha : a ∉ onwardInputs) : Onward s (t.wr a v) := by
  have hwords : onwardWords (t.wr a v).reg = onwardWords t.reg :=
    List.map_congr_left fun b hb => (RegFile.rd_wr devReset t.reg a b v).trans (if_neg fun heq : a = b => ha (heq ▸ hb))
  obtain ⟨hp, hl, ht, hi, hr, hg, hk, hc, hw⟩ := h
  exact ⟨hp, hl, ht, hi, hr, hg, hk, hc, hwords.trans hw⟩

theorem Onward.bump {a : Nat} (n k : Nat) (ha : a ∉ onwardInputs) : Onward s (t.bump a n k) := h.wr _ ha
theorem Onward.setBits {a : Nat} (m : Word) (ha : a ∉ onwardInputs) : Onward s (t.setBits a m) := h.wr _ ha
theorem Onward.clrBits {a : Nat} (m : Word) (ha : a ∉ onwardInputs) : Onward s (t.clrBits a m) := h.wr _ ha
theorem Onward.wrFld {a : Nat} (lo n v : Nat) (ha : a ∉ onwardInputs) : Onward s (t.wrFld a lo n v) := h.wr _ ha

theorem Onward.raise (m : BitVec 64) (src : Nat) (k : EventKind) (d : Nat) : Onward s (t.raise m src k d) := h.keep
theorem Onward.edge (m : BitVec 64) (src d : Nat) : Onward s (t.edge m src d) := h.keep
theorem Onward.paneEdge (p src : Nat) : Onward s (t.paneEdge p src) := h.keep
theorem Onward.report (r : Report) : Onward s (t.report r) := h.keep
theorem Onward.reportLintel (r : Report) : Onward s (t.reportLintel r) := h.keep
theorem Onward.setPane (p : Nat) (q : Pane) : Onward s (t.setPane p q) := h.keep
theorem Onward.modPane (p : Nat) (f : Pane → Pane) : Onward s (t.modPane p f) := h.keep
theorem Onward.setBent (e : Nat) (x : BoltEntry) : Onward s (t.setBent e x) := h.keep
theorem Onward.setSlot (d : Nat) (x : DriveSlot) : Onward s (t.setSlot d x) := h.keep
theorem Onward.setLane (l : Nat) (x : RxLane) : Onward s (t.setLane l x) := h.keep
theorem Onward.setMover (b m : Nat) (x : Mover) : Onward s (t.setMover b m x) := h.keep
theorem Onward.setDom (d : Nat) (x : Dom) : Onward s (t.setDom d x) := h.keep
theorem Onward.setBell (k : Nat) (x : Bell) : Onward s (t.setBell k x) := h.keep

theorem Onward.logAt (n c : Nat) (l : List Nat) : Onward s (t.logAt n c l) := by
  unfold State.logAt
  exact h.ite h.keep

theorem Onward.logEv (c : Nat) (l : List Nat) : Onward s (t.logEv c l) := h.logAt _ c l

end

/-- The addresses above the dividers are none of those registers, but for KNOCK.CLASS. -/
theorem not_mem_onwardInputs {a : Nat} (h : 0xF0004014 < a) (hknock : a ≠ 0xF0082000) : a ∉ onwardInputs := by
  simp only [onwardInputs, Config.start, Config.transom, Config.knock, List.mem_cons, List.not_mem_nil, or_false]
  omega

theorem bolt_not_mem_onwardInputs {o : Nat} (h : o < 0x7C000) : Config.bolt + o ∉ onwardInputs :=
  not_mem_onwardInputs (by simp only [Config.bolt]; omega) (by simp only [Config.bolt]; omega)
theorem pwr_not_mem_onwardInputs (o : Nat) : Config.pwr + o ∉ onwardInputs :=
  not_mem_onwardInputs (by simp only [Config.pwr]; omega) (by simp only [Config.pwr]; omega)
theorem fault_not_mem_onwardInputs (o : Nat) : Config.fault + o ∉ onwardInputs :=
  not_mem_onwardInputs (by simp only [Config.fault]; omega) (by simp only [Config.fault]; omega)
theorem cross_not_mem_onwardInputs (o : Nat) : Config.cross + o ∉ onwardInputs :=
  not_mem_onwardInputs (by simp only [Config.cross]; omega) (by simp only [Config.cross]; omega)
theorem board_not_mem_onwardInputs (o : Nat) : Config.board + o ∉ onwardInputs :=
  not_mem_onwardInputs (by simp only [Config.board]; omega) (by simp only [Config.board]; omega)
theorem wicket_not_mem_onwardInputs (k o : Nat) : Config.wicket k + o ∉ onwardInputs :=
  not_mem_onwardInputs (by simp only [Config.wicket]; omega) (by simp only [Config.wicket]; omega)
/-- The registers of a drive group and of a bell, whatever the number: their offsets are not that of KNOCK.CLASS. -/
theorem dop_not_mem_onwardInputs (g : Nat) {o : Nat} (h : 4 ≤ o ∧ o < 0x200) : Config.dop g + o ∉ onwardInputs :=
  not_mem_onwardInputs (by simp only [Config.dop]; omega) (by simp only [Config.dop]; omega)
theorem bell_not_mem_onwardInputs (k : Nat) {o : Nat} (h : 4 ≤ o ∧ o < 0x200) : Config.bell k + o ∉ onwardInputs :=
  not_mem_onwardInputs (by simp only [Config.bell]; omega) (by simp only [Config.bell]; omega)

end Sys2Proof.Machine
end

section
/-!
PROOF. From the close to the decision of the knocks (R56): nothing by which a knock is due changes, in any state of the part.
-/
set_option Elab.async false

namespace Sys2Proof.Machine

theorem laneReg_not_mem_onwardInputs (l : Nat) : laneReg l 8 ∉ onwardInputs :=
  not_mem_onwardInputs (by simp only [laneReg, Config.sip]; omega) (by simp only [laneReg, Config.sip]; omega)
theorem sip_not_mem_onwardInputs (g : Nat) : Config.sip g + 0x10 ∉ onwardInputs :=
  not_mem_onwardInputs (by simp only [Config.sip]; omega) (by simp only [Config.sip]; omega)
theorem lastReg_not_mem_onwardInputs (d : Nat) : lastReg d ∉ onwardInputs := by
  rw [lastReg, Nat.add_assoc]
  exact dop_not_mem_onwardInputs _ (by omega)

section
variable {s t : State} (h : Onward s t)
include h

/-! The log, the ledger and the ports. -/

theorem Onward.ledgerAdd (c x a : Nat) : Onward s (t.ledgerAdd c x a) := by
  have hkept (l : List LedgerEntry) : Onward s { t with ledger := l } := h.keep
  exact (((hkept _).bump _ _ (fault_not_mem_onwardInputs 0)).wr _ (fault_not_mem_onwardInputs 4)).logEv _ _

theorem Onward.announce : Onward s t.announce := by
  obtain ⟨n, o, w, heq, -⟩ := t.announce_eq_sent
  exact heq ▸ h.keep

/-! The bolt. -/

theorem Onward.latchTrip (c a : Nat) : Onward s (t.latchTrip c a) := by
  have hcount : Onward s (t.bump (Config.bolt + 0x20) 16 1) := h.bump _ _ (bolt_not_mem_onwardInputs (by decide))
  unfold State.latchTrip
  exact hcount.keep.ite h

theorem Onward.boltRun (e : Nat) (ks : List Nat) : Onward s (t.boltRun e ks) := by
  unfold State.boltRun
  cases ks with
  | nil => exact h.setBent _ _
  | cons k r => exact ((h.setBent _ _).latchTrip _ _).ite (h.setBent _ _)

theorem Onward.boltEval (e : Nat) (x : Int) (l : List Nat) : Onward s (t.boltEval e x l) := (h.setBent _ _).boltRun _ _

theorem Onward.boltWarn : Onward s t.boltWarn := by
  have hlive (b : Bolt) : Onward s { t with bolt := b } := h.keep
  unfold State.boltWarn
  dsimp only
  split
  · exact (hlive _).raise _ _ _ _
  · exact (hlive _).raise _ _ _ _
  · exact hlive _

theorem Onward.tapSample (i : Nat) (fr : List FifoEntry) : Onward s (t.tapSample i fr) := by
  have hcount : Onward s (t.bump (Config.bolt + 0x30) 16 1) := h.bump _ _ (bolt_not_mem_onwardInputs (by decide))
  unfold State.tapSample
  dsimp only
  split
  · exact h
  · exact (h.boltEval _ _ _).ite (hcount.boltEval _ _ _)

theorem Onward.tapTick (i : Nat) : Onward s (t.tapTick i) := by
  have hcount : Onward s (t.bump (Config.bolt + 0x34) 16 1) := h.bump _ _ (bolt_not_mem_onwardInputs (by decide))
  exact h.ite (((hcount.boltRun _ _).ite hcount).ite h |>.ite (h.foldl _ fun u hu f _ => hu.tapSample i f))

theorem Onward.boltTaps : Onward s t.boltTaps := (h.foldl _ fun _ hu i _ => hu.tapTick i).boltWarn

/-! The frames that leave (R350). -/

theorem Onward.underrun (d : Nat) : Onward s (t.underrun d) := by
  have hbits : Config.dop (d / 64) + 8 + 4 * (d % 64 / 32) ∉ onwardInputs := by
    rw [Nat.add_assoc]; exact dop_not_mem_onwardInputs _ (by omega)
  have hset := (h.setBits (1#32 <<< (d % 64 % 32)) hbits).bump 16 1 (dop_not_mem_onwardInputs (d / 64) (o := 0x18) (by decide))
  exact (hset.raise _ _ _ _).ite hset

theorem Onward.drivePoison (d : Nat) : Onward s (t.drivePoison d) := by
  have hbits : Config.dop (d / 64) + 0x10 + 4 * (d % 64 / 32) ∉ onwardInputs := by
    rw [Nat.add_assoc]; exact dop_not_mem_onwardInputs _ (by omega)
  exact (h.setBits _ hbits).bump _ _ (dop_not_mem_onwardInputs _ (by decide))

theorem Onward.sendBad (d : Nat) : Onward s (t.sendBad d) := ((h.drivePoison d).boltEval _ _ _).boltWarn.ite (h.drivePoison d)

theorem Onward.sendSlot (missing bad : List Nat) (d : Nat) : Onward s (t.sendSlot missing bad d) := by
  unfold State.sendSlot
  dsimp only
  split
  · exact h.underrun d
  · have hslot (x : DriveSlot) := h.setSlot d x
    exact ((hslot _).underrun d).ite (((hslot _).sendBad d).ite ((hslot _).wr _ (lastReg_not_mem_onwardInputs d)))

theorem Onward.afterFrame : Onward s t.afterFrame := h.ite h.keep

theorem Onward.sendFrame (g : Nat) (missing bad : List Nat) : Onward s (t.sendFrame g missing bad) := by
  have hslots := h.foldl ((List.range 64).filter (fun k => t.slotSent (64 * g + k)))
    (f := fun s k => s.sendSlot missing bad (64 * g + k)) fun u hu k _ => hu.sendSlot missing bad _
  exact Onward.afterFrame hslots.keep

/-! The close (R371, R411, R547). -/

theorem Onward.losePart (q : Nat) : Onward s (t.losePart q) :=
  h.ite (((h.clrBits _ (board_not_mem_onwardInputs 4)).setBits _ (board_not_mem_onwardInputs 4)).reportLintel _)

theorem Onward.lateToken (q : Nat) : Onward s (t.lateToken q) := by
  have hlate (l : List Nat) (m : SMap Nat) : Onward s { t with lateNow := l, tokenLate := m } := h.keep
  have hcount (l : List Nat) (m : SMap Nat) :=
    ((hlate l m).bump 16 1 (board_not_mem_onwardInputs 0x10)).logEv 0x7F04 [q]
  exact h.ite (((hcount _ _).losePart q).ite (hcount _ _))

theorem Onward.mvJudge (b m : Nat) : Onward s (t.mvJudge b m) :=
  h.foldl _ fun _ hu _ _ => ((hu.setMover _ _ _).modPane _ _).ite hu

theorem Onward.closeStep : Onward s t.closeStep := by
  have hframes : Onward s t.releaseFrames := h.foldl _ fun _ hu g _ => hu.sendFrame g [] []
  have htokens := hframes.foldl (List.range t.parts) (f := fun s q => s.lateToken q) fun _ hu q _ => hu.lateToken q
  have hmovers := htokens.foldl (List.range 32) (f := fun s k => s.mvJudge (k / 4) (k % 4)) fun _ hu k _ => hu.mvJudge _ _
  have hlast (u : State) (hu : Onward s u) (l : SMap RxLane) : Onward s (State.sampleGpio { u with lanes := l }) := hu.keep
  exact hlast _ hmovers.boltTaps _

theorem Onward.ceilings : Onward s t.ceilings := by
  refine h.foldl _ fun u hu k _ => ?_
  have hrail : Config.pwr + 0x400 + 4 * k ∉ onwardInputs := by
    rw [Nat.add_assoc]; exact pwr_not_mem_onwardInputs _
  exact (hu.wrFld _ _ _ hrail).ite hu

theorem Onward.firstBoundary : Onward s t.firstBoundary := by
  have hbolt (b : Bolt) : Onward s { t with bolt := b } := h.keep
  have hopen : Onward s t.boltOpen.ceilings := (hbolt _).ceilings
  have hkey (u : State) (hu : Onward s u) (n : NetState) (x : Nat) (l : LogStore) (hn : n.knocks = s.net.knocks) :
      Onward s { u with net := n, free := x, logs := l } := hu.keep (hknocks := hn.trans hu.knocks.symm)
  unfold State.firstBoundary
  refine Onward.ite ?_ h
  refine Onward.announce ?_
  exact hkey _ hopen _ _ _ h.knocks

/-! Routes, links and crossings (R125, R551, R637). -/

theorem Onward.markDead (r : Nat) : Onward s (t.markDead r) := by
  refine h.foldl _ fun u hu n _ => ?_
  split
  · exact hu.modPane _ _
  · exact hu

theorem Onward.assignRelays : Onward s t.assignRelays := by
  have hclear (l : List Nat) := h.foldl l (f := fun s p => if ((s.pane p).cr 0x844).bit 4 then
    s.modPane p (fun q => q.setCr 0x844 ((q.cr 0x844).withBit 4 false)) else s) fun _ hu _ _ => (hu.modPane _ _).ite hu
  have hmark (l : List Nat) (m : SMap Nat) := (hclear l).foldl m (f := fun (s : State) (r : Nat × Nat) =>
    s.modPane r.1 (fun q => q.setCr 0x844 (q.cr 0x844 ||| 0x10#32))) fun _ hu _ _ => hu.modPane _ _
  have hlost (l : List Nat) (m n : SMap Nat) := (hmark l m).foldl n (f := fun (s : State) (c : Nat × Nat) =>
    if c.2 = 1024 ∧ SMap.at? s.relays c.1 ≠ some 1024 then s.ledgerAdd 0x030B (s.keyChannel c.1).1 (s.keyChannel c.1).2 else s)
    fun _ hu _ _ => (hu.ledgerAdd _ _ _).ite hu
  have hrelays (u : State) (hu : Onward s u) (m : SMap Nat) : Onward s { u with relays := m } := hu.keep
  exact hrelays _ (hlost _ _ _) _

theorem Onward.installRoutes (c : Nat) : Onward s (t.installRoutes c) := by
  have hdue (l : List (Nat × Nat)) (r : List Nat) : Onward s { t with routesDue := l, routedAround := r } := h.keep
  exact h.ite ((hdue _ _).foldl _ fun _ hu x _ => hu.markDead x.1).assignRelays

theorem Onward.restoreLink (c k : Nat) : Onward s (t.restoreLink c k) :=
  (h.wrFld _ _ _ (wicket_not_mem_onwardInputs k 4)).ite h

theorem Onward.watermark (l old peak : Nat) : Onward s (t.watermark l old peak) := by
  have hlane (x : RxLane) := h.setLane l x
  have hnotice (x : RxLane) (m w : Word) :=
    ((hlane x).setBits m (sip_not_mem_onwardInputs (l / 8))).wr w (laneReg_not_mem_onwardInputs l)
  exact (hlane _).ite (((hnotice _ _ _).raise _ _ _ _).ite (hnotice _ _ _))

theorem Onward.dropFifos (c : Nat) : Onward s (t.dropFifos c false) := by
  have hslots := h.foldl (List.range 8) (f := fun s k => s.setSlot (8 * (c - 64) + k) { s.slot (8 * (c - 64) + k) with fifo := [] })
    fun _ hu _ _ => hu.setSlot _ _
  exact ((h.setLane _ _).watermark _ _ _).ite (hslots.ite (h.keep.ite h))

theorem Onward.rearm (c : Nat) : Onward s (t.rearm c) := by
  have hcross : Config.cross + 0x100 + 4 * c ∉ onwardInputs := by rw [Nat.add_assoc]; exact cross_not_mem_onwardInputs _
  have hclear := ((h.clrBits 15#32 hcross).bump 16 1 (cross_not_mem_onwardInputs 0x24)).dropFifos c
  have hrep (m : SMap Nat) : Onward s { ((t.clrBits (Config.cross + 0x100 + 4 * c) 15#32).bump (Config.cross + 0x24) 16 1).dropFifos
    c false with severRep := m } := hclear.keep
  have hlane (m : SMap Nat) (x : RxLane) := Onward.ite (c := c < 64) ((hrep m).setLane c x) (hrep m)
  exact ((hlane _ _).raise _ _ _ _).ite (hlane _ _)

theorem Onward.rearmAll (c : Nat) : Onward s (t.rearmAll c) := h.foldl _ fun _ hu k _ => hu.rearm k

end
end Sys2Proof.Machine
end

section
/-!
PROOF. The retirements of a boundary (R128, R131, R312, R484, R585): nothing by which a knock is due changes.
-/
set_option Elab.async false

namespace Sys2Proof.Machine

section
variable {s t : State} (h : Onward s t)
include h

/-! What leaves with a retired pane. -/

theorem Onward.mapEntriesTo (p : Nat) (f : Word → Word) : Onward s (t.mapEntriesTo p f) :=
  h.foldl _ fun _ hu n _ => hu.setPane n _

theorem Onward.bellWaits (k : Nat) : Onward s (t.bellWaits k) :=
  h.foldl _ fun _ hu _ _ => ((hu.setBell _ _).bump _ _ (bell_not_mem_onwardInputs k (by decide))).ite hu

theorem Onward.bellRetire (p : Nat) : Onward s (t.bellRetire p) := by
  have hleft (l : List Nat) (args : Nat → List Nat) := h.foldl l
    (f := fun s x => (s.bump (Config.bell (sashOf p) + 0xE0) 16 1).logEv 0x7F01 (args x))
    fun _ hu _ _ => (hu.bump _ _ (bell_not_mem_onwardInputs _ (by decide))).logEv _ _
  have hmask (u : State) (hu : Onward s u) {j : Nat} (hj : j ∈ List.range 8) (w : Word) :
      Onward s (u.clrBits (Config.bell (sashOf p) + 8 * j + 4) w) := by
    have hlt := List.mem_range.mp hj
    rw [Nat.add_assoc]
    exact hu.clrBits w (bell_not_mem_onwardInputs _ (by omega))
  refine Onward.bellWaits (Onward.modPane (Onward.foldl ?_ _ fun u hu j hj => ?_) _ _) _
  · exact hleft _ _
  · exact ((hmask u hu hj _).logEv _ _).ite (hmask u hu hj _)

theorem Onward.moveRoots (p : Nat) : Onward s (t.moveRoots p) := by
  refine h.foldl _ fun u hu g hg => ?_
  have hroot : Config.transom + 0x100 + 4 * g ∉ onwardInputs := by
    have hlt := List.mem_range.mp hg
    exact not_mem_onwardInputs (by simp only [Config.transom]; omega) (by simp only [Config.transom]; omega)
  have hheld (l : List Nat) : Onward s { u with redHeld := l } := hu.keep
  exact Onward.ite ((hheld _).ite (((hheld _).wr _ hroot).ledgerAdd _ _ _)) hu

theorem Onward.dropRequests (p : Nat) : Onward s (t.dropRequests p) := by
  unfold State.dropRequests
  dsimp only
  split
  · exact h
  · have hkept (l : List KhReq) : Onward s (t.setKeyhole (bayOf p) l) := h.keep
    exact (hkept _).foldl _ fun _ hu _ _ => hu.logEv _ _

theorem Onward.beginTakeover (p prim : Nat) : Onward s (t.beginTakeover p prim) := by
  unfold State.beginTakeover
  split
  · have htaken (u : State) (hu : Onward s u) (l : List Takeover) : Onward s { u with takeovers := l } := hu.keep
    exact ((htaken _ (h.ite (h.setDom _ _)) _).ledgerAdd _ _ _).edge _ _ _
  · exact h

/-! A fault that is not contained is a cause, while the generator runs (R585). -/

theorem Onward.cause (c : Cause) : Onward s (t.cause c) := by
  obtain ⟨hp, hl, ht, hi, hr, hg, hk, hc, hw⟩ := h
  exact ⟨hp, hl, ht, hi, hr, hg, hk, List.Subset.trans hc (List.subset_append_left _ _), hw⟩

theorem Onward.beginAction (m : BoltMode) (c : Option Nat) : Onward s (t.beginAction m c) := h.keep

theorem Onward.boltFault : Onward s t.boltFault := by
  have hkill (b : Bolt) : Onward s { t with bolt := b } := h.keep
  exact (hkill _).ite ((hkill _).beginAction _ _)

theorem Onward.fatal (hon : s.gen.on = true) (c : Cause) : Onward s (t.fatal c) := by
  have hcause := h.boltFault.cause c
  have hon' : (t.boltFault.cause c).gen.on = true := (congrArg Gen.on hcause.gen).trans hon
  unfold State.fatal
  refine h.ite ?_
  rw [if_pos hon']
  exact hcause

theorem Onward.notContained (hon : s.gen.on = true) (code arg : Nat) : Onward s (t.notContained code arg) :=
  h.ite (((h.wrFld _ _ _ (fault_not_mem_onwardInputs 0x10)).ledgerAdd _ _ _).fatal hon _)

theorem Onward.contain (hon : s.gen.on = true) (code : Nat) : Onward s (t.contain code) := by
  unfold State.contain
  split
  · exact h.notContained hon _ _
  · split
    · exact h.notContained hon _ _
    · exact h

theorem Onward.retireNow (hon : s.gen.on = true) (p code : Nat) : Onward s (t.retireNow p code) := by
  have hdue (l : List (Nat × Nat × Nat)) : Onward s { t with retireDue := l } := h.keep
  have hmark : Config.fault + 0x20 + 4 * (p / 32) ∉ onwardInputs := by rw [Nat.add_assoc]; exact fault_not_mem_onwardInputs _
  have hgone (u : State) (hu : Onward s u) (f : Pane → Pane) (w : Word) :=
    ((((((((hu.modPane p f).mapEntriesTo p (fun w => w.withBit 22 true)).bump 11 1 (fault_not_mem_onwardInputs 8)).setBits w
      hmark).ledgerAdd 0x0303 p code).bellRetire p).moveRoots p).dropRequests p)
  unfold State.retireNow
  refine (hdue _).ite (Onward.contain (Onward.ite (Onward.beginTakeover ?_ _ _) ?_) hon _)
  · exact hgone _ (hdue _) _ _
  · exact hgone _ (hdue _) _ _

theorem Onward.retirements (hon : s.gen.on = true) (c : Nat) : Onward s (t.retirements c) :=
  h.foldl _ fun _ hu _ _ => hu.retireNow hon _ _

theorem Onward.gatherStep (hon : s.gen.on = true) (b : Bnd) : Onward s (t.gatherStep b) := by
  have hreports : Onward s t.gatherReports := h.keep
  have hretired := (hreports.installRoutes b.close).retirements hon b.close
  exact (hretired.foldl _ fun _ hu k _ => hu.restoreLink b.close k).rearmAll _

end

/-! The knocks due are the same after them (R52, R54, R523). -/

theorem Onward.mult {s t : State} (h : Onward s t) {k : Nat} (hk : k ≤ 3) : t.mult k = s.mult k := by
  induction k with
  | zero => rfl
  | succ k ih =>
    have hin : Config.transom + 8 + 4 * (k + 1) ∈ onwardInputs := by
      have hk' : k = 0 ∨ k = 1 ∨ k = 2 := by omega
      rcases hk' with rfl | rfl | rfl <;> decide
    rw [State.mult, State.mult, ih (by omega), State.divider, State.divider, h.rd hin]

theorem Onward.bndNo {s t : State} (h : Onward s t) : t.bndNo = s.bndNo := by
  obtain ⟨hp, hl, ht, hi, hr, -⟩ := h
  unfold State.bndNo State.nextTick State.ticking
  rw [hp, hl, ht, hi, hr]

theorem Onward.knockDue {s t : State} (h : Onward s t) (x : PendKnock) : t.knockDue x = s.knockDue x := by
  have hin : Config.knock ∈ onwardInputs := by decide
  have hclass : t.knockClass x.knock.num = s.knockClass x.knock.num := by rw [State.knockClass, h.rd hin, State.knockClass]
  unfold State.knockDue
  rw [h.bndNo, hclass, h.mult (s.knockClass_le _)]

/-- The state in which the knocks of the coming boundary are decided (R56). -/
def State.gathered (s : State) : State := s.stamped.firstBoundary.closeStep.gatherStep s.begun.bnd

theorem State.gathered_onward {s : State} (hon : s.gen.on = true) : Onward s.stamped s.gathered :=
  (Onward.refl s.stamped).firstBoundary.closeStep.gatherStep hon _

theorem State.nextTick_stamped (s : State) : s.stamped.nextTick = s.nextTick := by
  cases h : s.ticking with
  | false => simp [State.nextTick, h, show s.stamped.ticking = false from h]
  | true =>
    have h' : s.stamped.ticking = true := h
    rw [State.nextTick, if_pos h']
    rfl

/-- A knock due at the coming boundary is due where it is decided. -/
theorem State.knockDue_gathered {s : State} (hon : s.gen.on = true) (x : PendKnock) : s.gathered.knockDue x = s.knockDue x := by
  have hbnd : s.stamped.bndNo = s.bndNo := by
    rw [State.bndNo, State.bndNo, s.nextTick_stamped]
    rfl
  have hclass : s.stamped.knockClass x.knock.num = s.knockClass x.knock.num := rfl
  rw [(State.gathered_onward hon).knockDue x]
  unfold State.knockDue
  rw [hbnd, hclass, State.mult_of_reg (show s.stamped.reg = s.reg from rfl)]

end Sys2Proof.Machine
end

section
/-!
PROOF. The knocks of the coming boundary are decided where it has gathered (R36, R441, R442, R523).
-/
set_option Elab.async false

namespace Sys2Proof.Machine

/-! The code of a refused START (R441, R442, R548). -/

/-- A START has been refused: STATUS has its code, with bit 31. -/
def State.startRefused (s : State) : Prop := (s.rd (Config.start + 0x44)).bit 31 = true

theorem State.startCode_le {s : State} {c : Nat} (h : s.startCode = some c) : c ≤ 6 := by
  unfold State.startCode at h
  repeat' split at h
  all_goals simp at h <;> omega

theorem State.startRefusal_le {s : State} {c : Nat} (h : s.startRefusal = some c) : c ≤ 6 := by
  unfold State.startRefusal at h
  split at h
  · exact State.startCode_le h
  · split at h
    · next i hi =>
      have hlt : i < 5 := List.mem_range.mp (List.mem_of_find?_eq_some hi)
      have hc : i + 1 = c := Option.some.inj h
      omega
    · split at h
      · exact (Option.some.inj h).symm.le
      · exact absurd h (by simp)

theorem bit31_of_code {c : Nat} (h : c ≤ 6) : Word.bit (BitVec.ofNat 32 (c + 2 ^ 31)) 31 = true := by
  interval_cases c <;> decide

theorem State.refuseStart_startRefused (s : State) (x : PendKnock) {c : Nat} (reason : Nat) (h : c ≤ 6) :
    (s.refuseStart x c reason).startRefused := by
  rw [State.startRefused, State.rd_refuseStart]
  exact bit31_of_code h

theorem State.latchTrip_rd_start (s : State) (c a : Nat) : (s.latchTrip c a).rd (Config.start + 0x44) = s.rd (Config.start + 0x44) :=
  ((Onward.refl s).latchTrip c a).rd (by decide)

/-- Every other knock leaves that code. -/
theorem State.decideKnock_rd_start {s : State} {x : PendKnock} (hk : x.knock ≠ .start) :
    (s.decideKnock x).rd (Config.start + 0x44) = s.rd (Config.start + 0x44) := by
  have hrefuse (k : Knock) : (s.refuse k x.path x.reply 5 0).rd (Config.start + 0x44) = s.rd (Config.start + 0x44) :=
    State.rd_refuse_of_lt (by decide) _ _ _ _ _ _
  have hmark : (s.mark x.arg).rd (Config.start + 0x44) = s.rd (Config.start + 0x44) :=
    ((State.logEv_told _ _ _).rd _).trans ((s.rd_wr _ _ _).trans (if_neg (by decide)))
  have hreport : s.reportKnock.rd (Config.start + 0x44) = s.rd (Config.start + 0x44) :=
    (s.announce_told.trans (State.logEv_told _ _ _)).rd _
  unfold State.decideKnock
  cases hx : x.knock with
  | start => exact absurd hx hk
  | hold | resume | shutdown =>
    dsimp only
    split
    · rfl
    · exact hrefuse _
  | abort =>
    dsimp only
    split
    · exact s.latchTrip_rd_start _ _
    · exact hrefuse _
  | mark =>
    dsimp only
    split
    · exact hmark
    · exact hrefuse _
  | report =>
    dsimp only
    split
    · exact hreport
    · exact hrefuse _

/-- In READY a START is the cause of RUNNING or refused. -/
def State.startTold (s : State) : Prop := Cause.knock .start ∈ s.causes ∨ s.startRefused

theorem State.decideKnock_startTold {s : State} (hready : s.part = .ready) {x : PendKnock} (h : x.knock = .start ∨ s.startTold) :
    (s.decideKnock x).startTold := by
  obtain ⟨-, -, -, hcauses⟩ := s.decideKnock_decides x
  have htakes : s.takesKnock .start = true := by simp [State.takesKnock, hready]
  by_cases hk : x.knock = .start
  · cases hc : s.startRefusal with
    | none => exact .inl (State.decideKnock_start_cause htakes hk hc ▸ State.mem_causes_cause _ _)
    | some c => exact .inr (State.decideKnock_start_code htakes hk hc ▸ s.refuseStart_startRefused x 6 (State.startRefusal_le hc))
  · rcases h.resolve_left hk with hmem | hcode
    · exact .inl (hcauses hmem)
    · exact .inr ((congrArg (fun w => Word.bit w 31) (State.decideKnock_rd_start hk)).trans hcode)

theorem decideKnock_foldl_startTold {l : List PendKnock} {s : State} (hready : s.part = .ready)
    (h : (∃ x ∈ l, x.knock = .start) ∨ s.startTold) : (l.foldl (fun s x => s.decideKnock x) s).startTold := by
  induction l generalizing s with
  | nil => exact h.resolve_left (by simp)
  | cons x r ih =>
    obtain ⟨hpart, -⟩ := s.decideKnock_decides x
    refine ih (hpart.trans hready) ?_
    rcases h with ⟨y, hy, hk⟩ | htold
    · rcases List.mem_cons.mp hy with rfl | hr
      · exact .inr (State.decideKnock_startTold hready (.inl hk))
      · exact .inl ⟨y, hr, hk⟩
    · exact .inr (State.decideKnock_startTold hready (.inr htold))

/-! The knocks that are due, decided. -/

/-- The knocks due where the boundary has gathered, and that state without them. -/
def State.dueKnocks (s : State) : List PendKnock := s.gathered.net.knocks.filter s.gathered.knockDue
def State.undecided (s : State) : State :=
  { s.gathered with net := { s.gathered.net with knocks := s.gathered.net.knocks.filter (fun x => !s.gathered.knockDue x) } }

/-- The state once they are decided. -/
def State.decided (s : State) : State := s.gathered.decideKnocks

theorem State.decided_onward (s : State) : Onward (s.dueKnocks.foldl (fun s x => s.decideKnock x) s.undecided) s.decided :=
  (Onward.refl _).wr _ (by decide)

theorem State.undecided_part {s : State} (hon : s.gen.on = true) : s.undecided.part = s.part := (State.gathered_onward hon).part

theorem State.decided_part {s : State} (hon : s.gen.on = true) : s.decided.part = s.part := by
  obtain ⟨hpart, -⟩ := decideKnock_foldl_decides s.dueKnocks s.undecided
  exact hpart.trans (State.undecided_part hon)

/-- A knock that is coming is among them. -/
theorem State.mem_dueKnocks_of_coming {s : State} {k : Knock} (h : Claims.coming s k) : ∃ x ∈ s.dueKnocks, x.knock = k := by
  obtain ⟨hon, x, hx, hk, hdue⟩ := h
  have hmem : x ∈ s.gathered.net.knocks := (State.gathered_onward hon).knocks ▸ hx
  exact ⟨x, List.mem_filter.mpr ⟨hmem, (State.knockDue_gathered hon x).trans hdue⟩, hk⟩

/-- A knock other than START that the state takes is a cause. -/
theorem State.decided_cause {s : State} {k : Knock} (h : Claims.coming s k)
    (hk : k = .hold ∨ k = .resume ∨ k = .shutdown ∨ k = .abort) (htakes : ∀ t : State, t.part = s.part → t.takesKnock k = true) :
    Cause.knock k ∈ s.decided.causes := by
  obtain ⟨hon, -⟩ := id h
  exact s.decided_onward.causes (decideKnock_foldl_cause hk (State.mem_dueKnocks_of_coming h)
    fun t ht => htakes t (ht.trans (State.undecided_part hon)))

theorem Onward.startTold {s t : State} (h : Onward s t) (hs : s.startTold) : t.startTold := by
  rcases hs with hmem | hcode
  · exact .inl (h.causes hmem)
  · exact .inr ((congrArg (fun w => Word.bit w 31) (h.rd (by decide))).trans hcode)

/-- A START in READY is a cause or refused. -/
theorem State.decided_start {s : State} (h : Claims.coming s .start) (hready : s.part = .ready) : s.decided.startTold := by
  obtain ⟨hon, -⟩ := id h
  exact s.decided_onward.startTold (decideKnock_foldl_startTold ((State.undecided_part hon).trans hready)
    (.inl (State.mem_dueKnocks_of_coming h)))

end Sys2Proof.Machine
end

section
/-!
PROOF. From the decision of the knocks to the commit (R56, R345, R371, R617): the state and the causes of a change stand, in any state
of the part.
-/
set_option Elab.async false

namespace Sys2Proof.Machine

theorem bay_not_mem_onwardInputs (b : Nat) {o : Nat} (h : 0 < o ∧ o < 0x1000) : Config.bay b + o ∉ onwardInputs :=
  not_mem_onwardInputs (by simp only [Config.bay]; omega) (by simp only [Config.bay]; omega)
theorem redReg_not_mem_onwardInputs (d : Nat) : redReg d ∉ onwardInputs :=
  not_mem_onwardInputs (by simp only [redReg, Config.bolt]; omega) (by simp only [redReg, Config.bolt]; omega)
theorem resReg_not_mem_onwardInputs (d : Nat) : Config.bolt + 0x101C + 32 * d ∉ onwardInputs :=
  not_mem_onwardInputs (by simp only [Config.bolt]; omega) (by simp only [Config.bolt]; omega)

section
variable {s t : State} (h : Onward s t)
include h

/-! Trips (R364 to R367). -/

theorem Onward.noteTrip (c a : Nat) : Onward s (t.noteTrip c a) := by
  have hlatch : Config.bolt + 0xC ∉ onwardInputs := by decide
  have htick (b : Bolt) : Onward s { t with bolt := b } := h.keep
  exact ((htick _).wr _ hlatch).ite ((h.wr _ hlatch).ite h)

theorem Onward.takeTrips : Onward s t.takeTrips := by
  have hcauses (l : List Cause) (b : Bolt) : Onward s { t with bolt := b, causes := t.causes ++ l } := by
    obtain ⟨hp, hl, ht, hi, hr, hg, hk, hc, hw⟩ := h
    exact ⟨hp, hl, ht, hi, hr, hg, hk, List.Subset.trans hc (List.subset_append_left _ _), hw⟩
  have hlogged (l : List Cause) (b : Bolt) (ts : List (Nat × Nat)) := ((hcauses l b).foldl ts
    (f := fun s t => s.logEv (0x0400 + (BoltMode.ofAction t.2).actionCode) [t.1]) fun _ hu _ _ => hu.logEv _ _)
  unfold State.takeTrips
  refine h.ite ?_
  exact (((hlogged _ _ _).noteTrip _ _).beginAction _ _).ite ((hlogged _ _ _).noteTrip _ _)

theorem Onward.sendTokens (b : Bnd) : Onward s (t.sendTokens b) := h.ite h.keep

theorem Onward.abortPolicies (l : List Nat) : Onward s (t.abortPolicies l) := h.foldl l fun _ hu _ _ => (hu.latchTrip _ _).ite hu

/-! The drive check (R345, R359, R371, R382). -/

theorem Onward.mismatch (d : Nat) : Onward s (t.mismatch d) := h.edge _ _ _

theorem Onward.makeSuspect (d bad : Nat) : Onward s (t.makeSuspect d bad) :=
  (h.setBits _ (redReg_not_mem_onwardInputs d)).reportLintel _

theorem Onward.soleOn (d keep : Nat) : Onward s (t.soleOn d keep) := (h.wr _ (redReg_not_mem_onwardInputs d)).ite h

theorem Onward.unSole (came : Nat → Bool) (d : Nat) : Onward s (t.unSole came d) :=
  (h.clrBits _ (redReg_not_mem_onwardInputs d)).ite h

theorem Onward.resolveDiffer (d : Nat) (a b : Nat × Word) : Onward s (t.resolveDiffer d a b).1 := by
  have hcount := (h.bump 16 1 (bolt_not_mem_onwardInputs (o := 0x28) (by decide))).mismatch d
  unfold State.resolveDiffer
  dsimp only
  split
  · exact (hcount.makeSuspect d _).soleOn d _
  · exact hcount.latchTrip _ _

theorem Onward.resolveThree (d : Nat) (a b c : Nat × Word) : Onward s (t.resolveThree d a b c).1 := by
  have hdissent (bad : Nat) := ((h.bump 16 1 (bolt_not_mem_onwardInputs (o := 0x2C) (by decide))).mismatch d).makeSuspect d bad
  unfold State.resolveThree
  dsimp only
  split
  · split
    · exact h
    · exact hdissent _
  · split
    · exact hdissent _
    · split
      · exact hdissent _
      · exact h.latchTrip _ _

theorem Onward.resolve (came ok : Nat → Bool) (d : Nat) : Onward s (t.resolve came ok d).1 := by
  have hcount := h.bump 16 1 (bolt_not_mem_onwardInputs (o := 0x24) (by decide))
  unfold State.resolve
  dsimp only
  split
  · exact h
  · exact hcount.ite h
  · split
    · exact h
    · exact h.resolveDiffer d _ _
  · exact h.resolveThree d _ _ _

/-- What a slot with no word of its own counts (R346, R347). -/
theorem Onward.counted (c : Candidate) (d : Nat) : Onward s (match c with
    | .poison => t.drivePoison d
    | .none => t.underrun d
    | _ => t) := by
  have hpoison := h.drivePoison d
  have hnone := h.underrun d
  split
  · exact hpoison
  · exact hnone
  · exact h

theorem Onward.resolveSlot (came ok : Nat → Bool) (d : Nat) : Onward s (t.resolveSlot came ok d) := by
  have hres := (h.resolve came ok d).counted (t.resolve came ok d).2 d
  unfold State.resolveSlot
  exact (hres.setSlot _ _).wr _ (resReg_not_mem_onwardInputs d)

theorem Onward.driveCheck (came ok : Nat → Bool) (n : Nat) : Onward s (t.driveCheck came ok n) :=
  Onward.boltWarn (h.foldl _ fun _ hu d _ => (((hu.unSole came d).resolveSlot came ok d).ite hu).boltEval _ _ _)

theorem Onward.rampLimit : Onward s t.rampLimit := by
  have hnone (b : Bolt) : Onward s { t with bolt := b } := h.keep
  exact Onward.ite ((hnone _).latchTrip 774 2).takeTrips.keep h

theorem Onward.spendSlots (n : Nat) : Onward s (t.spendSlots n) := h.foldl _ fun _ hu _ _ => (hu.setSlot _ _).ite hu

theorem Onward.resumePrev : Onward s t.resumePrev := h.foldl _ fun _ hu _ _ => hu.setBent _ _

theorem Onward.driveStep (b : Bnd) : Onward s (t.driveStep b) :=
  (h.spendSlots _).ite ((h.resumePrev.ite h).driveCheck _ _ _).takeTrips.rampLimit

end
end Sys2Proof.Machine
end

section
/-!
PROOF. The commit (R63 to R68, R76, R85, R117, R358, R604): the state and the causes of a change stand, in any state of the part.
-/
set_option Elab.async false

namespace Sys2Proof.Machine

section
variable {s t : State} (h : Onward s t)
include h

theorem Onward.ledgerStep (b : Bnd) (l : List Nat) : Onward s (t.ledgerStep b l) := by
  have hslack : Onward s ((SMap.keys t.panes).foldl (fun s p => s.slackStep b p) t) :=
    h.foldl _ fun _ hu _ _ => hu.ite ((hu.setPane _ _).ite (hu.setPane _ _))
  have hnotes := hslack.foldl l (f := fun s p => s.overrunNote b p) fun _ hu _ _ => (hu.modPane _ _).paneEdge _ _
  have hcount := (hnotes.wrFld (a := Config.transom + 0x40) 0 11 l.length (by decide)).bump (a := Config.transom + 0x44) 32 l.length
    (by decide)
  exact hcount.ite (Onward.edge hcount.keep _ _ _)

theorem Onward.commitChannel (b : Bnd) (p c : Nat) : Onward s (t.commitChannel b p c) := by
  unfold State.commitChannel
  dsimp only
  split
  · exact h.setPane _ _
  · exact (h.setPane _ _).report _

theorem Onward.channelStep (b : Bnd) (commits : Bool) (p c : Nat) : Onward s (t.channelStep b commits p c) :=
  h.ite (((h.commitChannel b p c).ite ((h.modPane _ _).ite h)).modPane _ _)

theorem Onward.channels (b : Bnd) (commits : Bool) : Onward s (t.channels b commits) :=
  h.foldl _ fun _ hu p _ => hu.foldl _ fun _ hv c _ => hv.channelStep b commits p c

theorem Onward.groupStep (b : Bnd) (commits : Bool) (g : Nat) : Onward s (t.groupStep b commits g) := by
  have hres (m : SMap (Word × Word)) : Onward s { t with redRes := m } := h.keep
  have hdeliver (m : SMap (Word × Word)) (r : Word × Word) : Onward s (({ t with redRes := m } : State).redDeliver g r) :=
    (hres m).foldl _ fun _ hu _ _ => (hu.modPane _ _).ite hu
  have hsuspects (m : SMap (Word × Word)) (r : Word × Word) (l : List Nat) :
      Onward s ((({ t with redRes := m } : State).redDeliver g r).redSuspects g l) :=
    (hdeliver m r).foldl l fun _ hu _ _ => hu.report _
  refine h.ite (Onward.keep (Onward.ite h ?_))
  exact hsuspects _ _ _

theorem Onward.groups (b : Bnd) (commits : Bool) : Onward s (t.groups b commits) := h.foldl _ fun _ hu g _ => hu.groupStep b commits g

theorem Onward.mailboxJudge (b : Bnd) (m prim : Nat) : Onward s (t.mailboxJudge b m prim) := by
  have hbox (x : Mailbox) : Onward s (t.setMb m x) := h.keep
  unfold State.mailboxJudge
  dsimp only
  split
  · split
    · exact (hbox _).modPane _ _
    · exact h
  · exact hbox _

theorem Onward.mailboxStep (b : Bnd) (m : Nat) : Onward s (t.mailboxStep b m) := by
  unfold State.mailboxStep
  split
  · exact (h.mailboxJudge b m _).ite h
  · split
    · exact h.mailboxJudge b m _
    · exact h

theorem Onward.mailboxes (b : Bnd) (commits : Bool) : Onward s (t.mailboxes b commits) := by
  have hsteps : Onward s ((List.range 32).foldl (fun s m => s.mailboxStep b m) t) := h.foldl _ fun _ hu m _ => hu.mailboxStep b m
  exact (hsteps.ite h).foldl _ fun _ hu _ _ => hu.ite (hu.setPane _ _)

theorem Onward.streamStep (b : Bnd) (commits : Bool) (bay n : Nat) : Onward s (t.streamStep b commits bay n) := by
  have hdist : Config.dist bay + 8 ∉ onwardInputs :=
    not_mem_onwardInputs (by simp only [Config.dist]; omega) (by simp only [Config.dist]; omega)
  have hgone (m : SMap Nat) : Onward s { t with streamF := m } := h.keep
  exact h.ite (((hgone _).bump _ _ hdist).ite (hgone _))

theorem Onward.streams (b : Bnd) (commits : Bool) : Onward s (t.streams b commits) :=
  h.foldl _ fun _ hu bay _ => hu.foldl _ fun _ hv n _ => hv.streamStep b commits bay n

/-! The movers write back (R408, R411). -/

theorem Onward.setBulkEcc (k : Bulk) (a : Nat) (m : EccMark) : Onward s (t.setBulkEcc k a m) := by
  cases k <;> exact h.keep

theorem Onward.bulkWrite (k : Bulk) (a n v : Nat) : Onward s (t.bulkWrite k a n v) := by
  have hpoke : Onward s (t.bulkPoke k a n v) := by cases k <;> exact h.keep
  have hcorrect : Onward s ((t.bulkPoke k a n v).bulkCorrect k a) := by
    cases k with
    | buf b => exact (hpoke.setBulkEcc _ _ _).bump _ _ (bay_not_mem_onwardInputs b (by decide))
    | dram => exact ((hpoke.setBulkEcc _ _ _).bump _ _ (by decide)).edge _ _ _
  exact (hpoke.setBulkEcc _ _ _).ite (hcorrect.ite hpoke)

theorem Onward.mvWriteBack (b : Nat) {m : Nat} (hm : m < 4) (d : MvSub) (st : Nat) : Onward s (t.mvWriteBack b m d st) := by
  have hcount (n : Nat) (hn : n ≤ 8) : Config.bay b + 0x10C + 0x40 * m + n ∉ onwardInputs := by
    rw [Nat.add_assoc, Nat.add_assoc]; exact bay_not_mem_onwardInputs b (by omega)
  have hcode (c : Nat) : (if c = 0 then 0 else if c = 1 then 4 else 8) ≤ 8 := by split <;> [omega; split <;> omega]
  unfold State.mvWriteBack
  dsimp only
  refine Onward.ite (Onward.edge ?_ _ _ _) ?_ <;>
  · refine Onward.bump (Onward.setMover (Onward.bulkWrite ?_ _ _ _ _) _ _ _) _ _ (hcount _ (hcode _))
    exact ((h.bulkWrite _ _ _ _).bulkWrite _ _ _ _).ite (h.bulkWrite _ _ _ _)

theorem Onward.mvBack (b : Nat) {m : Nat} (hm : m < 4) : Onward s (t.mvBack b m) := by
  refine h.foldl _ fun u hu d _ => ?_
  split
  · exact (hu.mvWriteBack b hm d _).ite hu
  · exact hu

/-! Bays that miss their frames (R358). -/

theorem Onward.releaseTaken (l : Nat) : Onward s (t.releaseTaken l) := h.ite ((h.setLane _ _).watermark _ _ _)

theorem Onward.markBays : Onward s t.markBays := by
  refine h.foldl _ fun u hu bay _ => Onward.ite ?_ hu
  have hmark := (hu.setBits (1#32 <<< bay) (bolt_not_mem_onwardInputs (o := 0x50) (by decide))).reportLintel (.bayFaulted bay)
  exact hmark.foldl _ fun _ hv l _ => (hv.releaseTaken l).ite hv

theorem Onward.commitStep (b : Bnd) (l : List Nat) : Onward s (t.commitStep b l) := by
  have hledger (c : Bool) := Onward.ite (c := c) (h.ledgerStep b l) (h.wrFld (a := Config.transom + 0x40) 0 11 0 (by decide))
  have hstreams (c : Bool) (u : State) (hu : Onward s u) := (((hu.channels b c).groups b c).mailboxes b c).streams b c
  have hback (u : State) (hu : Onward s u) : Onward s ((List.range 32).foldl (fun s k => s.mvBack (k / 4) (k % 4)) u) :=
    hu.foldl _ fun _ hv k _ => hv.mvBack _ (by omega)
  have hall (c : Bool) (u : State) (hu : Onward s u) := hback _ (hstreams c u hu)
  exact (hall _ _ (hledger _)).markBays.ite (hall _ _ (hledger _))

end

/-- The first half of the boundary, after the decision (R56). -/
theorem State.firstHalf_onward (s : State) : Onward s.decided (s.stamped.firstHalf s.begun.bnd) := by
  have hsent : Onward s.decided (s.decided.takeTrips.sendTokens s.begun.bnd) := (Onward.refl _).takeTrips.sendTokens _
  exact ((hsent.abortPolicies _).driveStep _).commitStep _ _

end Sys2Proof.Machine
end

section
/-!
PROOF. From the change of state to the open (R69 to R88, R135 to R137, R350, R408), where nothing governs: the state and the code of a
refused START stand.
-/
set_option Elab.async false

namespace Sys2Proof.Machine

theorem slotReg_not_mem_onwardInputs {d k : Nat} (hd : d < 128) (hk : k < 4) : slotReg d (4 + 4 * k) ∉ onwardInputs :=
  not_mem_onwardInputs (by simp only [slotReg, Config.dop]; omega) (by simp only [slotReg, Config.dop]; omega)

section
variable {s t : State} (h : Onward s t)
include h

/-! Movers, waits and the open. -/

theorem Onward.correctRead (p a n : Nat) : Onward s (t.correctRead p a n) :=
  h.foldl _ fun _ hu _ _ => Onward.ite (Onward.modPane (Onward.paneEdge (hu.modPane _ _) _ _) _ _) hu

theorem Onward.mvStageRead (b m : Nat) : Onward s (t.mvStageRead b m) := by
  unfold State.mvStageRead
  dsimp only
  split
  · exact h
  · split
    · exact h.ite (Onward.setMover (h.foldl _ fun _ hu r _ => hu.correctRead _ r.1 r.2) _ _ _)
    · exact h

theorem Onward.mvLand (b m : Nat) : Onward s (t.mvLand b m) := by
  unfold State.mvLand
  dsimp only
  split
  · exact h
  · exact (h.modPane _ _).setMover _ _ _

theorem Onward.mvPaneWrite (b m : Nat) : Onward s (t.mvPaneWrite b m) := by
  unfold State.mvPaneWrite
  dsimp only
  split
  · exact h
  · exact (h.mvLand b m).ite h

theorem Onward.lateWrites (p : Nat) : Onward s (t.lateWrites p) := by
  unfold State.lateWrites
  dsimp only
  refine Onward.modPane ?_ _ _
  refine Onward.foldl ?_ _ fun u hu k _ => hu.mvStageRead (k / 4) (k % 4)
  refine Onward.setPane ?_ _ _
  refine h.foldl _ fun u hu k _ => ?_
  split
  · exact (hu.mvLand _ _).ite hu
  · exact hu

theorem Onward.retireWaitt (p : Nat) : Onward s (t.retireWaitt p) := by
  have hlate (c : Bool) := Onward.ite (c := c) (h.lateWrites p) h
  exact Onward.ite ((hlate _).setPane _ _) ((hlate _).setPane _ _)

theorem Onward.takeTrap (p : Nat) (x : Trap) : Onward s (t.takeTrap p x) := by
  have hhalt (u : State) (hu : Onward s u) (n : Nat) (epc : Word) : Onward s (u.haltPane p n epc) :=
    ((hu.modPane _ _).report _).paneEdge _ _
  have henter (u : State) (hu : Onward s u) (n : Nat) (epc c a : Word) : Onward s (u.enter p n epc c a) :=
    (hhalt u hu n epc).ite (hu.setPane _ _)
  exact (h.setPane _ _).ite (henter _ (h.setPane _ _) _ _ _ _)

/-- A pane that waits takes its trap or goes on. -/
theorem Onward.poll (p : Nat) : Onward s (t.poll p) := by
  have htrap (q : Pane) (x : Trap) : Onward s ((t.setPane p q).takeTrap p x) := (h.setPane p q).takeTrap p x
  unfold State.poll
  dsimp only
  split
  case h_1 => refine h.ite ?_; split; exacts [htrap _ _, h.setPane _ _]
  case h_2 => refine h.ite ?_; split; exacts [htrap _ _, h.retireWaitt p]
  case h_3 => refine h.ite ?_; split; exacts [htrap _ _, h.setPane _ _]
  case h_4 => exact (h.setPane _ _).ite h
  case h_5 => exact h

theorem Onward.openPane (b : Bnd) (p : Nat) : Onward s (t.openPane b p) := h.ite ((h.setPane _ _).ite h)

theorem Onward.openStep (b : Bnd) : Onward s (t.openStep b) := by
  have hmovers : Onward s ((List.range 32).foldl (fun s k => (s.mvStageRead (k / 4) (k % 4)).mvPaneWrite (k / 4) (k % 4)) t) :=
    h.foldl _ fun _ hu k _ => (hu.mvStageRead _ _).mvPaneWrite _ _
  have hopen (u : State) (hu : Onward s u) (l : List Nat) :
      Onward s (l.foldl (fun s p => (s.openPane b p).clearMarks b p) u) :=
    hu.foldl l fun _ hv p _ => (hv.openPane b p).modPane _ _
  have hpoll (u : State) (hu : Onward s u) (l : List Nat) : Onward s (l.foldl (fun s p =>
      if (s.pane p).phase == .waitt || (s.pane p).phase == .waittIn then s.poll p else s) u) :=
    hu.foldl l fun _ hv p _ => (hv.poll p).ite hv
  have hshut (u : State) (hu : Onward s u) (x : Shutdown) : Onward s { u with shut := x } := hu.keep
  exact hshut _ (hpoll _ (hopen _ hmovers _) _) _

/-! The frame. -/

theorem Onward.pushDrive (d : Nat) (v : Word) : Onward s (t.pushDrive d v) := by
  have hcross : Config.cross + 0x400 + 4 * (64 + d / 8) ∉ onwardInputs := by rw [Nat.add_assoc]; exact cross_not_mem_onwardInputs _
  exact (h.bump 16 1 hcross).ite (h.setSlot _ _)

theorem Onward.frameWrite : Onward s t.frameWrite := by
  have hpush (l : List (Nat × Word)) : Onward s (l.foldl (fun t x => t.pushDrive x.1 x.2) t) := h.foldl l fun _ hu _ _ => hu.pushDrive _ _
  have hframe (u : State) (hu : Onward s u) (l : List Nat) (b : Bolt) : Onward s { u with drvDue := l, bolt := b } := hu.keep
  exact hframe _ (hpush _) _ _

/-! Takeovers. -/

theorem Onward.setTakeover (k : Nat) (x : Takeover) : Onward s (t.setTakeover k x) := h.keep

theorem Onward.takeoverReplay (k : Nat) (x : Takeover) (o : Nat) : Onward s (t.takeoverReplay k x o) :=
  ((h.setTakeover k _).ledgerAdd _ _ _).ite ((h.modPane _ _).setTakeover k _)

theorem Onward.takeoverCopy (k : Nat) (x : Takeover) : Onward s (t.takeoverCopy k x) := (h.modPane _ _).setTakeover k _

theorem Onward.takeoverRedirect (k : Nat) (x : Takeover) : Onward s (t.takeoverRedirect k x) := by
  have hmovers (u : State) (hu : Onward s u) : Onward s ((List.range 32).foldl (fun s i =>
      let a := Config.bay (i / 4) + 0x100 + 0x40 * (i % 4)
      if s.mvEn (i / 4) (i % 4) && s.mvOwner (i / 4) (i % 4) == x.retired then s.wr a ((s.rd a).withFld 0 10 x.spare) else s) u) := by
    refine hu.foldl _ fun v hv i _ => Onward.ite (hv.wr _ ?_) hv
    rw [Nat.add_assoc]
    exact bay_not_mem_onwardInputs _ (by omega)
  exact (hmovers _ ((h.mapEntriesTo _ _).modPane _ _)).setTakeover k _

theorem Onward.redirectStep (k o : Nat) : Onward s (t.redirectStep k o) := by
  unfold State.redirectStep
  split
  · exact h
  · next x _ =>
    have hreplay := h.takeoverReplay k x (o - 1)
    refine Onward.ite ?_ h
    dsimp only
    split
    · exact (hreplay.takeoverRedirect k _).ite hreplay
    · exact hreplay

theorem Onward.swapIncoming (prim : Bool) (a b c : Nat) : Onward s (t.swapIncoming prim a b c) := h.foldl _ fun _ hu _ _ => hu.modPane _ _

theorem Onward.swapSlots (prim : Bool) (a b c : Nat) : Onward s (t.swapSlots prim a b c) := by
  refine h.foldl _ fun u hu d hd => ?_
  have hlt : d < 128 := List.mem_range.mp (List.mem_of_mem_filter hd)
  dsimp only
  split
  · exact hu
  · next i _ =>
    have hcopies : ((List.range (u.slotCopies d)).map (u.slotSrc d)).length ≤ 4 := by
      have hfld : (u.slotCfg d).fld 1 2 < 2 ^ 2 := Nat.mod_lt _ (by decide)
      simp only [List.length_map, List.length_range, State.slotCopies]
      omega
    have hsrc (l' : List Nat) (w : Word) : Onward s (((List.range ((List.range (u.slotCopies d)).map (u.slotSrc d)).length).foldl (fun s k =>
        s.wrFld (slotReg d (4 + 4 * k)) 0 13 (l'.getD k 0)) u).clrBits (redReg d) w) :=
      (hu.foldl _ fun _ hv k hk => hv.wrFld _ _ _ (slotReg_not_mem_onwardInputs hlt ((List.mem_range.mp hk).trans_le hcopies))).clrBits _
        (redReg_not_mem_onwardInputs d)
    split
    · exact ((hsrc _ _).wrFld _ _ _ (redReg_not_mem_onwardInputs d)).ite (hsrc _ _)
    · exact hsrc _ _

theorem Onward.takeoverComplete (k : Nat) (x : Takeover) (n : Nat) : Onward s (t.takeoverComplete k x n) := by
  have hswap (prim : Bool) (a b c : Nat) := (h.swapIncoming prim a b c).swapSlots prim a b c
  have htaken (u : State) (hu : Onward s u) (i : SMap Nat) (m : SMap Mailbox) (l : List Takeover) :
      Onward s { u with img := i, mbs := m, takeovers := l } := hu.keep
  have hrail (p : Nat) : Config.pwr + 0x400 + 4 * sashOf p ∉ onwardInputs := by rw [Nat.add_assoc]; exact pwr_not_mem_onwardInputs _
  unfold State.takeoverComplete
  refine Onward.edge (Onward.ledgerAdd (Onward.wrFld (htaken _ (Onward.modPane ?_ _ _) _ _ _) _ _ _ (hrail _)) _ _ _) _ _ _
  exact Onward.ite ((hswap _ _ _ _).modPane _ _) (hswap _ _ _ _)

theorem Onward.completeStep (k o n : Nat) : Onward s (t.completeStep k o n) := by
  unfold State.completeStep
  split
  · exact h
  · next x _ =>
    have hreplay := h.takeoverReplay k x (o - 1)
    refine Onward.ite ?_ h
    dsimp only
    split
    · exact hreplay
    · next y _ =>
      have hagain := hreplay.takeoverReplay k y o
      refine hreplay.ite ((hreplay.setTakeover k _).ite ?_)
      split
      · exact hagain.takeoverComplete k _ n
      · exact hagain

theorem Onward.takeoverSteps (n : Nat) : Onward s (t.takeoverSteps n) := by
  refine h.foldl _ fun u hu k _ => ?_
  unfold State.takeoverStep
  split
  · exact hu
  · exact hu.ite ((hu.takeoverReplay k _ _).ite (((hu.takeoverCopy k _).ite hu).ite
      ((hu.redirectStep k _).ite (hu.completeStep k _ n))))

theorem Onward.tickOutStep (b : Bnd) : Onward s (t.tickOutStep b) := Onward.ite h.keep h

end

/-- The rest of a boundary at which READY stands (R56). -/
theorem State.secondHalf_onward {s : State} (b : Bnd) (stamp : Nat) (h : s.stateStep.part = .ready) :
    Onward s.stateStep (s.secondHalf b stamp) := by
  have hon : (s.stateStep.part == PartState.off) = false := by rw [h]; rfl
  have hstamp (c : Bnd) : Onward s.stateStep (s.stateStep.stampStep c stamp) := (Onward.refl _).keep
  have hframe (c : Bnd) := (hstamp c).frameWrite
  have hgovern (c : Bnd) (due : Nat → Bool) :
      (s.stateStep.stampStep c stamp).frameWrite.govern due = (s.stateStep.stampStep c stamp).frameWrite := by
    rw [State.govern, (hframe c).part, h]
    rfl
  unfold State.secondHalf
  dsimp only
  rw [hon, hgovern]
  exact (((hframe _).takeoverSteps _).openStep _).tickOutStep _

/-- A choice of two states in which a register reads the same. -/
theorem State.rd_ite {c : Prop} [Decidable c] {t u : State} {a : Nat} {w : Word} (ht : t.rd a = w) (hu : u.rd a = w) :
    (if c then t else u).rd a = w := by
  split
  · exact ht
  · exact hu

/-- The generator goes on, and the code of a refused START stands. -/
theorem State.advance_rd_start (s : State) : s.advance.rd (Config.start + 0x44) = s.rd (Config.start + 0x44) := by
  have hwr (u : State) {a : Nat} (w : Word) (ha : a ≠ Config.start + 0x44) :
      (u.wr a w).rd (Config.start + 0x44) = u.rd (Config.start + 0x44) := (u.rd_wr _ _ _).trans (if_neg ha)
  have hcount (g : Gen) (c : Prop) [Decidable c] : (if c then ({ s with gen := g } : State).bump (Config.transom + 0x20) 32 1
      else { s with gen := g }).rd (Config.start + 0x44) = s.rd (Config.start + 0x44) := State.rd_ite (hwr _ _ (by decide)) rfl
  exact State.rd_ite ((hwr _ (a := tickStatus) _ (by decide)).trans (hcount _ _)) (hcount _ _)

theorem State.endBoundary_rd_start (s : State) (close : Nat) :
    (s.endBoundary close).rd (Config.start + 0x44) = s.rd (Config.start + 0x44) := by
  unfold State.endBoundary
  dsimp only
  split
  · rfl
  · exact State.advance_rd_start _

end Sys2Proof.Machine
end

section
/-!
PROOF. BOUNDARY, and the knocks that are decided by running it (R36, R40, R441, R523).
-/
set_option Elab.async false

namespace Sys2Proof.Machine

/-! The end of a boundary. -/

/-- The part stands between boundaries, after one that closed at c. -/
abbrev State.Between (s : State) (c : Nat) : Prop := s.inBnd = false ∧ s.lastC = c ∧ s.tokens = [] ∧ s.lateNow = []

theorem State.Between.ite {p : Prop} [Decidable p] {s t : State} {c : Nat} (hs : s.Between c) (ht : t.Between c) :
    (if p then s else t).Between c := by
  split
  · exact hs
  · exact ht

theorem State.Between.advance {s : State} {c : Nat} (h : s.Between c) : s.advance.Between c := by
  have hgen (g : Gen) (p : Prop) [Decidable p] :
      (if p then ({ s with gen := g } : State).bump (Config.transom + 0x20) 32 1 else { s with gen := g }).Between c :=
    State.Between.ite h h
  have hslew (t : State) (ht : t.Between c) (g : Gen) (w : Word) : (({ t with gen := g } : State).wr tickStatus w).Between c := ht
  exact State.Between.ite (hslew _ (hgen _ _) _ _) (hgen _ _)

theorem State.endBoundary_between (s : State) (close : Nat) : (s.endBoundary close).Between close := by
  have hend (r x : Nat) : State.Between { s with inBnd := false, lastC := close, tokens := [], lateNow := [], free := x, readyBnd := r }
      close := ⟨rfl, rfl, rfl, rfl⟩
  unfold State.endBoundary
  exact State.Between.ite (hend _ _) (hend _ _).advance

theorem State.boundary_bounded {s : State} (hon : s.gen.on = true) : Claims.Bounded s s.boundary := by
  rw [State.boundary_eq s hon]
  exact State.endBoundary_between _ s.begun.bnd.close

theorem State.endBoundary_part (s : State) (close : Nat) : (s.endBoundary close).part = s.part := by
  unfold State.endBoundary
  dsimp only
  split
  · rfl
  · exact (State.advance_sameRun _).1

/-- The steps from the change of state to the open keep the run. -/
theorem State.secondHalf_sameRun {s : State} (b : Bnd) (stamp : Nat) (h : s.stateStep.part ≠ .off) :
    SameRun s.stateStep (s.secondHalf b stamp) := by
  have hon : (s.stateStep.part == PartState.off) = false := by simpa using h
  have hstamp : SameRun s.stateStep (s.stateStep.stampStep s.stateStep.bnd stamp) := SameRun.refl _
  unfold State.secondHalf
  dsimp only
  rw [hon]
  exact ((((hstamp.trans (State.frameWrite_sameRun _)).trans (State.govern_sameRun _ _)).trans
    (State.takeoverSteps_sameRun _ _)).trans (State.openStep_sameRun _ _)).trans (State.tickOutStep_sameRun _ _)

/-! The change of state that takes effect (R36, R40). -/

/-- The state once the boundary has committed, in which its change of state is chosen. -/
def State.chosen (s : State) : State := s.stamped.firstHalf s.begun.bnd

theorem State.chosen_part {s : State} (hon : s.gen.on = true) : s.chosen.part = s.part :=
  s.firstHalf_onward.part.trans (State.decided_part hon)

theorem State.boundary_of_chosen {s : State} (hon : s.gen.on = true) :
    s.boundary = (s.chosen.secondHalf s.begun.bnd s.nextStamp).endBoundary s.begun.bnd.close := State.boundary_eq s hon

/-- The boundary ends in the state that its change leads to. -/
theorem State.boundary_part {s : State} (hon : s.gen.on = true) {t : PartState} (h : s.chosen.nextState = some t) (ht : t ≠ .off) :
    s.boundary.part = t := by
  have hstep : s.chosen.stateStep.part = t := (State.stateStep_some h).1.trans (State.changeTo_part _ t)
  rw [State.boundary_of_chosen hon, State.endBoundary_part, (State.secondHalf_sameRun _ _ (hstep ▸ ht)).1, hstep]

/-- The states to which a cause leads, by the present one (R36, R38). -/
def PartState.targets (p : PartState) : List PartState :=
  match p with
  | .ready => [.running, .shuttingDown, .faulted]
  | .running => [.holding, .shuttingDown, .aborted, .faulted]
  | .holding => [.running, .shuttingDown, .aborted, .faulted]
  | .aborted => [.shuttingDown, .faulted]
  | _ => [.off, .starting, .ready, .running, .holding, .aborted, .shuttingDown, .faulted]

theorem State.causeTarget_mem {s : State} {c : Cause} {t : PartState} (h : s.causeTarget c = some t) : t ∈ s.part.targets := by
  have hall (p : PartState) : t ∈ [.off, .starting, .ready, .running, .holding, .aborted, .shuttingDown, .faulted] := by cases t <;> decide
  cases hp : s.part with
  | off | starting | shuttingDown | faulted => exact hall s.part
  | ready | running | holding | aborted =>
    cases c with
    | knock k => cases k <;> simp [State.causeTarget, hp] at h <;> subst h <;> decide
    | bolt | shutdownDone | lockstep | ledger => simp [State.causeTarget, hp] at h <;> subst h <;> decide

/-- A cause that leads somewhere makes the boundary change the state, to one of those to which a cause leads, and to none after it in
R40. -/
theorem State.boundary_changes {s : State} (hon : s.gen.on = true) {c : Cause} {u : PartState} (hc : c ∈ s.chosen.causes)
    (hu : s.chosen.causeTarget c = some u) : ∃ t, s.chosen.nextState = some t ∧ t ∈ s.part.targets ∧ t.rank ≤ u.rank := by
  cases hnext : s.chosen.nextState with
  | none => exact absurd (State.nextState_none hnext c hc) (by simp [hu])
  | some t =>
    obtain ⟨⟨d, -, hd⟩, hfirst⟩ := State.nextState_some hnext
    exact ⟨t, rfl, State.chosen_part hon ▸ State.causeTarget_mem hd, hfirst c hc u hu⟩

/-- A knock that is coming, that the state takes, and that leads to u. -/
theorem State.boundary_of_knock {s : State} {k : Knock} (h : Claims.coming s k)
    (hk : k = .hold ∨ k = .resume ∨ k = .shutdown ∨ k = .abort) (htakes : ∀ t : State, t.part = s.part → t.takesKnock k = true)
    {u : PartState} (hu : ∀ t : State, t.part = s.part → t.causeTarget (.knock k) = some u) (hoff : .off ∉ s.part.targets) :
    s.boundary.part ∈ s.part.targets ∧ s.boundary.part.rank ≤ u.rank := by
  obtain ⟨hon, -⟩ := id h
  obtain ⟨t, hnext, hmem, hle⟩ := State.boundary_changes hon (s.firstHalf_onward.causes (State.decided_cause h hk htakes))
    (hu s.chosen (State.chosen_part hon))
  rw [State.boundary_part hon hnext fun ht => hoff (ht ▸ hmem)]
  exact ⟨hmem, hle⟩

/-! START from READY. -/

/-- RUNNING from READY begins with tick 0 (R15, R53). -/
theorem State.boundary_running {s : State} (hon : s.gen.on = true) (hready : s.part = .ready) (h : s.chosen.nextState = some .running) :
    RunsFromZero s.boundary := by
  have hpart : s.chosen.part = .ready := (State.chosen_part hon).trans hready
  have hchange : ({ s.chosen with causes := [] } : State).changeTo .running = ({ s.chosen with causes := [] } : State).startRun := by
    simp [State.changeTo, hpart]
  have hstep : RunsFromZero s.chosen.stateStep := (State.startRun_runs _).of_sameRun (hchange ▸ State.stateStep_some h)
  rw [State.boundary_of_chosen hon]
  exact State.endBoundary_runs _ (State.secondHalf_runs _ _ hstep)

/-- No change of state leaves the state and the registers. -/
theorem State.stateStep_stands {s : State} (h : s.nextState = none) (a : Nat) :
    s.stateStep.part = s.part ∧ s.stateStep.rd a = s.rd a := by
  rw [State.stateStep_none h]
  exact ⟨rfl, rfl⟩

/-- A boundary of READY that changes nothing keeps the code of a refused START (R442). -/
theorem State.boundary_stands {s : State} (hon : s.gen.on = true) (hready : s.part = .ready) (h : s.chosen.nextState = none) :
    s.boundary.part = .ready ∧ s.boundary.rd (Config.start + 0x44) = s.chosen.rd (Config.start + 0x44) := by
  obtain ⟨hpart, hcode⟩ := State.stateStep_stands h (Config.start + 0x44)
  have hready' : s.chosen.stateStep.part = .ready := hpart.trans ((State.chosen_part hon).trans hready)
  have hhalf := State.secondHalf_onward s.begun.bnd s.nextStamp hready'
  rw [State.boundary_of_chosen hon, State.endBoundary_part, State.endBoundary_rd_start]
  exact ⟨hhalf.part.trans hready', (hhalf.rd (by decide)).trans hcode⟩

theorem State.boundary_of_start {s : State} (h : Claims.coming s .start) (hready : s.part = .ready) :
    RunsFromZero s.boundary ∨ s.boundary.part = .shuttingDown ∨ s.boundary.part = .faulted ∨
      (s.boundary.part = .ready ∧ s.boundary.startRefused) := by
  obtain ⟨hon, -⟩ := id h
  have htold := s.firstHalf_onward.startTold (State.decided_start h hready)
  cases hnext : s.chosen.nextState with
  | none =>
    obtain ⟨hpart, hcode⟩ := State.boundary_stands hon hready hnext
    have hready' : s.chosen.part = .ready := (State.chosen_part hon).trans hready
    rcases htold with hmem | hrefused
    · exact absurd (State.nextState_none hnext _ hmem) (by simp [State.causeTarget, hready'])
    · exact .inr (.inr (.inr ⟨hpart, (congrArg (fun w => Word.bit w 31) hcode).trans hrefused⟩))
  | some t =>
    obtain ⟨⟨d, -, hd⟩, -⟩ := State.nextState_some hnext
    have hmem : t ∈ PartState.ready.targets := hready ▸ State.chosen_part hon ▸ State.causeTarget_mem hd
    have hpart := State.boundary_part hon hnext
    simp only [PartState.targets, List.mem_cons, List.not_mem_nil, or_false] at hmem
    rcases hmem with rfl | rfl | rfl
    · exact .inl (State.boundary_running hon hready hnext)
    · exact .inr (.inl (hpart (by decide)))
    · exact .inr (.inr (.inl (hpart (by decide))))

/-- The rows that run their boundary. -/
theorem exec_boundary_of_coming {s : State} {x : Instr × Knock}
    (hx : x ∈ ([(.start, .start), (.hold, .hold), (.resume, .resume), (.shutdown, .shutdown)] : List (Instr × Knock)))
    (h : Claims.coming s x.2) : exec x.1 s = .next s.boundary := by
  simp only [List.mem_cons, List.not_mem_nil, or_false] at hx
  rcases hx with rfl | rfl | rfl | rfl <;> exact congrArg Host.Outcome.next (if_pos (State.knockComing_of_coming h))

theorem State.boundary_of_off {s : State} (h : s.gen.on = false) : s.boundary = s := by
  unfold State.boundary
  rw [if_pos (by simp [h])]

/-- The states that a SHUTDOWN leaves (R36). -/
def shutdownStates : List PartState := [.ready, .running, .holding, .aborted]

theorem not_off_mem_targets {p : PartState} (h : p ∈ shutdownStates) : .off ∉ p.targets :=
  (by decide : ∀ p ∈ shutdownStates, .off ∉ p.targets) p h

/-- What comes first against SHUTTING-DOWN in R40. -/
theorem mem_of_shutdown : ∀ p ∈ shutdownStates, ∀ t ∈ p.targets, t.rank ≤ PartState.shuttingDown.rank →
    t ∈ ([.shuttingDown, .aborted, .faulted] : List PartState) := by decide

/-- Settles O31: what a knock hangs on stays up to its decision, its cause stays up to the change of state, and the change that comes
first in R40 is one of those from the present state. -/
theorem boundariesRun : Obligations.BoundariesRun := by
  intro s
  refine ⟨fun hon => ⟨s.boundary, rfl, State.boundary_bounded hon⟩, fun hoff => ?off, fun x hx h => ?rows, fun h hready => ?start,
    fun h hp => ?hold, fun h hp => ?resume, fun h hp => ?shutdown, fun h htakes hone => ?mark, fun h => ?report, fun h => ?abort⟩
  case off => exact congrArg Host.Outcome.next (State.boundary_of_off hoff)
  case rows => exact ⟨s.boundary, exec_boundary_of_coming hx h, rfl, State.boundary_bounded h.1⟩
  case start => exact ⟨s.boundary, exec_start_of_coming h, State.boundary_of_start h hready⟩
  case hold =>
    obtain ⟨hmem, -⟩ := State.boundary_of_knock h (.inl rfl) (fun t ht => by simp [State.takesKnock, ht, hp])
      (u := .holding) (fun t ht => by simp [State.causeTarget, ht, hp]) (by rw [hp]; decide)
    exact ⟨s.boundary, exec_boundary_of_coming (x := (.hold, .hold)) (by simp) h, by rwa [hp] at hmem⟩
  case resume =>
    obtain ⟨hmem, -⟩ := State.boundary_of_knock h (.inr (.inl rfl)) (fun t ht => by simp [State.takesKnock, ht, hp])
      (u := .running) (fun t ht => by simp [State.causeTarget, ht, hp]) (by rw [hp]; decide)
    exact ⟨s.boundary, exec_boundary_of_coming (x := (.resume, .resume)) (by simp) h, by rwa [hp] at hmem⟩
  case shutdown =>
    refine ⟨s.boundary, exec_boundary_of_coming (x := (.shutdown, .shutdown)) (by simp) h, ?_⟩
    have htakes (t : State) (ht : t.part = s.part) : t.takesKnock .shutdown = true := by
      rw [State.takesKnock, ht]
      exact (by decide : ∀ p ∈ shutdownStates, (p == .ready || p == .running || p == .holding || p == .aborted) = true) _ hp
    obtain ⟨hmem, hle⟩ := State.boundary_of_knock h (.inr (.inr (.inl rfl))) htakes (u := .shuttingDown)
      (fun t ht => if_pos (htakes t ht)) (not_off_mem_targets hp)
    exact mem_of_shutdown _ hp _ hmem hle
  case mark =>
    obtain ⟨hknocks, htick, hpart, hpanes⟩ := State.knockEarly_keeps h
    obtain ⟨hcount, hnoted⟩ := State.knockEarly_mark h htakes hone
    exact ⟨s.knockEarly .mark, rfl, hcount, hnoted, hknocks, htick, hpart, hpanes⟩
  case report => exact ⟨s.knockEarly .report, rfl, State.knockEarly_keeps h⟩
  case abort =>
    obtain ⟨hknocks, htick, hpart, hpanes⟩ := State.knockEarly_keeps h
    exact ⟨s.knockEarly .abort, rfl, hknocks, htick, hpart, hpanes, State.knockEarly_abort h⟩

end Sys2Proof.Machine
end

section
/-!
PROOF. Where a load or store of local memory traps (R62, R161, R164, R166, R286, R287).
-/
namespace Sys2Proof.Machine

open Sys2Proof (Instr)

/-- The loads and stores, each with its size, its source registers, and whether it is a store (R243). -/
abbrev accesses (p : PaneNo) (gd : BitVec 4) (rt ra : RegNo) (m : Bool) (off : BitVec 10) : List (Instr × Nat × List RegNo × Bool) :=
  (Claims.loads p gd rt ra m off).map (fun x => (x.1, x.2.1, [ra], false)) ++
    (Claims.stores p gd rt ra m off).map (fun x => (x.1, x.2.1, x.2.2, true))

/-- A load whose access fails traps. -/
theorem loadOp_traps {i : Instr} {p : PaneNo} {gd : BitVec 4} {n : Nat} {sgn : Bool} {rt ra : RegNo} {m : Bool} {off : BitVec 10}
    {s : State} {f : Nat × Nat} (h : s.ready i p gd [ra] = true)
    (hf : s.accessFault (s.pane p.toNat) ((s.pane p.toNat).ea ra m off).toNat n false = some f) :
    loadOp i p gd n sgn rt ra m off s =
      .next (s.takeTrap p.toNat ((s.pane p.toNat).accessTrap f ((s.pane p.toNat).ea ra m off) false)) := by
  rw [loadOp, State.issue_ready h rfl, loadBody, hf]
  rfl

/-- A store whose access fails traps. -/
theorem storeOp_traps {i : Instr} {p : PaneNo} {gd : BitVec 4} {n : Nat} {rt ra : RegNo} {m : Bool} {off : BitVec 10} {s : State}
    {f : Nat × Nat} (h : s.ready i p gd (if n = 8 then [ra, rt, rt + 1] else [ra, rt]) = true)
    (hf : s.accessFault (s.pane p.toNat) ((s.pane p.toNat).ea ra m off).toNat n true = some f) :
    storeOp i p gd n rt ra m off s =
      .next (s.takeTrap p.toNat ((s.pane p.toNat).accessTrap f ((s.pane p.toNat).ea ra m off) true)) := by
  rw [storeOp, State.issue_ready h rfl, storeBody, hf]
  rfl

section
variable {p : PaneNo} {gd : BitVec 4} {rt ra : RegNo} {m : Bool} {off : BitVec 10} {x : Instr × Nat × List RegNo × Bool}
  (hx : x ∈ accesses p gd rt ra m off)
include hx

theorem accesses_size_pos : 0 < x.2.1 := by
  simp only [accesses, Claims.loads, Claims.stores, List.map_cons, List.map_nil, List.cons_append, List.nil_append, List.mem_cons,
    List.not_mem_nil, or_false] at hx
  rcases hx with rfl | rfl | rfl | rfl | rfl | rfl | rfl | rfl | rfl | rfl <;> exact Nat.succ_pos _

/-- An access that fails traps with its address, from the unchanged state. -/
theorem accesses_trap {s : State} {f : Nat × Nat} (h : s.ready x.1 p gd x.2.2.1 = true)
    (hf : s.accessFault (s.pane p.toNat) ((s.pane p.toNat).ea ra m off).toNat x.2.1 x.2.2.2 = some f) :
    exec x.1 s = .next (s.takeTrap p.toNat ((s.pane p.toNat).accessTrap f ((s.pane p.toNat).ea ra m off) x.2.2.2)) := by
  rcases List.mem_append.mp hx with hload | hstore
  · simp only [Claims.loads, List.map_cons, List.map_nil, List.mem_cons, List.not_mem_nil, or_false] at hload
    rcases hload with rfl | rfl | rfl | rfl | rfl | rfl <;> exact loadOp_traps h hf
  · simp only [Claims.stores, List.map_cons, List.map_nil, List.mem_cons, List.not_mem_nil, or_false] at hstore
    rcases hstore with rfl | rfl | rfl | rfl <;> exact storeOp_traps h hf

end

/-! The fault by the place of the access (R161, R166, R287). -/

section
variable (s : State) (q : Pane) {a n : Nat} (wr : Bool)

theorem State.accessFault_sram (h : a < 0xE000) : s.accessFault q a n wr = q.sramFault a n wr := by
  simp [State.accessFault, placeOf, h]

theorem State.accessFault_inbox (h : 0xE000 ≤ a) (h' : a < 0xF000) :
    s.accessFault q a n wr = if a % n ≠ 0 then some (2, 0) else if wr then some (3, 2) else none := by
  simp [State.accessFault, placeOf, Nat.not_lt.mpr h, h']

/-- An address of no region. -/
theorem State.accessFault_nowhere (h : (0xF000 ≤ a ∧ a < 0x10000) ∨ (0x11000 ≤ a ∧ a < 0x10000000)) :
    s.accessFault q a n wr = some (3, 0) := by
  have hplace : placeOf a = .none := by
    unfold placeOf
    rw [if_neg (by omega), if_neg (by omega), if_neg (by omega), if_neg (by omega), if_neg (by omega), if_neg (by omega)]
  rw [State.accessFault, hplace]

/-- Past the end of local memory. -/
theorem Pane.sramFault_past (h : a + n > 0xE000) : q.sramFault a n wr = some (2, 0) := if_pos h

/-- Inside local memory, the first byte that is not permitted decides. -/
theorem Pane.sramFault_first (h : a + n ≤ 0xE000) (hn : 0 < n)
    (hdenied : (if wr then !q.canWrite q.ring a else !q.canRead q.ring a) = true) :
    q.sramFault a n wr = some (3, if wr && q.canRead q.ring a then 2 else 1) := by
  obtain ⟨k, rfl⟩ : ∃ k, n = k + 1 := ⟨n - 1, by omega⟩
  rw [Pane.sramFault, if_neg (by omega), List.range_succ_eq_map]
  simp only [List.find?_cons, Nat.add_zero, hdenied, Option.map_some]

end

/-- Settles O17: the fault of each place, and the trap that an access with a fault takes. -/
theorem accessesTrap : Obligations.AccessesTrap := by
  intro s p gd rt ra m off x hx q a n wr traps hready
  have ha : q.ea ra m off = BitVec.ofNat 32 a := (BitVec.setWidth_eq _).symm.trans (BitVec.ofNat_toNat 32 _).symm
  have hn : 0 < n := accesses_size_pos hx
  have trap (f : Nat × Nat) (hf : s.accessFault q a n wr = some f) : traps f.1 f.2 :=
    (accesses_trap hx hready hf).trans (by rw [ha]; rfl)
  refine ⟨fun h hpast => ?past, fun h hr hw => ?closed, fun hst h hr hw => ?readOnly, fun h h' hal => ?misaligned,
    fun hst h h' hal => ?inbox, fun h h' => ?below, fun h h' => ?above⟩
  case past => exact trap (2, 0) ((s.accessFault_sram q wr h).trans (q.sramFault_past wr hpast))
  case closed =>
    have hfault := q.sramFault_first wr h hn (by rw [hr, hw]; cases wr <;> rfl)
    rw [hr, Bool.and_false] at hfault
    exact trap (3, 1) ((s.accessFault_sram q wr (by omega)).trans hfault)
  case readOnly =>
    have hfault := q.sramFault_first wr h hn (by rw [hst, hw]; rfl)
    rw [hst, hr] at hfault
    exact trap (3, 2) ((s.accessFault_sram q wr (by omega)).trans (hst ▸ hfault))
  case misaligned => exact trap (2, 0) ((s.accessFault_inbox q wr h h').trans (if_pos hal))
  case inbox => exact trap (3, 2) ((s.accessFault_inbox q wr h h').trans (by rw [hst, if_neg (not_not.mpr hal)]; rfl))
  case below => exact trap (3, 0) (s.accessFault_nowhere q wr (.inl ⟨h, h'⟩))
  case above => exact trap (3, 0) (s.accessFault_nowhere q wr (.inr ⟨h, h'⟩))

end Sys2Proof.Machine
end

section
/-!
PROOF. Bits and fields of a word that is written in part, saturating counters, and registers that are written in part (R10, R12).
-/
namespace Sys2Proof.Machine

/-! Bits and fields of a word. -/

theorem testBit_fld (w : Word) (lo n j : Nat) : (w.fld lo n).testBit j = (decide (j < n) && w.bit (lo + j)) := by
  rw [Word.fld, bitsOf, Nat.testBit_mod_two_pow, Nat.testBit_div_two_pow, Nat.add_comm j lo]
  rfl

/-- A field is its bits. -/
theorem Word.fld_congr {w w' : Word} {lo n : Nat} (h : ∀ j, lo ≤ j → j < lo + n → w.bit j = w'.bit j) : w.fld lo n = w'.fld lo n := by
  refine Nat.eq_of_testBit_eq fun j => ?_
  rw [testBit_fld, testBit_fld]
  by_cases hj : j < n
  · rw [h (lo + j) (by omega) (by omega)]
  · simp [hj]

theorem testBit_splice (hi mid n rest lo : Nat) (hmid : mid < 2 ^ n) (hrest : rest < 2 ^ lo) (j : Nat) :
    (2 ^ lo * (2 ^ n * hi + mid) + rest).testBit j =
      if j < lo then rest.testBit j else if j - lo < n then mid.testBit (j - lo) else hi.testBit (j - lo - n) := by
  rw [Nat.testBit_two_pow_mul_add _ hrest, Nat.testBit_two_pow_mul_add _ hmid]

/-- A word is the field between the bits above it and those below. -/
theorem splice_fld (w lo n : Nat) : 2 ^ lo * (2 ^ n * (w / 2 ^ lo / 2 ^ n) + bitsOf w lo n) + w % 2 ^ lo = w := by
  rw [bitsOf, Nat.div_add_mod, Nat.div_add_mod]

/-- A replaced field holds the new value's bits, and every other bit stays. -/
@[simp] theorem Word.bit_withFld (w : Word) {lo n : Nat} (h : lo + n ≤ 32) (v j : Nat) :
    (w.withFld lo n v).bit j = if lo ≤ j ∧ j < lo + n then v.testBit (j - lo) else w.bit j := by
  have hw := splice_fld w.toNat lo n
  have hfld : bitsOf w.toNat lo n < 2 ^ n := Nat.mod_lt _ (Nat.two_pow_pos n)
  have hrest : w.toNat % 2 ^ lo < 2 ^ lo := Nat.mod_lt _ (Nat.two_pow_pos lo)
  have hv : v % 2 ^ n < 2 ^ n := Nat.mod_lt _ (Nat.two_pow_pos n)
  have hnew : w.toNat - bitsOf w.toNat lo n * 2 ^ lo + v % 2 ^ n * 2 ^ lo =
      2 ^ lo * (2 ^ n * (w.toNat / 2 ^ lo / 2 ^ n) + v % 2 ^ n) + w.toNat % 2 ^ lo := by
    have hsub : w.toNat - bitsOf w.toNat lo n * 2 ^ lo = 2 ^ lo * (2 ^ n * (w.toNat / 2 ^ lo / 2 ^ n)) + w.toNat % 2 ^ lo := by
      rw [Nat.mul_add] at hw
      rw [Nat.mul_comm (bitsOf _ _ _)]
      omega
    rw [hsub, Nat.mul_add, Nat.mul_comm (v % 2 ^ n)]
    omega
  have hold : w.bit j = (w.toNat).testBit j := rfl
  rw [Word.withFld, hnew, hold, Word.bit, BitVec.getLsbD_ofNat, testBit_splice _ _ _ _ _ hv hrest, Nat.testBit_mod_two_pow]
  conv_rhs => rw [← hw, testBit_splice _ _ _ _ _ hfld hrest]
  by_cases hlo : j < lo
  · simp [hlo, Nat.not_le.mpr hlo, show j < 32 by omega]
  · by_cases hn : j - lo < n
    · simp [hlo, hn, Nat.not_lt.mp hlo, show j < 32 by omega, show j < lo + n by omega]
    · have hrange : ¬ (lo ≤ j ∧ j < lo + n) := by omega
      by_cases h32 : j < 32
      · simp [hlo, hn, hrange, h32]
      · have hzero : (w.toNat / 2 ^ lo / 2 ^ n).testBit (j - lo - n) = false := by
          rw [Nat.testBit_div_two_pow, Nat.testBit_div_two_pow, Nat.testBit_lt_two_pow]
          exact lt_of_lt_of_le w.isLt (Nat.pow_le_pow_right (by decide) (by omega))
        simp [hlo, hn, hrange, h32, hzero]

/-- A bit that is set reads back, and every other bit stays. -/
@[simp] theorem Word.bit_withBit (w : Word) {i : Nat} (h : i < 32) (b : Bool) (j : Nat) :
    (w.withBit i b).bit j = if i = j then b else w.bit j := by
  rw [Word.withBit, Word.bit_withFld w (by omega)]
  by_cases hij : i = j
  · subst hij; cases b <;> simp
  · rw [if_neg (by omega), if_neg hij]

/-- A replaced field reads back. -/
theorem Word.fld_withFld (w : Word) {lo n : Nat} (h : lo + n ≤ 32) (v : Nat) : (w.withFld lo n v).fld lo n = v % 2 ^ n := by
  refine Nat.eq_of_testBit_eq fun j => ?_
  rw [testBit_fld, Word.bit_withFld w h, Nat.testBit_mod_two_pow]
  by_cases hj : j < n
  · simp [hj]
  · simp [hj]

/-- Another field stays. -/
theorem Word.fld_withFld_of_disjoint (w : Word) {lo n lo' n' : Nat} (h : lo + n ≤ 32) (hd : lo' + n' ≤ lo ∨ lo + n ≤ lo') (v : Nat) :
    (w.withFld lo n v).fld lo' n' = w.fld lo' n' :=
  Word.fld_congr fun j _ _ => by rw [Word.bit_withFld w h, if_neg (by omega)]

/-! Counters. -/

/-- A counter of n bits counts one, up to its greatest value. -/
theorem toNat_satAdd {n : Nat} (hn : n ≤ 32) (x k : Nat) : (BitVec.ofNat 32 (satAdd n x k)).toNat = min (x + k) (2 ^ n - 1) := by
  have hpow : 2 ^ n ≤ 2 ^ 32 := Nat.pow_le_pow_right (by decide) hn
  have hpos := Nat.two_pow_pos n
  rw [BitVec.toNat_ofNat, satAdd, Nat.mod_eq_of_lt]
  omega

/-! Registers that are written in part. -/

section
variable (s : State) (a b : Nat)

theorem State.rd_bump (n k : Nat) : (s.bump a n k).rd b = if a = b then BitVec.ofNat 32 (satAdd n (s.rd a).toNat k) else s.rd b :=
  s.rd_wr a b _
theorem State.rd_setBits (m : Word) : (s.setBits a m).rd b = if a = b then s.rd a ||| m else s.rd b := s.rd_wr a b _
theorem State.rd_clrBits (m : Word) : (s.clrBits a m).rd b = if a = b then s.rd a &&& ~~~m else s.rd b := s.rd_wr a b _
theorem State.rd_wrFld (lo n v : Nat) : (s.wrFld a lo n v).rd b = if a = b then (s.rd a).withFld lo n v else s.rd b := s.rd_wr a b _

/-- A counter register after it counts. -/
theorem State.rd_bump_toNat {n : Nat} (hn : n ≤ 32) (k : Nat) : ((s.bump a n k).rd a).toNat = min ((s.rd a).toNat + k) (2 ^ n - 1) := by
  rw [State.rd_bump, if_pos rfl, toNat_satAdd hn]

/-- A write of one register changes no other. -/
theorem OnlyRegs.wr (v : Word) : OnlyRegs [a] s (s.wr a v) :=
  ⟨rfl, fun c hc => (s.rd_wr a c v).trans (if_neg fun h => hc (by simp [h]))⟩

theorem OnlyRegs.bump (n k : Nat) : OnlyRegs [a] s (s.bump a n k) := OnlyRegs.wr s a _
theorem OnlyRegs.setBits (m : Word) : OnlyRegs [a] s (s.setBits a m) := OnlyRegs.wr s a _

end

/-! What the log leaves (R491). -/

/-- An event for the log stands in the log's queue, and nothing else changes. -/
theorem State.logAt_eq (s : State) (t c : Nat) (l : List Nat) : s.logAt t c l = { s with logq := (s.logAt t c l).logq } := by
  unfold State.logAt; split <;> rfl

section
variable (s : State) (c : Nat) (l : List Nat)

theorem State.logEv_eq : s.logEv c l = { s with logq := (s.logEv c l).logq } := s.logAt_eq _ c l

@[simp] theorem State.logEv_now : (s.logEv c l).now = s.now := by rw [State.logEv_eq]
@[simp] theorem State.logEv_reg : (s.logEv c l).reg = s.reg := by rw [State.logEv_eq]
@[simp] theorem State.logEv_panes : (s.logEv c l).panes = s.panes := by rw [State.logEv_eq]
@[simp] theorem State.logEv_gen : (s.logEv c l).gen = s.gen := by rw [State.logEv_eq]
@[simp] theorem State.logEv_arrivals : (s.logEv c l).arrivals = s.arrivals := by rw [State.logEv_eq]
@[simp] theorem State.rd_logEv (a : Nat) : (s.logEv c l).rd a = s.rd a := congrArg (fun m => RegFile.rd devReset m a) (s.logEv_reg c l)

end

end Sys2Proof.Machine
end

section
/-!
PROOF. The tick sources (R42, R45, R47 to R49, R636): an edge that steers, a stray, the loss of the source, and the relock.
-/
namespace Sys2Proof.Machine

/-! An edge on its way to the generator. -/

/-- The state at the time of an edge that counts (R42): the count of frame syncs starts again. -/
def State.synced (s : State) (t : Nat) : State := { s.at t with gen := { s.gen with fs := 0 } }

/-- An edge of source 1 or 2 passes its crossing, and one that counts reaches the generator at its root time (R42, R636). -/
theorem execSourceEdge_source {s : State} (t : Nat) (hon : s.gen.on = true) (hsrc : s.tickSrc = 1 ∨ s.tickSrc = 2) :
    execSourceEdge t s = .next (if s.severed (Claims.sourceCrossing s) then (s.at t).discards (Claims.sourceCrossing s) 1
      else if s.tickSrc = 2 ∧ s.gen.fs + 1 < s.fsDiv then { s.at t with gen := { s.gen with fs := s.gen.fs + 1 } }
      else (s.synced t).sourceAt (Claims.rootTime s t)) := by
  have hone : (sourceOf s.tickSrc).1 = some (Claims.sourceCrossing s) ∧ t + (sourceOf s.tickSrc).2 = Claims.rootTime s t ∧
      s.tickSrc ≠ 3 ∧ s.tickSrc ≠ 0 := by
    rcases hsrc with h | h <;> simp [sourceOf, Claims.sourceCrossing, Claims.rootTime, h]
  obtain ⟨hcross, hroot, hmarker, htime⟩ := hone
  have hsrc' : (s.at t).tickSrc = s.tickSrc := rfl
  have hpass : (!(s.at t).gen.on || (s.at t).tickSrc == 3 || ((s.at t).tickSrc == 0 && !(s.at t).timeEdge t)) = false := by
    simp [hsrc', hon, hmarker, htime]
  unfold execSourceEdge
  dsimp only
  rw [hpass, if_neg Bool.false_ne_true, hsrc', hcross, hroot, apply_ite Host.Outcome.next, apply_ite Host.Outcome.next]
  rfl

/-! An edge at a generator that follows its source (R45). -/

/-- The generator after a stray, which counts in the row of R49 unless it is locked (log 57). -/
def State.strayGen (s : State) (e : Nat) : Gen := if s.tickLocked then s.gen else s.seeEdge e

theorem State.strayGen_keeps (s : State) (e : Nat) :
    (s.strayGen e).lastEdge = s.gen.lastEdge ∧ (s.strayGen e).steer = s.gen.steer ∧ (s.strayGen e).next = s.gen.next ∧
      (s.strayGen e).period = s.gen.period := by
  unfold State.strayGen
  split <;> exact ⟨rfl, rfl, rfl, rfl⟩

section
variable {s : State} {e : Nat} (hhold : s.holdover = false) (hslew : s.slewing = false)
include hhold hslew

/-- Within the window it is accepted. -/
theorem State.sourceAt_near (hnear : (s.phaseErr e).natAbs ≤ 100) : s.sourceAt e =
    State.setBits { s with gen := { s.trackEdge e with steer := max (-2) (min 2 (s.phaseErr e)) } } tickStatus 1#32 := by
  simp [State.sourceAt, hhold, hslew, hnear]

/-- Outside, it is a stray. -/
theorem State.sourceAt_far (hfar : 100 < (s.phaseErr e).natAbs) : s.sourceAt e =
    State.bump { s with gen := s.strayGen e } (Config.transom + 0x1C) 16 1 := by
  simp only [State.sourceAt, hhold, hslew, Nat.not_le.mpr hfar, Bool.false_eq_true, if_false, State.strayGen]
  cases s.tickLocked <;> rfl

end

/-! The generator and its status. -/

/-- The generator and TICK_STATUS take new values. -/
def State.regen (s : State) (g : Gen) (w : Word) : State := ({ s with gen := g } : State).wr tickStatus w

section
variable (s : State) (g : Gen) (w : Word)

@[simp] theorem State.regen_now : (s.regen g w).now = s.now := rfl
@[simp] theorem State.regen_gen : (s.regen g w).gen = g := rfl
@[simp] theorem State.regen_panes : (s.regen g w).panes = s.panes := rfl
@[simp] theorem State.regen_arrivals : (s.regen g w).arrivals = s.arrivals := rfl
theorem State.rd_regen : (s.regen g w).rd tickStatus = w := (State.rd_wr _ _ _ _).trans (if_pos rfl)

end

/-! The loss of the source (R47, R48). -/

/-- TICK_STATUS in holdover: LOSS and HOLDOVER set, LOCKED and SLEWING clear. -/
def lossStatus (w : Word) : Word := (((w.withBit 0 false).withBit 1 true).withBit 2 true).withBit 4 false

/-- The generator goes on at the period it tracked last, and the row of R49 starts at the last accepted edge. -/
def Gen.held (g : Gen) (l : Nat) : Gen := { g with good := 0, steer := 0, slew := 0, seenEdge := some l, ivl := none }

/-- The state in holdover, before LOSS rings its bell. -/
def State.heldOver (s : State) (t l : Nat) : State :=
  (s.at t).regen (s.gen.held l) (lossStatus (s.rd tickStatus))

theorem execTickSourceLoss_lost {s : State} {t l : Nat} (hon : s.gen.on = true) (hhold : s.holdover = false)
    (hlast : s.gen.lastEdge = some l) (hlong : 3 * s.nominal ≤ (max s.now t - l) * 2 ^ 33) :
    execTickSourceLoss t s = .next (State.logEv { s.heldOver t l with
      arrivals := if (s.rd tickStatus).bit 2 then s.arrivals
        else s.arrivals ++ [{ src := 14, kind := .rise, detail := 0, todo := BitVec.allOnes 64 }] } 0x7F03 []) := by
  have hpass : (!s.gen.on || (s.at t).holdover || decide (((s.at t).now - l) * 2 ^ 33 < 3 * (s.at t).nominal)) = false := by
    have hhold' : (s.at t).holdover = false := hhold
    have hlong' : 3 * (s.at t).nominal ≤ ((s.at t).now - l) * 2 ^ 33 := hlong
    rw [hhold', decide_eq_false (Nat.not_lt.mpr hlong'), hon]
    rfl
  have hring : (if (s.rd tickStatus).bit 2 then s.heldOver t l else (s.heldOver t l).raise allBells 14 .rise 0) =
      { s.heldOver t l with arrivals := if (s.rd tickStatus).bit 2 then s.arrivals
        else s.arrivals ++ [{ src := 14, kind := .rise, detail := 0, todo := BitVec.allOnes 64 }] } := by
    split <;> rfl
  rw [execTickSourceLoss, State.at_gen, hlast, ← hring]
  exact if_neg (ne_true_of_eq_false hpass)

/-! The relock (R49). -/

/-- The generator at its relock: it tracks the period of the row, from the row's last edge. -/
def State.relockGen (s : State) (e : Nat) : Gen :=
  { s.gen with lastEdge := some e, period := s.heldPeriod ((s.gen.ivl.map (· * 2 ^ 32)).getD s.gen.period) }

/-- TICK_STATUS after a relock: RELOCK set and HOLDOVER clear, and LOCKED or SLEWING. -/
def relockStatus (w : Word) (near : Bool) : Word := (((w.withBit 0 near).withBit 1 false).withBit 3 true).withBit 4 (!near)

/-- The state after a relock at which the generator leads its source by d ns. -/
def State.relocked (s : State) (e d : Nat) (near : Bool) : State :=
  s.regen { s.relockGen e with slew := if near then 0 else d } (relockStatus (s.rd tickStatus) near)

theorem execTickRelock_relocks {s : State} {e : Nat} (hon : s.gen.on = true) (hlock : s.tickLocked = false) (hslew : s.slewing = false)
    (hgood : 16 ≤ s.gen.good) (hseen : s.gen.seenEdge = some e) :
    ∃ d near, (near = false → d ≠ 0) ∧ execTickRelock s = .next ((s.relocked e d near).edge allBells 15 0) := by
  have hpass : (!s.gen.on || s.tickLocked || s.slewing || decide (s.gen.good < 16)) = false := by simp [hon, hlock, hslew, hgood]
  let s1 : State := { s with gen := s.relockGen e }
  refine ⟨s1.lead e, s1.leadNear (s1.lead e), fun hfar hzero => ?_, ?_⟩
  · rw [hzero] at hfar
    simp [State.leadNear] at hfar
  · rw [execTickRelock, hseen]
    exact if_neg (ne_true_of_eq_false hpass)

/-- A period that a legal source has is held to less than 1 ns. -/
theorem State.heldPeriod_legal {s : State} {d : Nat} (h : s.legalIvl d = true) :
    ((s.heldPeriod (d * 2 ^ 32) : Int) - d * 2 ^ 32).natAbs ≤ 2 ^ 32 := by
  simp only [State.legalIvl, decide_eq_true_eq] at h
  simp only [State.heldPeriod]
  omega

/-- Settles O34: edges of the sources, holdover, and the relock. -/
theorem tickSourcesSteer : Obligations.TickSourcesSteer := by
  intro s t st e err
  have hstatus (r : State) (v : Word) : (r.wr tickStatus v).rd tickStatus = v := (r.rd_wr _ _ _).trans (if_pos rfl)
  refine ⟨fun hon hsrc hsev hcount hhold hslew => ?edge, fun hon hsrc hsev => ?severed, fun l hon hhold hlast hlong => ?loss,
    fun hon hlock hslew hgood hseen => ?relock⟩
  case edge =>
    have hexec : exec (.sourceEdge t) s = .next ((s.synced t).sourceAt e) := by
      rw [exec_sourceEdge, execSourceEdge_source t hon hsrc, hsev, if_neg Bool.false_ne_true, if_neg]
      exact fun h => absurd (hcount h.1) (Nat.not_le.mpr (Nat.lt_of_succ_lt_succ h.2))
    refine ⟨fun hnear => ?_, fun hfar => ?_⟩
    · refine ⟨_, hexec.trans (congrArg _ (State.sourceAt_near (s := s.synced t) hhold hslew hnear)), rfl, rfl, rfl, rfl,
        OnlyRegs.setBits _ _ _, hstatus _ _⟩
    · obtain ⟨hlast, hsteer, hnext, hperiod⟩ := (s.synced t).strayGen_keeps e
      refine ⟨_, hexec.trans (congrArg _ (State.sourceAt_far (s := s.synced t) hhold hslew hfar)), rfl, hlast, hsteer, hnext, hperiod,
        fun hl => ?_, OnlyRegs.bump _ _ _ _, (State.rd_bump _ _ _ _ _).trans (if_pos rfl)⟩
      have hlocked : (s.synced t).strayGen e = (s.synced t).gen := if_pos hl
      exact hlocked.trans (by rw [State.bump, State.wr_gen, hlocked]; rfl)
  case severed =>
    have hexec : exec (.sourceEdge t) s = .next ((s.at t).discards (Claims.sourceCrossing s) 1) := by
      rw [exec_sourceEdge, execSourceEdge_source t hon hsrc, hsev, if_pos rfl]
    exact ⟨_, hexec, OnlyRegs.bump _ _ _ _, (State.rd_bump _ _ _ _ _).trans (if_pos rfl)⟩
  case loss =>
    have hexec := execTickSourceLoss_lost hon hhold hlast hlong
    have hst : (s.heldOver t l).rd (Config.transom + 0x18) = lossStatus st := State.rd_regen _ _ _
    refine ⟨_, (exec_tickSourceLoss t s).trans hexec, by rw [State.logEv_now]; rfl, ?_⟩
    simp only [State.rd_logEv, State.logEv_gen, State.logEv_panes, State.logEv_arrivals]
    rw [show ∀ l : List BellEvent, State.rd { s.heldOver t _ with arrivals := l } (Config.transom + 0x18) = lossStatus st from fun _ => hst]
    refine ⟨?_, ?_, ?_, ?_, rfl, rfl, rfl, rfl, rfl⟩ <;> simp [lossStatus]
  case relock =>
    obtain ⟨e', hseen⟩ := Option.ne_none_iff_exists'.mp hseen
    obtain ⟨d, near, hfar, hexec⟩ := execTickRelock_relocks hon hlock hslew hgood hseen
    have hst : ((s.relocked e' d near).edge allBells 15 0).rd (Config.transom + 0x18) = relockStatus st near := State.rd_regen _ _ _
    refine ⟨_, (exec_tickRelock s).trans hexec, ?_⟩
    rw [hst]
    refine ⟨by simp [relockStatus], by simp [relockStatus], by simp [relockStatus], ?_, hseen.symm, fun d' hivl hlegal => ?_,
      (State.raise_panes _ _ _ _ _).trans (State.regen_panes _ _ _), rfl⟩
    · cases near <;> simp [relockStatus, State.relocked, hfar]
    · have hperiod : ((s.relocked e' d near).edge allBells 15 0).gen.period = s.heldPeriod (d' * 2 ^ 32) := by
        simp [State.relocked, State.relockGen, hivl]
      rw [hperiod]
      exact State.heldPeriod_legal hlegal

end Sys2Proof.Machine
end

section
/-!
PROOF. Resets of the part, and of a sash by its rail supervisor (R576, R577, R623 to R627).
-/
namespace Sys2Proof.Machine

/-! Folds over a state. -/

/-- What every step of a fold keeps, the fold keeps. -/
theorem foldl_keeps {α β : Type} {f : State → α → State} (g : State → β) (l : List α) (s : State)
    (h : ∀ t, ∀ x ∈ l, g (f t x) = g t) : g (l.foldl f s) = g s := by
  induction l generalizing s with
  | nil => rfl
  | cons x r ih => exact (ih (f s x) fun t y hy => h t y (List.mem_cons_of_mem x hy)).trans (h s x List.mem_cons_self)

/-- A pane that is none of those updated stays. -/
theorem pane_foldl_modPane_of_not_mem {p : Nat} (at' : Nat → Nat) (f : Pane → Pane) (l : List Nat) (s : State)
    (h : ∀ n ∈ l, at' n ≠ p) : (l.foldl (fun s n => s.modPane (at' n) f) s).pane p = s.pane p :=
  foldl_keeps (fun s => s.pane p) l s fun t n hn => (t.pane_modPane _ _ _).trans (if_neg (h n hn))

/-- What an update leaves of any pane, it leaves of a pane that it meets. -/
theorem pane_foldl_modPane_of_mem {p : Nat} (at' : Nat → Nat) (f : Pane → Pane) (P : Pane → Prop) (hP : ∀ q, P (f q)) (l : List Nat)
    (s : State) (h : ∃ n ∈ l, at' n = p) : P ((l.foldl (fun s n => s.modPane (at' n) f) s).pane p) := by
  induction l generalizing s with
  | nil => obtain ⟨n, hn, -⟩ := h; exact absurd hn List.not_mem_nil
  | cons x r ih =>
    by_cases hr : ∃ n ∈ r, at' n = p
    · exact ih _ hr
    · obtain ⟨n, hn, hnp⟩ := h
      obtain rfl : n = x := (List.mem_cons.mp hn).resolve_right fun hn => hr ⟨n, hn, hnp⟩
      rw [List.foldl_cons, pane_foldl_modPane_of_not_mem at' f r _ fun m hm hmp => hr ⟨m, hm, hmp⟩, State.pane_modPane, if_pos hnp]
      exact hP _

/-! Resets of the part (R623 to R625). -/

theorem State.keepAcross_wasReset (s : State) : Claims.WasReset s s.keepAcross :=
  ⟨rfl, rfl, rfl, rfl, rfl, rfl, rfl, rfl, rfl, rfl, rfl, rfl, rfl, rfl, rfl, rfl, rfl⟩

/-- A reset by code 1 to 3, with a count of AON brownouts that has gone on. -/
theorem State.resetBy_resetBy (s : State) (code : Nat) : Claims.ResetBy s (s.resetBy code) code := by
  refine ⟨s.keepAcross_wasReset, rfl, rfl, fun h => ⟨?_, ?_⟩⟩
  · simp [State.resetBy, State.causeWith, State.rd_wr, Config.cross, Config.pwr, h]
  · have hread : (s.resetBy code).rd (Config.cross + 4) = BitVec.ofNat 32 (satAdd 16 (s.rd (Config.cross + 4)).toNat 1) := by
      simp [State.resetBy, State.rd_wr, Config.cross, Config.pwr, h]
    rw [hread, toNat_satAdd (by decide)]
    rfl

/-- The counter of AON brownouts stays over such a reset (R577). -/
theorem State.rd_resetBy_brownouts (s : State) (code : Nat) : (s.resetBy code).rd (Config.pwr + 0x20) = s.rd (Config.pwr + 0x20) :=
  (State.rd_wr _ _ _ _).trans (if_pos rfl)

/-- A count elsewhere leaves what a reset shows. -/
theorem Claims.ResetBy.bump {s t : State} {code a : Nat} (h : Claims.ResetBy s t code) (n k : Nat) (ha : a ≠ Config.cross)
    (ha' : a ≠ Config.cross + 4) : Claims.ResetBy s (t.bump a n k) code := by
  obtain ⟨hwas, haon, htap, hregs⟩ := h
  refine ⟨hwas, haon, htap, fun hr => ?_⟩
  rw [State.rd_bump, State.rd_bump, if_neg ha, if_neg ha']
  exact hregs hr

theorem resetsAct : Claims.resetsAct := by
  intro s n takes low limit
  refine ⟨?powerOn, fun h => ?pin, fun h => ?short, fun h => ?aon, fun h => ?aonHolds, fun h => ?core, fun h => ?coreHolds⟩
  case powerOn =>
    have hcause : s.powerOn.rd Config.cross = State.reset.rd Config.cross := rfl
    exact ⟨s.powerOn, exec_powerOnReset s, s.keepAcross_wasReset, rfl, rfl, by rw [hcause]; decide⟩
  case pin =>
    refine ⟨{ s.resetBy 1 with resetLow := low }, ?_, s.resetBy_resetBy 1, rfl⟩
    rw [exec_resetPin, execResetPin, decide_eq_true h, Bool.true_or, if_pos rfl]
  case short =>
    rw [exec_resetPin, execResetPin, if_neg]
    simp only [Bool.or_eq_true, decide_eq_true_eq, Bool.and_eq_true, not_or, not_and]
    exact ⟨by omega, fun hlong => absurd hlong (by omega)⟩
  case aon =>
    refine ⟨_, (exec_aonBrownout n s).trans (if_pos h), Claims.ResetBy.bump (s.resetBy_resetBy 2) 16 1 (by decide) (by decide), ?_⟩
    rw [State.rd_bump_toNat _ _ (by decide), s.rd_resetBy_brownouts]
    rfl
  case aonHolds => exact (exec_aonBrownout n s).trans (if_neg (Nat.not_lt.mpr h))
  case core => exact ⟨_, (exec_coreBrownout n s).trans (if_pos h), s.resetBy_resetBy 3⟩
  case coreHolds => exact (exec_coreBrownout n s).trans (if_neg (Nat.not_le.mpr h))

/-! The reset of a sash (R627). -/

/-- The panes of a sash stand in it. -/
theorem sashOf_paneOfSash (d : Nat) {n : Nat} (hn : n < 16) : sashOf (paneOfSash d n) = d := by
  simp only [sashOf, paneOfSash]; omega

theorem State.levelsFall_panes (s : State) (d : Nat) : (s.levelsFall d).panes = s.panes :=
  foldl_keeps State.panes _ s fun _ _ _ => rfl
theorem State.levelsFall_now (s : State) (d : Nat) : (s.levelsFall d).now = s.now := foldl_keeps State.now _ s fun _ _ _ => rfl
theorem State.levelsFall_part (s : State) (d : Nat) : (s.levelsFall d).part = s.part := foldl_keeps State.part _ s fun _ _ _ => rfl

theorem State.toggleEpochs_panes (s : State) (d : Nat) : (s.toggleEpochs d).panes = s.panes :=
  foldl_keeps State.panes _ s fun _ _ _ => rfl
theorem State.toggleEpochs_now (s : State) (d : Nat) : (s.toggleEpochs d).now = s.now := foldl_keeps State.now _ s fun _ _ _ => rfl
theorem State.toggleEpochs_part (s : State) (d : Nat) : (s.toggleEpochs d).part = s.part := foldl_keeps State.part _ s fun _ _ _ => rfl

/-- A domain whose rail falls is noted as held. -/
theorem State.mem_railLow_railReset (s : State) (d : Nat) : d ∈ (s.railReset d).railLow := by
  simp only [State.railReset]
  split
  · exact List.contains_iff_mem.mp ‹_›
  · simp

/-- The 16 panes of a sash start afresh, with their memory. -/
def State.freshSash (s : State) (d : Nat) : State :=
  (List.range 16).foldl (fun s n => s.modPane (paneOfSash d n) (fun q => q.afterShut.keepMemory q)) s

theorem State.freshSash_now (s : State) (d : Nat) : (s.freshSash d).now = s.now := foldl_keeps State.now _ s fun _ _ _ => rfl
theorem State.freshSash_part (s : State) (d : Nat) : (s.freshSash d).part = s.part := foldl_keeps State.part _ s fun _ _ _ => rfl

theorem State.resetDomain_sash (s : State) {d : Nat} (hd : d < 64) : s.resetDomain d = s.freshSash d := by
  rw [State.resetDomain, if_pos hd, State.freshSash]

theorem State.railReset_panes (s : State) {d : Nat} (hd : d < 64) : (s.railReset d).panes = ((s.levelsFall d).freshSash d).panes := by
  have hnote : (s.railReset d).panes = (((s.levelsFall d).resetDomain d).toggleEpochs d).panes := rfl
  rw [hnote, State.toggleEpochs_panes, State.resetDomain_sash _ hd]

theorem State.railReset_now (s : State) {d : Nat} (hd : d < 64) : (s.railReset d).now = s.now := by
  have hnote : (s.railReset d).now = (((s.levelsFall d).resetDomain d).toggleEpochs d).now := rfl
  rw [hnote, State.toggleEpochs_now, State.resetDomain_sash _ hd, State.freshSash_now, State.levelsFall_now]

theorem State.railReset_part (s : State) {d : Nat} (hd : d < 64) : (s.railReset d).part = s.part := by
  have hnote : (s.railReset d).part = (((s.levelsFall d).resetDomain d).toggleEpochs d).part := rfl
  rw [hnote, State.toggleEpochs_part, State.resetDomain_sash _ hd, State.freshSash_part, State.levelsFall_part]

theorem State.pane_congr {s t : State} (h : t.panes = s.panes) (p : Nat) : t.pane p = s.pane p :=
  congrArg (fun m => SMap.get (fun _ => Pane.reset) m p) h

/-- A pane of another sash stays. -/
theorem State.pane_railReset_other {s : State} {d j : Nat} (hd : d < 64) (hj : sashOf j ≠ d) : (s.railReset d).pane j = s.pane j := by
  rw [State.pane_congr (s.railReset_panes hd), State.freshSash, pane_foldl_modPane_of_not_mem]
  · exact State.pane_congr (s.levelsFall_panes d) j
  · rintro n hn rfl
    exact hj (sashOf_paneOfSash d (List.mem_range.mp hn))

/-- The memory of every pane stays. -/
theorem State.sram_railReset {s : State} {d : Nat} (hd : d < 64) (p : Nat) : ((s.railReset d).pane p).sram = (s.pane p).sram := by
  rw [State.pane_congr (s.railReset_panes hd), ← State.pane_congr (s.levelsFall_panes d) p]
  refine foldl_keeps (fun s => (s.pane p).sram) _ _ fun t n _ => ?_
  rw [State.pane_modPane]
  split
  · subst_vars; rfl
  · rfl

theorem Pane.gr_afterShut (q : Pane) (r : RegNo) : (q.afterShut.keepMemory q).gr r = 0 := by
  simp [Pane.gr, Pane.keepMemory, Pane.afterShut, Pane.reset]

/-- The registers, the store buffer and the frames of its own panes are empty. -/
theorem State.fresh_railReset {s : State} {d k : Nat} (hd : d < 64) (hk : k < 16) :
    (∀ r, ((s.railReset d).pane (paneOfSash d k)).gr r = 0) ∧ ((s.railReset d).pane (paneOfSash d k)).sb = [] ∧
      ((s.railReset d).pane (paneOfSash d k)).fdepth = 0 := by
  rw [State.pane_congr (s.railReset_panes hd)]
  rw [State.freshSash]
  refine pane_foldl_modPane_of_mem (paneOfSash d) (fun q => q.afterShut.keepMemory q)
    (fun q => (∀ r, q.gr r = 0) ∧ q.sb = [] ∧ q.fdepth = 0) (fun q => ⟨q.gr_afterShut, ?_, ?_⟩) _ _ ⟨k, List.mem_range.mpr hk, rfl⟩ <;> rfl

theorem execDomainRailReset_sash {s : State} {domain : BitVec 7} {n : Nat} (hd : domain.toNat < 64) (hreset : s.inReset = false)
    (hopen : s.domOpen domain.toNat = true) : execDomainRailReset domain n s = .next ((s.at n).railReset domain.toNat) := by
  have hexists : ¬ (!domainExists domain.toNat) = true := by simp [domainExists, show domain.toNat ≤ 108 by omega]
  have hacts : ¬ (s.inReset || !s.domOpen domain.toNat) = true := by rw [hreset, hopen]; decide
  rw [execDomainRailReset]
  exact (if_neg hexists).trans ((if_neg (by omega)).trans (if_neg hacts))

theorem railsReset : Claims.railsReset := by
  intro s domain n k d p
  refine ⟨fun hd hk hreset hopen => ?_, fun hd => ?_⟩
  · obtain ⟨hgr, hsb, hfdepth⟩ := State.fresh_railReset (s := s.at n) hd hk
    refine ⟨(s.at n).railReset d, (exec_domainRailReset domain n s).trans (execDomainRailReset_sash hd hreset hopen), ?_,
      State.mem_railLow_railReset _ _, ?_, hgr, hsb, hfdepth, fun j hj => ?_, ?_⟩
    · exact (s.at n).railReset_now hd
    · exact State.sram_railReset (s := s.at n) hd p
    · exact State.pane_railReset_other (s := s.at n) hd hj
    · exact (s.at n).railReset_part hd
  · rw [exec_domainRailReset, execDomainRailReset, domainExists, decide_eq_false (Nat.not_le.mpr hd)]
    rfl

end Sys2Proof.Machine
end

section
/-!
PROOF. Supplies that are lost and return (R629, R653, R654).
-/
namespace Sys2Proof.Machine

/-! What the loss of a supply leaves: the time, the supplies that are lost, and whether the reference is. -/

/-- The time, the lost supplies, and whether the reference is lost. -/
def State.rails (s : State) : Nat × List Nat × Bool := (s.now, s.lostSupplies, s.refLost)

theorem State.now_of_rails {s t : State} (h : t.rails = s.rails) : t.now = s.now := (Prod.mk.inj h).1

section
variable (s : State)

@[simp] theorem State.wr_rails (a : Nat) (v : Word) : (s.wr a v).rails = s.rails := rfl
@[simp] theorem State.wrFld_rails (a lo n v : Nat) : (s.wrFld a lo n v).rails = s.rails := rfl
@[simp] theorem State.bump_rails (a n k : Nat) : (s.bump a n k).rails = s.rails := rfl
@[simp] theorem State.setBits_rails (a : Nat) (m : Word) : (s.setBits a m).rails = s.rails := rfl
@[simp] theorem State.clrBits_rails (a : Nat) (m : Word) : (s.clrBits a m).rails = s.rails := rfl
@[simp] theorem State.resetRegs_rails (a b : Nat) : (s.resetRegs a b).rails = s.rails := rfl
@[simp] theorem State.discards_rails (c n : Nat) : (s.discards c n).rails = s.rails := rfl
@[simp] theorem State.raise_rails (m : BitVec 64) (src : Nat) (k : EventKind) (d : Nat) : (s.raise m src k d).rails = s.rails := rfl
@[simp] theorem State.edge_rails (m : BitVec 64) (src d : Nat) : (s.edge m src d).rails = s.rails := rfl
@[simp] theorem State.portEvent_rails (q c : Nat) : (s.portEvent q c).rails = s.rails := rfl
@[simp] theorem State.setTimeState_rails (q v : Nat) : (s.setTimeState q v).rails = s.rails := rfl
@[simp] theorem State.setLane_rails (l : Nat) (x : RxLane) : (s.setLane l x).rails = s.rails := rfl
@[simp] theorem State.setSlot_rails (d : Nat) (x : DriveSlot) : (s.setSlot d x).rails = s.rails := rfl

@[simp] theorem State.setLink_rails (k : Nat) (x : Link) : (s.setLink k x).rails = s.rails := rfl
@[simp] theorem State.setOut_rails (l : List (Nat × Msg)) (c : List (Nat × CtlBlock)) :
    State.rails { s with wicketOut := l, ctlOut := c } = s.rails := rfl

@[simp] theorem State.linkTo_rails (k v : Nat) : (s.linkTo k v).rails = s.rails := by unfold State.linkTo; split <;> rfl
@[simp] theorem State.losePart_rails (q : Nat) : (s.losePart q).rails = s.rails := by unfold State.losePart; split <;> rfl
@[simp] theorem State.showMarkers_rails : s.showMarkers.rails = s.rails := foldl_keeps State.rails _ s fun _ _ _ => rfl

@[simp] theorem State.linkLost_rails (k : Nat) : (s.linkLost k).rails = s.rails := by
  unfold State.linkLost
  dsimp only
  split
  · rw [foldl_keeps State.rails _ _ fun t q _ => t.losePart_rails q]
    simp
  · simp

@[simp] theorem State.chooseTimePort_rails : s.chooseTimePort.rails = s.rails := by
  refine foldl_keeps State.rails _ s fun t q _ => ?_
  dsimp only
  split
  · split <;> simp
  · simp

/-! Crossings. -/

@[simp] theorem State.watermark_rails (l old peak : Nat) : (s.watermark l old peak).rails = s.rails := by
  unfold State.watermark
  dsimp only
  split
  · simp
  · split <;> simp

@[simp] theorem State.dropFifos_rails (c : Nat) (b : Bool) : (s.dropFifos c b).rails = s.rails := by
  have hcount (t : State) (c n : Nat) : (if b then t.discards c n else t).rails = t.rails := by split <;> simp
  unfold State.dropFifos
  split
  · simp [hcount]
  · split
    · exact foldl_keeps State.rails _ s fun t k _ => by simp [hcount]
    · split <;> rfl

@[simp] theorem State.latchTrip_rails (c a : Nat) : (s.latchTrip c a).rails = s.rails := by unfold State.latchTrip; split <;> rfl

@[simp] theorem State.interlockTrip_rails (door : Bool) : (s.interlockTrip door).rails = s.rails := by
  unfold State.interlockTrip
  split
  · rfl
  · dsimp only
    split <;> exact s.latchTrip_rails _ _

@[simp] theorem State.severOne_rails (c : Nat) : (s.severOne c).rails = s.rails := by
  have hmark (t : State) (m : SMap Nat) : State.rails { t with severRep := m } = t.rails := rfl
  unfold State.severOne
  split
  · rfl
  · dsimp only
    split <;> simp [hmark]

@[simp] theorem State.sever_rails (l : List Nat) : (s.sever l).rails = s.rails := by
  have hall : (l.foldl State.severOne s).rails = s.rails := foldl_keeps State.rails l s fun t c _ => t.severOne_rails c
  unfold State.sever
  dsimp only
  split
  · exact hall
  · exact hall

/-! Domains from 80 to 105, which a supply may take down. -/

theorem State.loadSip_rails (g : Nat) : (s.loadSip g).rails = s.rails := by
  rw [State.loadSip, foldl_keeps State.rails _ _ fun _ _ _ => State.wr_rails _ _ _, State.wr_rails, State.wr_rails]
theorem State.loadDop_rails (g : Nat) : (s.loadDop g).rails = s.rails := by
  rw [State.loadDop, foldl_keeps State.rails _ _ fun _ _ _ => by simp only [State.wr_rails], State.wr_rails, State.wr_rails]
theorem State.loadNet_rails (q : Nat) : (s.loadNet q).rails = s.rails := by
  rw [State.loadNet, foldl_keeps State.rails _ _ fun _ _ _ => State.wr_rails _ _ _]
  simp only [State.wr_rails]
  rw [foldl_keeps State.rails _ _ fun _ _ _ => State.wr_rails _ _ _]
  simp only [State.wr_rails]

theorem State.reload_rails {d : Nat} (h : 80 ≤ d) : (s.reload d).rails = s.rails := by
  unfold State.reload
  rw [if_neg (by omega), if_neg (by omega), if_neg (by omega)]
  split
  · exact State.loadSip_rails _ _
  · split
    · exact State.loadDop_rails _ _
    · split
      · exact State.loadNet_rails _ _
      · split
        · rfl
        · split <;> rfl

theorem State.resetDomain_rails {d : Nat} (h : 80 ≤ d) (h' : d < 106) : (s.resetDomain d).rails = s.rails := by
  unfold State.resetDomain
  rw [if_neg (by omega), if_neg (by omega)]
  split
  · exact s.reload_rails h
  · split
    · refine (State.reload_rails _ h).trans ?_
      split
      · exact s.linkLost_rails _
      · rfl
    · split
      · exact s.resetRegs_rails _ _
      · rw [if_neg (by omega), if_neg (by omega)]

theorem State.railReset_rails {d : Nat} (h : 80 ≤ d) (h' : d < 106) : (s.railReset d).rails = s.rails := by
  have htoggle (t : State) : (t.toggleEpochs d).rails = t.rails := foldl_keeps State.rails _ t fun _ _ _ => rfl
  have hfall (t : State) : (t.levelsFall d).rails = t.rails := foldl_keeps State.rails _ t fun _ _ _ => rfl
  have hnote : (s.railReset d).rails = (((s.levelsFall d).resetDomain d).toggleEpochs d).rails := rfl
  rw [hnote, htoggle, State.resetDomain_rails _ h h', hfall]

theorem State.loseDomains_rails (ds cs : List Nat) (h : ∀ d ∈ ds, 80 ≤ d ∧ d < 106) : (s.loseDomains ds cs).rails = s.rails := by
  rw [State.loseDomains, State.sever_rails]
  exact foldl_keeps State.rails ds s fun t d hd => t.railReset_rails (h d hd).1 (h d hd).2

theorem State.serdesDown_rails : s.serdesDown.rails = s.rails := by
  unfold State.serdesDown
  dsimp only
  rw [foldl_keeps State.rails (List.range 6) _ fun t k _ => by split <;> simp]
  exact foldl_keeps State.rails [0, 1] s fun t q _ => by split <;> simp

end

/-! The loss and the return. -/

theorem State.mem_noteLost (s : State) (n j : Nat) : j ∈ (s.noteLost n).lostSupplies ↔ j = n ∨ j ∈ s.lostSupplies := by
  simp only [State.noteLost]
  split
  · exact ⟨.inr, fun h => h.elim (fun h => h ▸ List.contains_iff_mem.mp ‹_›) id⟩
  · rw [List.mem_append, List.mem_singleton, or_comm]

theorem mem_crossings {a b d : Nat} : d ∈ crossings a b ↔ a ≤ d ∧ d < b := by
  simp only [crossings, List.mem_map, List.mem_range]
  exact ⟨by rintro ⟨x, hx, rfl⟩; omega, fun h => ⟨d - a, by omega, by omega⟩⟩

/-- The state that a loss finds: the supply is noted. -/
def State.losing (s : State) (n k : Nat) : State := (s.at n).noteLost k

section
variable {s : State} {supply : BitVec 4} (n : Nat)

/-- Held in reset, or in OFF, a loss is only noted (R653). -/
theorem execSupplyLoss_held (h0 : supply.toNat ≠ 0) (h11 : supply.toNat ≤ 11) (hheld : s.inReset = true ∨ s.part = .off) :
    execSupplyLoss supply n s = .next (s.losing n supply.toNat) := by
  have hstill : (s.inReset || s.part == .off) = true := by rcases hheld with h | h <;> simp [h]
  rw [execSupplyLoss]
  exact (if_neg (Nat.not_lt.mpr h11)).trans ((if_neg h0).trans (if_pos hstill))

/-- The loss of the core supply resets a part that runs. -/
theorem execSupplyLoss_core (h1 : supply.toNat = 1) (hreset : s.inReset = false) (hpart : s.part ≠ .off) :
    execSupplyLoss supply n s = .next ((s.losing n supply.toNat).resetBy 3) := by
  have hruns : ¬ (s.inReset || s.part == .off) = true := by simp [hreset, hpart]
  rw [execSupplyLoss]
  exact (if_neg (by omega)).trans ((if_neg (by omega)).trans ((if_neg hruns).trans (if_pos h1)))

/-- The loss of a later supply of a part that runs (R654): what it noted stands, and the PLL's loss takes the reference. -/
theorem execSupplyLoss_later (h2 : 2 ≤ supply.toNat) (h11 : supply.toNat ≤ 11) (hreset : s.inReset = false) (hpart : s.part ≠ .off) :
    ∃ t, execSupplyLoss supply n s = .next t ∧ t.now = max s.now n ∧ supply.toNat ∈ t.lostSupplies ∧
      (supply.toNat = 2 → t.refLost = true) := by
  have hruns : ¬ (s.inReset || s.part == .off) = true := by simp [hreset, hpart]
  have hlost : supply.toNat ∈ (s.losing n supply.toNat).lostSupplies := (State.mem_noteLost _ _ _).mpr (.inl rfl)
  have noted {t : State} (ht : t.rails = (s.losing n supply.toNat).rails) (hne : supply.toNat ≠ 2) : t.now = max s.now n ∧
      supply.toNat ∈ t.lostSupplies ∧ (supply.toNat = 2 → t.refLost = true) := by
    obtain ⟨hnow, hrest⟩ := Prod.mk.inj ht
    exact ⟨hnow, (Prod.mk.inj hrest).1 ▸ hlost, fun h => absurd h hne⟩
  have hexec : execSupplyLoss supply n s = _ :=
    (if_neg (Nat.not_lt.mpr h11)).trans ((if_neg (by omega)).trans ((if_neg hruns).trans (if_neg (by omega))))
  rw [hexec]
  split
  · obtain ⟨hnow, hrest⟩ := Prod.mk.inj (State.serdesDown_rails { s.losing n supply.toNat with refLost := true })
    obtain ⟨hl, hr⟩ := Prod.mk.inj hrest
    exact ⟨_, rfl, hnow, (congrArg (supply.toNat ∈ ·) hl).mpr hlost, fun _ => hr⟩
  · split
    · exact ⟨_, rfl, noted ((State.loseDomains_rails _ _ _ fun d hd => by have := mem_crossings.mp hd; omega).trans
        (State.serdesDown_rails _)) ‹_›⟩
    · split
      · exact ⟨_, rfl, noted (State.sever_rails _ _) ‹_›⟩
      · split
        · exact ⟨_, rfl, noted (State.loseDomains_rails _ _ _ fun d hd => by have := mem_crossings.mp hd; omega) ‹_›⟩
        · split
          · refine ⟨_, rfl, noted (State.loseDomains_rails _ _ _ fun d hd => ?_) ‹_›⟩
            rw [List.mem_singleton.mp hd]
            omega
          · exact ⟨_, rfl, noted rfl ‹_›⟩

end

theorem suppliesComeAndGo : Claims.suppliesComeAndGo := by
  intro s supply n d k
  refine ⟨fun h0 => ?aon, fun h0 h11 hheld => ?held, fun h1 hreset hpart => ?core, fun h2 h11 => ?later, fun h => ?none,
    fun h11 => ?supplyBack, fun hd hfree => ?domainBack, rfl⟩
  case aon =>
    refine ⟨(s.losing n k).powerOn, ?_, State.keepAcross_wasReset _⟩
    rw [exec_supplyLoss, execSupplyLoss]
    exact (if_neg (show ¬ k > 11 by omega)).trans (if_pos h0)
  case held => exact ⟨_, (exec_supplyLoss supply n s).trans (execSupplyLoss_held n h0 h11 hheld), rfl, s.mem_noteLost k⟩
  case core => exact ⟨_, (exec_supplyLoss supply n s).trans (execSupplyLoss_core n h1 hreset hpart), State.resetBy_resetBy _ 3⟩
  case later =>
    by_cases hheld : s.inReset = true ∨ s.part = .off
    · refine ⟨_, (exec_supplyLoss supply n s).trans (execSupplyLoss_held n (by omega) h11 hheld), (s.mem_noteLost k k).mpr (.inl rfl),
        rfl, fun _ hreset hpart => ?_⟩
      exact absurd hheld (by simp [hreset, hpart])
    · rw [not_or, Bool.not_eq_true] at hheld
      obtain ⟨t, hexec, hnow, hlost, href⟩ := execSupplyLoss_later n h2 h11 hheld.1 hheld.2
      exact ⟨t, (exec_supplyLoss supply n s).trans hexec, hlost, hnow, fun h _ _ => href h⟩
  case none => exact (exec_supplyLoss supply n s).trans (if_pos h)
  case supplyBack =>
    refine ⟨_, (exec_supplyReturn _ n s).trans (if_neg (Nat.not_lt.mpr h11)), ?_, fun h2 => if_pos h2, rfl, rfl⟩
    simp
  case domainBack =>
    have hexists : ¬ (!domainExists d) = true := by simp [domainExists, hd]
    have hfree' : ¬ (s.at n).heldBySupply d = true := by rw [Bool.not_eq_true]; exact hfree
    refine ⟨_, (exec_supplyReturn _ n s).trans (if_neg hexists), ?_, rfl, rfl⟩
    simp [if_neg hfree']

end Sys2Proof.Machine
end

section
/-!
PROOF. Crossings that are severed and re-armed (R635 to R637), and GPIO edges (R71, R294).
-/
namespace Sys2Proof.Machine

/-! What the units of a crossing hold is discarded (R636): the registers of the crossings themselves stay, but for DISCARDS. -/

section
variable (s : State) {a : Nat} (h : Config.cross ≤ a ∧ a < Config.cross + 0x400)
include h

theorem State.rd_discards (c n : Nat) : (s.discards c n).rd a = s.rd a := by
  rw [State.discards, State.rd_bump, if_neg (by omega)]

theorem State.rd_watermark {l : Nat} (hl : l < 64) (old peak : Nat) : (s.watermark l old peak).rd a = s.rd a := by
  have hnotice : Config.sip (l / 8) + 0x10 ≠ a := by simp only [Config.sip, Config.cross] at h ⊢; omega
  have hlevel : laneReg l 8 ≠ a := by simp only [laneReg, Config.sip, Config.cross] at h ⊢; omega
  have hmark (t : State) (m v : Word) : ((t.setBits (Config.sip (l / 8) + 0x10) m).wr (laneReg l 8) v).rd a = t.rd a := by
    rw [State.rd_wr, if_neg hlevel, State.rd_setBits, if_neg hnotice]
  unfold State.watermark
  dsimp only
  split
  · rfl
  · split
    · exact hmark _ _ _
    · exact hmark _ _ _

theorem State.rd_dropFifos (c : Nat) (b : Bool) : (s.dropFifos c b).rd a = s.rd a := by
  have hcount (t : State) (c n : Nat) : (if b then t.discards c n else t).rd a = t.rd a := by
    split
    · exact t.rd_discards h c n
    · rfl
  unfold State.dropFifos
  split
  · exact (State.rd_watermark _ h ‹_› _ _).trans (hcount _ _ _)
  · split
    · exact foldl_keeps (fun t => t.rd a) _ s fun t k _ => hcount t _ _
    · split <;> rfl

end

/-- A crossing is severed by bit 0 of its register. -/
theorem State.severed_congr_reg {s t : State} {c : Nat} (h : t.rd (Config.cross + 0x100 + 4 * c) = s.rd (Config.cross + 0x100 + 4 * c)) :
    t.severed c = s.severed c := congrArg (fun w => Word.bit w 0) h

/-! The sever (R635). -/

/-- A crossing that severs, before its bell: its register and the count of severs. -/
def State.cut (s : State) (c : Nat) : State := (s.setBits (Config.cross + 0x100 + 4 * c) 1#32).bump (Config.cross + 0x20) 16 1

/-- What its receiver held is discarded. -/
def State.cutOff (s : State) (c : Nat) : State := (s.cut c).dropFifos c true

theorem State.cutOff_now (s : State) (c : Nat) : (s.cutOff c).now = s.now := by
  refine State.now_of_rails ?_
  rw [State.cutOff, State.dropFifos_rails, State.cut, State.bump_rails, State.setBits_rails]

section
variable {s : State} {c : Nat} (hc : c ≤ 107) (hs : s.severed c = false)
include hc hs

theorem State.severOne_eq : s.severOne c =
    { s.cutOff c with severRep := SMap.put (s.cutOff c).severRep c (s.cutOff c).now } := by
  have hopen : ¬ s.severed c = true := by rw [hs]; exact Bool.false_ne_true
  rw [State.severOne]
  exact (if_neg hopen).trans (if_neg (by omega))

theorem State.rd_severOne {a : Nat} (h : Config.cross ≤ a ∧ a < Config.cross + 0x400) : (s.severOne c).rd a = (s.cut c).rd a := by
  rw [State.severOne_eq hc hs]
  exact State.rd_dropFifos _ h c true

theorem State.severOne_severed : (s.severOne c).severed c = true := by
  have hread : (s.severOne c).rd (Config.cross + 0x100 + 4 * c) = s.rd (Config.cross + 0x100 + 4 * c) ||| 1#32 := by
    rw [State.rd_severOne hc hs (by omega), State.cut, State.rd_bump, if_neg (by omega), State.rd_setBits, if_pos rfl]
  rw [State.severed, hread]
  simp [Word.bit]

theorem State.severOne_others {j : Nat} (hj : j ≠ c) (hj' : j ≤ 108) : (s.severOne c).severed j = s.severed j := by
  refine State.severed_congr_reg ?_
  rw [State.rd_severOne hc hs (by omega), State.cut, State.rd_bump, if_neg (by omega), State.rd_setBits, if_neg (by omega)]

theorem State.severOne_severs : ((s.severOne c).rd (Config.cross + 0x20)).toNat = min ((s.rd (Config.cross + 0x20)).toNat + 1) 65535 := by
  rw [State.rd_severOne hc hs (by omega), State.cut, State.rd_bump_toNat _ _ (by decide), State.rd_setBits, if_neg (by omega)]
  rfl

/-- The lowest severed crossing is c, where none was severed before. -/
theorem State.severOne_severedList (hnone : ∀ j ≤ 108, s.severed j = false) : ∃ r, (s.severOne c).severedList = c :: r := by
  have hmem : c ∈ (s.severOne c).severedList := List.mem_filter.mpr ⟨List.mem_range.mpr (by omega), State.severOne_severed hc hs⟩
  match hl : (s.severOne c).severedList with
  | [] => simp [hl] at hmem
  | d :: r =>
    have hd : d ∈ (s.severOne c).severedList := hl ▸ List.mem_cons_self
    obtain ⟨hrange, hsev⟩ := List.mem_filter.mp hd
    have hlt := List.mem_range.mp hrange
    refine ⟨r, congrArg (· :: r) (Classical.byContradiction fun hne => ?_)⟩
    rw [State.severOne_others hc hs hne (by omega), hnone d (by omega)] at hsev
    exact Bool.false_ne_true hsev

end

/-- The bell of a sever is all that comes after the crossing. -/
theorem State.sever_singleton (s : State) (c : Nat) : ∃ l, s.sever [c] = { s.severOne c with arrivals := l } ∧
    ∀ d r, s.severedList = [] → (s.severOne c).severedList = d :: r →
      { src := 27, kind := .rise, detail := d % 65536, todo := allBells } ∈ l := by
  have hone : [c].foldl State.severOne s = s.severOne c := rfl
  unfold State.sever
  rw [hone]
  dsimp only
  split
  case h_1 d' r' hnone hlist =>
    refine ⟨_, rfl, fun d r _ h => List.mem_append_right _ ?_⟩
    rw [(List.cons.inj (h.symm.trans hlist)).1]
    exact List.mem_singleton_self _
  case h_2 hother => exact ⟨(s.severOne c).arrivals, rfl, fun d r hnone hlist => absurd hlist (hother d r hnone)⟩

/-! The re-arm (R637). -/

/-- A crossing that re-arms: its register and the count of re-arms. -/
def State.mended (s : State) (c : Nat) : State := (s.clrBits (Config.cross + 0x100 + 4 * c) 15#32).bump (Config.cross + 0x24) 16 1

/-- The report of its sever is gone, a lane notes its re-arm, and with no crossing severed the bell falls. -/
def State.rejoined (s : State) (c : Nat) : State :=
  let s2 : State := { s with severRep := SMap.del s.severRep c }
  let s3 := if c < 64 then s2.setLane c { s2.lane c with rearmAt := s2.now } else s2
  if s3.severedList.isEmpty then s3.raise allBells 27 .fall 0 else s3

theorem State.rearm_eq (s : State) (c : Nat) : s.rearm c = ((s.mended c).dropFifos c false).rejoined c := rfl

theorem State.rejoined_reg (s : State) (c : Nat) : (s.rejoined c).reg = s.reg := by
  unfold State.rejoined
  dsimp only
  split <;> split <;> rfl

theorem State.rejoined_rails (s : State) (c : Nat) : (s.rejoined c).rails = s.rails := by
  unfold State.rejoined
  dsimp only
  split <;> split <;> rfl

theorem State.rearm_now (s : State) (c : Nat) : (s.rearm c).now = s.now := by
  refine State.now_of_rails ?_
  rw [State.rearm_eq, State.rejoined_rails, State.dropFifos_rails, State.mended, State.bump_rails, State.clrBits_rails]

theorem State.rd_rearm (s : State) (c : Nat) {a : Nat} (h : Config.cross ≤ a ∧ a < Config.cross + 0x400) :
    (s.rearm c).rd a = (s.mended c).rd a :=
  (congrArg (fun m => RegFile.rd devReset m a) (State.rejoined_reg _ c)).trans (State.rd_dropFifos _ h c false)

/-- Marks that are cleared. -/
theorem Word.fld_cleared (w : Word) : (w &&& ~~~15#32).fld 0 4 = 0 := by
  have hzero : ∀ j, 0 ≤ j → j < 0 + 4 → (w &&& ~~~15#32).bit j = Word.bit 0#32 j := by
    intro j _ hj
    interval_cases j <;> simp [Word.bit]
  rw [Word.fld_congr hzero]
  decide

theorem Word.bit_cleared (w : Word) : (w &&& ~~~15#32).bit 0 = false := by simp [Word.bit]

section
variable (s : State) {c : Nat} (hc : c ≤ 108)

include hc in
theorem State.rd_rearm_own : (s.rearm c).rd (Config.cross + 0x100 + 4 * c) = s.rd (Config.cross + 0x100 + 4 * c) &&& ~~~15#32 := by
  rw [s.rd_rearm c (by omega), State.mended, State.rd_bump, if_neg (by omega), State.rd_clrBits, if_pos rfl]

theorem State.rearm_others {j : Nat} (hj : j ≠ c) (hj' : j ≤ 108) : (s.rearm c).severed j = s.severed j := by
  refine State.severed_congr_reg ?_
  rw [s.rd_rearm c (by omega), State.mended, State.rd_bump, if_neg (by omega), State.rd_clrBits, if_neg (by omega)]

include hc in
theorem State.rearm_rearms : ((s.rearm c).rd (Config.cross + 0x24)).toNat = min ((s.rd (Config.cross + 0x24)).toNat + 1) 65535 := by
  rw [s.rd_rearm c (by omega), State.mended, State.rd_bump_toNat _ _ (by decide), State.rd_clrBits, if_neg (by omega)]
  rfl

end

theorem crossingsSever : Claims.crossingsSever := by
  intro s crossing parity n c a w
  refine ⟨fun hc hs hsees => ?sever, fun hc hp hw => ?agree, fun hc hs hup hon hold => ?rearm, fun hc hs => ?whole,
    fun hc => ⟨?severNone, ?rearmNone⟩⟩
  case sever =>
    obtain ⟨l, heq, hbell⟩ := (s.at n).sever_singleton c
    have hpass : (parity || w.bit 2 != w.bit 3) = true := by rcases hsees with h | h <;> simp [h]
    have hexec : exec (.crossingSever crossing parity n) s = .next { (s.at n).severOne c with arrivals := l } := by
      rw [← heq, exec_crossingSever, execCrossingSever]
      exact (if_neg (show ¬ c > 108 by omega)).trans (if_pos hpass)
    have hnow : ((s.at n).severOne c).now = max s.now n := by
      rw [State.severOne_eq (s := s.at n) hc hs]
      exact (s.at n).cutOff_now c
    refine ⟨_, hexec, State.severOne_severed (s := s.at n) hc hs, hnow, State.severOne_severs (s := s.at n) hc hs, ?_,
      fun j hj hj' => State.severOne_others (s := s.at n) hc hs hj hj', fun hnone => ?_⟩
    · show SMap.get _ ((s.at n).severOne c).severRep c = ((s.at n).severOne c).now
      rw [State.severOne_eq (s := s.at n) hc hs, SMap.get_put, if_pos rfl]
    · obtain ⟨r, hr⟩ := State.severOne_severedList (s := s.at n) hc hs hnone
      have hempty : (s.at n).severedList = [] := List.filter_eq_nil_iff.mpr fun j hj => by
        rw [List.mem_range] at hj
        exact ne_true_of_eq_false (hnone j (by omega))
      have hmem := hbell c r hempty hr
      rwa [Nat.mod_eq_of_lt (by omega)] at hmem
  case agree =>
    have hpass : ¬ (parity || w.bit 2 != w.bit 3) = true := by simp [hp, hw]
    rw [exec_crossingSever, execCrossingSever]
    exact (if_neg (show ¬ c > 108 by omega)).trans (if_neg hpass)
  case rearm =>
    have hdue : (s.at n).rearmDue c (s.at n).gen.nextNs = true := by
      have hs' : (s.at n).severed c = true := hs
      have hup' : (s.at n).sidesUp c = true := hup
      simp [State.rearmDue, hs', hup', hon, hold]
    have hexec : exec (.crossingRearm crossing n) s = .next ((s.at n).rearm c) := by
      rw [exec_crossingRearm, execCrossingRearm]
      exact (if_neg (show ¬ c > 108 by omega)).trans (if_pos hdue)
    have hreg := (s.at n).rd_rearm_own hc
    refine ⟨_, hexec, ?_, ?_, (s.at n).rearm_now c, (s.at n).rearm_rearms hc, fun j hj hj' => (s.at n).rearm_others hj hj'⟩
    · rw [State.severed, hreg, Word.bit_cleared]
    · rw [hreg, Word.fld_cleared]
  case whole =>
    have hdue : ¬ (s.at n).rearmDue c (s.at n).gen.nextNs = true := by
      have hs' : (s.at n).severed c = false := hs
      simp only [State.rearmDue, hs', Bool.false_and, Bool.false_eq_true, not_false_eq_true]
    rw [exec_crossingRearm, execCrossingRearm]
    exact (if_neg (show ¬ c > 108 by omega)).trans (if_neg hdue)
  case severNone => rw [exec_crossingSever, execCrossingSever]; exact if_pos hc
  case rearmNone => rw [exec_crossingRearm, execCrossingRearm]; exact if_pos hc

/-! GPIO edges. -/

/-- One bit of a vector is set to a level. -/
theorem getLsbD_setLevel {w : Nat} (v : BitVec w) {l : Nat} (hl : l < w) (level : Bool) (j : Nat) :
    (if level then v ||| (1#w <<< l) else v &&& ~~~(1#w <<< l)).getLsbD j = if j = l then level else v.getLsbD j := by
  by_cases hj : j < w
  · by_cases hjl : j = l
    · subst hjl; cases level <;> simp [hj]
    · cases level <;> simp [hj, hjl] <;> omega
  · rw [BitVec.getLsbD_of_ge _ _ (Nat.not_lt.mp hj), if_neg (by omega), BitVec.getLsbD_of_ge _ _ (Nat.not_lt.mp hj)]

/-- The state in which line l has its new level. -/
def State.leveled (s : State) (n l : Nat) (level : Bool) : State :=
  { s.at n with gpio := if level then s.gpio ||| (1#48 <<< l) else s.gpio &&& ~~~(1#48 <<< l) }

/-- A line of a sampled bank: since when it has been high, and the bells that select its edge. -/
def State.sensed (s : State) (l : Nat) (level : Bool) : State :=
  (List.range 8).foldl (fun s k =>
    let m := s.edgeBells l k level
    if m = 0 then s else s.edge m (48 + k) level.toNat)
    { s with gpioHigh := if level then SMap.put s.gpioHigh l s.now else SMap.del s.gpioHigh l }

/-- What an edge sets off leaves the time, the lines, the panes and the part's state. -/
theorem State.sensed_keeps (s : State) (l : Nat) (level : Bool) :
    (s.sensed l level).now = s.now ∧ (s.sensed l level).gpio = s.gpio ∧ (s.sensed l level).panes = s.panes ∧
      (s.sensed l level).part = s.part := by
  unfold State.sensed
  rw [foldl_keeps State.now _ _ fun t k _ => by dsimp only; split <;> rfl,
    foldl_keeps State.gpio _ _ fun t k _ => by dsimp only; split <;> rfl,
    foldl_keeps State.panes _ _ fun t k _ => by dsimp only; split <;> rfl,
    foldl_keeps State.part _ _ fun t k _ => by dsimp only; split <;> rfl]
  exact ⟨rfl, rfl, rfl, rfl⟩

theorem execGpioEdge_leveled {s : State} {line : BitVec 6} {level : Bool} (n : Nat) (hl : line.toNat < 48)
    (hedge : s.gpio.getLsbD line.toNat ≠ level) :
    let u := s.leveled n line.toNat level
    ∃ t, execGpioEdge line level n s = .next t ∧ t.now = u.now ∧ t.gpio = u.gpio ∧ t.panes = u.panes ∧ t.part = u.part := by
  intro u
  have hexec : execGpioEdge line level n s =
      if u.severed (102 + line.toNat / 12) then .next (u.discards (102 + line.toNat / 12) 1)
      else if !u.bankSampled line.toNat then .next u else .next (u.sensed line.toNat level) :=
    (if_neg (Nat.not_le.mpr hl)).trans (if_neg hedge)
  rw [hexec]
  split
  · exact ⟨_, rfl, rfl, rfl, rfl, rfl⟩
  · split
    · exact ⟨_, rfl, rfl, rfl, rfl, rfl⟩
    · exact ⟨_, rfl, u.sensed_keeps _ _⟩

theorem gpioFollows : Claims.gpioFollows := by
  intro s line level n l
  refine ⟨fun hl => ?_, fun hl => (exec_gpioEdge line level n s).trans (if_pos hl)⟩
  rw [exec_gpioEdge]
  by_cases hedge : s.gpio.getLsbD l = level
  · exact ⟨s.at n, (if_neg (Nat.not_le.mpr hl)).trans (if_pos hedge), rfl, hedge, fun _ _ => rfl, rfl, rfl⟩
  · obtain ⟨t, hexec, hnow, hgpio, hpanes, hpart⟩ := execGpioEdge_leveled n hl hedge
    have hline (j : Nat) : t.gpio.getLsbD j = if j = l then level else s.gpio.getLsbD j := by
      rw [hgpio]
      exact getLsbD_setLevel s.gpio hl level j
    exact ⟨t, hexec, hnow, by rw [hline, if_pos rfl], fun j hj => by rw [hline, if_neg hj], hpanes, hpart⟩

/-- Settles O56: resets, rails, supplies, crossings and GPIO edges. -/
theorem resetsAndSupplies : Obligations.ResetsAndSupplies :=
  ⟨resetsAct, railsReset, suppliesComeAndGo, crossingsSever, gpioFollows⟩

end Sys2Proof.Machine
end

section
/-!
PROOF. 802.1AS time at the time port and at the other one (R70, R508, R510, R511).
-/
namespace Sys2Proof.Machine

open Sys2Proof (Instr)

/-! The time port and the part's time. -/

/-- The time port has its link up (R510). -/
theorem State.netUp_of_timePort {s : State} {q : Nat} (h : s.timePort = some q) : s.netUp q = true := by
  have hfound := List.find?_some h
  exact ((Bool.and_eq_true _ _).mp hfound).1

/-- The ports and their links stand as they were: CFG, STATUS.LINK, and the domains. -/
abbrev SamePorts (s t : State) : Prop :=
  t.doms = s.doms ∧ ∀ q, t.rd (Config.net q) = s.rd (Config.net q) ∧
    (t.rd (Config.net q + 0x24)).bit 0 = (s.rd (Config.net q + 0x24)).bit 0

theorem State.timePort_congr {s t : State} (h : SamePorts s t) : t.timePort = s.timePort := by
  obtain ⟨hdoms, hregs⟩ := h
  have hone (q : Nat) : (t.netUp q && t.netRole q != 0) = (s.netUp q && s.netRole q != 0) := by
    obtain ⟨hcfg, hlink⟩ := hregs q
    simp only [State.netUp, State.netEn, State.netRole, State.domOpen, State.dom, hcfg, hlink, hdoms]
  simp only [State.timePort, hone]

/-- The ports' states of time stand too: the part's time goes on. -/
theorem State.timeOff_congr {s t : State} (h : SamePorts s t) (hstate : ∀ q, t.timeState q = s.timeState q)
    (hoff : t.net.toff = s.net.toff) : t.timeOff = s.timeOff := by
  simp only [State.timeOff, State.timePort_congr h, funext hstate, hoff]

/-- A port's registers, by their offsets. -/
theorem net_ne {q r a b : Nat} (ha : a < 0x1000) (hb : b < 0x1000) (h : a ≠ b) : Config.net q + a ≠ Config.net r + b := by
  simp only [Config.net]; omega

section
variable (s : State) (q : Nat)

/-- A write of a register of a port other than CFG and STATUS. -/
theorem State.timeOff_wr {a : Nat} (ha : a < 0x1000) (h0 : a ≠ 0) (h24 : a ≠ 0x24) (v : Word) :
    (s.wr (Config.net q + a) v).timeOff = s.timeOff := by
  have hread (r b : Nat) (hb : b < 0x1000) (hne : a ≠ b) :
      (s.wr (Config.net q + a) v).rd (Config.net r + b) = s.rd (Config.net r + b) :=
    (s.rd_wr _ _ _).trans (if_neg (net_ne ha hb hne))
  have hstatus (r : Nat) := hread r 0x24 (by decide) h24
  exact State.timeOff_congr ⟨rfl, fun r => ⟨hread r 0 (by decide) h0, by rw [hstatus r]⟩⟩
    (fun r => congrArg (fun w => Word.fld w 2 2) (hstatus r)) rfl

theorem State.timeState_wr {a r : Nat} (ha : a < 0x1000) (h24 : a ≠ 0x24) (v : Word) :
    (s.wr (Config.net q + a) v).timeState r = s.timeState r :=
  congrArg (fun w => Word.fld w 2 2) ((s.rd_wr _ _ _).trans (if_neg (net_ne ha (by decide) h24)))

/-- STATUS.TIME_STATE as it is set; the link stays. -/
theorem State.timeState_setTimeState (v : Nat) : (s.setTimeState q v).timeState q = v % 4 := by
  rw [State.timeState, State.setTimeState, State.rd_wrFld, if_pos rfl, Word.fld_withFld _ (by decide)]
  rfl

theorem State.samePorts_setTimeState (v : Nat) : SamePorts s (s.setTimeState q v) := by
  refine ⟨rfl, fun r => ⟨?_, ?_⟩⟩
  · exact (s.rd_wrFld _ _ _ _ _).trans (if_neg (net_ne (by decide) (b := 0) (by decide) (by decide)))
  · rw [State.setTimeState, State.rd_wrFld]
    split
    · next heq => rw [Word.bit_withFld _ (by decide), if_neg (by omega), heq]
    · rfl

theorem State.rd_setTimeState {a : Nat} (ha : a < 0x1000) (h24 : a ≠ 0x24) (v : Nat) :
    (s.setTimeState q v).rd (Config.net q + a) = s.rd (Config.net q + a) :=
  (s.rd_wrFld _ _ _ _ _).trans (if_neg (net_ne (by decide) ha h24.symm))

end

/-- An event of a port only arrives at the bells. -/
theorem State.portEvent_timeState (s : State) (q c r : Nat) : (s.portEvent q c).timeState r = s.timeState r := rfl
theorem State.portEvent_net (s : State) (q c : Nat) : (s.portEvent q c).net = s.net := rfl
theorem State.portEvent_panes (s : State) (q c : Nat) : (s.portEvent q c).panes = s.panes := rfl

/-! A measured offset (R511). -/

section
variable {s : State} {q : Nat} {off : Int}

/-- Above 1 ms the time steps. -/
theorem State.adjustTime_step (h : 1000000 < off.natAbs) : s.adjustTime q off =
    State.portEvent { s.wr (Config.net q + 0x28) (satInt32 off) with
      net := { s.net with toff := s.timeOff - off, adjusted := s.now } } q 7 := by
  have htime : (s.wr (Config.net q + 0x28) (satInt32 off)).timeOff = s.timeOff := s.timeOff_wr q (by decide) (by decide) (by decide) _
  rw [State.adjustTime]
  refine (if_pos h).trans ?_
  rw [htime]
  rfl

/-- The slew that a free value x gives: against the offset, and no further than `lim`. -/
def slewOf (off : Int) (lim x : Nat) : Int := if off < 0 then (x % (lim + 1) : Nat) else -((x % (lim + 1) : Nat) : Int)

theorem slewOf_bounds (off : Int) (lim x : Nat) (h : lim ≤ off.natAbs) :
    (slewOf off lim x).natAbs ≤ lim ∧ (0 ≤ off → slewOf off lim x ≤ 0) ∧ (off ≤ 0 → 0 ≤ slewOf off lim x) := by
  have hx : x % (lim + 1) ≤ lim := Nat.lt_succ_iff.mp (Nat.mod_lt _ (Nat.succ_pos lim))
  unfold slewOf
  split <;> omega

/-- The bound of a slew (R511). -/
def State.slewLim (s : State) (off : Int) : Nat := min off.natAbs ((s.now - s.net.adjusted) * 50 / 1000000)

theorem State.adjustTime_slew (h : off.natAbs ≤ 1000000) : s.adjustTime q off =
    { s.wr (Config.net q + 0x28) (satInt32 off) with
      net := { s.net with toff := s.timeOff + slewOf off (s.slewLim off) (Config.freeNat s.free), adjusted := s.now },
      free := s.free + 1 } := by
  have htime : (s.wr (Config.net q + 0x28) (satInt32 off)).timeOff = s.timeOff := s.timeOff_wr q (by decide) (by decide) (by decide) _
  rw [State.adjustTime]
  refine (if_neg (Nat.not_lt.mpr h)).trans ?_
  rw [htime]
  rfl

/-- Either way the states of time and the panes stand. -/
theorem State.adjustTime_keeps (s : State) (q : Nat) (off : Int) :
    (s.adjustTime q off).timeState q = s.timeState q ∧ (s.adjustTime q off).panes = s.panes := by
  have hstate := s.timeState_wr q (a := 0x28) (r := q) (by decide) (by decide) (satInt32 off)
  rcases Nat.lt_or_ge 1000000 off.natAbs with h | h
  · rw [State.adjustTime_step h]
    exact ⟨(State.portEvent_timeState _ q 7 q).trans hstate, rfl⟩
  · rw [State.adjustTime_slew h]
    exact ⟨hstate, rfl⟩

end

/-- An event of port q at its bell source, to all bells (R510). -/
abbrev portBell (q code : Nat) : BellEvent := { src := 62 + q, kind := .edge, detail := code, todo := BitVec.allOnes 64 }

theorem State.adjustTime_far {s : State} {q : Nat} {off : Int} (h : 1000000 < off.natAbs) :
    let t := s.adjustTime q off
    t.net.toff = s.timeOff - off ∧ t.net.adjusted = s.now ∧ t.arrivals = s.arrivals ++ [portBell q 7] := by
  intro t
  rw [show t = _ from State.adjustTime_step h]
  exact ⟨rfl, rfl, rfl⟩

theorem State.adjustTime_near {s : State} {q : Nat} {off : Int} (h : off.natAbs ≤ 1000000) :
    let t := s.adjustTime q off
    t.net.toff = s.timeOff + slewOf off (s.slewLim off) (Config.freeNat s.free) ∧ t.net.adjusted = s.now ∧ t.arrivals = s.arrivals := by
  intro t
  rw [show t = _ from State.adjustTime_slew h]
  exact ⟨rfl, rfl, rfl⟩

/-- The state that a sync leaves: a follower that was not locked is locked, with event 3 (R510). -/
def State.lockedBy (s2 : State) (q state : Nat) : State := if state = 2 then s2 else (s2.setTimeState q 2).portEvent q 3

theorem State.lockedBy_keeps (s2 : State) {q state : Nat} (h : s2.timeState q = state) :
    let t := s2.lockedBy q state
    t.timeState q = 2 ∧ t.panes = s2.panes ∧ t.net = s2.net ∧
      t.arrivals = s2.arrivals ++ (if state = 2 then [] else [portBell q 3]) := by
  intro t
  rcases eq_or_ne state 2 with heq | hne
  · have ht : t = s2 := if_pos heq
    rw [ht, if_pos heq, List.append_nil]
    exact ⟨h.trans heq, rfl, rfl, rfl⟩
  · have ht : t = (s2.setTimeState q 2).portEvent q 3 := if_neg hne
    rw [ht, if_neg hne]
    exact ⟨(State.portEvent_timeState _ q 3 q).trans (s2.timeState_setTimeState q 2), rfl, rfl, rfl⟩

/-! Messages at the time port. -/

/-- The state in which the time port takes a message: it counts as received. -/
def State.heard (s : State) (n q : Nat) : State := (s.at n).bump (Config.net q + 0x48) 32 1

theorem State.heard_timeOff (s : State) (n q : Nat) : (s.heard n q).timeOff = s.timeOff :=
  (State.timeOff_wr (s.at n) q (by decide) (by decide) (by decide) _).trans
    (State.timeOff_congr ⟨rfl, fun _ => ⟨rfl, rfl⟩⟩ (fun _ => rfl) rfl)

theorem State.heard_timeState (s : State) (n q : Nat) : (s.heard n q).timeState q = s.timeState q :=
  State.timeState_wr (s.at n) q (by decide) (by decide) _

/-- The grandmaster as the port's registers come to show it; a new one is noted with event 5 (R510). -/
def State.noteMaster (s : State) (q : Nat) (gm : DWord) : State :=
  if s.rd (Config.net q + 0x30) == gm.setWidth 32 && s.rd (Config.net q + 0x34) == (gm >>> 32).setWidth 32 then s
  else ((s.wr (Config.net q + 0x30) (gm.setWidth 32)).wr (Config.net q + 0x34) ((gm >>> 32).setWidth 32)).portEvent q 5

theorem State.noteMaster_rd (s : State) (q : Nat) (gm : DWord) :
    (s.noteMaster q gm).rd (Config.net q + 0x30) = gm.setWidth 32 ∧
      (s.noteMaster q gm).rd (Config.net q + 0x34) = (gm >>> 32).setWidth 32 := by
  unfold State.noteMaster
  split
  · next heq => simpa only [Bool.and_eq_true, beq_iff_eq] using heq
  · exact ⟨(State.rd_wr _ _ _ _).trans ((if_neg (net_ne (by decide) (by decide) (by decide))).trans
      ((State.rd_wr _ _ _ _).trans (if_pos rfl))), (State.rd_wr _ _ _ _).trans (if_pos rfl)⟩

theorem State.noteMaster_keeps (s : State) (q : Nat) (gm : DWord) :
    (s.noteMaster q gm).net = s.net ∧ (s.noteMaster q gm).panes = s.panes ∧ (s.noteMaster q gm).timeState q = s.timeState q := by
  have hlo := s.timeState_wr q (r := q) (a := 0x30) (by decide) (by decide) (gm.setWidth 32)
  have hhi := State.timeState_wr (s.wr (Config.net q + 0x30) (gm.setWidth 32)) q (r := q) (a := 0x34) (by decide) (by decide)
    ((gm >>> 32).setWidth 32)
  unfold State.noteMaster
  split
  · exact ⟨rfl, rfl, rfl⟩
  · exact ⟨State.portEvent_net _ q 5, State.portEvent_panes _ q 5, (State.portEvent_timeState _ q 5 q).trans (hhi.trans hlo)⟩

section
variable {s : State} {port : Bool} (n : Nat)

theorem execPtpMessageReceive_down {m : PtpMsg} (h : s.netUp port.toNat = false) : execPtpMessageReceive port m n s = .next (s.at n) := by
  have hdown : (!(s.at n).netUp port.toNat) = true := by rw [Bool.not_eq_true']; exact h
  rw [execPtpMessageReceive]
  exact if_pos hdown

/-- A port with its link up, and its crossing whole, takes a message in. -/
theorem reaches_port (hup : s.netUp port.toNat = true) (hsev : s.severed (90 + port.toNat) = false) :
    ¬ (!(s.at n).netUp port.toNat) = true ∧ ¬ (s.at n).severed (90 + port.toNat) = true :=
  ⟨by rw [Bool.not_eq_true', Bool.not_eq_false]; exact hup, ne_true_of_eq_false hsev⟩

/-- At the other port a message is dropped and counted (R508). -/
theorem execPtpMessageReceive_other {m : PtpMsg} (hup : s.netUp port.toNat = true) (hsev : s.severed (90 + port.toNat) = false)
    (h : s.timePort ≠ some port.toNat) :
    execPtpMessageReceive port m n s = .next ((s.at n).bump (Config.net port.toNat + 0x4C) 32 1) := by
  obtain ⟨hup', hsev'⟩ := reaches_port n hup hsev
  rw [execPtpMessageReceive]
  exact (if_neg hup').trans ((if_neg hsev').trans (if_pos h))

section
variable (hport : s.timePort = some port.toNat) (hsev : s.severed (90 + port.toNat) = false)
include hport hsev

/-- A sync adjusts the time, and locks a follower that was not locked (R511). -/
theorem execPtpMessageReceive_sync {off : Int} (hm : s.timeState port.toNat ≠ 3) :
    execPtpMessageReceive port (.sync off) n s =
      .next (((s.heard n port.toNat).adjustTime port.toNat off).lockedBy port.toNat (s.timeState port.toNat)) := by
  obtain ⟨hup', hsev'⟩ := reaches_port n (State.netUp_of_timePort hport) hsev
  have hstate := s.heard_timeState n port.toNat
  rw [execPtpMessageReceive, ← hstate]
  exact (if_neg hup').trans ((if_neg hsev').trans ((if_neg (not_not.mpr hport)).trans (if_neg (hstate.trans_ne hm))))

/-- An announce of another grandmaster is noted, with event 5 where it is a new one, and a grandmaster steps down (R510). -/
theorem execPtpMessageReceive_announce {gm : DWord} :
    let s2 := (s.heard n port.toNat).noteMaster port.toNat gm
    execPtpMessageReceive port (.announce gm false) n s =
      .next (if s.timeState port.toNat = 3 then s2.setTimeState port.toNat 1 else s2) := by
  obtain ⟨hup', hsev'⟩ := reaches_port n (State.netUp_of_timePort hport) hsev
  have hstate := s.heard_timeState n port.toNat
  rw [execPtpMessageReceive, ← hstate]
  exact (if_neg hup').trans ((if_neg hsev').trans ((if_neg (not_not.mpr hport)).trans (if_neg Bool.false_ne_true)))

end

end

/-- A PTP message leaves past the gates (R513). -/
theorem State.netSend_ptp (s : State) (q : Nat) (l : List Byte) :
    let t := s.netSend q 0x30 l
    t.net.out = s.net.out ++ [{ port := q, kind := 0x30, bytes := l }] ∧ t.reg = s.reg ∧ t.panes = s.panes := by
  simp only [State.netSend, if_true, and_self]

/-- A grandmaster sends its syncs, with its time. -/
theorem execPtpMessageSend_sync {s : State} {port : Bool} (hport : s.timePort = some port.toNat) (hm : s.timeState port.toNat = 3) :
    execPtpMessageSend port 0 s = .next (s.netSend port.toNat 0x30 (leBytes 1 0 ++ leBytes 8 s.clock)) := by
  rw [execPtpMessageSend]
  exact (if_neg (not_not.mpr hport)).trans (congrArg Host.Outcome.next (if_pos hm))

/-- A timeout at the time port loses the time of a follower, with event 4 (R510). -/
theorem execPtpReceiptTimeout_lost {s : State} {port : Bool} (hport : s.timePort = some port.toNat) (hm : s.timeState port.toNat = 2) :
    execPtpReceiptTimeout port false s = .next ((s.setTimeState port.toNat 1).portEvent port.toNat 4) := by
  have hgo : ¬ (s.timePort ≠ some port.toNat ∨ s.timeState port.toNat = 3) := by
    rw [not_or]
    exact ⟨not_not.mpr hport, by omega⟩
  exact (if_neg hgo).trans (congrArg Host.Outcome.next ((if_neg Bool.false_ne_true).trans (if_pos hm)))

/-- Once the time is lost the part's time is the count of ns since reset (R70). -/
theorem State.clock_lost {s : State} {q : Nat} (hport : s.timePort = some q) :
    ((s.setTimeState q 1).portEvent q 4).clock = s.now := by
  have hport' : (s.setTimeState q 1).timePort = some q := (State.timePort_congr (s.samePorts_setTimeState q 1)).trans hport
  have hoff : (s.setTimeState q 1).timeOff = 0 := by
    rw [State.timeOff, hport', Option.map_some, s.timeState_setTimeState]
    exact if_neg (by decide)
  change ((s.now : Int) + (s.setTimeState q 1).timeOff).toNat = s.now
  rw [hoff, Int.add_zero, Int.toNat_natCast]

/-- Settles O46: the other port, and at the time port a sync, an announce, a sync sent, and a timeout. -/
theorem timeFollowsGrandmaster : Obligations.TimeFollowsGrandmaster := by
  intro s port off gm n q now ev sync drops
  refine ⟨fun hdown => ?down, fun hother => ⟨fun hup hsev => ?dropped, fun k => ?silent, fun a => ?noTimeout⟩,
    fun hport hsev => ⟨fun hm hfar => ?step, fun hm hnear => ?slew, ?announce, fun hm => ?send, fun hm => ?timeout⟩⟩
  case down => exact (exec_ptpMessageReceive port _ n s).trans (execPtpMessageReceive_down n hdown)
  case dropped =>
    exact ⟨_, (exec_ptpMessageReceive port _ n s).trans (execPtpMessageReceive_other n hup hsev hother), OnlyRegs.bump _ _ _ _,
      State.rd_bump_toNat _ _ (by decide) _⟩
  case silent => exact (exec_ptpMessageSend port k s).trans (if_pos hother)
  case noTimeout => exact (exec_ptpReceiptTimeout port a s).trans (if_pos (.inl hother))
  case step =>
    obtain ⟨hstate, hpanes⟩ := (s.heard n q).adjustTime_keeps q off
    obtain ⟨htoff, hadj, harr⟩ := State.adjustTime_far (s := s.heard n q) (q := q) hfar
    obtain ⟨hlock, hpanes', hnet, harr'⟩ := State.lockedBy_keeps _ (hstate.trans (s.heard_timeState n q))
    have hrun := (exec_ptpMessageReceive port _ n s).trans (execPtpMessageReceive_sync n hport hsev (off := off) hm)
    refine ⟨_, hrun, ?_, ?_, hlock, hpanes'.trans hpanes, ?_, fun hne => ?_⟩
    · rw [hnet, htoff, s.heard_timeOff]
    · rw [hnet, hadj]
      rfl
    · rw [harr', harr]
      exact List.mem_append_left _ (List.mem_append_right _ (List.mem_singleton_self _))
    · rw [harr', if_neg hne]
      exact List.mem_append_right _ (List.mem_singleton_self _)
  case slew =>
    obtain ⟨hstate, hpanes⟩ := (s.heard n q).adjustTime_keeps q off
    obtain ⟨htoff, hadj, harr⟩ := State.adjustTime_near (s := s.heard n q) (q := q) hnear
    obtain ⟨hlock, hpanes', hnet, harr'⟩ := State.lockedBy_keeps _ (hstate.trans (s.heard_timeState n q))
    obtain ⟨hlim, hneg, hpos⟩ := slewOf_bounds off ((s.heard n q).slewLim off) (Config.freeNat (s.heard n q).free)
      (Nat.min_le_left _ _)
    rw [s.heard_timeOff] at htoff
    generalize slewOf off ((s.heard n q).slewLim off) (Config.freeNat (s.heard n q).free) = d at htoff hlim hneg hpos
    have hrun := (exec_ptpMessageReceive port _ n s).trans (execPtpMessageReceive_sync n hport hsev (off := off) hm)
    refine ⟨_, hrun, ?_, hlock, hpanes'.trans hpanes, ?_, ?_, ?_, ?_⟩
    · rw [hnet, hadj]
      rfl
    · rw [hnet, htoff, add_sub_cancel_left]
      exact hlim
    · intro hoff
      rw [hnet, htoff]
      exact Int.add_le_of_le_sub_left ((hneg hoff).trans_eq (Int.sub_self _).symm)
    · intro hoff
      rw [hnet, htoff]
      exact Int.le_add_of_nonneg_right (hpos hoff)
    · rw [harr', harr]
      rfl
  case announce =>
    obtain ⟨hlo, hhi⟩ := (s.heard n q).noteMaster_rd q gm
    obtain ⟨hnet, hpanes, hstate⟩ := (s.heard n q).noteMaster_keeps q gm
    rw [s.heard_timeState] at hstate
    refine ⟨_, (exec_ptpMessageReceive port _ n s).trans (execPtpMessageReceive_announce n hport hsev), ?_⟩
    by_cases hm : s.timeState q = 3
    · rw [if_pos hm, if_pos hm]
      generalize (s.heard n q).noteMaster q gm = t at hlo hhi hnet hpanes
      exact ⟨(t.rd_setTimeState q (by decide) (by decide) 1).trans hlo, (t.rd_setTimeState q (by decide) (by decide) 1).trans hhi,
        congrArg NetState.toff hnet, hpanes, t.timeState_setTimeState q 1⟩
    · rw [if_neg hm, if_neg hm]
      exact ⟨hlo, hhi, congrArg NetState.toff hnet, hpanes, hstate⟩
  case send =>
    obtain ⟨hout, hreg, hpanes⟩ := s.netSend_ptp q (leBytes 1 0 ++ leBytes 8 s.clock)
    exact ⟨_, (exec_ptpMessageSend port 0 s).trans (execPtpMessageSend_sync hport hm), fun _ => hout, hreg, hpanes⟩
  case timeout =>
    exact ⟨_, (exec_ptpReceiptTimeout port false s).trans (execPtpReceiptTimeout_lost hport hm), State.timeState_setTimeState s q 1, rfl,
      State.clock_lost hport, rfl⟩

end Sys2Proof.Machine
end

section
/-!
PROOF. Wicket links: their registers, training, and what their loss leaves (R532, R535 to R537, R550 to R552).
-/
namespace Sys2Proof.Machine

open Sys2Proof (Instr)

/-! The registers of the links and of the board. -/

/-- A register of a link is none of the board. -/
theorem wicket_ne_board {k a : Nat} (hk : k < 8) (ha : a < 0x100) (b : Nat) : Config.wicket k + a ≠ Config.board + b := by
  simp only [Config.wicket, Config.board]; omega

/-- A bit of a word in which bit q is set, or cleared. -/
theorem Word.bit_or_shift (w : Word) {q : Nat} (hq : q < 32) (j : Nat) :
    Word.bit (w ||| 1#32 <<< q) j = (w.bit j || decide (j = q)) := by
  simp only [Word.bit, BitVec.getLsbD_or, BitVec.getLsbD_shiftLeft, BitVec.getLsbD_one]
  by_cases hj : j = q
  · subst hj; simp [hq]
  · have hbit : (decide (j < 32) && !decide (j < q) && (decide (0 < 32) && decide (j - q = 0))) = false := by
      simp; omega
    rw [hbit, decide_eq_false hj]

theorem Word.bit_and_not_shift (w : Word) {q : Nat} (hq : q < 32) (j : Nat) :
    Word.bit (w &&& ~~~(1#32 <<< q)) j = (w.bit j && !decide (j = q)) := by
  have hor := Word.bit_or_shift 0#32 hq j
  simp only [Word.bit, BitVec.zero_or, BitVec.getLsbD_zero, Bool.false_or] at hor
  simp only [Word.bit, BitVec.getLsbD_and, BitVec.getLsbD_not, hor]
  by_cases hj : j < 32
  · simp [hj]
  · simp [BitVec.getLsbD_of_ge w j (by omega)]

section
variable (s : State) (k : Nat)

/-- The peer of a link is one of eight parts. -/
theorem State.linkPeer_lt : s.linkPeer k < 8 := Nat.mod_lt _ (by decide)

theorem State.link_setLink (x : Link) : (s.setLink k x).link k = x := by
  rw [State.link, State.setLink, SMap.get_put, if_pos rfl]

/-- A link that enters another state: LINK_STATUS.STATE, and bell source 56 on. -/
theorem State.linkTo_of_ne {v : Nat} (h : s.linkState k ≠ v) :
    s.linkTo k v = (s.wrFld (Config.wicket k + 4) 0 3 v).edge allBells (56 + k) v := if_neg h

theorem State.rd_linkTo {v : Nat} (h : s.linkState k ≠ v) (b : Nat) : (s.linkTo k v).rd b =
    if Config.wicket k + 4 = b then (s.rd (Config.wicket k + 4)).withFld 0 3 v else s.rd b := by
  rw [s.linkTo_of_ne k h]
  exact s.rd_wrFld _ _ _ _ _

theorem State.linkTo_arrivals {v : Nat} (h : s.linkState k ≠ v) (hv : v < 65536) : (s.linkTo k v).arrivals = s.arrivals ++
    [{ src := 56 + k, kind := .edge, detail := v, todo := BitVec.allOnes 64 }] := by
  rw [s.linkTo_of_ne k h, State.edge, State.raise, Nat.mod_eq_of_lt hv]
  rfl

theorem State.linkTo_panes (v : Nat) : (s.linkTo k v).panes = s.panes := by unfold State.linkTo; split <;> rfl

end

/-! A part that is present. -/

section
variable (s : State) (q : Nat)

theorem State.markPresent_panes : (s.markPresent q).panes = s.panes := by unfold State.markPresent; split <;> rfl
theorem State.markPresent_arrivals : (s.markPresent q).arrivals = s.arrivals := by unfold State.markPresent; split <;> rfl

theorem State.rd_markPresent {a : Nat} (h : a ≠ Config.board + 4) : (s.markPresent q).rd a = s.rd a := by
  unfold State.markPresent
  split
  · rfl
  · exact (s.rd_setBits _ _ _).trans (if_neg h.symm)

/-- BOARD.STATUS.PRESENT of another part. -/
theorem State.bit_markPresent (hne : q ≠ s.partNo) (hq : q < 32) (j : Nat) :
    ((s.markPresent q).rd (Config.board + 4)).bit j = ((s.rd (Config.board + 4)).bit j || decide (j = q)) := by
  rw [State.markPresent, if_neg hne, s.rd_setBits, if_pos rfl, Word.bit_or_shift _ hq]

end

/-! Training (R535 to R537). -/

section
variable {s : State} {k : Nat}

/-- A link that refuses shows REFUSED, and why. -/
theorem State.refuseLink_shows (h : s.linkState k ≠ 5) {why : Nat} (hwhy : why < 4) :
    let t := s.refuseLink k why
    t.linkState k = 5 ∧ (t.rd (Config.wicket k + 4)).fld 3 2 = why ∧ t.panes = s.panes := by
  intro t
  have hstatus : t.rd (Config.wicket k + 4) = ((s.rd (Config.wicket k + 4)).withFld 0 3 5).withFld 3 2 why := by
    rw [show t = (s.linkTo k 5).wrFld (Config.wicket k + 4) 3 2 why from rfl, State.rd_wrFld, if_pos rfl, s.rd_linkTo k h, if_pos rfl]
  refine ⟨?_, ?_, s.linkTo_panes k 5⟩
  · rw [State.linkState, hstatus, Word.fld_withFld_of_disjoint _ (by decide) (by decide), Word.fld_withFld _ (by decide)]; rfl
  · rw [hstatus, Word.fld_withFld _ (by decide)]
    exact Nat.mod_eq_of_lt hwhy

/-- A link comes UP for the first time: it carries traffic, and its peer is present. -/
theorem State.linkUp_first (hk : k < 6) (h : s.linkState k ≠ 3) (n : Nat) :
    let t := s.linkUp k n false
    t.linkState k = 3 ∧ t.linkCarries k = true ∧ t.panes = s.panes ∧
      (s.linkPeer k ≠ s.partNo → (t.rd (Config.board + 4)).bit (s.linkPeer k) = true) ∧
      t.arrivals = s.arrivals ++ [{ src := 56 + k, kind := .edge, detail := 3, todo := BitVec.allOnes 64 }] := by
  intro t
  let s1 := (s.linkTo k 3).markPresent (s.linkPeer k)
  have hrd (a : Nat) : t.rd a = if Config.wicket k + 4 = a then (s1.rd (Config.wicket k + 4)).withFld 5 1 1 else s1.rd a :=
    State.rd_wrFld _ _ _ _ _ _
  have hwb : Config.wicket k + 4 ≠ Config.board + 4 := wicket_ne_board (by omega) (by decide) 4
  have hstatus : t.rd (Config.wicket k + 4) = ((s.rd (Config.wicket k + 4)).withFld 0 3 3).withFld 5 1 1 := by
    rw [hrd, if_pos rfl, State.rd_markPresent _ _ hwb, s.rd_linkTo k h, if_pos rfl]
  refine ⟨?_, ?_, ?_, fun hpeer => ?_, ?_⟩
  · rw [State.linkState, hstatus, Word.fld_withFld_of_disjoint _ (by decide) (by decide), Word.fld_withFld _ (by decide)]; rfl
  · rw [State.linkCarries, hstatus, Word.bit_withFld _ (by decide), if_pos (by decide)]; rfl
  · exact (State.markPresent_panes _ _).trans (s.linkTo_panes k 3)
  · have hpart : (s.linkTo k 3).partNo = s.partNo :=
      congrArg (fun w => Word.fld w 0 3) ((s.rd_linkTo k h _).trans (if_neg (wicket_ne_board (by omega) (by decide) 0)))
    have hlt := s.linkPeer_lt k
    rw [hrd, if_neg hwb, State.bit_markPresent _ _ (by rw [hpart]; exact hpeer) (by omega), decide_eq_true rfl, Bool.or_true]
  · exact (State.markPresent_arrivals _ _).trans (s.linkTo_arrivals k h (by decide))

/-- This end's own signature changes nothing but what is on its way out. -/
theorem State.sayProof_keeps (s : State) (k : Nat) (x : PeerInfo) :
    (s.sayProof k x).reg = s.reg ∧ (s.sayProof k x).panes = s.panes := by
  unfold State.sayProof
  split <;> exact ⟨rfl, rfl⟩

theorem State.sayProof_ctlOut {d : List Byte} (x : PeerInfo) (h : s.deviceKey = some d) : (s.sayProof k x).ctlOut = s.ctlOut ++
    [(k, .proof (edSign d (linkText (s.link k).challenge x.challenge s.otp.deviceId x.deviceId)))] := by
  rw [State.sayProof, h]

/-- The peer's DEVICE_ID stands in the two registers behind the link's status. -/
theorem State.deviceNoted (s : State) (k : Nat) (l : Link) (lo hi : Word) :
    let t := ((s.setLink k l).wr (Config.wicket k + 0xC) lo).wr (Config.wicket k + 0x10) hi
    t.linkState k = s.linkState k ∧ t.link k = l ∧ t.rd (Config.wicket k + 0xC) = lo ∧ t.rd (Config.wicket k + 0x10) = hi ∧
      t.ctlOut = s.ctlOut ∧ t.panes = s.panes := by
  have hrd (a : Nat) : (((s.setLink k l).wr (Config.wicket k + 0xC) lo).wr (Config.wicket k + 0x10) hi).rd a =
      if Config.wicket k + 0x10 = a then hi else if Config.wicket k + 0xC = a then lo else s.rd a := by
    rw [State.rd_wr, State.rd_wr]
    rfl
  refine ⟨?_, s.link_setLink k l, ?_, (hrd _).trans (if_pos rfl), rfl, rfl⟩
  · rw [State.linkState, hrd, if_neg (by omega), if_neg (by omega)]
    rfl
  · rw [hrd, if_neg (by omega), if_pos rfl]

section
variable {x : PeerInfo} (n : Nat)

/-- The step after the certificates: a peer that does not authenticate is refused. -/
theorem State.trainStep_refused (h3 : (s.link k).steps = 3)
    (hbad : (s.otp.cert.isEmpty || s.deviceKey.isNone || !s.peerGenuine k x) = true) :
    s.trainStep k x n = (s.sayProof k x).refuseLink k 1 := by
  unfold State.trainStep
  dsimp only
  rw [h3]
  exact if_pos hbad

/-- One that does has its DEVICE_ID noted. -/
theorem State.trainStep_genuine (h3 : (s.link k).steps = 3)
    (hgood : (s.otp.cert.isEmpty || s.deviceKey.isNone || !s.peerGenuine k x) = false) :
    s.trainStep k x n = (((s.sayProof k x).setLink k { s.link k with steps := 4 }).wr (Config.wicket k + 0xC)
      (BitVec.ofNat 32 x.deviceId)).wr (Config.wicket k + 0x10) (BitVec.ofNat 32 (x.deviceId / 2 ^ 32)) := by
  unfold State.trainStep
  dsimp only
  rw [h3]
  exact if_neg (ne_true_of_eq_false hgood)

/-- The last step: the boards agree, or the link is refused. -/
theorem State.trainStep_board (h4 : (s.link k).steps = 4) : s.trainStep k x n =
    if s.sameBoard k x then s.linkUp k n (s.linkState k == 4) else s.refuseLink k 2 := by
  unfold State.trainStep
  dsimp only
  rw [h4]
  rfl

end

/-- The next step of a link that authenticates. -/
theorem execLinkTraining_step {link : BitVec 3} (x : PeerInfo) (n : Nat) (hk : link.toNat < 6) (hen : s.linkEn link.toNat = true)
    (hpart : s.part ≠ .off) (hsev : s.severed (92 + link.toNat) = false) (hstate : s.linkState link.toNat = 2) :
    execLinkTraining link x n s = .next ((s.at n).trainStep link.toNat x (max s.now n)) := by
  have hoff : ¬ (!(s.at n).linkEn link.toNat || (s.at n).part == .off) = true := by
    rw [Bool.or_eq_true, not_or]
    exact ⟨by rw [Bool.not_eq_true', Bool.not_eq_false]; exact hen, fun h => hpart (eq_of_beq h)⟩
  have htrains : ((s.at n).linkState link.toNat == 1 || (s.at n).linkState link.toNat == 2 ||
      (s.at n).linkState link.toNat == 4) = true := by
    rw [show (s.at n).linkState link.toNat = 2 from hstate]
    rfl
  rw [execLinkTraining]
  exact (if_neg (Nat.not_le.mpr hk)).trans ((if_neg hoff).trans ((if_neg (ne_true_of_eq_false hsev)).trans (if_pos htrains)))

end

theorem linksTrain : Claims.linksTrain := by
  intro s link x n k i hk hen hpart hsev hstate
  have hrun : exec i s = .next ((s.at n).trainStep k x (max s.now n)) :=
    (exec_linkTraining link x n s).trans (execLinkTraining_step x n hk hen hpart hsev hstate)
  have hsame (y : State) (hy : y.reg = s.reg) : y.linkState k = 2 :=
    (congrArg (fun m => Word.fld (RegFile.rd devReset m (Config.wicket k + 4)) 0 3) hy).trans hstate
  obtain ⟨hreg, hpanes⟩ := (s.at n).sayProof_keeps k x
  have hrefuse (h3 : (s.link k).steps = 3)
      (hbad : ((s.at n).otp.cert.isEmpty || (s.at n).deviceKey.isNone || !(s.at n).peerGenuine k x) = true) :
      ∃ t, exec i s = .next t ∧ t.linkState k = 5 ∧ (t.rd (Config.wicket k + 4)).fld 3 2 = 1 ∧ t.panes = s.panes := by
    obtain ⟨hst, hwhy, hp⟩ := State.refuseLink_shows (s := (s.at n).sayProof k x) (k := k) (why := 1)
      (by rw [hsame _ hreg]; decide) (by decide)
    exact ⟨_, hrun.trans (congrArg Host.Outcome.next (State.trainStep_refused (s := s.at n) _ h3 hbad)), hst, hwhy, hp.trans hpanes⟩
  refine ⟨fun h3 hnone => hrefuse h3 ?bad, fun d h3 hcert hkey => ?keys, fun h4 hother => ?other, fun h4 hboard => ?up⟩
  case bad =>
    rcases hnone with h | h
    · rw [State.at_otp, h]; rfl
    · rw [show (s.at n).deviceKey = none from h]; simp
  case keys =>
    by_cases hgen : s.peerGenuine k x = true
    · have hgood : ((s.at n).otp.cert.isEmpty || (s.at n).deviceKey.isNone || !(s.at n).peerGenuine k x) = false := by
        rw [show (s.at n).deviceKey = some d from hkey, show (s.at n).peerGenuine k x = true from hgen]
        simpa using hcert
      obtain ⟨hst, hlink, hlo, hhi, hctl, hp⟩ := State.deviceNoted ((s.at n).sayProof k x) k { s.link k with steps := 4 }
        (BitVec.ofNat 32 x.deviceId) (BitVec.ofNat 32 (x.deviceId / 2 ^ 32))
      have hout := State.sayProof_ctlOut (s := s.at n) (k := k) x hkey
      refine ⟨_, hrun.trans (congrArg Host.Outcome.next (State.trainStep_genuine (s := s.at n) _ h3 hgood)), hp.trans hpanes, ?_⟩
      rw [if_pos hgen]
      exact ⟨hst.trans (hsame _ hreg), congrArg Link.steps hlink, hlo, hhi, hctl.trans hout⟩
    · obtain ⟨t, ht, hst, hwhy, hp⟩ := hrefuse h3 (by
        rw [show (s.at n).peerGenuine k x = false from eq_false_of_ne_true hgen]; simp)
      exact ⟨t, ht, hp, by rw [if_neg hgen]; exact ⟨hst, hwhy⟩⟩
  case other =>
    obtain ⟨hst, hwhy, hp⟩ := State.refuseLink_shows (s := s.at n) (k := k) (why := 2) (by rw [hsame (s.at n) rfl]; decide) (by decide)
    have hstep := (State.trainStep_board (s := s.at n) (max s.now n) h4).trans (if_neg (ne_true_of_eq_false hother))
    exact ⟨_, hrun.trans (congrArg Host.Outcome.next hstep), hst, hwhy, hp⟩
  case up =>
    have hagain : ((s.at n).linkState k == 4) = false := by rw [hsame (s.at n) rfl]; rfl
    refine ⟨_, hrun.trans (congrArg Host.Outcome.next ((State.trainStep_board (s := s.at n) _ h4).trans (if_pos hboard))), ?_⟩
    rw [hagain]
    exact State.linkUp_first (s := s.at n) hk (by rw [hsame (s.at n) rfl]; decide) _

end Sys2Proof.Machine
end

section
/-!
PROOF. Links that go down and are restored, and their idle blocks (R532, R550 to R552).
-/
namespace Sys2Proof.Machine

open Sys2Proof (Instr)

/-! What the loss of a link leaves (R550, R552). -/

/-- Link k as its status shows it, what is on its way over the links, the panes, and the bells' arrivals. -/
def State.wires (s : State) (k : Nat) : Nat × Bool × List (Nat × Msg) × List (Nat × CtlBlock) × SMap Pane × List BellEvent :=
  (s.linkState k, s.linkCarries k, s.wicketOut, s.ctlOut, s.panes, s.arrivals)

section
variable (s : State) {k : Nat}

/-- The status of a link stands while its STATE and CARRY do. -/
theorem State.wires_wr_status {a : Nat} {w : Word}
    (h : Config.wicket k + 4 = a → w.fld 0 3 = s.linkState k ∧ w.bit 5 = s.linkCarries k) :
    (s.wr a w).wires k = s.wires k := by
  have hstatus : (s.wr a w).linkState k = s.linkState k ∧ (s.wr a w).linkCarries k = s.linkCarries k := by
    simp only [State.linkState, State.linkCarries, State.rd_wr]
    split
    · next heq => exact h heq.symm
    · exact ⟨rfl, rfl⟩
  simp only [State.wires, hstatus]
  rfl

theorem State.showMarkers_wires : s.showMarkers.wires k = s.wires k := by
  refine foldl_keeps (fun t => t.wires k) _ s fun t j _ => t.wires_wr_status fun heq => ?_
  rw [State.linkState, State.linkCarries, ← heq]
  exact ⟨Word.fld_withFld_of_disjoint _ (by decide) (by decide) _, (Word.bit_withFld _ (by decide) _ _).trans (if_neg (by decide))⟩

theorem State.losePart_wires (hk : k < 8) (q : Nat) : (s.losePart q).wires k = s.wires k := by
  have hne : Config.wicket k + 4 ≠ Config.board + 4 := wicket_ne_board hk (by decide) 4
  unfold State.losePart
  split
  · rfl
  · refine Eq.trans (State.wires_wr_status (s.clrBits (Config.board + 4) (1#32 <<< q)) fun h => absurd h hne) ?_
    exact s.wires_wr_status fun h => absurd h hne

theorem State.linkTo_out (k v : Nat) : (s.linkTo k v).wicketOut = s.wicketOut ∧ (s.linkTo k v).ctlOut = s.ctlOut := by
  unfold State.linkTo
  split <;> exact ⟨rfl, rfl⟩

/-- The link forgets its state, and what was on its way over it is lost. -/
def State.cutLink (s : State) (k : Nat) : State :=
  { s.setLink k Link.reset with wicketOut := s.wicketOut.filter (fun x => x.1 != k), ctlOut := s.ctlOut.filter (fun x => x.1 != k) }

theorem State.rd_cutLink (k a : Nat) : (s.cutLink k).rd a = s.rd a := rfl
theorem State.cutLink_out (k : Nat) : (s.cutLink k).wicketOut = s.wicketOut.filter (fun x => x.1 != k) ∧
    (s.cutLink k).ctlOut = s.ctlOut.filter (fun x => x.1 != k) ∧ (s.cutLink k).panes = s.panes ∧ (s.cutLink k).arrivals = s.arrivals :=
  ⟨rfl, rfl, rfl, rfl⟩

/-- The status of the link and its count of losses. -/
def State.statusDown (s : State) (k : Nat) : State :=
  ((s.linkTo k 4).bump (Config.wicket k + 0x20) 16 1).wrFld (Config.wicket k + 4) 5 1 0

theorem State.rd_statusDown {k : Nat} (h : s.linkState k ≠ 4) :
    (s.statusDown k).rd (Config.wicket k + 4) = ((s.rd (Config.wicket k + 4)).withFld 0 3 4).withFld 5 1 0 := by
  rw [State.statusDown, State.rd_wrFld, if_pos rfl, State.rd_bump, if_neg (by omega), s.rd_linkTo k h, if_pos rfl]

theorem State.statusDown_out {k : Nat} (h : s.linkState k ≠ 4) : (s.statusDown k).wicketOut = s.wicketOut ∧
    (s.statusDown k).ctlOut = s.ctlOut ∧ (s.statusDown k).panes = s.panes ∧ (s.statusDown k).arrivals =
      s.arrivals ++ [{ src := 56 + k, kind := .edge, detail := 4, todo := BitVec.allOnes 64 }] := by
  obtain ⟨hwicket, hctl⟩ := s.linkTo_out k 4
  simp only [State.statusDown, State.wrFld, State.bump, State.wr_wicketOut, State.wr_ctlOut, State.wr_panes, State.wr_arrivals]
  exact ⟨hwicket, hctl, s.linkTo_panes k 4, s.linkTo_arrivals k h (by decide)⟩

/-- The link is DOWN and carries nothing, and what was on its way over it is lost. -/
theorem State.linkLost_wires (hk : k < 8) (h : s.linkState k = 3) : (s.linkLost k).wires k =
    (4, false, s.wicketOut.filter (fun x => x.1 != k), s.ctlOut.filter (fun x => x.1 != k), s.panes,
      s.arrivals ++ [{ src := 56 + k, kind := .edge, detail := 4, todo := BitVec.allOnes 64 }]) := by
  have hends : (s.linkLost k).wires k = ((s.statusDown k).cutLink k).wires k := by
    unfold State.linkLost
    dsimp only
    split
    · exact (foldl_keeps (fun t => t.wires k) _ _ fun t q _ => t.losePart_wires hk q).trans
        (State.showMarkers_wires ((s.statusDown k).cutLink k))
    · exact State.showMarkers_wires ((s.statusDown k).cutLink k)
  have hne : s.linkState k ≠ 4 := by rw [h]; decide
  have hstate : ((s.statusDown k).cutLink k).linkState k = 4 := by
    rw [State.linkState, State.rd_cutLink, s.rd_statusDown hne, Word.fld_withFld_of_disjoint _ (by decide) (by decide),
      Word.fld_withFld _ (by decide)]
    rfl
  have hcarry : ((s.statusDown k).cutLink k).linkCarries k = false := by
    rw [State.linkCarries, State.rd_cutLink, s.rd_statusDown hne, Word.bit_withFld _ (by decide), if_pos (by decide)]
    rfl
  obtain ⟨hwicket, hctl, hpanes, harr⟩ := s.statusDown_out hne
  obtain ⟨hwicket', hctl', hpanes', harr'⟩ := (s.statusDown k).cutLink_out k
  rw [hends, State.wires, hstate, hcarry, hwicket', hctl', hpanes', harr', hwicket, hctl, hpanes, harr]

theorem execLinkDown_lost {s : State} {link : BitVec 3} {lock : Bool} {n : Nat} (hk : link.toNat < 6) (hup : s.linkState link.toNat = 3)
    (hlost : lock = true ∨ (s.link link.toNat).lastIn + 300 ≤ max s.now n) :
    execLinkDown link lock n s = .next ((s.at n).linkLost link.toNat) := by
  have hstate : ¬ ((s.at n).linkState link.toNat != 3) = true := by
    rw [show (s.at n).linkState link.toNat = 3 from hup]
    decide
  have hgo : (lock || decide (((s.at n).link link.toNat).crcFails.length ≥ 16) ||
      decide ((s.at n).now ≥ ((s.at n).link link.toNat).lastIn + 300)) = true := by
    rcases hlost with h | h
    · rw [h, Bool.true_or, Bool.true_or]
    · rw [show decide ((s.at n).now ≥ ((s.at n).link link.toNat).lastIn + 300) = true from decide_eq_true h, Bool.or_true]
  rw [execLinkDown]
  exact (if_neg (Nat.not_le.mpr hk)).trans ((if_neg hstate).trans (if_pos hgo))

end

/-! The restore (R551). -/

/-- A link carries traffic again at the first boundary at least 1 us after it came UP. -/
theorem State.restoreLink_of {s : State} {c k : Nat} (hup : s.linkState k = 3) (hidle : s.linkCarries k = false)
    (hlong : (s.link k).upAt + 1000 ≤ c) : s.restoreLink c k = s.wrFld (Config.wicket k + 4) 5 1 1 := by
  refine if_pos ?_
  rw [hup, hidle, decide_eq_true hlong]
  rfl

theorem State.restoreLink_not {s : State} {c k : Nat} (h : s.linkCarries k = true ∨ c < (s.link k).upAt + 1000) :
    s.restoreLink c k = s := by
  refine if_neg fun hgo => ?_
  simp only [Bool.and_eq_true, Bool.not_eq_true', decide_eq_true_eq] at hgo
  obtain ⟨⟨-, hidle⟩, hlong⟩ := hgo
  rcases h with h | h
  · exact Bool.false_ne_true (hidle.symm.trans h)
  · omega

theorem linksChange : Claims.linksChange := by
  intro s link lock n k hk hup
  have hrestore : exec (.linkRestore link) s = .next (if s.gen.on then s.restoreLink s.gen.nextNs k else s) :=
    (exec_linkRestore link s).trans (if_neg (Nat.not_le.mpr hk))
  refine ⟨fun hlost => ?down, fun hon hidle hlong => ?restored, fun hnot => ?stands⟩
  case down =>
    obtain ⟨hst, hcarry, hwicket, hctl, hpanes, harr⟩ := by
      simpa only [State.wires, Prod.mk.injEq] using State.linkLost_wires (s.at n) (k := k) (by omega) hup
    refine ⟨_, (exec_linkDown link lock n s).trans (execLinkDown_lost hk hup hlost), hst, hcarry, ?_, ?_, hpanes, ?_⟩
    · intro x hx
      rw [hwicket, List.mem_filter] at hx
      exact ⟨hx.1, bne_iff_ne.mp hx.2⟩
    · intro x hx
      rw [hctl, List.mem_filter] at hx
      exact bne_iff_ne.mp hx.2
    · rw [harr]
      exact List.mem_append_right _ (List.mem_singleton_self _)
  case restored =>
    have hcarry : (s.wrFld (Config.wicket k + 4) 5 1 1).linkCarries k = true := by
      rw [State.linkCarries, State.rd_wrFld, if_pos rfl, Word.bit_withFld _ (by decide), if_pos (by decide)]
      rfl
    exact ⟨_, hrestore.trans (congrArg Host.Outcome.next ((if_pos hon).trans (State.restoreLink_of hup hidle hlong))), hcarry,
      OnlyRegs.wr _ _ _⟩
  case stands =>
    refine hrestore.trans (congrArg Host.Outcome.next ?_)
    split
    · next hon =>
      refine State.restoreLink_not ?_
      rcases hnot with h | h | h
      · exact .inl h
      · exact absurd hon (ne_true_of_eq_false h)
      · exact .inr h
    · rfl

/-! Idle blocks (R532). -/

section
variable {s : State} {link : BitVec 3} {n : Nat} (hk : link.toNat < 6) (hup : s.linkState link.toNat = 3)
  (hsev : s.severed (92 + link.toNat) = false)
include hk hup hsev

/-- A control block that arrives, good or not. -/
theorem execIdleControlBlock_arrives (good : Bool) :
    execIdleControlBlock link (some good) n s = .next ((s.at n).ctlArrive link.toNat (max s.now n) good) := by
  have hstate : ¬ ((s.at n).linkState link.toNat != 3) = true := fun h => bne_iff_ne.mp h hup
  unfold execIdleControlBlock
  exact (if_neg (Nat.not_le.mpr hk)).trans ((if_neg hstate).trans (if_neg (ne_true_of_eq_false hsev)))

/-- An idle block leaves once 100 ns have passed without a block. -/
theorem execIdleControlBlock_leaves : execIdleControlBlock link none n s =
    if max s.now n < (s.link link.toNat).lastOut + 100 then .next (s.at n)
    else .next { (s.at n).setLink link.toNat { s.link link.toNat with lastOut := max s.now n } with
      ctlOut := s.ctlOut ++ [(link.toNat, .idle)] } := by
  have hstate : ¬ ((s.at n).linkState link.toNat != 3) = true := fun h => bne_iff_ne.mp h hup
  unfold execIdleControlBlock
  exact (if_neg (Nat.not_le.mpr hk)).trans ((if_neg hstate).trans (if_neg (ne_true_of_eq_false hsev)))

end

theorem State.lastIn_setLink (s : State) (k : Nat) {l : Link} (h : l.lastIn = (s.link k).lastIn) :
    ((s.setLink k l).link k).lastIn = (s.link k).lastIn := by
  rw [s.link_setLink, h]

/-- A block whose CRC fails counts, and does not show that the link lives. -/
theorem State.ctlArrive_bad (s : State) (k n : Nat) : ((s.ctlArrive k n false).link k).lastIn = (s.link k).lastIn ∧
    ((s.ctlArrive k n false).rd (Config.wicket k + 0x1C)).toNat = min ((s.rd (Config.wicket k + 0x1C)).toNat + 1) 65535 := by
  rw [State.ctlArrive, if_neg Bool.false_ne_true]
  exact ⟨s.lastIn_setLink k rfl, State.rd_bump_toNat (s.setLink k _) _ (by decide) 1⟩

theorem idleBlocks : Claims.idleBlocks := by
  intro s link n k now a hk hup hsev
  have hin (good : Bool) := (exec_idleControlBlock link (some good) n s).trans (execIdleControlBlock_arrives hk hup hsev good)
  have hout := (exec_idleControlBlock link none n s).trans (execIdleControlBlock_leaves (n := n) hk hup hsev)
  obtain ⟨hlast, hcount⟩ := (s.at n).ctlArrive_bad k now
  exact ⟨fun hlong => ⟨_, hout.trans (if_neg (Nat.not_lt.mpr hlong)), rfl, State.link_setLink _ k _, rfl⟩,
    fun hshort => hout.trans (if_pos hshort), ⟨_, hin true, State.link_setLink _ k _, rfl⟩, ⟨_, hin false, hlast, hcount⟩⟩

end Sys2Proof.Machine
end

section
/-!
PROOF. Digests and tick markers of a board (R45, R538, R539).
-/
namespace Sys2Proof.Machine

open Sys2Proof (Instr)

/-! Digests (R538). -/

/-- An event with two arguments is one row of the log (R491). -/
theorem State.logEv_pair (s : State) (c a b : Nat) : (s.logEv c [a, b]).logq = if s.logs.stopped then s.logq
    else s.logq ++ [{ code := c, args := [a, b], tick := s.tick, stamp := s.stamps.getD 0 0 }] := by
  unfold State.logEv State.logAt
  split <;> rfl

/-- What the arrival of a digest leaves of it but for the comparison: the part is present, and this part's own digest is on its way. -/
def State.digestIn (s : State) (q : Nat) (c : List (Nat × CtlBlock)) : State := { s.markPresent q with ctlOut := c }

section
variable (s : State) (q : Nat) (c : List (Nat × CtlBlock))

theorem State.digestIn_panes : (s.digestIn q c).panes = s.panes := s.markPresent_panes q
theorem State.digestIn_digestOk : (s.digestIn q c).digestOk = s.digestOk := by
  unfold State.digestIn State.markPresent
  split <;> rfl

/-- What the log takes down with an event stands. -/
theorem State.digestIn_log : (s.digestIn q c).logq = s.logq ∧ (s.digestIn q c).logs = s.logs ∧ (s.digestIn q c).tick = s.tick ∧
    (s.digestIn q c).stamps = s.stamps := by
  unfold State.digestIn State.markPresent
  split <;> exact ⟨rfl, rfl, rfl, rfl⟩


/-- Part q is noted as one whose digest is equal. -/
def State.digestEqual (s : State) (q : Nat) : State :=
  { s with digestOk := if s.digestOk.contains q then s.digestOk else s.digestOk ++ [q] }

theorem State.mem_digestEqual : q ∈ (s.digestEqual q).digestOk := by
  show q ∈ if s.digestOk.contains q then s.digestOk else s.digestOk ++ [q]
  split
  · next h => exact List.contains_iff_mem.mp h
  · exact List.mem_append_right _ (List.mem_singleton_self q)

end

theorem execBoardDigestExchange_compares {s : State} {part : BitVec 3} (digest : List Byte) (hne : part.toNat ≠ s.partNo)
    (hlt : part.toNat < s.parts) (hup : s.boardUp = true) : ∃ c, execBoardDigestExchange part digest s =
      if digest = (s.markPresent part.toNat).boardDigest part.toNat then .next ((s.digestIn part.toNat c).digestEqual part.toNat)
      else .next (State.logEv ((s.digestIn part.toNat c).setBits (Config.board + 4) 0x10000#32) 0x7F05 [s.partNo, part.toNat]) := by
  have hgo : ¬ (part.toNat = s.partNo ∨ part.toNat ≥ s.parts ∨ (!s.boardUp) = true) := by
    rintro (h | h | h)
    · exact hne h
    · omega
    · rw [hup] at h; exact Bool.false_ne_true h
  exact ⟨_, if_neg hgo⟩

theorem digestsCompared : Claims.digestsCompared := by
  intro s part digest q own hne hlt hup
  obtain ⟨c, hrun⟩ := execBoardDigestExchange_compares digest hne hlt hup
  have hexec := (exec_boardDigestExchange part digest s).trans hrun
  have hq : q < 8 := part.isLt
  have hbit (j : Nat) : ((s.digestIn q c).rd (Config.board + 4)).bit j = ((s.rd (Config.board + 4)).bit j || decide (j = q)) :=
    s.bit_markPresent q hne (by omega) j
  by_cases heq : digest = own
  · refine ⟨_, hexec.trans (if_pos heq), (hbit q).trans (by simp), s.digestIn_panes q c,
      fun _ => ⟨State.mem_digestEqual _ q, ?_, ?_⟩,
      fun h => absurd heq h⟩
    · exact (hbit 16).trans (by rw [decide_eq_false (by omega), Bool.or_false])
    · exact (s.digestIn_log q c).1
  · obtain ⟨hlogq, hlogs, htick, hstamps⟩ := s.digestIn_log q c
    have hpanes := s.digestIn_panes q c
    have hdigest := s.digestIn_digestOk q c
    generalize s.digestIn q c = y at hexec hbit hlogq hlogs htick hstamps hpanes hdigest
    have hmis (j : Nat) : ((y.setBits (Config.board + 4) 0x10000#32).rd (Config.board + 4)).bit j =
        (((s.rd (Config.board + 4)).bit j || decide (j = q)) || decide (j = 16)) := by
      rw [State.rd_setBits, if_pos rfl, ← hbit j]
      exact Word.bit_or_shift _ (q := 16) (by decide) j
    refine ⟨_, hexec.trans (if_neg heq), ?_, ?_, fun h => absurd h heq, fun _ => ⟨?_, ?_, ?_⟩⟩
    · rw [State.rd_logEv, hmis, decide_eq_true rfl, Bool.or_true, Bool.true_or]
    · rw [State.logEv_panes]
      exact hpanes
    · rw [State.logEv_eq]
      exact hdigest
    · rw [State.rd_logEv, hmis, decide_eq_true rfl, Bool.or_true]
    · rw [Claims.Logged, State.logEv_pair, ← hlogq, ← hlogs, ← htick, ← hstamps]
      rfl

/-! Markers (R45, R539). -/

/-- The links on which the master's marker leaves. -/
theorem execTickMarkerSend_sends {s : State} {n : Nat} (hparts : 2 ≤ s.parts) (hmaster : s.master = s.partNo) (hon : s.gen.on = true)
    (hsoon : s.gen.nextNs ≤ max s.now n + 1000) :
    execTickMarkerSend n s = .next { s.at n with
      ctlOut := s.ctlOut ++ ((List.range 6).filter (fun k => s.linkState k == 3)).map (fun k =>
        (k, .marker 16000 (s.nextTick % 65536))) } := by
  have hgo : ¬ (decide ((s.at n).parts < 2) || (s.at n).master != (s.at n).partNo || !(s.at n).gen.on ||
      decide ((s.at n).now + 1000 < (s.at n).gen.nextNs)) = true := by
    rw [show (s.at n).master = (s.at n).partNo from hmaster, show (s.at n).gen.on = true from hon,
      decide_eq_false (show ¬ (s.at n).parts < 2 from Nat.not_lt.mpr hparts),
      decide_eq_false (show ¬ (s.at n).now + 1000 < (s.at n).gen.nextNs from Nat.not_lt.mpr hsoon)]
    simp
  exact if_neg hgo

theorem execTickMarkerSend_waits {s : State} {n : Nat} (hlong : max s.now n + 1000 < s.gen.nextNs) :
    execTickMarkerSend n s = .next (s.at n) := by
  refine if_pos ?_
  rw [show decide ((s.at n).now + 1000 < (s.at n).gen.nextNs) = true from decide_eq_true hlong, Bool.or_true]

section
variable (s : State)

/-- MARKERS is a bit of the links' status registers, which are none of the others. -/
theorem State.rd_showMarkers {a : Nat} (h : ∀ k, Config.wicket k + 4 ≠ a) : s.showMarkers.rd a = s.rd a :=
  foldl_keeps (fun t => t.rd a) _ s fun t k _ => (t.rd_wrFld _ _ _ _ _).trans (if_neg (h k))

theorem State.showMarkers_keeps : s.showMarkers.gen = s.gen ∧ s.showMarkers.lastC = s.lastC ∧ s.showMarkers.panes = s.panes :=
  ⟨foldl_keeps State.gen _ s fun _ _ _ => rfl, foldl_keeps State.lastC _ s fun _ _ _ => rfl,
    foldl_keeps State.panes _ s fun _ _ _ => rfl⟩

/-- A marker has come on link k, and goes on. -/
def State.markerIn (n k : Nat) (c : List (Nat × CtlBlock)) : State :=
  State.showMarkers { (s.at n).ctlArrive k (max s.now n) true with ctlOut := c }

theorem State.rd_markerIn {n k a : Nat} {c : List (Nat × CtlBlock)} (h : ∀ k, Config.wicket k + 4 ≠ a) :
    (s.markerIn n k c).rd a = s.rd a :=
  State.rd_showMarkers _ h

theorem State.markerIn_keeps (n k : Nat) (c : List (Nat × CtlBlock)) :
    (s.markerIn n k c).gen = s.gen ∧ (s.markerIn n k c).lastC = s.lastC ∧ (s.markerIn n k c).panes = s.panes :=
  State.showMarkers_keeps _

/-- The generator of a follower takes the edge that a marker sets, and a locked one shows the board's skew. -/
def State.followMarker (e : Nat) : State :=
  if (s.phaseErr e).natAbs ≤ 100 && (s.sourceAt e).tickLocked then
    (s.sourceAt e).wrFld (Config.board + 8) 0 16 (BitVec.ofInt 16 (s.phaseErr e)).toNat
  else s.sourceAt e

theorem State.followMarker_near {s : State} {e : Nat} (hhold : s.holdover = false) (hslew : s.slewing = false)
    (hnear : (s.phaseErr e).natAbs ≤ 100) :
    let t := s.followMarker e
    t.gen = { s.trackEdge e with steer := max (-2) (min 2 (s.phaseErr e)) } ∧ t.tickLocked = true ∧ t.panes = s.panes := by
  have hlock : (s.sourceAt e).tickLocked = true := by
    rw [State.sourceAt_near hhold hslew hnear, State.tickLocked, State.rd_setBits, if_pos rfl]
    exact (Word.bit_or_shift _ (q := 0) (by decide) 0).trans (Bool.or_true _)
  intro t
  have ht : t = (s.sourceAt e).wrFld (Config.board + 8) 0 16 (BitVec.ofInt 16 (s.phaseErr e)).toNat :=
    if_pos (by rw [hlock, decide_eq_true hnear]; rfl)
  have hlock' : t.tickLocked = true := by
    rw [ht, State.tickLocked, State.rd_wrFld, if_neg (by decide)]
    exact hlock
  refine ⟨?_, hlock', ?_⟩
  · rw [ht, State.sourceAt_near hhold hslew hnear]
    rfl
  · rw [ht, State.sourceAt_near hhold hslew hnear]
    rfl

end

/-- The registers alone decide which link brings markers. -/
theorem State.markerLink_congr {s t : State} (h : t.reg = s.reg) : t.markerLink = s.markerLink := by
  simp only [State.markerLink, State.linkState, State.linkEn, State.linkPeer, State.rd, h]
  rfl

theorem execTickMarkerArrival_follows {s : State} {link : BitVec 3} {lead tick residence n : Nat} (hk : link.toNat < 6)
    (hup : s.linkState link.toNat = 3) (hsev : s.severed (92 + link.toNat) = false) (hmaster : s.master ≠ s.partNo)
    (hlink : s.markerLink = link.toNat) (hon : s.gen.on = true) (hsrc : s.tickSrc = 3) :
    ∃ c, execTickMarkerArrival link lead tick residence n s =
      .next ((s.markerIn n link.toNat c).followMarker (n + (lead - (s.rd (Config.wicket link.toNat + 8)).fld 0 16 + 8) / 16)) := by
  have hstate : ¬ ((s.at n).linkState link.toNat != 3) = true := fun h => bne_iff_ne.mp h hup
  let s1 := (s.at n).ctlArrive link.toNat (max s.now n) true
  have hmine : ¬ (s1.master == s1.partNo || link.toNat != s1.markerLink) = true := by
    have h1 : (s1.master == s1.partNo) = false := beq_eq_false_iff_ne.mpr hmaster
    have h2 : (link.toNat != s1.markerLink) = false := bne_eq_false_iff_eq.mpr (hlink.symm.trans (State.markerLink_congr (s := s) rfl).symm)
    rw [h1, h2]
    decide
  have hgen (c : List (Nat × CtlBlock)) : ¬ (!(s.markerIn n link.toNat c).gen.on || (s.markerIn n link.toNat c).tickSrc != 3) = true := by
    obtain ⟨hgen, -, -⟩ := s.markerIn_keeps n link.toNat c
    have hsrc' : (s.markerIn n link.toNat c).tickSrc = 3 := (congrArg (fun w => Word.fld w 0 2) (s.rd_markerIn fun j => by
      simp only [Config.wicket, Config.transom]; omega)).trans hsrc
    rw [hgen, hon, hsrc']
    decide
  exact ⟨_, (if_neg (Nat.not_le.mpr hk)).trans ((if_neg hstate).trans ((if_neg (ne_true_of_eq_false hsev)).trans
    ((if_neg hmine).trans ((if_neg (hgen _)).trans rfl))))⟩

theorem markersPass : Claims.markersPass := by
  intro s link lead tick residence n k e
  refine ⟨fun hparts hmaster hon hsoon => (exec_tickMarkerSend n s).trans (execTickMarkerSend_sends hparts hmaster hon hsoon),
    fun hlong => (exec_tickMarkerSend n s).trans (execTickMarkerSend_waits hlong), ?_⟩
  intro hk hup hsev hmaster hlink hon hsrc hhold hslew hnear
  obtain ⟨c, hrun⟩ := execTickMarkerArrival_follows (lead := lead) (tick := tick) (residence := residence) (n := n)
    hk hup hsev hmaster hlink hon hsrc
  obtain ⟨hgen, hlast, hpanes⟩ := s.markerIn_keeps n k c
  have hstatus : (s.markerIn n k c).rd tickStatus = s.rd tickStatus := s.rd_markerIn fun j => by
    simp only [Config.wicket, tickStatus, Config.transom]; omega
  have herr : (s.markerIn n k c).phaseErr e = s.phaseErr e := by simp only [State.phaseErr, hgen, hlast]
  obtain ⟨hgen', hlock, hpanes'⟩ := State.followMarker_near (s := s.markerIn n k c) (e := e)
    ((congrArg (Word.bit · 1) hstatus).trans hhold) ((congrArg (Word.bit · 4) hstatus).trans hslew) (by rw [herr]; exact hnear)
  refine ⟨_, (exec_tickMarkerArrival link lead tick residence n s).trans hrun, ?_, ?_, hlock, ?_, hpanes'.trans hpanes⟩
  · rw [hgen']
    rfl
  · rw [hgen', herr]
  · rw [hgen']
    exact (show (s.markerIn n k c).gen.next = s.gen.next from congrArg Gen.next hgen)

end Sys2Proof.Machine
end

section
/-!
PROOF. Agreement tokens, held and late, and the board of parts as a whole (R546, R547, R549).
-/
namespace Sys2Proof.Machine

open Sys2Proof (Instr)

/-! A token that is held (R546). -/

/-- The tokens and the late counts, the panes, and whether part q is present. -/
def State.tokensSeen (s : State) (q : Nat) : SMap Token × SMap Nat × SMap Pane × Bool :=
  (s.tokens, s.tokenLate, s.panes, (s.rd (Config.board + 4)).bit q)

section
variable (s : State) {q : Nat}

theorem State.tokensSeen_wr {a : Nat} {w : Word} (h : a = Config.board + 4 → w.bit q = (s.rd (Config.board + 4)).bit q) :
    (s.wr a w).tokensSeen q = s.tokensSeen q := by
  have hbit : ((s.wr a w).rd (Config.board + 4)).bit q = (s.rd (Config.board + 4)).bit q := by
    rw [State.rd_wr]
    split
    · next heq => exact h heq
    · rfl
  rw [State.tokensSeen, hbit]
  rfl

theorem State.tokensSeen_bump {a : Nat} (h : a ≠ Config.board + 4) (n k : Nat) : (s.bump a n k).tokensSeen q = s.tokensSeen q :=
  s.tokensSeen_wr fun heq => absurd heq h

/-- EVENTS of BOARD.STATUS is bit 18. -/
theorem State.tokensSeen_events (hq : q < 18) : (s.setBits (Config.board + 4) 0x40000#32).tokensSeen q = s.tokensSeen q := by
  refine s.tokensSeen_wr fun _ => (Word.bit_or_shift _ (q := 18) (by decide) q).trans ?_
  rw [decide_eq_false (by omega), Bool.or_false]

/-- The events that a token brings count in the board's other registers (R549). -/
theorem State.remoteEvents_tokensSeen (hq : q < 18) (e : Nat) : (s.remoteEvents e).tokensSeen q = s.tokensSeen q := by
  unfold State.remoteEvents
  dsimp only
  split
  · split
    · rw [State.tokensSeen_events _ hq, State.tokensSeen_bump _ (by decide), State.tokensSeen_bump _ (by decide),
        State.tokensSeen_bump _ (by decide)]
    · rw [State.tokensSeen_bump _ (by decide), State.tokensSeen_bump _ (by decide), State.tokensSeen_bump _ (by decide)]
  · split
    · rw [State.tokensSeen_events _ hq, State.tokensSeen_bump _ (by decide)]
    · rfl

/-- Part q's token is held, and its late count ends. -/
def State.holdToken (s : State) (q : Nat) (x : Token) : State :=
  { s with tokens := SMap.put s.tokens q x, tokenLate := SMap.del s.tokenLate q }

/-- The time of the agreement, where it is the worst so far (log 2). -/
def State.noteAgreement (s : State) : State :=
  s.draw.2.wrFld (Config.board + 0xC) 0 16 (max ((s.draw.2.rd (Config.board + 0xC)).fld 0 16) (s.draw.1 % 301))

theorem State.noteAgreement_tokensSeen : s.noteAgreement.tokensSeen q = s.tokensSeen q :=
  State.tokensSeen_wr s.draw.2 fun h => absurd h (by decide)

end

/-- The state in which part q's token is held: its events counted, and the part present. -/
def State.tokenIn (s : State) (n q : Nat) (x : Token) : State := (((s.at n).markPresent q).remoteEvents x.event).holdToken q x

theorem execAgreementToken_holds {s : State} {part : BitVec 3} {x : Token} {n : Nat} (hne : part.toNat ≠ s.partNo)
    (hlt : part.toNat < s.parts) (hhere : (s.rd (Config.board + 4)).bit (8 + part.toNat) = false)
    (htick : x.tick % 16 = s.nextTick % 16) (hlate : part.toNat ∉ s.lateNow) :
    execAgreementToken part x n s = .next (if (s.tokenIn n part.toNat x).tokenParts.all
        (fun y => (SMap.at? (s.tokenIn n part.toNat x).tokens y).isSome) then (s.tokenIn n part.toNat x).noteAgreement
      else s.tokenIn n part.toNat x) := by
  have hgo : ¬ (part.toNat = (s.at n).partNo ∨ part.toNat ≥ (s.at n).parts ∨
      ((s.at n).rd (Config.board + 4)).bit (8 + part.toNat) = true ∨
      x.tick % 16 ≠ (s.at n).nextTick % 16 ∨ (s.at n).lateNow.contains part.toNat = true) := by
    rintro (h | h | h | h | h)
    · exact hne h
    · exact absurd hlt (Nat.not_lt.mpr h)
    · exact Bool.false_ne_true (hhere.symm.trans h)
    · exact h htick
    · exact hlate (List.contains_iff_mem.mp h)
  exact (if_neg hgo).trans (apply_ite Host.Outcome.next _ _ _).symm

theorem State.markPresent_tokens (s : State) (q : Nat) :
    (s.markPresent q).tokens = s.tokens ∧ (s.markPresent q).tokenLate = s.tokenLate := by
  unfold State.markPresent
  split <;> exact ⟨rfl, rfl⟩

/-- A token that is held, whether or not it completes the agreement. -/
theorem State.tokenIn_seen {s t : State} {n q : Nat} {x : Token} (hne : q ≠ s.partNo) (hq : q < 8)
    (ht : t.tokensSeen q = (s.tokenIn n q x).tokensSeen q) :
    t.tokens = SMap.put s.tokens q x ∧ t.tokenLate = SMap.del s.tokenLate q ∧ (t.rd (Config.board + 4)).bit q = true ∧
      t.panes = s.panes := by
  obtain ⟨htok, hcount, hpanes, hbit⟩ := by simpa only [State.tokensSeen, Prod.mk.injEq] using ht
  obtain ⟨htok', hcount', hpanes', hbit'⟩ := by
    simpa only [State.tokensSeen, Prod.mk.injEq] using State.remoteEvents_tokensSeen ((s.at n).markPresent q) (q := q) (by omega) x.event
  obtain ⟨hmtok, hmcount⟩ := (s.at n).markPresent_tokens q
  refine ⟨htok.trans (congrArg (SMap.put · q x) (htok'.trans hmtok)), hcount.trans (congrArg (SMap.del · q) (hcount'.trans hmcount)),
    hbit.trans (hbit'.trans ?_), hpanes.trans (hpanes'.trans ((s.at n).markPresent_panes q))⟩
  rw [(s.at n).bit_markPresent q hne (by omega), decide_eq_true rfl, Bool.or_true]

/-! A token that is late (R547). -/

section
variable (s : State) (q : Nat)

/-- A part that is lost is a fault for the ledger; what the tokens left stands. -/
theorem State.losePart_keeps : (s.losePart q).lateNow = s.lateNow ∧ (s.losePart q).tokenLate = s.tokenLate ∧
    (s.losePart q).panes = s.panes := by
  unfold State.losePart
  split
  · exact ⟨rfl, rfl, rfl⟩
  · simp only [State.reportLintel_lateNow, State.reportLintel_tokenLate, State.reportLintel_panes, State.setBits, State.clrBits,
      State.wr_lateNow, State.wr_tokenLate, State.wr_panes, and_self]

theorem State.rd_losePart {a : Nat} (h : a ≠ Config.board + 4) : (s.losePart q).rd a = s.rd a := by
  unfold State.losePart
  split
  · rfl
  · exact (State.rd_setBits _ _ _ _).trans ((if_neg h.symm).trans ((State.rd_clrBits _ _ _ _).trans (if_neg h.symm)))

theorem State.losePart_lost (h : (s.rd (Config.board + 4)).bit (8 + q) = true) : s.losePart q = s := if_pos h

theorem State.losePart_loses (hq : q < 8) (h : (s.rd (Config.board + 4)).bit (8 + q) = false) :
    ((s.losePart q).rd (Config.board + 4)).bit (8 + q) = true ∧ ((s.losePart q).rd (Config.board + 4)).bit q = false ∧
      (s.losePart q).lintelReps = s.lintelReps ++ [{ rep := .partLost q, at' := s.now }] := by
  have hlose : s.losePart q =
      State.reportLintel ((s.clrBits (Config.board + 4) (1#32 <<< q)).setBits (Config.board + 4) (1#32 <<< (8 + q))) (.partLost q) :=
    if_neg (ne_true_of_eq_false h)
  have hbit (j : Nat) : ((s.losePart q).rd (Config.board + 4)).bit j =
      (((s.rd (Config.board + 4)).bit j && !decide (j = q)) || decide (j = 8 + q)) := by
    rw [hlose]
    refine (congrArg (Word.bit · j) ((State.rd_setBits _ _ _ _).trans (if_pos rfl))).trans ?_
    rw [Word.bit_or_shift _ (by omega), State.rd_clrBits, if_pos rfl, Word.bit_and_not_shift _ (by omega)]
  refine ⟨by rw [hbit, decide_eq_true rfl, Bool.or_true], ?_, ?_⟩
  · rw [hbit, decide_eq_true rfl, decide_eq_false (by omega), Bool.or_false, Bool.not_true, Bool.and_false]
  · rw [hlose]
    rfl

end

/-- The part is late at this boundary, and counted. -/
def State.noteLate (s : State) (q m : Nat) : State :=
  State.logEv (State.bump { s with lateNow := s.lateNow ++ [q], tokenLate := SMap.put s.tokenLate q m } (Config.board + 0x10) 16 1)
    0x7F04 [q]

theorem State.noteLate_keeps (s : State) (q m : Nat) : (s.noteLate q m).lateNow = s.lateNow ++ [q] ∧
    (s.noteLate q m).tokenLate = SMap.put s.tokenLate q m ∧ (s.noteLate q m).panes = s.panes ∧ (s.noteLate q m).now = s.now ∧
    (s.noteLate q m).lintelReps = s.lintelReps := by
  rw [State.noteLate, State.logEv_eq]
  exact ⟨rfl, rfl, rfl, rfl, rfl⟩

theorem State.rd_noteLate (s : State) (q m a : Nat) : (s.noteLate q m).rd a = (s.bump (Config.board + 0x10) 16 1).rd a :=
  State.rd_logEv _ _ _ _

theorem State.lateToken_late {s : State} {q : Nat} (hnone : SMap.at? s.tokens q = none) (hlate : q ∉ s.lateNow)
    (hpart : q ∈ s.tokenParts) :
    let m := SMap.get (fun _ => 0) s.tokenLate q + 1
    s.lateToken q = if m ≥ 2 then (s.noteLate q m).losePart q else s.noteLate q m := by
  have hgo : ¬ ((SMap.at? s.tokens q).isSome || s.lateNow.contains q || !s.tokenParts.contains q) = true := by
    rw [hnone, List.contains_iff_mem.mpr hpart, eq_false_of_ne_true (fun h => hlate (List.contains_iff_mem.mp h))]
    decide
  exact if_neg hgo

theorem tokensAgree : Claims.tokensAgree := by
  intro s part token n q b
  have hq : q < 8 := part.isLt
  refine ⟨fun hne hlt hhere htick hlate => ?held, fun hnone hlate hpart => ?late⟩
  case held =>
    obtain ⟨t, hrun, hseen⟩ : ∃ t, execAgreementToken part token n s = .next t ∧
        t.tokensSeen q = (s.tokenIn n q token).tokensSeen q := by
      refine ⟨_, execAgreementToken_holds hne hlt hhere htick hlate, ?_⟩
      split
      · exact State.noteAgreement_tokensSeen _
      · rfl
    obtain ⟨htok, hcount, hpresent, hpanes⟩ := State.tokenIn_seen hne hq hseen
    refine ⟨t, (exec_agreementToken part token n s).trans hrun, ?_, fun j hj => ?_, ?_, hpresent, hpanes⟩
    · rw [htok, SMap.at?_put, if_pos rfl]
    · rw [htok, SMap.at?_put, if_neg hj.symm]
    · rw [hcount, SMap.at?_del, if_pos rfl]
  case late =>
    intro m
    have hrun := (exec_tokenLate part s).trans (congrArg Host.Outcome.next (State.lateToken_late hnone hlate hpart))
    obtain ⟨hl, hcount, hpanes, hnow, hreps⟩ := s.noteLate_keeps q m
    obtain ⟨hl', hcount', hpanes'⟩ := (s.noteLate q m).losePart_keeps q
    have hstatus : (s.noteLate q m).rd b = s.rd b :=
      (s.rd_noteLate q m b).trans ((s.rd_bump _ _ _ _).trans (if_neg (by decide)))
    have hlates : ((s.noteLate q m).rd (Config.board + 0x10)).toNat = min ((s.rd (Config.board + 0x10)).toNat + 1) 65535 := by
      rw [s.rd_noteLate]
      exact State.rd_bump_toNat _ _ (by decide) _
    have hm : SMap.get (fun _ => 0) (s.noteLate q m).tokenLate q = m := by rw [hcount, SMap.get_put, if_pos rfl]
    rcases Nat.lt_or_ge m 2 with hlow | hhigh
    · exact ⟨_, hrun.trans (congrArg Host.Outcome.next (if_neg (Nat.not_le.mpr hlow))), hl, hm, hlates, hpanes, fun _ => hstatus,
        fun h => absurd h (Nat.not_le.mpr hlow), fun h => absurd h (Nat.not_le.mpr hlow)⟩
    · refine ⟨_, hrun.trans (congrArg Host.Outcome.next (if_pos hhigh)), hl'.trans hl, ?_, ?_, hpanes'.trans hpanes,
        fun h => absurd h (Nat.not_lt.mpr hhigh), fun _ => ?_, fun _ hhere => ?_⟩
      · rw [hcount', hm]
      · rw [State.rd_losePart _ _ (by decide), hlates]
      · by_cases hhere : ((s.noteLate q m).rd (Config.board + 4)).bit (8 + q) = true
        · rw [State.losePart_lost _ q hhere]
          exact hhere
        · exact ((s.noteLate q m).losePart_loses q hq (eq_false_of_ne_true hhere)).1
      · obtain ⟨-, hgone, hrep⟩ := (s.noteLate q m).losePart_loses q hq (by rw [hstatus]; exact hhere)
        rw [hnow, hreps] at hrep
        exact ⟨hgone, hrep⟩

/-- Settles O48: links, their loss and their idle blocks, digests, markers and tokens. -/
theorem boardsAgree : Obligations.BoardsAgree :=
  ⟨linksTrain, linksChange, idleBlocks, digestsCompared, markersPass, tokensAgree⟩

end Sys2Proof.Machine
end

section
/-!
PROOF. Messages that leave the mesh: their tags, the acknowledgements that answer them, and the way of those (R96 to R98, R125, R126).
-/
namespace Sys2Proof.Machine

open Sys2Proof (Instr)

/-! Tags (R98). -/

theorem tagDiff_eq_zero {tag ord : Nat} (h : tag % 256 = ord % 256) : tagDiff tag ord = 0 := by unfold tagDiff; omega
theorem tagDiff_eq_one {tag ord : Nat} (h : tag % 256 = (ord + 1) % 256) : tagDiff tag ord = 1 := by unfold tagDiff; omega
theorem tagDiff_ne_zero {tag ord : Nat} (h : tag % 256 ≠ ord % 256) : tagDiff tag ord ≠ 0 := by unfold tagDiff; omega
theorem tagDiff_ne_one {tag ord : Nat} (h : tag % 256 ≠ (ord + 1) % 256) : tagDiff tag ord ≠ 1 := by unfold tagDiff; omega

/-! Ways (R125, R126). -/

section
variable {s : State}

/-- No router that the routes go round, and no dead one, lies on the way from src to dst. -/
abbrev State.wayOpen (s : State) (vn1 : Bool) (src dst : Nat) : Prop :=
  ∀ d, d ∈ s.routedAround ∨ d ∈ s.deadRouters → onVn vn1 src dst d = false

/-- A message keeps its network where the way is open. -/
theorem State.wayFrom_open {vn1 : Bool} {src dst : Nat} (h : s.wayOpen vn1 src dst) (lost : Bool) :
    s.wayFrom vn1 src dst lost = some (vn1, none) := by
  have hclear : s.clear vn1 src dst = true := List.all_eq_true.mpr fun d hd => by rw [h d (.inl hd)]; rfl
  have hlives : s.routeLives vn1 src dst = true := List.all_eq_true.mpr fun d hd => by rw [h d (.inr hd)]; rfl
  rw [State.wayFrom, if_pos hclear, if_pos hlives]

theorem State.injectOn_open {vn1 : Bool} {src dst : Nat} (h : s.wayOpen vn1 src dst) (m : Msg) (lost : Bool) :
    s.injectOn vn1 m src dst lost = { s with mesh := s.mesh ++ [{ m with vn := vn1, relay := none }] } := by
  rw [State.injectOn, State.wayFrom_open h]

/-- A message for a pane of this part ends at that pane's router. -/
theorem State.msgEnd_home {m : Msg} (hdev : m.dev = s.partNo) (hkind : m.kind ≠ .drivePost) : s.msgEnd m = some (m.dest % 1024) := by
  rw [State.msgEnd, State.localEnd, if_pos hdev]
  cases h : m.kind with
  | drivePost => exact absurd h hkind
  | _ => rfl

/-- The routers and the part's number stand as they were. -/
abbrev SameWays (s t : State) : Prop :=
  t.partNo = s.partNo ∧ t.routedAround = s.routedAround ∧ t.deadRouters = s.deadRouters

/-- The acknowledgement of a message of this part joins the mesh. -/
theorem State.ackFor_open {t : State} {m : Msg} {r : Nat} (hsame : SameWays s t) (hdev : m.srcDev = s.partNo)
    (hway : Claims.ackWay s m r) (sub : Nat) : t.ackFor m r sub = { t with mesh := t.mesh ++ [Claims.ackOf s m r sub] } := by
  obtain ⟨hpart, haround, hdead⟩ := hsame
  have hopen : t.wayOpen m.vn r (m.srcPane % 1024) := by
    intro d hd
    rw [haround, hdead] at hd
    exact hway d hd
  have hend : t.msgEnd (t.ackOf m r sub) = some (m.srcPane % 1024) :=
    State.msgEnd_home (hdev.trans hpart.symm) (show MsgKind.ack ≠ .drivePost by decide)
  rw [State.ackFor, hend, Claims.ackOf, ← hpart]
  exact State.injectOn_open hopen _ _

/-! A message that a step takes from the mesh. -/

/-- Message number k has left the mesh. -/
def State.taken (s : State) (k : Nat) : State := { s with mesh := s.mesh.eraseIdx k }

theorem State.takeMsg_onMesh {k : Nat} {m : Msg} {kind : MsgKind} (h : Claims.onMesh s k m kind) :
    s.takeMsg (.mesh k) kind = some (m, s.taken k) := by
  obtain ⟨hmem, hkind, hrelay, hdev, -⟩ := h
  rw [State.takeMsg, hmem]
  exact if_pos (by rw [hkind, hrelay, hdev, beq_self_eq_true, beq_self_eq_true]; rfl)

variable {k : Nat} {m : Msg}

theorem execPostArrival_whole (h : Claims.onMesh s k m .post) (hup : s.paneUp (m.dest % 1024) = true) :
    execPostArrival (.mesh k) .none s = .next ((s.taken k).deliver m true) := by
  rw [execPostArrival, State.takeMsg_onMesh h]
  exact if_neg (by rw [hup]; decide)

theorem execPostArrival_header (h : Claims.onMesh s k m .post) (hup : s.paneUp (m.dest % 1024) = true) (x : PaneNo) :
    execPostArrival (.mesh k) (.header x) s =
      .next (((s.taken k).modPane x.toNat (fun q => q.bump 0x824 16 1)).paneEdge x.toNat 17) := by
  rw [execPostArrival, State.takeMsg_onMesh h]
  exact if_neg (by rw [hup]; decide)

theorem execDrivePost_whole (h : Claims.onMesh s k m .drivePost) :
    execDrivePost (.mesh k) .none s = .next ((s.taken k).deliverDrive m true) := by
  rw [execDrivePost, State.takeMsg_onMesh h]
  rfl

theorem execReduceContribution_due (h : Claims.onMesh s k m .reduce)
    (hdue : tagDiff m.tag (s.ordinal (s.groupClass m.chan) s.tick) = 0) :
    execReduceContribution (.mesh k) .none s = .next (((s.taken k).storeRed m).ackFor m (m.dest % 1024) 0) := by
  rw [execReduceContribution, State.takeMsg_onMesh h]
  exact if_pos hdue

/-- The acknowledgement with a message's id ends its sender's wait (R63). -/
def Pane.acked (q : Pane) (id : Nat) : Pane := { q with unacked := q.unacked.filter (fun u => u.id != id) }

theorem execAcknowledgement_whole (h : Claims.onMesh s k m .ack) (n : Nat) : execAcknowledgement (.mesh k) .none n s =
    .next ((((s.taken k).at n).modPane (m.dest % 1024) (fun q => q.acked m.id)).poll (m.dest % 1024)) := by
  rw [execAcknowledgement, State.takeMsg_onMesh h]
  rfl

end

/-! Acknowledgements and contributions (R63, R97, R116). -/

theorem acksReturn : Claims.acksReturn := by
  intro s k n m p q hmesh hawake
  obtain ⟨hfence, hwaitt, hwaittIn, hevwait⟩ := hawake
  have hpane (j : Nat) : (((s.taken k).at n).modPane p (fun q => q.acked m.id)).pane j = if p = j then q.acked m.id else s.pane j :=
    State.pane_modPane _ _ _ _
  have hphase : ((((s.taken k).at n).modPane p (fun q => q.acked m.id)).pane p).phase = q.phase := by
    rw [hpane, if_pos rfl]
    rfl
  have hpoll := State.poll_awake (s := ((s.taken k).at n).modPane p (fun q => q.acked m.id)) (p := p) (by rwa [hphase]) (by rwa [hphase])
    (by rwa [hphase]) (by rwa [hphase])
  refine ⟨_, (exec_acknowledgement (.mesh k) .none n s).trans
    ((execAcknowledgement_whole hmesh n).trans (congrArg Host.Outcome.next hpoll)), rfl, rfl, ?_, fun j hj => ?_⟩
  · exact (hpane p).trans (if_pos rfl)
  · exact (hpane j).trans (if_neg hj.symm)

theorem contributionStored : Claims.contributionStored := by
  intro s k m ord key hmesh htag hway
  have ⟨_, _, _, _, hsrc⟩ := hmesh
  have hack := State.ackFor_open (t := (s.taken k).storeRed m) ⟨rfl, rfl, rfl⟩ hsrc hway 0
  refine ⟨_, (exec_reduceContribution (.mesh k) .none s).trans
    ((execReduceContribution_due hmesh (tagDiff_eq_zero htag)).trans (congrArg Host.Outcome.next hack)), rfl, rfl, fun j => ?_⟩
  refine (SMap.at?_put s.red key j _).trans ?_
  simp only [eq_comm]

/-! Relays (R125, R127). -/

theorem relayForwards : Claims.relayForwards := by
  intro s k r m hmem hrelay hkind hdev
  have hend : (s.msgEnd m).getD r = m.dest % 1024 := by
    rw [State.msgEnd_home hdev (by rw [hkind]; decide)]
    rfl
  have hlives : s.routeLives true r (m.dest % 1024) = true ↔ ¬ ∃ d ∈ s.deadRouters, onVn1 r (m.dest % 1024) d = true := by
    simp [State.routeLives, onVn]
  rw [exec_relayForward, execRelayForward, hmem]
  simp only [hrelay, hend]
  by_cases hdead : ∃ d ∈ s.deadRouters, onVn1 r (m.dest % 1024) d = true
  · rw [if_pos hdead, if_neg fun h => hlives.mp h hdead]
  · rw [if_neg hdead, if_pos (hlives.mpr hdead)]

end Sys2Proof.Machine
end

section
/-!
PROOF. Posts at their receivers: stored, held, late or misrouted (R61, R64, R65, R93, R98, R104).
-/
namespace Sys2Proof.Machine

open Sys2Proof (Instr)

/-! Words in a back half (R61). -/

theorem BackHalf.land_count (b : BackHalf) (i : Nat) (l : List Word) : (b.land i l).count = b.count + l.length := by
  induction l generalizing b i with
  | nil => rfl
  | cons w r ih =>
    rw [BackHalf.land, ih, List.length_cons]
    exact Nat.add_right_comm _ _ _

/-- The words stand in the slots from i on, and every other slot stays. -/
theorem BackHalf.land_words (b : BackHalf) (i : Nat) (l : List Word) (j : Nat) : SMap.at? (b.land i l).words j =
    if i ≤ j ∧ j < i + l.length then l[j - i]? else SMap.at? b.words j := by
  induction l generalizing b i with
  | nil => rw [BackHalf.land, if_neg (by simp only [List.length_nil]; omega)]
  | cons w r ih =>
    rw [BackHalf.land, ih, SMap.at?_put, List.length_cons]
    rcases Nat.lt_trichotomy j i with h | h | h
    · rw [if_neg (by omega), if_neg (by omega), if_neg (by omega)]
    · subst h
      rw [if_neg (by omega), if_pos rfl, if_pos (by omega), Nat.sub_self]
      rfl
    · rw [if_neg (by omega : ¬ i = j), show j - i = (j - (i + 1)) + 1 by omega, List.getElem?_cons_succ]
      by_cases hin : j < i + 1 + r.length
      · rw [if_pos (by omega), if_pos (by omega)]
      · rw [if_neg (by omega), if_neg (by omega)]

/-- A message's words and its poison in a back half. -/
def BackHalf.takes (b : BackHalf) (m : Msg) : BackHalf := { b.land m.index m.words with poison := b.poison || m.poison.any id }

theorem BackHalf.takes_landed (b : BackHalf) (m : Msg) : Claims.Landed m b (b.takes m) :=
  ⟨b.land_count m.index m.words, rfl, b.land_words m.index m.words⟩

section
variable (x : ChanState) (m : Msg) {c : Nat}

theorem ChanState.backOf_take_same (hc : c < 3) : Claims.backOf (x.take c m) c = (Claims.backOf x c).takes m := by
  match c, hc with
  | 0, _ => rfl
  | 1, _ => rfl
  | 2, _ => rfl

/-- The back halves of the other copies stay. -/
theorem ChanState.backOf_take_other (hc : c < 3) {d : Nat} (hd : d < 3) (hne : d ≠ c) :
    Claims.backOf (x.take c m) d = Claims.backOf x d := by
  match c, hc, d, hd, hne with
  | 0, _, 1, _, _ | 0, _, 2, _, _ | 1, _, 0, _, _ | 1, _, 2, _, _ | 2, _, 0, _, _ | 2, _, 1, _, _ => rfl
  | 0, _, 0, _, hne | 1, _, 1, _, hne | 2, _, 2, _, hne => exact absurd rfl hne

theorem ChanState.take_late (hc : c < 3) : (x.take c m).late = x.late := by
  match c, hc with
  | 0, _ => rfl
  | 1, _ => rfl
  | 2, _ => rfl

end

section
variable (q : Pane) {c : Nat}

theorem Pane.copyOf_lt {src n : Nat} (h : q.copyOf c src = some n) : n < 3 := by
  unfold Pane.copyOf at h
  split at h
  · cases h; decide
  · split at h
    · cases h; decide
    · split at h
      · cases h; decide
      · cases h

theorem Pane.chanOf_setChan (x : ChanState) (j : Nat) : (q.setChan c x).chanOf j = if c = j then x else q.chanOf j :=
  SMap.get_put _ q.chan c j x

theorem Pane.onlyChan_setChan (x : ChanState) : Claims.OnlyChan c q (q.setChan c x) :=
  ⟨rfl, fun j hj => (q.chanOf_setChan x j).trans (if_neg hj.symm)⟩

end

/-! What becomes of a post (R64, R65, R98, R104). -/

/-- The copy c of the channel's sender has sent the post, and it fits its channel. -/
abbrev Claims.Fits (s : State) (m : Msg) (c : Nat) : Prop :=
  (s.pane (m.dest % 1024)).inValid m.chan = true ∧
  (s.pane (m.dest % 1024)).copyOf m.chan (m.srcDev * 1024 + m.srcPane) = some c ∧
  m.index + m.words.length ≤ (s.pane (m.dest % 1024)).inSize m.chan

/-- The tag of the post against the tick of its channel. -/
def State.tagOff (s : State) (m : Msg) : Nat := tagDiff m.tag (s.ordinal ((s.pane (m.dest % 1024)).inClass m.chan) s.tick)

/-- A tag is judged by the dividers, the tick and the receiver's channel. -/
theorem State.tagOff_congr {s t : State} (hreg : t.reg = s.reg) (htick : t.tick = s.tick) (hpanes : t.panes = s.panes) (m : Msg) :
    t.tagOff m = tagDiff m.tag (s.tick / s.mult ((s.pane (m.dest % 1024)).inClass m.chan)) := by
  rw [State.tagOff, State.ordinal, State.mult_of_reg hreg, htick, State.pane_congr hpanes]

/-- The post in the back half of the copy that sent it. -/
def State.stored (s : State) (m : Msg) (c : Nat) : State :=
  let q := s.pane (m.dest % 1024)
  s.setPane (m.dest % 1024) (q.setChan m.chan ((q.chanOf m.chan).take c m))

/-- The channel that discards a post as late shows it, and the pane counts its words. -/
def State.lateDropped (s : State) (m : Msg) : State :=
  let q := s.pane (m.dest % 1024)
  (s.setPane (m.dest % 1024) ((q.setChan m.chan { q.chanOf m.chan with late := true }).bump 0x11C 16 m.words.length)).paneEdge
    (m.dest % 1024) 20

/-- The receiver counts a post that is misrouted. -/
def State.misrouted (s : State) (m : Msg) : State :=
  (s.modPane (m.dest % 1024) (fun q => q.bump 0x828 16 1)).paneEdge (m.dest % 1024) 19

section
variable {s : State} {m : Msg} {hold : Bool}

theorem State.deliver_unknown (h : (s.pane (m.dest % 1024)).inValid m.chan = false) :
    s.deliver m hold = (s.misrouted m).ackFor m (m.dest % 1024) 2 := by
  have hnone : (if (s.pane (m.dest % 1024)).inValid m.chan then
      (s.pane (m.dest % 1024)).copyOf m.chan (m.srcDev * 1024 + m.srcPane) else none) = none := if_neg (ne_true_of_eq_false h)
  unfold State.deliver
  dsimp only
  rw [hnone]
  rfl

theorem State.deliver_fits {c : Nat} (h : Claims.Fits s m c) : s.deliver m hold =
    if s.tagOff m = 0 then (s.stored m c).ackFor m (m.dest % 1024) 0
    else if s.tagOff m = 1 ∧ hold then { s with held := s.held ++ [m] }
    else if s.tagOff m = 1 then s else (s.lateDropped m).ackFor m (m.dest % 1024) 1 := by
  obtain ⟨hvalid, hcopy, hsize⟩ := h
  have hsome : (if (s.pane (m.dest % 1024)).inValid m.chan then
      (s.pane (m.dest % 1024)).copyOf m.chan (m.srcDev * 1024 + m.srcPane) else none) = some c := (if_pos hvalid).trans hcopy
  unfold State.deliver
  dsimp only
  rw [hsome]
  exact if_neg (Nat.not_lt.mpr hsize)

end

/-! The receiver after a post is stored. -/

theorem State.stored_receiver (s : State) {m : Msg} {c : Nat} (hc : c < 3) :
    let r := m.dest % 1024
    let t := s.stored m c
    (∀ j, j ≠ r → t.pane j = s.pane j) ∧ Claims.OnlyChan m.chan (s.pane r) (t.pane r) ∧
      ((t.pane r).chanOf m.chan).late = ((s.pane r).chanOf m.chan).late ∧
      (∀ d < 3, d ≠ c → Claims.backOf ((t.pane r).chanOf m.chan) d = Claims.backOf ((s.pane r).chanOf m.chan) d) ∧
      Claims.Landed m (Claims.backOf ((s.pane r).chanOf m.chan) c) (Claims.backOf ((t.pane r).chanOf m.chan) c) := by
  intro r t
  have hpane : t.pane r = (s.pane r).setChan m.chan (((s.pane r).chanOf m.chan).take c m) :=
    (s.pane_setPane r r _).trans (if_pos rfl)
  have hchan : (t.pane r).chanOf m.chan = ((s.pane r).chanOf m.chan).take c m := by
    rw [hpane, Pane.chanOf_setChan, if_pos rfl]
  rw [hchan, hpane]
  refine ⟨fun j hj => (s.pane_setPane r j _).trans (if_neg hj.symm), Pane.onlyChan_setChan _ _, ChanState.take_late _ m hc,
    fun d hd hne => ChanState.backOf_take_other _ m hc hd hne, ?_⟩
  rw [ChanState.backOf_take_same _ m hc]
  exact BackHalf.takes_landed _ m

theorem State.lateDropped_receiver (s : State) (m : Msg) :
    let r := m.dest % 1024
    let q := s.pane r
    let t := s.lateDropped m
    ((t.pane r).cr 0x11C).toNat = min ((q.cr 0x11C).toNat + m.words.length) 65535 ∧ ((t.pane r).chanOf m.chan).late = true ∧
      (∀ d < 3, Claims.backOf ((t.pane r).chanOf m.chan) d = Claims.backOf (q.chanOf m.chan) d) ∧
      (t.pane r).g = q.g ∧ (t.pane r).sram = q.sram ∧ (∀ j, j ≠ r → t.pane j = s.pane j) := by
  intro r q t
  have hpane : t.pane r = (q.setChan m.chan { q.chanOf m.chan with late := true }).bump 0x11C 16 m.words.length :=
    (s.pane_setPane r r _).trans (if_pos rfl)
  have hchan : (t.pane r).chanOf m.chan = { q.chanOf m.chan with late := true } := by
    rw [hpane]
    exact (q.chanOf_setChan _ _).trans (if_pos rfl)
  rw [hchan, hpane]
  refine ⟨?_, rfl, fun d _ => rfl, rfl, rfl, fun j hj => (s.pane_setPane r j _).trans (if_neg hj.symm)⟩
  rw [Pane.bump, Pane.cr_setCr, if_pos rfl, toNat_satAdd (by decide)]
  rfl

theorem postArrives : Claims.postArrives := by
  intro s k c m r q ord hmesh hup hvalid hcopy hsize hway
  have ⟨_, _, _, _, hsrc⟩ := hmesh
  have hc : c < 3 := q.copyOf_lt hcopy
  have htagOff := State.tagOff_congr (s := s) (t := s.taken k) rfl rfl rfl m
  have hrun : exec (.postArrival (.mesh k) .none) s = .next ((s.taken k).deliver m true) :=
    (exec_postArrival (.mesh k) .none s).trans (execPostArrival_whole hmesh hup)
  rw [hrun, State.deliver_fits (s := s.taken k) ⟨hvalid, hcopy, hsize⟩]
  refine ⟨fun htag => ?stored, fun htag => ?held, fun hback hnext => ?late⟩
  case stored =>
    have hoff : (s.taken k).tagOff m = 0 := htagOff.trans (tagDiff_eq_zero htag)
    rw [if_pos hoff, State.ackFor_open (s := s) (t := (s.taken k).stored m c) ⟨rfl, rfl, rfl⟩ hsrc hway]
    obtain ⟨hothers, hchan, hlate, hcopies, hland⟩ := (s.taken k).stored_receiver (m := m) hc
    exact ⟨_, rfl, rfl, rfl, hothers, hchan, hlate, hcopies, hland⟩
  case held =>
    have hoff : (s.taken k).tagOff m = 1 := htagOff.trans (tagDiff_eq_one htag)
    rw [if_neg (by rw [hoff]; decide), if_pos ⟨hoff, rfl⟩]
    rfl
  case late =>
    have hoff : (s.taken k).tagOff m ≠ 0 := htagOff.trans_ne (tagDiff_ne_zero hback)
    have hoff' : (s.taken k).tagOff m ≠ 1 := htagOff.trans_ne (tagDiff_ne_one hnext)
    rw [if_neg hoff, if_neg (fun h => hoff' h.1), if_neg hoff',
      State.ackFor_open (s := s) (t := (s.taken k).lateDropped m) ⟨rfl, rfl, rfl⟩ hsrc hway]
    obtain ⟨hcount, hlate, hcopies, hg, hsram, hothers⟩ := (s.taken k).lateDropped_receiver m
    exact ⟨_, rfl, rfl, hcount, hlate, hcopies, hg, hsram, hothers, rfl⟩

/-- A held post whose tick's back half is not open stays held; else it is delivered (R64). -/
theorem execHeldPostDelivery_post {s : State} {k : Nat} {m : Msg} (h : s.held[k]? = some m) (hkind : m.kind = .post) :
    execHeldPostDelivery k s =
      if s.tagOff m = 1 then .next s else .next (State.deliver { s with held := s.held.eraseIdx k } m false) := by
  unfold execHeldPostDelivery State.tagOff
  simp only [h, hkind]

theorem heldDelivers : Claims.heldDelivers := by
  intro s k c m r q ord hheld hkind hsrc hway hvalid hcopy hsize
  let s1 : State := { s with held := s.held.eraseIdx k }
  have hc : c < 3 := q.copyOf_lt hcopy
  have htagOff := State.tagOff_congr (s := s) (t := s) rfl rfl rfl m
  have htagOff' := State.tagOff_congr (s := s) (t := s1) rfl rfl rfl m
  have hrun := (exec_heldPostDelivery k s).trans (execHeldPostDelivery_post hheld hkind)
  refine ⟨fun htag => ?opened, fun htag => hrun.trans (if_pos (htagOff.trans (tagDiff_eq_one htag)))⟩
  have hoff : s.tagOff m = 0 := htagOff.trans (tagDiff_eq_zero htag)
  have hoff' : s1.tagOff m = 0 := htagOff'.trans (tagDiff_eq_zero htag)
  rw [hrun, if_neg (by rw [hoff]; decide), State.deliver_fits (s := s1) ⟨hvalid, hcopy, hsize⟩, if_pos hoff',
    State.ackFor_open (s := s) (t := s1.stored m c) ⟨rfl, rfl, rfl⟩ hsrc hway]
  obtain ⟨hothers, hchan, -, -, hland⟩ := s1.stored_receiver (m := m) hc
  exact ⟨_, rfl, rfl, rfl, hothers, hchan, hland⟩

/-- A pane that counts keeps its channels and its registers g. -/
theorem State.counted_receiver (s : State) (r a n j src : Nat) :
    let t := (s.modPane r (fun q => q.bump a 16 n)).paneEdge r src
    ((t.pane r).cr a).toNat = min (((s.pane r).cr a).toNat + n) 65535 ∧ (t.pane j).chan = (s.pane j).chan ∧
      (t.pane j).g = (s.pane j).g := by
  intro t
  have hpane (i : Nat) : t.pane i = if r = i then (s.pane r).bump a 16 n else s.pane i := s.pane_modPane r i (fun q => q.bump a 16 n)
  refine ⟨?_, ?_⟩
  · rw [hpane, if_pos rfl, Pane.bump, Pane.cr_setCr, if_pos rfl, toNat_satAdd (by decide)]
    rfl
  · rw [hpane]
    split
    · next heq => subst heq; exact ⟨rfl, rfl⟩
    · exact ⟨rfl, rfl⟩

theorem postMisses : Claims.postMisses := by
  intro s k m x r hmesh hup
  have ⟨_, _, _, _, hsrc⟩ := hmesh
  refine ⟨fun hinvalid hway => ?misrouted, ?header⟩
  case misrouted =>
    have hrun := (exec_postArrival (.mesh k) .none s).trans (execPostArrival_whole hmesh hup)
    rw [hrun, State.deliver_unknown (s := s.taken k) hinvalid,
      State.ackFor_open (s := s) (t := (s.taken k).misrouted m) ⟨rfl, rfl, rfl⟩ hsrc hway]
    obtain ⟨hcount, hchan, hg⟩ := (s.taken k).counted_receiver r 0x828 1 r 19
    exact ⟨_, rfl, rfl, hcount, hchan, hg, rfl, rfl⟩
  case header =>
    have hcounted (j : Nat) := (s.taken k).counted_receiver x.toNat 0x824 1 j 17
    refine ⟨_, (exec_postArrival (.mesh k) (.header x) s).trans (execPostArrival_header hmesh hup x), rfl, rfl, (hcounted 0).1,
      fun j => (hcounted j).2, rfl⟩

end Sys2Proof.Machine
end

section
/-!
PROOF. Drive posts at their slots, messages at the links, and messages as a whole (R343, R542, R636).
-/
namespace Sys2Proof.Machine

open Sys2Proof (Instr)

/-! Drive posts (R343). -/

section
variable (x : DriveSlot) (v : Option DriveWord) {c : Nat}

theorem DriveSlot.back_setBack_same (hc : c < 3) : (x.setBack c v).back c = v := by
  match c, hc with
  | 0, _ => rfl
  | 1, _ => rfl
  | 2, _ => rfl

theorem DriveSlot.back_setBack_other (hc : c < 3) {e : Nat} (he : e < 3) (hne : e ≠ c) : (x.setBack c v).back e = x.back e := by
  match c, hc, e, he, hne with
  | 0, _, 1, _, _ | 0, _, 2, _, _ | 1, _, 0, _, _ | 1, _, 2, _, _ | 2, _, 0, _, _ | 2, _, 1, _, _ => rfl
  | 0, _, 0, _, hne | 1, _, 1, _, hne | 2, _, 2, _, hne => exact absurd rfl hne

end

section
variable {s : State} {m : Msg}

theorem State.slot_setSlot (d j : Nat) (x : DriveSlot) : (s.setSlot d x).slot j = if d = j then x else s.slot j :=
  SMap.get_put _ s.drv d j x

theorem State.slotCopy_lt {d src c : Nat} (h : s.slotCopy d src = some c) : c < 3 := List.mem_range.mp (List.mem_of_find?_eq_some h)

/-- The drive post in the back half of the copy that sent it. -/
def State.slotFilled (s : State) (m : Msg) (c : Nat) : State :=
  s.setSlot (m.dest % 128) ((s.slot (m.dest % 128)).setBack c (some { word := m.words.headD 0, poison := m.poison.headD false }))

/-- The group counts a drive post that is misrouted. -/
def State.driveMisrouted (s : State) (m : Msg) : State := s.bump (Config.dop (m.dest % 128 / 64) + 0x24) 16 1

/-- The router of a drive post's entry. -/
abbrev driveEntry (m : Msg) : Nat := driveRouter (m.dest % 128 / 64) (m.dest / 512)

/-- A post from a pane that is no source of the slot, or to no slot. -/
theorem State.deliverDrive_unknown {hold : Bool}
    (h : s.slotValid (m.dest % 128) = false ∨ s.slotCopy (m.dest % 128) (m.srcDev * 1024 + m.srcPane) = none) :
    s.deliverDrive m hold = (s.driveMisrouted m).ackFor m (driveEntry m) 2 := by
  have hnone : (if s.slotValid (m.dest % 128) then s.slotCopy (m.dest % 128) (m.srcDev * 1024 + m.srcPane) else none) = none := by
    rcases h with h | h
    · exact if_neg (ne_true_of_eq_false h)
    · rw [h, ite_self]
  unfold State.deliverDrive
  dsimp only
  rw [hnone]
  rfl

/-- A post of the slot's tick from one of its sources. -/
theorem State.deliverDrive_due {hold : Bool} {c : Nat} (hvalid : s.slotValid (m.dest % 128) = true)
    (hcopy : s.slotCopy (m.dest % 128) (m.srcDev * 1024 + m.srcPane) = some c)
    (hdue : tagDiff m.tag (s.ordinal (s.slotClass (m.dest % 128)) s.tick) = 0) : s.deliverDrive m hold =
      if ((s.slot (m.dest % 128)).back c).isSome then (s.driveMisrouted m).ackFor m (driveEntry m) 2
      else (s.slotFilled m c).ackFor m (driveEntry m) 0 := by
  have hsome : (if s.slotValid (m.dest % 128) then s.slotCopy (m.dest % 128) (m.srcDev * 1024 + m.srcPane) else none) = some c :=
    (if_pos hvalid).trans hcopy
  unfold State.deliverDrive
  dsimp only
  rw [hsome]
  exact if_pos hdue

/-- The register in which a group counts what is misrouted is none of the board. -/
theorem State.driveMisrouted_sameWays : SameWays s (s.driveMisrouted m) := by
  have hne : Config.dop (m.dest % 128 / 64) + 0x24 ≠ Config.board := by simp only [Config.dop, Config.board]; omega
  exact ⟨congrArg (fun w => Word.fld w 0 3) ((s.rd_bump _ _ _ _).trans (if_neg hne)), rfl, rfl⟩

end

theorem drivePostArrives : Claims.drivePostArrives := by
  intro s k c m d mis r src w bounced hmesh hway
  have ⟨_, _, _, _, hsrc⟩ := hmesh
  have hrun := (exec_drivePost (.mesh k) .none s).trans (execDrivePost_whole hmesh)
  have hbounced : bounced (((s.taken k).driveMisrouted m).ackFor m (driveEntry m) 2) := by
    rw [State.ackFor_open (s := s) (t := (s.taken k).driveMisrouted m) (State.driveMisrouted_sameWays (s := s.taken k)) hsrc hway]
    exact ⟨rfl, rfl, rfl, State.rd_bump_toNat (s.taken k) mis (by decide) 1,
      fun a ha => ((s.taken k).rd_bump mis a 16 1).trans (if_neg ha.symm)⟩
  refine ⟨fun hno => ⟨_, hrun.trans (congrArg Host.Outcome.next (State.deliverDrive_unknown (s := s.taken k) hno)), hbounced⟩,
    fun hvalid hcopy htag => ?_⟩
  have hdue : tagDiff m.tag ((s.taken k).ordinal ((s.taken k).slotClass d) (s.taken k).tick) = 0 := by
    rw [State.ordinal, State.mult_of_reg (s := s) (t := s.taken k) rfl]
    exact tagDiff_eq_zero htag
  have hdeliver := hrun.trans (congrArg Host.Outcome.next (State.deliverDrive_due (s := s.taken k) (hold := true) hvalid hcopy hdue))
  refine ⟨fun hempty => ?stored, fun hfull => ?again⟩
  case stored =>
    have hc : c < 3 := State.slotCopy_lt hcopy
    have hnot : ¬ (((s.taken k).slot d).back c).isSome = true := by
      rw [show ((s.taken k).slot d).back c = none from hempty]
      decide
    have hslot (j : Nat) : ((s.taken k).slotFilled m c).slot j = if d = j then (s.slot d).setBack c (some w) else s.slot j :=
      State.slot_setSlot _ _ _
    rw [if_neg hnot, State.ackFor_open (s := s) (t := (s.taken k).slotFilled m c) ⟨rfl, rfl, rfl⟩ hsrc hway] at hdeliver
    refine ⟨_, hdeliver, rfl, rfl, ?_, fun e he hne => ?_, fun j hj => (hslot j).trans (if_neg hj.symm)⟩
    · exact (congrArg (DriveSlot.back · c) ((hslot d).trans (if_pos rfl))).trans (DriveSlot.back_setBack_same _ _ hc)
    · exact (congrArg (DriveSlot.back · e) ((hslot d).trans (if_pos rfl))).trans (DriveSlot.back_setBack_other _ _ hc he hne)
  case again =>
    have hsome : (((s.taken k).slot d).back c).isSome = true := Option.isSome_iff_ne_none.mpr hfull
    rw [if_pos hsome] at hdeliver
    exact ⟨_, hdeliver, hbounced⟩

/-! Links (R542, R636). -/

section
variable {s : State}

/-- A message that is no acknowledgement leaves by the exit link of the pane that posted it. -/
theorem State.leave_by {m : Msg} {l : Nat} (hkind : m.kind ≠ .ack) (hexit : s.exitLink m.srcPane m.dev = some l) :
    s.leave m = { s with wicketOut := s.wicketOut ++ [(l, m)] } := by
  rw [State.leave, Msg.poster, if_neg hkind, hexit]

/-- In a whole mesh a message that arrives for this part goes on from the link's router. -/
theorem State.enterMesh_whole {m : Msg} (hdev : m.dev = s.partNo) (hwhole : Claims.wholeMesh s) (k : Nat) : s.enterMesh k m =
    { s with mesh := s.mesh ++ [{ m with vn := m.kind == .ack && m.vn, relay := none, start := some (linkRouter k) }] } := by
  obtain ⟨hdead, haround⟩ := hwhole
  have hopen (v : Bool) (src dst : Nat) : s.wayOpen v src dst := by
    intro d hd
    rw [hdead, haround] at hd
    rcases hd with hd | hd <;> exact absurd hd List.not_mem_nil
  obtain ⟨dst, hend⟩ : ∃ dst, s.msgEnd { m with start := some (linkRouter k), relay := none } = some dst := ⟨_, if_pos hdev⟩
  rw [State.enterMesh]
  simp only [hend]
  exact State.injectOn_open (hopen _ _ _) _ _

theorem execWicketForward_mesh {k : Nat} {m : Msg} (hmem : s.mesh[k]? = some m) (hdev : m.dev ≠ s.partNo) (hrelay : m.relay = none)
    (link : BitVec 3) : execWicketForward (.mesh k) link .none s = .next ((s.taken k).leave m) := by
  have hgo : ¬ (m.dev == s.partNo || m.relay.isSome) = true := by
    rw [hrelay, beq_eq_false_iff_ne.mpr hdev]
    decide
  unfold execWicketForward
  simp only [hmem]
  exact if_neg hgo

section
variable {link : BitVec 3} {m : Msg} (hlt : link.toNat < 6) (hcarry : s.linkCarries link.toNat = true)
include hlt hcarry

theorem execWicketForward_wicket (hsev : s.severed (92 + link.toNat) = false) : execWicketForward (.wicket m) link .none s =
    .next (if m.dev == s.partNo then s.enterMesh link.toNat m else s.leave m) := by
  have hup : ¬ (!s.linkCarries link.toNat) = true := by rw [hcarry]; decide
  unfold execWicketForward
  exact (if_neg (Nat.not_le.mpr hlt)).trans ((if_neg hup).trans (if_neg (ne_true_of_eq_false hsev)))

theorem execWicketForward_severed (hsev : s.severed (92 + link.toNat) = true) : execWicketForward (.wicket m) link .none s =
    .next (s.discards (92 + link.toNat) (max m.words.length 1)) := by
  have hup : ¬ (!s.linkCarries link.toNat) = true := by rw [hcarry]; decide
  unfold execWicketForward
  exact (if_neg (Nat.not_le.mpr hlt)).trans ((if_neg hup).trans (if_pos hsev))

end

end

theorem wicketForwards : Claims.wicketForwards := by
  intro s link k l m lane c
  have hexec := exec_wicketForward (.wicket m) link .none s
  refine ⟨fun hmem hdev hrelay hkind hexit => ?leaves,
    fun hlt hcarry hsev => ⟨fun hdev hwhole => ?enters, fun hdev hkind hexit => ?on⟩,
    fun hlt hcarry hsev => ?severed, fun hge => hexec.trans (if_pos hge)⟩
  case leaves =>
    exact (exec_wicketForward (.mesh k) link .none s).trans ((execWicketForward_mesh hmem hdev hrelay link).trans
      (congrArg Host.Outcome.next (State.leave_by (s := s.taken k) hkind hexit)))
  case enters =>
    refine hexec.trans ((execWicketForward_wicket hlt hcarry hsev).trans (congrArg Host.Outcome.next ?_))
    rw [if_pos (beq_iff_eq.mpr hdev)]
    exact State.enterMesh_whole hdev hwhole _
  case on =>
    refine hexec.trans ((execWicketForward_wicket hlt hcarry hsev).trans (congrArg Host.Outcome.next ?_))
    rw [if_neg (fun h => hdev (beq_iff_eq.mp h))]
    exact State.leave_by hkind hexit
  case severed =>
    exact ⟨_, hexec.trans (execWicketForward_severed hlt hcarry hsev), OnlyRegs.bump _ _ _ _, State.rd_bump_toNat _ _ (by decide) _⟩

/-- Settles O38: each kind of message at its receiver, and at the relays and links on its way. -/
theorem messagesArrive : Obligations.MessagesArrive :=
  ⟨postArrives, postMisses, heldDelivers, acksReturn, contributionStored, drivePostArrives, relayForwards, wicketForwards⟩

end Sys2Proof.Machine
end

section
/-!
PROOF. POST: the credits of an entry, and a message that goes out and awaits its acknowledgement (R63, R106 to R110, R131, R248).
-/
namespace Sys2Proof.Machine

open Sys2Proof (Instr)

/-! Credits (R107). -/

/-- The registers of a pane read as its register file says. -/
theorem Pane.cr_of_ctl {q r : Pane} (h : r.ctl = q.ctl) (a : Nat) : r.cr a = q.cr a := congrArg (fun m => RegFile.rd ctlReset m a) h

theorem Pane.used_of_ctl {q r : Pane} (h : r.ctl = q.ctl) (e : Nat) : r.used e = q.used e :=
  congrArg (fun w => Word.fld w 16 10) (Pane.cr_of_ctl h _)

section
variable (q : Pane) (e n : Nat)

theorem Pane.used_use : (q.use e n).used e = (q.used e + n) % 1024 := by
  rw [Pane.used, Pane.use, Pane.cr_setCr, if_pos rfl, Word.fld_withFld _ (by decide)]
  rfl

theorem Pane.cr_use {b : Nat} (hb : b ≠ 0x204 + 8 * e) : (q.use e n).cr b = q.cr b := by
  rw [Pane.use, Pane.cr_setCr, if_neg hb.symm]

theorem Pane.use_eq : q.use e n = { q with ctl := (q.use e n).ctl } := rfl

theorem Pane.tag_use : (q.use e n).tag = q.tag := Pane.setCr_tag _ _ _

/-- The class and the DISCARD of an entry stand beside its USED. -/
theorem Pane.cr_use_entry : (q.use e n).cr (0x200 + 8 * e) = q.cr (0x200 + 8 * e) := q.cr_use e n (by omega)

end

theorem Pane.retire_eq (q : Pane) : q.retire = { q with pc := q.retire.pc, lc := q.retire.lc } := by
  unfold Pane.retire
  rfl

/-- Retirement neither reads nor changes the control registers and what the pane awaits. -/
theorem Pane.retire_with (q : Pane) (c : RegFile) (u : List Unacked) : Pane.retire { q with ctl := c, unacked := u } =
    { q with pc := q.retire.pc, lc := q.retire.lc, ctl := c, unacked := u } := by
  unfold Pane.retire
  rw [loopBack_congr (q := q) (r := { q with ctl := c, unacked := u }) _ _ rfl rfl rfl]

/-! A message that gets through (R63, R125, R126). -/

/-- The pane awaits the acknowledgement of message `id` too. -/
def Pane.awaiting (q : Pane) (id tag : Nat) : Pane := { q with unacked := q.unacked ++ [{ id := id, tag := tag }] }

/-- Message m of pane p has gone out on VN0 with the next number, and p awaits its acknowledgement. -/
def State.posted (s : State) (p : Nat) (m : Msg) : State :=
  { s.modPane p (fun q => q.awaiting s.nextId m.tick) with
    nextId := s.nextId + 1, mesh := s.mesh ++ [{ m with id := s.nextId, vn := false, relay := none }] }

section
variable {s : State} (hwhole : Claims.wholeMesh s)
include hwhole

theorem State.wayOpen_of_wholeMesh (vn1 : Bool) (src dst : Nat) : s.wayOpen vn1 src dst := by
  obtain ⟨hdead, haround⟩ := hwhole
  intro d hd
  rw [hdead, haround] at hd
  exact absurd hd (by simp)

/-- A post for this part goes out. -/
theorem State.sendPost_whole {m : Msg} (hdev : m.dev = s.partNo) (p e dst : Nat) : s.sendPost p e m dst = s.posted p m := by
  have hend : s.localEnd p m.dev dst = some dst := if_pos hdev
  rw [State.sendPost, hend]
  exact State.injectOn_open (s := (({ s with nextId := s.nextId + 1 } : State).modPane p _))
    (State.wayOpen_of_wholeMesh (s := s) hwhole false p dst) _ _

end

/-- Of the part only the panes, the mesh and the number of the next message differ. -/
abbrev SendsOnly (s t : State) : Prop := t = { s with mesh := t.mesh, nextId := t.nextId, panes := t.panes }

theorem SendsOnly.trans {s t u : State} (h : SendsOnly s t) (h' : SendsOnly t u) : SendsOnly s u := by
  rw [SendsOnly, h', h]

theorem SendsOnly.setPane (s : State) (p : Nat) (q : Pane) : SendsOnly s (s.setPane p q) := rfl
theorem SendsOnly.posted (s : State) (p : Nat) (m : Msg) : SendsOnly s (s.posted p m) := rfl

theorem State.pane_posted (s : State) (p k : Nat) (m : Msg) : (s.posted p m).pane k =
    if p = k then (s.pane p).awaiting s.nextId m.tick else s.pane k :=
  s.pane_modPane p k (fun q => q.awaiting s.nextId m.tick)

/-! POST (R106 to R110, R131). -/

/-- What a POST with a valid entry does: the credit check, and the word to be sent. -/
theorem exec_post_ready {s : State} {p : PaneNo} {gd : BitVec 4} {ra rb : RegNo}
    (h : s.ready (.post p gd ra rb) p gd [ra, rb] = true) {e : Nat}
    (he : (s.pane p.toNat).outEntry ((s.pane p.toNat).gr ra) = some e) : exec (.post p gd ra rb) s =
      .next ((postBody p s (s.pane p.toNat) e ((s.pane p.toNat).gr ra) [(s.pane p.toNat).gr rb]).finish p.toNat) := by
  rw [exec_post, execPost, State.issue_ready h rfl]
  simp only [he]

theorem exec_post_unnamed {s : State} {p : PaneNo} {gd : BitVec 4} {ra rb : RegNo}
    (h : s.ready (.post p gd ra rb) p gd [ra, rb] = true)
    (he : (s.pane p.toNat).outEntry ((s.pane p.toNat).gr ra) = none) : exec (.post p gd ra rb) s =
      .next (s.takeTrap p.toNat ((s.pane p.toNat).mkTrap 5 1 ((s.pane p.toNat).gr ra))) := by
  rw [exec_post, execPost, State.issue_ready h rfl]
  simp only [he]
  rfl

section
variable {p : PaneNo} {s : State} {q : Pane} {e : Nat} {a : Word} {ws : List Word}

/-- Words without the credit for them trap (R110). -/
theorem postBody_exhausted (h : q.credit e < q.used e + ws.length) : postBody p s q e a ws = .trap s (creditTrap q 0 e a) :=
  if_pos (.inl h)

section
variable (hcredit : q.used e + ws.length ≤ q.credit e) (hdrive : a.bit 19 = true → ws.length ≤ 1)
include hcredit hdrive

/-- Words with the credit for them count in USED, and go out unless the entry is marked DISCARD (R107, R131). -/
theorem postBody_credited : postBody p s q e a ws = if q.discards e then .done (s.setPane p.toNat (q.use e ws.length))
    else .done ((s.setPane p.toNat (q.use e ws.length)).sendWords p.toNat e a (q.used e) (chunk64 (ws.length + 1) ws)) := by
  refine if_neg ?_
  rintro (h | ⟨h, hlong⟩)
  · omega
  · exact absurd (hdrive h) (by omega)

theorem postBody_discards (hd : q.discards e = true) :
    postBody p s q e a ws = .done (s.setPane p.toNat (q.use e ws.length)) := by
  rw [postBody_credited hcredit hdrive, if_pos hd]

theorem postBody_sends (hd : q.discards e = false) : postBody p s q e a ws =
    .done ((s.setPane p.toNat (q.use e ws.length)).sendWords p.toNat e a (q.used e) (chunk64 (ws.length + 1) ws)) := by
  rw [postBody_credited hcredit hdrive, if_neg (by rw [hd]; decide)]

end

end

/-- The message of a POST that counted its word is the one of the statement, but for its number. -/
theorem State.postMsg_use (s : State) (p e : Nat) (a : Word) (index k : Nat) (ws : List Word) :
    { (s.setPane p ((s.pane p).use e k)).postMsg p ((s.pane p).use e k) e a index ws with
      id := s.nextId, vn := false, relay := none } = Claims.postMsg s p s.nextId e a index ws := by
  unfold State.postMsg Claims.postMsg State.ordinal Pane.outClass
  rw [State.mult_of_reg (s := s) (t := s.setPane p ((s.pane p).use e k)) rfl, Pane.cr_use_entry, Pane.tag_use]
  rfl

theorem postSends : Claims.postSends := by
  intro s p gd ra rb i q a hready
  refine ⟨fun hnone => exec_post_unnamed hready hnone, fun e he => ?_⟩
  have hrun := exec_post_ready hready he
  refine ⟨fun hcredit => ?exhausted, fun hcredit hd => ?discards, fun hcredit hd hwhole hdev => ?sends⟩
  case exhausted =>
    rw [hrun, postBody_exhausted (Nat.lt_succ_of_le hcredit)]
    rfl
  case discards =>
    have hpane : ((s.setPane p.toNat (q.use e 1)).modPane p.toNat Pane.retire).pane p.toNat =
        { q with pc := q.retire.pc, lc := q.retire.lc, ctl := (q.use e 1).ctl } := by
      rw [State.pane_modPane, if_pos rfl, State.pane_setPane, if_pos rfl]
      exact q.retire_with (q.use e 1).ctl q.unacked
    rw [hrun, postBody_discards (ws := [q.gr rb]) hcredit (fun _ => le_rfl) hd]
    refine ⟨(s.setPane p.toNat (q.use e 1)).modPane p.toNat Pane.retire, rfl,
      (OnlyPane.setPane _ _ _).trans (OnlyPane.modPane _ _ _), ?_⟩
    rw [hpane]
    exact ⟨(Pane.used_of_ctl (q := q.use e 1) rfl e).trans (q.used_use e 1),
        fun b hb => (Pane.cr_of_ctl (q := q.use e 1) rfl b).trans (q.cr_use e 1 hb), q.retire_eq.symm⟩
  case sends =>
    let u := s.setPane p.toNat (q.use e 1)
    let m := u.postMsg p.toNat (q.use e 1) e a (q.used e) [q.gr rb]
    have hu : u.pane p.toNat = q.use e 1 := (s.pane_setPane _ _ _).trans (if_pos rfl)
    have hsent : u.sendWords p.toNat e a (q.used e) (chunk64 2 [q.gr rb]) = u.posted p.toNat m := by
      rw [← State.sendPost_whole (s := u) (m := m) hwhole hdev p.toNat e (postRouter a)]
      show u.sendPost p.toNat e (u.postMsg p.toNat (u.pane p.toNat) e a (q.used e) [q.gr rb]) (postRouter a) = _
      rw [hu]
    have hpane : ((u.posted p.toNat m).modPane p.toNat Pane.retire).pane p.toNat =
        Pane.awaiting { q with pc := q.retire.pc, lc := q.retire.lc, ctl := (q.use e 1).ctl } s.nextId q.tag := by
      rw [State.pane_modPane, if_pos rfl, State.pane_posted, if_pos rfl, hu, show m.tick = q.tag from q.tag_use e 1, Pane.use_eq]
      exact q.retire_with (q.use e 1).ctl _
    have hother (k : Nat) (hk : k ≠ p.toNat) : ((u.posted p.toNat m).modPane p.toNat Pane.retire).pane k = s.pane k := by
      rw [State.pane_modPane, if_neg hk.symm, State.pane_posted, if_neg hk.symm]
      exact (s.pane_setPane _ _ _).trans (if_neg hk.symm)
    have hrest : SendsOnly s ((u.posted p.toNat m).modPane p.toNat Pane.retire) := ((SendsOnly.setPane s _ _).trans
      (SendsOnly.posted u _ _)).trans (SendsOnly.setPane _ _ _)
    rw [hrun, postBody_sends (ws := [q.gr rb]) hcredit (fun _ => le_rfl) hd]
    refine ⟨(u.posted p.toNat m).modPane p.toNat Pane.retire,
      congrArg (fun t => Host.Outcome.next (t.modPane p.toNat Pane.retire)) hsent, ?_, rfl, ?_⟩
    · exact congrArg (fun m => s.mesh ++ [m]) (s.postMsg_use p.toNat e a (q.used e) 1 [q.gr rb])
    · rw [hpane]
      exact ⟨(Pane.used_of_ctl (q := q.use e 1) rfl e).trans (q.used_use e 1),
        fun b hb => (Pane.cr_of_ctl (q := q.use e 1) rfl b).trans (q.cr_use e 1 hb), q.retire_eq.symm, rfl, hother, hrest⟩

end Sys2Proof.Machine
end

section
/-!
PROOF. POSTM: the words that it gathers, and the messages that carry them (R154, R247, R248).
-/
namespace Sys2Proof.Machine

open Sys2Proof (Instr)

/-! The words of POSTM, read as loads (R154, R247, R248). -/

section
variable {q : Pane}

theorem Pane.peekW_eq (q : Pane) (a : Nat) : q.peekW a = BitVec.ofNat 32 (Claims.memVal q.sram a 4) :=
  congrArg (BitVec.ofNat 32) (leNat_readBytes q.sram a 4)

theorem Pane.sbLook_empty (h : q.sb = []) (a n : Nat) : q.sbLook a n = .memory := by
  rw [Pane.sbLook, h]
  rfl

/-- With no store buffered, the words come from memory. -/
theorem Pane.gather_empty (h : q.sb = []) (a n : Nat) : q.gather a n = some ((List.range n).map (fun k => q.peekW (a + 4 * k))) := by
  induction n generalizing a with
  | zero => rfl
  | succ n ih =>
    simp only [Pane.gather, Pane.sbLook_empty h, ih, Option.map_some, List.range_succ_eq_map, List.map_cons, List.map_map]
    refine congrArg (fun l => some (q.peekW a :: l)) (List.map_congr_left fun k _ => congrArg q.peekW ?_)
    show a + 4 + 4 * k = a + 4 * (k + 1)
    omega

/-- What holds of the bytes of n + 1 words holds of those after the first word. -/
theorem bytes_after_word {P : Nat → Prop} {a n : Nat} (h : ∀ k < 4 * (n + 1), P (a + k)) : ∀ k < 4 * n, P (a + 4 + k) := by
  intro k hk
  rw [Nat.add_assoc]
  exact h (4 + k) (by omega)

theorem Pane.firstUnreadable_none {a n : Nat} (hend : a + 4 * n ≤ 0xF000) (hread : ∀ k < 4 * n, q.canRead q.ring (a + k) = true) :
    q.firstUnreadable a n = none := by
  induction n generalizing a with
  | zero => rfl
  | succ n ih =>
    rw [Pane.firstUnreadable, if_pos ⟨by omega, hread 0 (by omega), hread 3 (by omega)⟩]
    exact ih (by omega) (bytes_after_word (P := fun b => q.canRead q.ring b = true) hread)

theorem Pane.firstBad_none {a n : Nat} (hclean : ∀ k < 4 * n, q.eccAt (a + k) = .clean) : q.firstBad a n = none := by
  induction n generalizing a with
  | zero => rfl
  | succ n ih =>
    have hne : ¬ (q.sbLook a 4 = .memory ∧ q.eccAt a = .uncorrectable) := by
      have h0 : q.eccAt a = .clean := hclean 0 (by omega)
      rw [h0]
      exact fun h => absurd h.2 (by decide)
    rw [Pane.firstBad, if_neg hne]
    exact ih (bytes_after_word (P := fun b => q.eccAt b = .clean) hclean)

theorem State.correctGather_clean {s : State} {p a n : Nat} (hclean : ∀ k < 4 * n, (s.pane p).eccAt (a + k) = .clean) :
    s.correctGather p a n = s := by
  induction n generalizing a with
  | zero => rfl
  | succ n ih =>
    have hword : s.correctRead p a 4 = s := State.correctRead_clean (Pane.words_clean fun k hk => hclean k (by omega))
    rw [State.correctGather, hword, ite_self]
    exact ih (bytes_after_word (P := fun b => (s.pane p).eccAt b = .clean) hclean)

end

/-! The messages of a post (R248). -/

theorem chunk64_flatten {n : Nat} {l : List Word} (h : l.length ≤ n) : (chunk64 n l).flatten = l := by
  induction n generalizing l with
  | zero => exact (List.length_eq_zero_iff.mp (Nat.le_zero.mp h)).symm
  | succ n ih =>
    rw [chunk64]
    split
    · next hl => exact (List.isEmpty_iff.mp hl).symm
    · next hl =>
      have hpos : 0 < l.length := List.length_pos_iff.mpr (fun h => hl (List.isEmpty_iff.mpr h))
      rw [List.flatten_cons, ih (by rw [List.length_drop]; omega), List.take_append_drop]

theorem chunk64_length {n : Nat} {l ws : List Word} (h : ws ∈ chunk64 n l) : 0 < ws.length ∧ ws.length ≤ 64 := by
  induction n generalizing l with
  | zero => exact absurd h List.not_mem_nil
  | succ n ih =>
    rw [chunk64] at h
    split at h
    · exact absurd h List.not_mem_nil
    · next hl =>
      have hpos : 0 < l.length := List.length_pos_iff.mpr (fun h => hl (List.isEmpty_iff.mpr h))
      rcases List.mem_cons.mp h with rfl | h
      · rw [List.length_take]; omega
      · exact ih h

/-- The messages carry these words to the channel of post address a, each from the slot that follows those of the one before it. -/
def Carries (a : Word) : Nat → List (List Word) → List Msg → Prop
  | _, [], ms => ms = []
  | index, ws :: rest, ms => ∃ m r, ms = m :: r ∧ m.words = ws ∧ m.index = index ∧ m.kind = .post ∧ m.dest = a.fld 6 10 ∧
      m.chan = a.fld 0 6 ∧ Carries a (index + ws.length) rest r

section
variable {a : Word} {i : Nat} {wss : List (List Word)} {ms : List Msg}

theorem Carries.words (h : Carries a i wss ms) : ms.map (fun m => m.words) = wss := by
  induction wss generalizing i ms with
  | nil => rw [show ms = [] from h]; rfl
  | cons ws rest ih =>
    obtain ⟨m, r, rfl, hws, -, -, -, -, hrest⟩ := h
    rw [List.map_cons, hws, ih hrest]

theorem Carries.addressed (h : Carries a i wss ms) :
    ∀ m ∈ ms, m.kind = .post ∧ m.dest = a.fld 6 10 ∧ m.chan = a.fld 0 6 := by
  induction wss generalizing i ms with
  | nil => rw [show ms = [] from h]; exact fun m hm => absurd hm List.not_mem_nil
  | cons ws rest ih =>
    obtain ⟨m, r, rfl, -, -, hkind, hdest, hchan, hrest⟩ := h
    intro x hx
    rcases List.mem_cons.mp hx with rfl | hx
    · exact ⟨hkind, hdest, hchan⟩
    · exact ih hrest x hx

theorem Carries.index (h : Carries a i wss ms) {l r : List Msg} {m : Msg} (hms : ms = l ++ m :: r) :
    m.index = i + (l.flatMap (fun x => x.words)).length := by
  induction wss generalizing i ms l with
  | nil => rw [show ms = [] from h] at hms; simp at hms
  | cons ws rest ih =>
    obtain ⟨x, y, rfl, hws, hindex, -, -, -, hrest⟩ := h
    cases l with
    | nil =>
      obtain ⟨rfl, rfl⟩ := List.cons.inj hms
      exact hindex
    | cons z l =>
      obtain ⟨rfl, htail⟩ := List.cons.inj hms
      rw [ih hrest htail, List.flatMap_cons, List.length_append, hws, Nat.add_assoc]

end

/-- Pane p has sent the messages ms: they are on the mesh, and of pane p only what it awaits differs. -/
def Sent (p : Nat) (ms : List Msg) (s t : State) : Prop :=
  t.mesh = s.mesh ++ ms ∧ ∃ u, t.pane p = { s.pane p with unacked := u }

/-- Posts for channels of this part go out in order (R248). -/
theorem State.sendWords_whole {s : State} {a : Word} (hwhole : Claims.wholeMesh s) (hdev : a.fld 16 3 = s.partNo)
    (hchan : a.bit 19 = false) (p e index : Nat) (wss : List (List Word)) :
    ∃ ms, Sent p ms s (s.sendWords p e a index wss) ∧ Carries a index wss ms := by
  induction wss generalizing s index with
  | nil => exact ⟨[], ⟨(List.append_nil _).symm, (s.pane p).unacked, rfl⟩, rfl⟩
  | cons ws rest ih =>
    let m := s.postMsg p (s.pane p) e a index ws
    have hsent : s.sendPost p e m (postRouter a) = s.posted p m := State.sendPost_whole hwhole hdev p e _
    obtain ⟨ms, ⟨hmesh, u, hpane⟩, hcarries⟩ := ih (s := s.posted p m) hwhole hdev (index + ws.length)
    have hkind : m.kind = .post := if_neg (by rw [hchan]; decide)
    refine ⟨{ m with id := s.nextId, vn := false, relay := none } :: ms, ⟨?_, u, ?_⟩,
      _, _, rfl, rfl, rfl, hkind, rfl, rfl, hcarries⟩
    · rw [State.sendWords, hsent, hmesh]
      exact List.append_assoc _ [_] _
    · rw [State.sendWords, hsent, hpane, State.pane_posted, if_pos rfl]
      rfl

/-! POSTM (R247, R248). -/

section
variable {s : State} {p : PaneNo} {gd : BitVec 4} {rd ra rb : RegNo} {e : Nat}
  (hready : s.ready (.postm p gd rd ra rb) p gd [rd, ra, rb] = true)
  (he : (s.pane p.toNat).outEntry ((s.pane p.toNat).gr ra) = some e)
include hready he

theorem exec_postm_none (hn : ((s.pane p.toNat).gr rd).toNat = 0) :
    exec (.postm p gd rd ra rb) s = .next (s.modPane p.toNat Pane.retire) := by
  rw [exec_postm, execPostm, State.issue_ready hready rfl]
  simp only [he]
  rw [if_pos hn]
  rfl

variable (hn : 0 < ((s.pane p.toNat).gr rd).toNat)
include hn

theorem exec_postm_misaligned (hsrc : ((s.pane p.toNat).gr rb).toNat % 4 ≠ 0) : exec (.postm p gd rd ra rb) s =
    .next (s.takeTrap p.toNat ((s.pane p.toNat).mkTrap 2 2 ((s.pane p.toNat).gr rb))) := by
  rw [exec_postm, execPostm, State.issue_ready hready rfl]
  simp only [he]
  rw [if_neg (by omega), if_pos hsrc]
  rfl

variable (hsrc : ((s.pane p.toNat).gr rb).toNat % 4 = 0)
  (hend : ((s.pane p.toNat).gr rb).toNat + 4 * ((s.pane p.toNat).gr rd).toNat ≤ 0xF000)
  (hread : ∀ k < 4 * ((s.pane p.toNat).gr rd).toNat,
    (s.pane p.toNat).canRead (s.pane p.toNat).ring (((s.pane p.toNat).gr rb).toNat + k) = true)
include hsrc hend hread

theorem exec_postm_exhausted (hcredit : (s.pane p.toNat).credit e < (s.pane p.toNat).used e + ((s.pane p.toNat).gr rd).toNat) :
    exec (.postm p gd rd ra rb) s =
      .next (s.takeTrap p.toNat (creditTrap (s.pane p.toNat) 0 e ((s.pane p.toNat).gr ra))) := by
  rw [exec_postm, execPostm, State.issue_ready hready rfl]
  simp only [he]
  rw [if_neg (by omega), if_neg (by omega), Nat.min_eq_left (by omega), Pane.firstUnreadable_none hend hread]
  exact congrArg (fun x => Host.Outcome.next (Effect.finish p.toNat x)) (if_pos (.inl hcredit))

theorem exec_postm_sends (hcredit : (s.pane p.toNat).used e + ((s.pane p.toNat).gr rd).toNat ≤ (s.pane p.toNat).credit e)
    (hchan : ((s.pane p.toNat).gr ra).bit 19 = false) (hsb : (s.pane p.toNat).sb = [])
    (hclean : ∀ k < 4 * ((s.pane p.toNat).gr rd).toNat, (s.pane p.toNat).eccAt (((s.pane p.toNat).gr rb).toNat + k) = .clean) :
    exec (.postm p gd rd ra rb) s = .next ((postBody p s (s.pane p.toNat) e ((s.pane p.toNat).gr ra)
      ((List.range ((s.pane p.toNat).gr rd).toNat).map
        (fun k => (s.pane p.toNat).peekW (((s.pane p.toNat).gr rb).toNat + 4 * k)))).finish p.toNat) := by
  rw [exec_postm, execPostm, State.issue_ready hready rfl]
  simp only [he]
  rw [if_neg (by omega), if_neg (by omega), Nat.min_eq_left (by omega), Pane.firstUnreadable_none hend hread,
    Pane.gather_empty hsb, Pane.firstBad_none hclean, State.correctGather_clean hclean]
  refine congrArg (fun x => Host.Outcome.next (Effect.finish p.toNat x)) (if_neg ?_)
  rintro (h | h)
  · omega
  · rw [hchan] at h
    exact absurd h.1 (by decide)

end

theorem postmSends : Claims.postmSends := by
  intro s p gd rd ra rb e i q a n src hready he
  refine ⟨fun hn => ?nothing, fun hn hsrc => exec_postm_misaligned hready he hn hsrc, fun hn hsrc hend hread =>
    ⟨fun hcredit => exec_postm_exhausted hready he hn hsrc hend hread hcredit,
      fun hcredit hchan hd hwhole hdev hsb hclean => ?sends⟩⟩
  case nothing =>
    exact ⟨_, exec_postm_none hready he hn, OnlyPane.modPane _ _ _, (s.pane_modPane _ _ _).trans (if_pos rfl)⟩
  case sends =>
    let ws := (List.range n).map (fun k => q.peekW (src + 4 * k))
    have hlen : ws.length = n := (List.length_map _).trans List.length_range
    let u := s.setPane p.toNat (q.use e ws.length)
    obtain ⟨ms, ⟨hmesh, unacked, hpane⟩, hcarries⟩ :=
      State.sendWords_whole (s := u) hwhole hdev hchan p.toNat e (q.used e) (chunk64 (ws.length + 1) ws)
    have hu : u.pane p.toNat = q.use e n := by rw [← hlen]; exact (s.pane_setPane _ _ _).trans (if_pos rfl)
    let t := (u.sendWords p.toNat e a (q.used e) (chunk64 (ws.length + 1) ws)).modPane p.toNat Pane.retire
    have hretired : t.pane p.toNat =
        { q with pc := q.retire.pc, lc := q.retire.lc, ctl := (q.use e n).ctl, unacked := unacked } := by
      rw [State.pane_modPane, if_pos rfl, hpane, hu, Pane.use_eq]
      exact q.retire_with (q.use e n).ctl unacked
    rw [exec_postm_sends hready he hn hsrc hend hread hcredit hchan hsb hclean,
      postBody_sends (ws := ws) (by omega) (fun h => absurd (hchan.symm.trans h) (by decide)) hd]
    refine ⟨t, ms, rfl, hmesh, ?words, fun m hm => ?message, fun l m r hms => hcarries.index hms, ?pane⟩
    case words =>
      rw [List.flatMap_def, hcarries.words, chunk64_flatten (Nat.le_succ _)]
      exact List.map_congr_left fun k _ => q.peekW_eq _
    case message =>
      have hsize := chunk64_length (hcarries.words ▸ List.mem_map_of_mem hm)
      exact ⟨hsize.1, hsize.2, hcarries.addressed m hm⟩
    case pane =>
      rw [hretired]
      exact ⟨(Pane.used_of_ctl (q := q.use e n) rfl e).trans (q.used_use e n), rfl, rfl, rfl⟩

/-- Settles O27: POST word by word, and POSTM by the messages that carry its words. -/
theorem postsSend : Obligations.PostsSend := ⟨postSends, postmSends⟩

end Sys2Proof.Machine
end

section
/-!
PROOF. What an operation of a sample-input lane leaves: the other lanes, and every register but its own (R326 to R332).
-/
namespace Sys2Proof.Machine

open Sys2Proof (Instr)

/-! The registers of a lane. -/

/-- The registers that an operation of lane l may write: the lane's own, its group's notices, and the discards at its crossing. -/
def laneTouches (l a : Nat) : Prop :=
  (laneReg l 0 ≤ a ∧ a < laneReg l 0 + 0x40) ∨ a = Config.sip (l / 8) + 0x10 ∨ a = Config.cross + 0x400 + 4 * l

/-- Only lane l, the registers that it touches, and the events under way differ. -/
structure OnlyLane (l : Nat) (s t : State) : Prop where
  rest : t = { s with lanes := t.lanes, reg := t.reg, arrivals := t.arrivals }
  lanes : ∀ j, j ≠ l → t.lane j = s.lane j
  regs : ∀ a, ¬ laneTouches l a → t.rd a = s.rd a

theorem laneTouches_own (l : Nat) {o : Nat} (ho : o < 0x40) : laneTouches l (laneReg l o) := by
  refine .inl ?_
  unfold laneReg
  omega

theorem not_laneTouches_other {l j o : Nat} (hne : l ≠ j) (hl : l < 64) (hj : j < 64) (ho : o < 0x40) :
    ¬ laneTouches l (laneReg j o) := by
  simp only [laneTouches, laneReg, Config.sip, Config.cross]
  omega

section
variable {l : Nat} (hl : l < 64)
include hl

theorem not_laneTouches_sip {g o : Nat} (hg : g < 8) (ho : o < 0x10) : ¬ laneTouches l (Config.sip g + o) := by
  simp only [laneTouches, laneReg, Config.sip, Config.cross]
  omega

theorem not_laneTouches_cross {c : Nat} (hc : c < 109) : ¬ laneTouches l (Config.cross + 0x100 + 4 * c) := by
  simp only [laneTouches, laneReg, Config.sip, Config.cross]
  omega

/-- Registers outside the sample ports and the crossings stay. -/
theorem not_laneTouches_of {a : Nat} (ha : a < 0xF0020000 ∨ (0xF0024000 ≤ a ∧ a < Config.cross)) : ¬ laneTouches l a := by
  simp only [laneTouches, laneReg, Config.sip, Config.cross] at ha ⊢
  omega

end

theorem State.lane_setLane (s : State) (l j : Nat) (x : RxLane) : (s.setLane l x).lane j = if l = j then x else s.lane j :=
  SMap.get_put _ s.lanes l j x

section
variable {l : Nat} {s t u : State}

theorem OnlyLane.refl (l : Nat) (s : State) : OnlyLane l s s := ⟨rfl, fun _ _ => rfl, fun _ _ => rfl⟩

theorem OnlyLane.trans (h : OnlyLane l s t) (h' : OnlyLane l t u) : OnlyLane l s u := by
  exact ⟨by rw [h'.rest, h.rest], fun j hj => (h'.lanes j hj).trans (h.lanes j hj),
    fun a ha => (h'.regs a ha).trans (h.regs a ha)⟩

theorem OnlyLane.setLane (s : State) (l : Nat) (x : RxLane) : OnlyLane l s (s.setLane l x) :=
  ⟨rfl, fun j hj => (s.lane_setLane l j x).trans (if_neg hj.symm), fun _ _ => rfl⟩

theorem OnlyLane.wr {a : Nat} (h : laneTouches l a) (s : State) (v : Word) : OnlyLane l s (s.wr a v) :=
  ⟨rfl, fun _ _ => rfl, fun b hb => (s.rd_wr a b v).trans (if_neg (by rintro rfl; exact hb h))⟩

theorem OnlyLane.bump {a : Nat} (h : laneTouches l a) (s : State) (n k : Nat) : OnlyLane l s (s.bump a n k) := OnlyLane.wr h s _

theorem OnlyLane.raise (l : Nat) (s : State) (m : BitVec 64) (src : Nat) (k : EventKind) (d : Nat) : OnlyLane l s (s.raise m src k d) :=
  ⟨rfl, fun _ _ => rfl, fun _ _ => rfl⟩

theorem OnlyLane.ite {c : Prop} [Decidable c] (h : OnlyLane l s t) (h' : OnlyLane l s u) : OnlyLane l s (if c then t else u) := by
  split
  · exact h
  · exact h'

theorem OnlyLane.panes (h : OnlyLane l s t) : t.panes = s.panes := by rw [h.rest]
theorem OnlyLane.now (h : OnlyLane l s t) : t.now = s.now := by rw [h.rest]
theorem OnlyLane.doms (h : OnlyLane l s t) : t.doms = s.doms := by rw [h.rest]
theorem OnlyLane.streamF (h : OnlyLane l s t) : t.streamF = s.streamF := by rw [h.rest]

end

/-! Watermarks (R331, R332). -/

theorem State.rd_raise (s : State) (m : BitVec 64) (src : Nat) (k : EventKind) (d a : Nat) : (s.raise m src k d).rd a = s.rd a := rfl
theorem State.lane_raise (s : State) (m : BitVec 64) (src : Nat) (k : EventKind) (d l : Nat) :
    (s.raise m src k d).lane l = s.lane l := rfl
theorem State.lane_bump (s : State) (a n k l : Nat) : (s.bump a n k).lane l = s.lane l := rfl

theorem OnlyLane.watermark (l : Nat) (s : State) (old peak : Nat) : OnlyLane l s (s.watermark l old peak) := by
  unfold State.watermark
  dsimp only
  have hlane := OnlyLane.setLane s l
  have hnotice (x : RxLane) (m v : Word) : OnlyLane l s (((s.setLane l x).setBits (Config.sip (l / 8) + 0x10) m).wr (laneReg l 8) v) :=
    ((hlane x).trans (OnlyLane.wr (.inr (.inl rfl)) _ _)).trans (OnlyLane.wr (laneTouches_own l (by decide)) _ _)
  exact (hlane _).ite (((hnotice _ _ _).trans (OnlyLane.raise l _ _ _ _ _)).ite (hnotice _ _ _))

/-- A watermark arms its lane or not, and changes nothing else of it. -/
theorem State.lane_watermark (s : State) (l old peak : Nat) : ∃ b, (s.watermark l old peak).lane l = { s.lane l with armed := b } := by
  have hlane (b : Bool) : (s.setLane l { s.lane l with armed := b }).lane l = { s.lane l with armed := b } :=
    (s.lane_setLane _ _ _).trans (if_pos rfl)
  have hmark (t : State) (m v : Word) : ((t.setBits (Config.sip (l / 8) + 0x10) m).wr (laneReg l 8) v).lane l = t.lane l := rfl
  unfold State.watermark
  dsimp only
  split
  · exact ⟨_, hlane _⟩
  · split
    · exact ⟨_, (State.lane_raise _ _ _ _ _ _).trans ((hmark _ _ _).trans (hlane _))⟩
    · exact ⟨_, (hmark _ _ _).trans (hlane _)⟩

theorem State.fifo_watermark (s : State) (l old peak : Nat) : ((s.watermark l old peak).lane l).fifo = (s.lane l).fifo := by
  obtain ⟨b, hb⟩ := s.lane_watermark l old peak
  rw [hb]

/-- Of the lane's registers a watermark writes CROSS_LEVEL alone. -/
theorem State.rd_watermark_own (s : State) (l old peak : Nat) {o : Nat} (ho : o ≠ 8) :
    (s.watermark l old peak).rd (laneReg l o) = s.rd (laneReg l o) := by
  have hnotice : Config.sip (l / 8) + 0x10 ≠ laneReg l o := by unfold laneReg; omega
  have hlevel : laneReg l 8 ≠ laneReg l o := by unfold laneReg; omega
  have hmark (t : State) (m v : Word) :
      ((t.setBits (Config.sip (l / 8) + 0x10) m).wr (laneReg l 8) v).rd (laneReg l o) = t.rd (laneReg l o) := by
    rw [State.rd_wr, if_neg hlevel, State.rd_setBits, if_neg hnotice]
  unfold State.watermark
  dsimp only
  split
  · rfl
  · split
    · exact (State.rd_raise _ _ _ _ _ _).trans (hmark _ _ _)
    · exact hmark _ _ _


/-! What lane l sees of another lane's operations. -/

/-- The lane, its registers and its configuration stand as they were. -/
structure SameLane (l : Nat) (s t : State) : Prop where
  lane : t.lane l = s.lane l
  regs : ∀ o < 0x40, t.rd (laneReg l o) = s.rd (laneReg l o)
  group : ∀ o < 0x10, t.rd (Config.sip (l / 8) + o) = s.rd (Config.sip (l / 8) + o)
  crossing : t.rd (Config.cross + 0x100 + 4 * l) = s.rd (Config.cross + 0x100 + 4 * l)

section
variable {l : Nat} {s t u : State}

theorem SameLane.refl (l : Nat) (s : State) : SameLane l s s := ⟨rfl, fun _ _ => rfl, fun _ _ => rfl, rfl⟩

theorem SameLane.trans (h : SameLane l s t) (h' : SameLane l t u) : SameLane l s u := by
  exact ⟨h'.lane.trans h.lane, fun o ho => (h'.regs o ho).trans (h.regs o ho),
    fun o ho => (h'.group o ho).trans (h.group o ho), h'.crossing.trans h.crossing⟩

theorem State.laneMode_congr (h0 : t.rd (Config.sip (l / 8)) = s.rd (Config.sip (l / 8)))
    (h4 : t.rd (Config.sip (l / 8) + 4) = s.rd (Config.sip (l / 8) + 4)) : t.laneMode l = s.laneMode l := by
  rw [State.laneMode, State.sipEn, h0, h4]
  rfl

theorem SameLane.laneMode (h : SameLane l s t) : t.laneMode l = s.laneMode l :=
  State.laneMode_congr (h.group 0 (by decide)) (h.group 4 (by decide))

theorem SameLane.severed (h : SameLane l s t) : t.severed l = s.severed l := State.severed_congr_reg h.crossing

theorem OnlyLane.sameLane (h : OnlyLane l s t) (hl : l < 64) {j : Nat} (hj : j < 64) (hne : j ≠ l) : SameLane j s t :=
  ⟨h.lanes j hne, fun o ho => h.regs _ (not_laneTouches_other hne.symm hl hj ho),
    fun o ho => h.regs _ (not_laneTouches_sip hl (by omega) ho), h.regs _ (not_laneTouches_cross hl (by omega))⟩

end

/-- Of operations of the eight lanes of a group, one after the other, each lane sees its own alone. -/
theorem foldl_lanes {f : State → Nat → State} {g k : Nat} (hg : g < 8) (hk : k < 8)
    (hf : ∀ t, ∀ j < 8, OnlyLane (8 * g + j) t (f t j)) (s : State) :
    ∃ t, SameLane (8 * g + k) s t ∧ SameLane (8 * g + k) (f t k) ((List.range 8).foldl f s) := by
  have hothers (l : List Nat) (hl : ∀ j ∈ l, j < 8 ∧ j ≠ k) (s : State) : SameLane (8 * g + k) s (l.foldl f s) := by
    induction l generalizing s with
    | nil => exact SameLane.refl _ s
    | cons j r ih =>
      obtain ⟨hj, hne⟩ := hl j List.mem_cons_self
      exact ((hf s j hj).sameLane (by omega) (by omega) (by omega)).trans (ih (fun i hi => hl i (List.mem_cons_of_mem _ hi)) _)
  have hsplit : ∀ k < 8, List.range 8 = List.range k ++ k :: List.range' (k + 1) (7 - k) := by decide
  rw [hsplit k hk, List.foldl_append, List.foldl_cons]
  exact ⟨_, hothers _ (fun j hj => by rw [List.mem_range] at hj; omega) s,
    hothers _ (fun j hj => by rw [List.mem_range'_1] at hj; omega) _⟩

end Sys2Proof.Machine
end

section
/-!
PROOF. A sample frame at the lanes of its group (R321 to R327, R330).
-/
namespace Sys2Proof.Machine

open Sys2Proof (Instr)

/-! The words of a frame (R321, R322, R325). -/

theorem take_eq_map_getD (l : List Bool) {n : Nat} (h : n ≤ l.length) : l.take n = (List.range n).map (fun j => l.getD j false) := by
  refine List.ext_getElem (by simp [h]) fun j hj _ => ?_
  rw [List.length_take] at hj
  rw [List.getElem_take, List.getElem_map, List.getElem_range, List.getD_eq_getElem _ _ (by omega)]

/-- Each whole slot spells its 32 bits, the most significant first. -/
theorem rxWords_eq {n : Nat} {l : List Bool} (h : 32 * n ≤ l.length) : rxWords n l = (List.range n).map (fun i =>
    BitVec.ofNat 32 ((List.range 32).foldl (fun a j => 2 * a + (l.getD (32 * i + j) false).toNat) 0)) := by
  induction n generalizing l with
  | zero => rfl
  | succ n ih =>
    rw [rxWords, if_neg (by omega), ih (by rw [List.length_drop]; omega), take_eq_map_getD l (by omega), List.foldl_map,
      List.range_succ_eq_map (n := n), List.map_cons, List.map_map]
    refine congrArg₂ List.cons (by simp only [Nat.mul_zero, Nat.zero_add]) (List.map_congr_left fun i _ => ?_)
    simp only [Function.comp, List.getD_eq_getElem?_getD, List.getElem?_drop]
    refine congrArg (fun f => BitVec.ofNat 32 ((List.range 32).foldl f 0)) (funext₂ fun a j => ?_)
    rw [show 32 * i.succ + j = 32 + (32 * i + j) by omega]

theorem laneBits_getD (delay : Nat) (bits : List (BitVec 8)) (k m : Nat) :
    (laneBits delay bits k).getD m false = (bits.getD (delay + m) 0).getLsbD k := by
  simp only [laneBits, List.getD_eq_getElem?_getD, List.getElem?_map, List.getElem?_drop]
  cases bits[delay + m]? with
  | none => exact (BitVec.getLsbD_zero (w := 8) (i := k)).symm
  | some b => rfl

/-- The entries of a whole frame: its words in slot order, the last with END, each with its parity. -/
theorem frameEntries_whole {n k delay : Nat} {bits : List (BitVec 8)} (h : 32 * n + delay ≤ bits.length) (bad : List (Nat × Nat)) :
    frameEntries n k (rxWords n (laneBits delay bits k)) bad =
      (List.range n).map (fun i => Claims.entryOf k n i (Claims.rxWord bits delay k i) bad) := by
  rw [rxWords_eq (by simp only [laneBits, List.length_map, List.length_drop]; omega)]
  refine List.ext_getElem (by simp [frameEntries]) fun i hi _ => ?_
  simp only [frameEntries, List.getElem_map, List.getElem_zipIdx, List.getElem_range, laneBits_getD, Claims.entryOf, Claims.rxWord,
    Nat.add_assoc, Nat.zero_add, List.contains_eq_mem, decide_not, beq_eq_decide]

/-! A frame at a lane. -/

section
variable (s : State) (l : Nat) (ws : List FifoEntry) (whole : Bool) (t0 : Nat)

theorem State.laneFrame_off (h : s.laneMode l = 0) : s.laneFrame l ws whole t0 = s := if_pos h

/-- A partial frame counts in FRAMING (R322). -/
def State.frameCounted : State := if whole then s else s.bump (laneReg l 0x20) 16 1

theorem State.lane_frameCounted : (s.frameCounted l whole).lane l = s.lane l := by
  unfold State.frameCounted
  split <;> rfl

theorem State.rd_frameCounted {a : Nat} (h : laneReg l 0x20 ≠ a) : (s.frameCounted l whole).rd a = s.rd a := by
  unfold State.frameCounted
  split
  · rfl
  · exact (s.rd_wr _ _ _).trans (if_neg h)

theorem State.laneFrame_on (h : s.laneMode l ≠ 0) : s.laneFrame l ws whole t0 =
    let s1 := s.frameCounted l whole
    let x := s1.lane l
    if s1.severed l then s1.discards l ws.length
    else if t0 < x.rearmAt then s1
    else if t0 < x.flushAt then s1.bump (laneReg l 0x24) 16 1
    else if x.fifo.length + ws.length > 256 then (s1.bump (laneReg l 0x1C) 16 1).watermark l x.fifo.length 256
    else if whole then (s1.setLane l { x with fifo := x.fifo ++ ws, frames := x.frames ++ [ws] }).watermark l x.fifo.length
      (x.fifo.length + ws.length)
    else s1.watermark l x.fifo.length (x.fifo.length + ws.length) := if_neg h

theorem OnlyLane.laneFrame : OnlyLane l s (s.laneFrame l ws whole t0) := by
  by_cases hmode : s.laneMode l = 0
  · rw [State.laneFrame_off _ _ _ _ _ hmode]
    exact OnlyLane.refl l s
  · rw [State.laneFrame_on _ _ _ _ _ hmode]
    have hcount (t : State) {o : Nat} (ho : o < 0x40) : OnlyLane l t (t.bump (laneReg l o) 16 1) :=
      OnlyLane.bump (laneTouches_own l ho) t 16 1
    have hcounted : OnlyLane l s (s.frameCounted l whole) := (OnlyLane.refl l s).ite (hcount s (by decide))
    refine hcounted.trans ?_
    exact (OnlyLane.bump (.inr (.inr rfl)) _ _ _).ite ((OnlyLane.refl l _).ite ((hcount _ (by decide)).ite
      (((hcount _ (by decide)).trans (OnlyLane.watermark l _ _ _)).ite
        (((OnlyLane.setLane _ l _).trans (OnlyLane.watermark l _ _ _)).ite (OnlyLane.watermark l _ _ _)))))


variable {s l ws whole t0}

section
variable (hmode : s.laneMode l ≠ 0) (hsev : s.severed l = false) (hrearm : (s.lane l).rearmAt ≤ t0) (hl : l < 64)
include hmode hsev hrearm

/-- A whole frame enters a lane with room (R326). -/
theorem State.laneFrame_enters (hflush : (s.lane l).flushAt ≤ t0) (hroom : (s.lane l).fifo.length + ws.length ≤ 256) :
    ((s.laneFrame l ws true t0).lane l).fifo = (s.lane l).fifo ++ ws ∧
      (s.laneFrame l ws true t0).rd (laneReg l 0x1C) = s.rd (laneReg l 0x1C) := by
  have hframe : s.laneFrame l ws true t0 = (s.setLane l { s.lane l with
      fifo := (s.lane l).fifo ++ ws, frames := (s.lane l).frames ++ [ws] }).watermark l (s.lane l).fifo.length
        ((s.lane l).fifo.length + ws.length) :=
    (s.laneFrame_on l ws true t0 hmode).trans ((if_neg (ne_true_of_eq_false hsev)).trans ((if_neg (Nat.not_lt.mpr hrearm)).trans
      ((if_neg (Nat.not_lt.mpr hflush)).trans ((if_neg (Nat.not_lt.mpr hroom)).trans (if_pos rfl)))))
  rw [hframe, State.fifo_watermark, State.lane_setLane, if_pos rfl, State.rd_watermark_own _ _ _ _ (by decide)]
  exact ⟨rfl, rfl⟩

/-- Without room for all its words a whole frame counts in OVERFLOW (R327). -/
theorem State.laneFrame_overflows (hflush : (s.lane l).flushAt ≤ t0) (hfull : 256 < (s.lane l).fifo.length + ws.length) :
    ((s.laneFrame l ws true t0).lane l).fifo = (s.lane l).fifo ∧
      ((s.laneFrame l ws true t0).rd (laneReg l 0x1C)).toNat = min ((s.rd (laneReg l 0x1C)).toNat + 1) 65535 := by
  have hframe : s.laneFrame l ws true t0 = (s.bump (laneReg l 0x1C) 16 1).watermark l (s.lane l).fifo.length 256 :=
    (s.laneFrame_on l ws true t0 hmode).trans ((if_neg (ne_true_of_eq_false hsev)).trans ((if_neg (Nat.not_lt.mpr hrearm)).trans
      ((if_neg (Nat.not_lt.mpr hflush)).trans (if_pos hfull))))
  rw [hframe, State.fifo_watermark, State.lane_bump, State.rd_watermark_own _ _ _ _ (by decide), State.rd_bump_toNat _ _ (by decide)]
  exact ⟨rfl, rfl⟩

/-- A frame under way at a flush counts in FLUSHED (R330). -/
theorem State.laneFrame_flushed (hflush : t0 < (s.lane l).flushAt) :
    ((s.laneFrame l ws whole t0).lane l).fifo = (s.lane l).fifo ∧
      ((s.laneFrame l ws whole t0).rd (laneReg l 0x24)).toNat = min ((s.rd (laneReg l 0x24)).toNat + 1) 65535 := by
  have hlane := s.lane_frameCounted l whole
  have hcross : (s.frameCounted l whole).severed l = s.severed l :=
    State.severed_congr_reg (s.rd_frameCounted l whole (by simp only [laneReg, Config.sip, Config.cross]; omega))
  have hframe : s.laneFrame l ws whole t0 = (s.frameCounted l whole).bump (laneReg l 0x24) 16 1 :=
    (s.laneFrame_on l ws whole t0 hmode).trans ((if_neg (ne_true_of_eq_false (hcross.trans hsev))).trans
      ((if_neg (by rw [hlane]; omega)).trans (if_pos (by rw [hlane]; exact hflush))))
  rw [hframe, State.lane_bump, hlane, State.rd_bump_toNat _ _ (by decide), State.rd_frameCounted _ _ _ (by unfold laneReg; omega)]
  exact ⟨rfl, rfl⟩

end

/-- The FIFO of lane l and the register at o of its block stand as they were. -/
def HoldsFifo (l o : Nat) (s t : State) : Prop := (t.lane l).fifo = (s.lane l).fifo ∧ t.rd (laneReg l o) = s.rd (laneReg l o)

theorem HoldsFifo.bump {a o : Nat} (ha : a ≠ laneReg l o) (s : State) (n k : Nat) : HoldsFifo l o s (s.bump a n k) :=
  ⟨rfl, (s.rd_wr _ _ _).trans (if_neg ha)⟩

theorem HoldsFifo.watermark {o : Nat} (ho : o ≠ 8) {t : State} (h : HoldsFifo l o s t) (old peak : Nat) :
    HoldsFifo l o s (t.watermark l old peak) := by
  obtain ⟨hfifo, hreg⟩ := h
  exact ⟨(t.fifo_watermark l old peak).trans hfifo, (t.rd_watermark_own l old peak ho).trans hreg⟩

/-- A partial frame counts in FRAMING, and none of its words enters the lane (R322). -/
theorem State.laneFrame_partial (hmode : s.laneMode l ≠ 0) (hl : l < 64) :
    ((s.laneFrame l ws false t0).lane l).fifo = (s.lane l).fifo ∧
      ((s.laneFrame l ws false t0).rd (laneReg l 0x20)).toNat = min ((s.rd (laneReg l 0x20)).toNat + 1) 65535 := by
  have hcross : Config.cross + 0x400 + 4 * l ≠ laneReg l 0x20 := by simp only [laneReg, Config.sip, Config.cross]; omega
  have hflushed : laneReg l 0x24 ≠ laneReg l 0x20 := by unfold laneReg; omega
  have hoverflow : laneReg l 0x1C ≠ laneReg l 0x20 := by unfold laneReg; omega
  have hholds : HoldsFifo l 0x20 (s.bump (laneReg l 0x20) 16 1) (s.laneFrame l ws false t0) := by
    rw [State.laneFrame_on s l ws false t0 hmode]
    dsimp only
    split
    · exact HoldsFifo.bump hcross _ 16 _
    · split
      · exact ⟨rfl, rfl⟩
      · split
        · exact HoldsFifo.bump hflushed _ 16 1
        · split
          · exact (HoldsFifo.bump hoverflow _ 16 1).watermark (by decide) _ _
          · exact HoldsFifo.watermark (by decide) ⟨rfl, rfl⟩ _ _
  obtain ⟨hfifo, hreg⟩ := hholds
  rw [hfifo, hreg]
  exact ⟨rfl, s.rd_bump_toNat _ (by decide) 1⟩

end

/-! The frame at its group. -/

/-- The state in which a frame that ends at time t enters the lanes: late ends are noted (R82). -/
def State.frameCome (s : State) (g t0 t : Nat) (whole : Bool) : State :=
  let s1 : State := { s.at t with sipSeen := SMap.put s.sipSeen g (t0, t) }
  if whole && s1.nearEdge t then s1.setBits (Config.transom + 0x24) (1#32 <<< g) else s1

theorem State.frameCome_keeps (s : State) (g t0 t : Nat) (whole : Bool) : (s.frameCome g t0 t whole).now = max s.now t ∧
    (s.frameCome g t0 t whole).panes = s.panes ∧ ∀ l < 64, SameLane l s (s.frameCome g t0 t whole) := by
  have hcome : ∀ l, SameLane l s { s.at t with sipSeen := SMap.put s.sipSeen g (t0, t) } :=
    fun _ => ⟨rfl, fun _ _ => rfl, fun _ _ => rfl, rfl⟩
  have hlate (u : State) (m : Word) {l : Nat} (hl : l < 64) : SameLane l u (u.setBits (Config.transom + 0x24) m) := by
    have hrd (a : Nat) (ha : Config.transom + 0x24 ≠ a) : (u.setBits (Config.transom + 0x24) m).rd a = u.rd a :=
      (u.rd_setBits _ _ _).trans (if_neg ha)
    refine ⟨rfl, fun o ho => hrd _ ?_, fun o ho => hrd _ ?_, hrd _ ?_⟩ <;>
      · simp only [laneReg, Config.sip, Config.cross, Config.transom]
        omega
  unfold State.frameCome
  dsimp only
  split
  · exact ⟨rfl, rfl, fun l hl => (hcome l).trans (hlate _ _ hl)⟩
  · exact ⟨rfl, rfl, fun l _ => hcome l⟩

/-- The frame has all the bits of its slots (R322). -/
def State.frameWhole (s : State) (g : Nat) (bits : List (BitVec 8)) : Bool := decide (32 * s.sipSlots g + s.fsDelay g ≤ bits.length)

/-- The frame of group g at its lane k. -/
def State.frameInto (s : State) (g : Nat) (bits : List (BitVec 8)) (bad : List (Nat × Nat)) (t0 : Nat) (u : State) (k : Nat) : State :=
  u.laneFrame (8 * g + k) (frameEntries (s.sipSlots g) k (rxWords (s.sipSlots g) (laneBits (s.fsDelay g) bits k)) bad)
    (s.frameWhole g bits) t0

theorem OnlyLane.frameInto (s : State) (g : Nat) (bits : List (BitVec 8)) (bad : List (Nat × Nat)) (t0 : Nat) (u : State) (k : Nat) :
    OnlyLane (8 * g + k) u (s.frameInto g bits bad t0 u k) := OnlyLane.laneFrame _ _ _ _ _

theorem execSampleFrame_acquired {s : State} {g : BitVec 3} (bits : List (BitVec 8)) (bad : List (Nat × Nat)) (t0 t : Nat)
    (hen : s.sipEn g.toNat = true) (hopen : s.domOpen (80 + g.toNat) = true) (hacq : s.acquires = true) :
    execSampleFrame g bits bad t0 t s = .next ((List.range 8).foldl (s.frameInto g.toNat bits bad t0)
      (s.frameCome g.toNat t0 t (s.frameWhole g.toNat bits))) := by
  have hgo : ¬ (!s.sipEn g.toNat || !s.domOpen (80 + g.toNat)) = true := by rw [hen, hopen]; decide
  have hready : ¬ (!s.acquires) = true := by rw [hacq]; decide
  exact (if_neg hgo).trans (if_neg hready)

theorem frameEnters : Claims.frameEnters := by
  intro s g bits bad t0 t k l n delay x lost whole hen hopen hacq hk
  have hg : g.toNat < 8 := g.isLt
  have hl : l < 64 := by omega
  have honly := OnlyLane.frameInto s g.toNat bits bad t0
  obtain ⟨hnow, hpanes, hcome⟩ := s.frameCome_keeps g.toNat t0 t (s.frameWhole g.toNat bits)
  obtain ⟨v, hbefore, hafter⟩ := foldl_lanes hg hk (fun u j _ => honly u j) (s.frameCome g.toNat t0 t (s.frameWhole g.toNat bits))
  have hv : SameLane l s v := (hcome l hl).trans hbefore
  refine ⟨_, (exec_sampleFrame g bits bad t0 t s).trans (execSampleFrame_acquired bits bad t0 t hen hopen hacq),
    (foldl_keeps State.now _ _ fun u j _ => (honly u j).now).trans hnow,
    (foldl_keeps State.panes _ _ fun u j _ => (honly u j).panes).trans hpanes, fun hmode => ?off,
    fun hmode hwhole hsev hrearm hflush hroom => ?enters, fun hmode hwhole hsev hrearm hflush hfull => ?overflows,
    fun hmode hpartial => ?cut, fun hmode hsev hrearm hflush => ?flushed⟩
  case off =>
    exact hafter.lane.trans ((congrArg (fun u => u.lane l) (v.laneFrame_off _ _ _ _ (hv.laneMode.trans hmode))).trans hv.lane)
  all_goals
    have hmode' : v.laneMode l ≠ 0 := hv.laneMode.trans_ne hmode
    rw [hafter.lane, hafter.regs _ (by decide), ← hv.regs _ (by decide), State.frameInto, show x = v.lane l from hv.lane.symm]
  case cut =>
    rw [show s.frameWhole g.toNat bits = false from decide_eq_false hpartial]
    exact State.laneFrame_partial hmode' hl
  all_goals
    have hsev' : v.severed l = false := hv.severed.trans hsev
    rw [show x = v.lane l from hv.lane.symm] at hrearm hflush
  case flushed => exact State.laneFrame_flushed hmode' hsev' hrearm hflush
  all_goals
    have hlen : ((List.range n).map (fun i => Claims.entryOf k n i (Claims.rxWord bits delay k i) bad)).length = n :=
      (List.length_map _).trans List.length_range
    rw [show s.frameWhole g.toNat bits = true from decide_eq_true hwhole, show frameEntries (s.sipSlots g.toNat) k
      (rxWords (s.sipSlots g.toNat) (laneBits (s.fsDelay g.toNat) bits k)) bad = _ from frameEntries_whole hwhole bad]
  case enters =>
    rw [show x = v.lane l from hv.lane.symm] at hroom
    exact State.laneFrame_enters hmode' hsev' hrearm hflush (by rw [hlen]; exact hroom)
  case overflows =>
    rw [show x = v.lane l from hv.lane.symm] at hfull
    exact State.laneFrame_overflows hmode' hsev' hrearm hflush (by rw [hlen]; exact hfull)

end Sys2Proof.Machine
end

section
/-!
PROOF. Direct reads and flushes of the lanes (R328 to R330).
-/
namespace Sys2Proof.Machine

open Sys2Proof (Instr)

/-! RXDATA. -/

/-- A bad word counts in the lane's parity count as it is read (R328). -/
def State.parityRead (s : State) (l : Nat) (e : FifoEntry) : State := if e.ok then s else s.bump (laneReg l 0x18) 16 1

theorem OnlyLane.parityRead (s : State) (l : Nat) (e : FifoEntry) : OnlyLane l s (s.parityRead l e) :=
  (OnlyLane.refl l s).ite (OnlyLane.bump (laneTouches_own l (by decide)) s 16 1)

theorem State.rd_parityRead (s : State) (l : Nat) (e : FifoEntry) : ((s.parityRead l e).rd (laneReg l 0x18)).toNat =
    if e.ok then (s.rd (laneReg l 0x18)).toNat else min ((s.rd (laneReg l 0x18)).toNat + 1) 65535 := by
  unfold State.parityRead
  split
  · rfl
  · exact s.rd_bump_toNat _ (by decide) 1

/-- The lane after its oldest entry left it. -/
def State.entryRead (s : State) (l : Nat) (e : FifoEntry) (rest : List FifoEntry) : State :=
  ((s.parityRead l e).setLane l { s.lane l with fifo := rest }).watermark l (s.lane l).fifo.length rest.length

theorem OnlyLane.entryRead (s : State) (l : Nat) (e : FifoEntry) (rest : List FifoEntry) : OnlyLane l s (s.entryRead l e rest) :=
  ((OnlyLane.parityRead s l e).trans (OnlyLane.setLane _ l _)).trans (OnlyLane.watermark l _ _ _)

theorem State.fifo_entryRead (s : State) (l : Nat) (e : FifoEntry) (rest : List FifoEntry) :
    ((s.entryRead l e rest).lane l).fifo = rest := by
  rw [State.entryRead, State.fifo_watermark, State.lane_setLane, if_pos rfl]

theorem State.rd_entryRead (s : State) (l : Nat) (e : FifoEntry) (rest : List FifoEntry) :
    (s.entryRead l e rest).rd (laneReg l 0x18) = (s.parityRead l e).rd (laneReg l 0x18) :=
  State.rd_watermark_own _ _ _ _ (by decide)

/-- The value of a read: the word in the group's format, VALID, PARITY and END (R328, R329). -/
def rxValue (f : Nat) (e : FifoEntry) : DWord :=
  BitVec.ofNat 64 ((formatWord f e.word).toNat + 2 ^ 32 + (!e.ok).toNat * 2 ^ 33 + e.fin.toNat * 2 ^ 34)

theorem rxValue_eq (f : Nat) (e : FifoEntry) : rxValue f e =
    BitVec.ofNat 64 ((formatWord f e.word).toNat + 2 ^ 32 + (if e.ok then 0 else 2 ^ 33) + (if e.fin then 2 ^ 34 else 0)) := by
  have hok : (!e.ok).toNat * 2 ^ 33 = if e.ok then 0 else 2 ^ 33 := by cases e.ok <;> rfl
  have hfin : e.fin.toNat * 2 ^ 34 = if e.fin then 2 ^ 34 else 0 := by cases e.fin <;> rfl
  rw [rxValue, hok, hfin]

theorem State.readRx_entry {s : State} {l : Nat} {e : FifoEntry} {rest : List FifoEntry} (hmode : s.laneMode l = 2)
    (hfifo : (s.lane l).fifo = e :: rest) : s.readRx l = (rxValue (s.sipFormat (l / 8)) e, s.entryRead l e rest) := by
  unfold State.readRx
  dsimp only
  split
  next heq =>
    obtain ⟨rfl, rfl⟩ := List.cons.inj (hfifo.symm.trans heq)
    rfl
  next hnone => exact absurd hfifo (hnone e rest hmode)

theorem State.readRx_none {s : State} {l : Nat} (h : s.laneMode l ≠ 2 ∨ (s.lane l).fifo = []) : s.readRx l = (0, s) := by
  unfold State.readRx
  dsimp only
  split
  next hmode hfifo =>
    rcases h with h | h
    · exact absurd hmode h
    · exact absurd (h.symm.trans hfifo) (List.cons_ne_nil _ _).symm
  next => rfl

/-! FLUSH. -/

/-- The flush of lane l (R330). -/
def State.flushLane (s : State) (l : Nat) : State :=
  ((s.bump (laneReg l 0x24) 16 ((s.lane l).fifo.filter (fun e => e.fin)).length).setLane l
    { s.lane l with fifo := [], flushAt := s.now }).watermark l (s.lane l).fifo.length 0

theorem OnlyLane.flushLane (s : State) (l : Nat) : OnlyLane l s (s.flushLane l) :=
  ((OnlyLane.bump (laneTouches_own l (by decide)) s 16 _).trans (OnlyLane.setLane _ l _)).trans (OnlyLane.watermark l _ _ _)

theorem State.fifo_flushLane (s : State) (l : Nat) : ((s.flushLane l).lane l).fifo = [] := by
  rw [State.flushLane, State.fifo_watermark, State.lane_setLane, if_pos rfl]

theorem State.rd_flushLane (s : State) (l : Nat) : ((s.flushLane l).rd (laneReg l 0x24)).toNat =
    min ((s.rd (laneReg l 0x24)).toNat + ((s.lane l).fifo.filter (fun e => e.fin)).length) 65535 := by
  have hreg : (s.flushLane l).rd (laneReg l 0x24) =
      (s.bump (laneReg l 0x24) 16 ((s.lane l).fifo.filter (fun e => e.fin)).length).rd (laneReg l 0x24) :=
    State.rd_watermark_own _ _ _ _ (by decide)
  exact (congrArg BitVec.toNat hreg).trans (s.rd_bump_toNat _ (by decide) _)

/-- What FLUSH does at lane k of group g: a lane that it names and that is in direct mode is flushed. -/
def flushStep (g mask : Nat) (s : State) (k : Nat) : State :=
  if mask.testBit k && s.laneMode (8 * g + k) == 2 then s.flushLane (8 * g + k) else s

theorem OnlyLane.flushStep (g mask : Nat) (s : State) (k : Nat) : OnlyLane (8 * g + k) s (flushStep g mask s k) :=
  (OnlyLane.flushLane s _).ite (OnlyLane.refl _ s)

/-! The lane of an instruction. -/

section
variable (s : State) (g lane : BitVec 3)

theorem exec_rxdataRead_entry {e : FifoEntry} {rest : List FifoEntry} (hmode : s.laneMode (8 * g.toNat + lane.toNat) = 2)
    (hfifo : (s.lane (8 * g.toNat + lane.toNat)).fifo = e :: rest) : exec (.rxdataRead g lane) s = .next
      { s.entryRead (8 * g.toNat + lane.toNat) e rest with rdata := rxValue (s.sipFormat g.toNat) e } := by
  have hgroup : (8 * g.toNat + lane.toNat) / 8 = g.toNat := by have := lane.isLt; omega
  rw [exec_rxdataRead, execRxdataRead, State.readRx_entry hmode hfifo, hgroup]

theorem exec_rxdataRead_none
    (h : s.laneMode (8 * g.toNat + lane.toNat) ≠ 2 ∨ (s.lane (8 * g.toNat + lane.toNat)).fifo = []) :
    exec (.rxdataRead g lane) s = .next { s with rdata := 0 } := by
  rw [exec_rxdataRead, execRxdataRead, State.readRx_none h]

theorem exec_flush_lanes (mask : BitVec 8) :
    exec (.flush g mask) s = .next ((List.range 8).foldl (flushStep g.toNat mask.toNat) s) := exec_flush g mask s

/-- FLUSH empties a lane that it names and that is in direct mode, counts its frames, and leaves any other lane (R330). -/
theorem State.flush_lane (mask : BitVec 8) :
    let l := 8 * g.toNat + lane.toNat
    let t := (List.range 8).foldl (flushStep g.toNat mask.toNat) s
    (t.lane l).fifo = (if mask.getLsbD lane.toNat ∧ s.laneMode l = 2 then [] else (s.lane l).fifo) ∧
      (mask.getLsbD lane.toNat = true → s.laneMode l = 2 → (t.rd (laneReg l 0x24)).toNat =
        min ((s.rd (laneReg l 0x24)).toNat + ((s.lane l).fifo.filter (fun e => e.fin)).length) 65535) := by
  intro l t
  obtain ⟨v, hbefore, hafter⟩ := foldl_lanes g.isLt lane.isLt (fun u j _ => OnlyLane.flushStep g.toNat mask.toNat u j) s
  have hnamed : (mask.toNat.testBit lane.toNat && v.laneMode l == 2) = true ↔ mask.getLsbD lane.toNat ∧ s.laneMode l = 2 := by
    rw [Bool.and_eq_true, beq_iff_eq, hbefore.laneMode]
    rfl
  refine ⟨?_, fun hmask hmode => ?_⟩
  · rw [hafter.lane, flushStep]
    split
    next h => rw [if_pos (hnamed.mp h), State.fifo_flushLane]
    next h => rw [if_neg (mt hnamed.mpr h), hbefore.lane]
  · rw [hafter.regs _ (by decide), flushStep, if_pos (hnamed.mpr ⟨hmask, hmode⟩), State.rd_flushLane, hbefore.regs _ (by decide),
      hbefore.lane]

end

/-- Of the value read, the rest of the state does not depend. -/
theorem State.rdata_keeps (t : State) (v : DWord) : let u : State := { t with rdata := v }
    u.rdata = v ∧ u.panes = t.panes ∧ (∀ l, u.lane l = t.lane l) ∧ ∀ a, u.rd a = t.rd a :=
  ⟨rfl, rfl, fun _ => rfl, fun _ => rfl⟩

theorem lanesAreRead : Claims.lanesAreRead := by
  intro s g lane mask l x f
  have hstep := OnlyLane.flushStep g.toNat mask.toNat
  refine ⟨fun hmode e rest hfifo => ?_, exec_rxdataRead_none s g lane,
    _, exec_flush_lanes s g mask, foldl_keeps State.panes _ _ fun u j _ => (hstep u j).panes, (s.flush_lane g lane mask).1,
    (s.flush_lane g lane mask).2, fun j hj => foldl_keeps (fun u => u.lane j) _ _ fun u k hk => (hstep u k).lanes j ?_⟩
  · obtain ⟨hvalue, hpanes, hlane, hreg⟩ := (s.entryRead l e rest).rdata_keeps (rxValue f e)
    refine ⟨_, exec_rxdataRead_entry s g lane hmode hfifo, ?_, ?_, ?_, ?_⟩
    · rw [hlane, State.fifo_entryRead]
    · rw [hpanes, (OnlyLane.entryRead s l e rest).panes]
    · exact hvalue.trans (rxValue_eq f e)
    · rw [hreg, State.rd_entryRead, State.rd_parityRead]
  · have hk8 : k < 8 := List.mem_range.mp hk
    omega

end Sys2Proof.Machine
end

section
/-!
PROOF. The engine of a bay takes the oldest frame of a lane, and delivers it to the stream of the lane (R328, R334, R335).
-/
namespace Sys2Proof.Machine

open Sys2Proof (Instr)

/-! The oldest frame. -/

/-- The words up to the first END are the oldest whole frame. -/
theorem wholeFrames_append {body : List FifoEntry} {last : FifoEntry} (hlast : last.fin = true)
    (hbody : ∀ e ∈ body, e.fin = false) (cur rest : List FifoEntry) :
    wholeFrames cur (body ++ [last] ++ rest) = (cur ++ (body ++ [last])) :: wholeFrames [] rest := by
  induction body generalizing cur with
  | nil => exact if_pos hlast
  | cons e r ih =>
    obtain ⟨he, hr⟩ := List.forall_mem_cons.mp hbody
    have hcons : wholeFrames cur (e :: r ++ [last] ++ rest) = wholeFrames (cur ++ [e]) (r ++ [last] ++ rest) :=
      if_neg (ne_true_of_eq_false he)
    rw [hcons, ih hr, List.append_assoc]
    rfl

/-! What the delivery of a frame leaves of the part. -/

/-- Of the part only the panes, the frames sent of each stream, the events under way, and the excess count of bay b differ. -/
structure Feeds (b : Nat) (s t : State) : Prop where
  rest : t = { s with panes := t.panes, streamF := t.streamF, reg := t.reg, arrivals := t.arrivals }
  regs : ∀ a, a ≠ Config.dist b + 4 → t.rd a = s.rd a

theorem State.engines_congr {s t : State} (l : Nat) (hfault : t.rd (Config.bolt + 0x50) = s.rd (Config.bolt + 0x50))
    (hdoms : t.doms = s.doms)
    (hstream : ∀ b < 8, ∀ n < 256, t.rd (Config.dist b + 0x100 + 8 * n) = s.rd (Config.dist b + 0x100 + 8 * n)) :
    t.engines l = s.engines l := by
  refine List.filter_congr fun b hb => ?_
  have hstreams : t.streamsOf b l = s.streamsOf b l := List.filter_congr fun n hn => by
    rw [State.streamA, State.streamA, hstream b (List.mem_range.mp hb) n (List.mem_range.mp hn)]
  rw [hstreams, State.bayFaulted, State.bayFaulted, hfault, State.domOpen, State.dom, hdoms]
  rfl

theorem Feeds.engines {b : Nat} {s t : State} (h : Feeds b s t) (hb : b < 8) (l : Nat) : t.engines l = s.engines l := by
  have hdoms : t.doms = s.doms := by rw [h.rest]
  refine State.engines_congr l (h.regs _ ?_) hdoms fun b' hb' n hn => h.regs _ ?_
  · simp only [Config.bolt, Config.dist]
    omega
  · simp only [Config.dist]
    omega

theorem OnlyLane.engines {l : Nat} {s t : State} (h : OnlyLane l s t) (hl : l < 64) (k : Nat) : t.engines k = s.engines k := by
  refine State.engines_congr k (h.regs _ (not_laneTouches_of hl ?_)) h.doms fun b hb n hn => h.regs _ (not_laneTouches_of hl ?_)
  · simp only [Config.bolt, Config.cross]
    omega
  · simp only [Config.dist, Config.cross]
    omega

/-! The frame leaves the FIFO. -/

/-- The lane once the engine of bay b has taken its oldest frame. -/
def State.frameTaken (s : State) (b l : Nat) (x : RxLane) : State :=
  (s.setLane l { x with taken := SMap.put x.taken b 1 }).releaseTaken l

/-- A frame that the only engine of the lane has taken leaves the FIFO (R334). -/
theorem State.releaseTaken_one {s : State} {b l : Nat} (hengines : s.engines l = [b]) (htaken : (s.lane l).takenBy b = 1) :
    s.releaseTaken l = s.dropFrames l 1 := by
  simp only [State.releaseTaken, hengines, List.foldl_nil, htaken, Nat.one_ne_zero, if_false]

theorem OnlyLane.dropFrames (l k : Nat) (s : State) : OnlyLane l s (s.dropFrames l k) :=
  (OnlyLane.setLane s l _).trans (OnlyLane.watermark l _ _ _)

theorem State.fifo_dropFrames_one {s : State} {l : Nat} {frame rest : List FifoEntry} {r : List (List FifoEntry)}
    (hfifo : (s.lane l).fifo = frame ++ rest) (hframes : wholeFrames [] (frame ++ rest) = frame :: r) :
    ((s.dropFrames l 1).lane l).fifo = rest := by
  rw [State.dropFrames, State.fifo_watermark, State.lane_setLane, if_pos rfl, hfifo, hframes, List.take_succ_cons, List.take_zero,
    List.flatten_cons, List.flatten_nil, List.append_nil]
  exact List.drop_left

section
variable {s : State} {b l : Nat} {x : RxLane} {frame rest : List FifoEntry} {r : List (List FifoEntry)}

/-- A frame of a lane that only the bay's engine reads leaves the FIFO. -/
theorem State.frameTaken_leaves (hl : l < 64) (hengines : s.engines l = [b]) (hfifo : x.fifo = frame ++ rest)
    (hframes : wholeFrames [] (frame ++ rest) = frame :: r) :
    OnlyLane l s (s.frameTaken b l x) ∧ ((s.frameTaken b l x).lane l).fifo = rest := by
  have hset := OnlyLane.setLane s l { x with taken := SMap.put x.taken b 1 }
  have hlane := (s.lane_setLane l l { x with taken := SMap.put x.taken b 1 }).trans (if_pos rfl)
  have hone : s.frameTaken b l x = (s.setLane l { x with taken := SMap.put x.taken b 1 }).dropFrames l 1 :=
    State.releaseTaken_one ((hset.engines hl l).trans hengines)
      (by rw [hlane]; exact (SMap.get_put _ x.taken b b 1).trans (if_pos rfl))
  rw [hone]
  exact ⟨hset.trans (OnlyLane.dropFrames l 1 _), State.fifo_dropFrames_one (by rw [hlane]; exact hfifo) hframes⟩

end

/-- The engine's step at a lane with one stream in the bay, whose pane is up. -/
theorem exec_distributionWrite_one {s : State} {bay : BitVec 3} {lane : BitVec 6} {n : Nat} {frame : List FifoEntry}
    {r : List (List FifoEntry)} (hmode : s.laneMode lane.toNat = 1) (hopen : s.domOpen (64 + bay.toNat) = true)
    (hfault : s.bayFaulted bay.toNat = false) (hstream : s.streamsOf bay.toNat lane.toNat = [n])
    (hup : s.paneUp ((s.streamA bay.toNat n).fld 0 10) = true) (htaken : (s.lane lane.toNat).taken = [])
    (hframes : wholeFrames [] (s.lane lane.toNat).fifo = frame :: r) :
    exec (.distributionWrite bay { lane := lane, errs := [] }) s = .next (((s.countParity lane.toNat frame).feedStream bay.toNat n
      lane.toNat frame .none).frameTaken bay.toNat lane.toNat (s.lane lane.toNat)) := by
  have hby : (s.lane lane.toNat).takenBy bay.toNat = 0 := congrArg (fun m => SMap.get (fun _ => 0) m bay.toNat) htaken
  have hread : (s.lane lane.toNat).readUpTo = 0 := congrArg (List.foldl (fun n (e : Nat × Nat) => max n e.2) 0) htaken
  have hlane : OnlyLane lane.toNat s (s.countParity lane.toNat frame) := OnlyLane.bump (laneTouches_own _ (by decide)) s 16 _
  have hstream' : (s.countParity lane.toNat frame).streamsOf bay.toNat lane.toNat = [n] := by
    rw [← hstream]
    refine List.filter_congr fun i hi => ?_
    have hi' := List.mem_range.mp hi
    rw [State.streamA, State.streamA, hlane.regs _ (not_laneTouches_of lane.isLt (by
      simp only [Config.dist, Config.cross]
      have := bay.isLt
      omega))]
  have hfind : (s.streamsOf bay.toNat lane.toNat).find? (fun n => !s.paneUp ((s.streamA bay.toNat n).fld 0 10)) = none := by
    rw [hstream, List.find?_cons, hup]
    rfl
  have hgo : ¬ (s.laneMode lane.toNat != 1 || s.bayFaulted bay.toNat || !s.domOpen (64 + bay.toNat)) = true := by
    rw [hmode, hfault, hopen]
    decide
  rw [exec_distributionWrite, execDistributionWrite]
  dsimp only
  rw [hby, hframes, hread]
  dsimp only [List.getElem?_cons_zero]
  rw [if_neg hgo, hfind]
  dsimp only
  rw [if_pos (Nat.zero_le _), hstream', List.foldl_cons, List.foldl_nil]
  rfl

end Sys2Proof.Machine
end

section
/-!
PROOF. The oldest frame of a lane at the stream that it feeds (R104, R334, R335).
-/
namespace Sys2Proof.Machine

open Sys2Proof (Instr)

/-- The frames of stream n of bay b that this tick has sent. -/
abbrev State.sentFrames (s : State) (b n : Nat) : Nat := SMap.get (fun _ => 0) s.streamF (b * 256 + n)

/-- One more frame of the stream is sent. -/
def State.frameSent (s : State) (b n : Nat) : State := { s with streamF := SMap.put s.streamF (b * 256 + n) (s.sentFrames b n + 1) }

theorem State.sentFrames_frameSent (s : State) (b n : Nat) : (s.frameSent b n).sentFrames b n = s.sentFrames b n + 1 :=
  (SMap.get_put _ s.streamF _ _ _).trans (if_pos rfl)

/-- The message of the frame (R334). -/
def State.frameMsg (s : State) (b n l : Nat) (frame : List FifoEntry) : Msg :=
  (s.frameSent b n).streamMsg b n l (s.sentFrames b n) frame

/-- In a whole mesh a distribution message gets to its receiver. -/
theorem State.sendStream_whole {s : State} (hwhole : Claims.wholeMesh s) (m : Msg) (key : Nat) :
    s.sendStream m key .none = s.landStream m := by
  have hway : s.arrives m.srcPane m.dest key = true := by
    rw [State.arrives, State.wayFrom_open (State.wayOpen_of_wholeMesh hwhole _ _ _)]
  exact if_neg (by rw [hway]; decide)

section
variable {s : State} {b n l : Nat} {frame : List FifoEntry} (htick : s.ticking = true)
include htick

/-- A frame beyond the stream's limit counts as excess (R335). -/
theorem State.feedStream_excess (h : (s.streamB b n).fld 5 10 ≤ s.sentFrames b n) (e : FlitErr) :
    s.feedStream b n l frame e = s.bump (Config.dist b + 4) 16 1 :=
  (if_neg (by rw [htick]; decide)).trans (if_pos h)

/-- A frame within the stream's limit is sent to the stream's channel (R334). -/
theorem State.feedStream_lands (h : s.sentFrames b n < (s.streamB b n).fld 5 10) (hwhole : Claims.wholeMesh s) :
    s.feedStream b n l frame .none = (s.frameSent b n).landStream (s.frameMsg b n l frame) := by
  exact (if_neg (by rw [htick]; decide)).trans ((if_neg (Nat.not_le.mpr h)).trans
    (State.sendStream_whole (s := s.frameSent b n) hwhole _ _))

end

/-! The message at its receiver. -/

section
variable {s : State} {m : Msg}

theorem State.landStream_unknown (h : (s.pane m.dest).inValid m.chan = false) :
    s.landStream m = (s.modPane m.dest (fun q => q.bump 0x828 16 1)).paneEdge m.dest 19 := by
  have hnone : (if (s.pane m.dest).inValid m.chan && decide (m.index + m.words.length ≤ (s.pane m.dest).inSize m.chan) then
      (s.pane m.dest).copyOf m.chan (m.srcDev * 1024 + m.srcPane) else none) = none := if_neg (by rw [h]; exact Bool.false_ne_true)
  unfold State.landStream
  dsimp only
  rw [hnone]

theorem State.landStream_fits (hvalid : (s.pane m.dest).inValid m.chan = true)
    (hsize : m.index + m.words.length ≤ (s.pane m.dest).inSize m.chan)
    (hcopy : (s.pane m.dest).copyOf m.chan (m.srcDev * 1024 + m.srcPane) = some 0) :
    s.landStream m = s.setPane m.dest ((s.pane m.dest).setChan m.chan (((s.pane m.dest).chanOf m.chan).take 0 m)) := by
  have hsome : (if (s.pane m.dest).inValid m.chan && decide (m.index + m.words.length ≤ (s.pane m.dest).inSize m.chan) then
      (s.pane m.dest).copyOf m.chan (m.srcDev * 1024 + m.srcPane) else none) = some 0 :=
    (if_pos (by rw [hvalid, decide_eq_true hsize]; rfl)).trans hcopy
  unfold State.landStream
  dsimp only
  rw [hsome]

end

/-- The receiver holds the message in its channel's back half (R61, R334). -/
structure StreamLanded (m : Msg) (q q' : Pane) : Prop where
  chan : Claims.OnlyChan m.chan q q'
  words : ∀ i, SMap.at? (q'.chanOf m.chan).back.words i = if m.index ≤ i ∧ i < m.index + m.words.length then m.words[i - m.index]?
    else SMap.at? (q.chanOf m.chan).back.words i
  poison : (q'.chanOf m.chan).back.poison = ((q.chanOf m.chan).back.poison || m.poison.any id)

theorem StreamLanded.take (m : Msg) (q : Pane) : StreamLanded m q (q.setChan m.chan ((q.chanOf m.chan).take 0 m)) := by
  have hchan := (q.chanOf_setChan (c := m.chan) ((q.chanOf m.chan).take 0 m) m.chan).trans (if_pos rfl)
  obtain ⟨-, hpoison, hwords⟩ := BackHalf.takes_landed (q.chanOf m.chan).back m
  exact ⟨q.onlyChan_setChan _, fun i => by rw [hchan]; exact hwords i, by rw [hchan]; exact hpoison⟩

/-! The three ways of a frame. -/

section
variable (s : State) (b n : Nat)

theorem Feeds.bump : Feeds b s (s.bump (Config.dist b + 4) 16 1) :=
  ⟨rfl, fun _ ha => (s.rd_wr _ _ _).trans (if_neg ha.symm)⟩

theorem Feeds.landed (r : Nat) (q : Pane) : Feeds b s ((s.frameSent b n).setPane r q) := ⟨rfl, fun _ _ => rfl⟩

theorem Feeds.edge (r : Nat) (f : Pane → Pane) (src : Nat) : Feeds b s (((s.frameSent b n).modPane r f).paneEdge r src) :=
  ⟨rfl, fun _ _ => rfl⟩

end


/-! The step at a lane whose only stream in the bay is n. -/

/-- The delivery of a frame to the stream, seen from the state before the step. -/
structure Distributes (s u : State) (b n l : Nat) : Prop where
  own : OnlyLane l s u
  streams : u.streamA b n = s.streamA b n ∧ u.streamB b n = s.streamB b n
  format : u.sipFormat (l / 8) = s.sipFormat (l / 8)
  part : u.partNo = s.partNo

theorem OnlyLane.distributes {s u : State} {b n l : Nat} (h : OnlyLane l s u) (hl : l < 64) (hb : b < 8) (hn : n < 256) :
    Distributes s u b n l := by
  have hstream (o : Nat) (ho : o < 0x1000) : u.rd (Config.dist b + o) = s.rd (Config.dist b + o) :=
    h.regs _ (not_laneTouches_of hl (by simp only [Config.dist, Config.cross]; omega))
  refine ⟨h, ⟨?_, ?_⟩, ?_, ?_⟩
  · rw [State.streamA, State.streamA, Nat.add_assoc, hstream _ (by omega)]
  · rw [State.streamB, State.streamB, Nat.add_assoc, hstream _ (by omega)]
  · rw [State.sipFormat, State.sipFormat, h.regs (Config.sip (l / 8)) (not_laneTouches_sip (o := 0) hl (by omega) (by decide))]
  · rw [State.partNo, State.partNo, h.regs _ (not_laneTouches_of hl (by simp only [Config.board, Config.cross]; omega))]

/-- The message of the frame (R96, R334). -/
theorem Distributes.msg {s u : State} {b n l : Nat} (h : Distributes s u b n l) (frame : List FifoEntry) :
    let m := u.frameMsg b n l frame
    let a := s.streamA b n
    let c := s.streamB b n
    let ws := (frame.drop (a.fld 22 5)).take (c.fld 0 5 + 1)
    m.dest = a.fld 0 10 ∧ m.chan = a.fld 10 6 ∧ m.index = s.sentFrames b n * (c.fld 0 5 + 1) ∧
      m.words = ws.map (fun e => formatWord (s.sipFormat (l / 8)) e.word) ∧ m.poison = ws.map (fun e => !e.ok) ∧
      m.srcDev = s.partNo ∧ m.srcPane = westRouter (a.fld 0 10) := by
  obtain ⟨hown, ⟨ha, hc⟩, hformat, hpart⟩ := h
  rw [← ha, ← hc, ← hformat, ← hpart, State.sentFrames, ← hown.streamF]
  exact ⟨rfl, rfl, rfl, rfl, rfl, rfl, rfl⟩

section
variable {s u : State} {b n l : Nat} {frame : List FifoEntry} (h : Distributes s u b n l)
include h

theorem Distributes.pane (j : Nat) : (u.frameSent b n).pane j = s.pane j := State.pane_congr (t := u.frameSent b n) h.own.panes j

theorem Distributes.ticking : u.ticking = s.ticking := by
  rw [h.own.rest]
  rfl

section
variable (htick : s.ticking = true)
include htick

/-- A frame beyond the stream's limit counts as excess (R335). -/
theorem Distributes.exceeds (hlimit : (s.streamB b n).fld 5 10 ≤ s.sentFrames b n) :
    u.feedStream b n l frame .none = u.bump (Config.dist b + 4) 16 1 := by
  have ⟨hown, ⟨_, hc⟩, _, _⟩ := h
  exact State.feedStream_excess (h.ticking.trans htick) (by rw [hc, State.sentFrames, hown.streamF]; exact hlimit) _

section
variable (hwhole : Claims.wholeMesh s) (hlimit : s.sentFrames b n < (s.streamB b n).fld 5 10)
include hwhole hlimit

theorem Distributes.lands :
    u.feedStream b n l frame .none = (u.frameSent b n).landStream (u.frameMsg b n l frame) := by
  have ⟨hown, ⟨_, hc⟩, _, _⟩ := h
  refine State.feedStream_lands (h.ticking.trans htick) ?_ ?_
  · rw [hc, State.sentFrames, hown.streamF]
    exact hlimit
  · rw [Claims.wholeMesh, hown.rest]
    exact hwhole

/-- A frame whose channel is not valid at its receiver is misrouted there (R104). -/
theorem Distributes.misroutes (hinvalid : (s.pane ((s.streamA b n).fld 0 10)).inValid ((s.streamA b n).fld 10 6) = false) :
    u.feedStream b n l frame .none = ((u.frameSent b n).modPane ((s.streamA b n).fld 0 10) (fun q => q.bump 0x828 16 1)).paneEdge
      ((s.streamA b n).fld 0 10) 19 := by
  obtain ⟨hdest, hchan, -, -, -, -, -⟩ := h.msg frame
  rw [h.lands htick hwhole hlimit, State.landStream_unknown (by rw [hdest, hchan, h.pane]; exact hinvalid), hdest]

/-- A frame that fits its channel stands in the channel (R334). -/
theorem Distributes.stores (hvalid : (s.pane ((s.streamA b n).fld 0 10)).inValid ((s.streamA b n).fld 10 6) = true)
    (hsize : s.sentFrames b n * ((s.streamB b n).fld 0 5 + 1) + (u.frameMsg b n l frame).words.length ≤
      (s.pane ((s.streamA b n).fld 0 10)).inSize ((s.streamA b n).fld 10 6))
    (hcopy : (s.pane ((s.streamA b n).fld 0 10)).copyOf ((s.streamA b n).fld 10 6)
      (s.partNo * 1024 + westRouter ((s.streamA b n).fld 0 10)) = some 0) :
    ∃ q, u.feedStream b n l frame .none = (u.frameSent b n).setPane ((s.streamA b n).fld 0 10) q ∧
      StreamLanded (u.frameMsg b n l frame) (s.pane ((s.streamA b n).fld 0 10)) q := by
  obtain ⟨hdest, hchan, hindex, -, -, hdev, hpane⟩ := h.msg frame
  refine ⟨_, ?_, StreamLanded.take _ _⟩
  rw [h.lands htick hwhole hlimit, State.landStream_fits, hdest, h.pane]
  · rw [hdest, hchan, h.pane]
    exact hvalid
  · rw [hdest, hchan, h.pane, hindex]
    exact hsize
  · rw [hdest, hchan, h.pane, hdev, hpane]
    exact hcopy

end

end

end

theorem frameIsDistributed : Claims.frameIsDistributed := by
  intro s bay lane n body rest last frame b l a c p ch f nslot ws drops hmode hopen hfault hstream hup htick htaken hengines hfifo
    hlast hbody
  have hl : l < 64 := lane.isLt
  have hb : b < 8 := bay.isLt
  have hn : n < 256 := List.mem_range.mp (List.mem_filter.mp (hstream.symm ▸ List.mem_singleton_self n :
    n ∈ s.streamsOf b l)).1
  have hframes : wholeFrames [] (frame ++ rest) = frame :: wholeFrames [] rest := wholeFrames_append hlast hbody [] rest
  have hrun := exec_distributionWrite_one hmode hopen hfault hstream hup htaken (hfifo.symm ▸ hframes)
  have hdist : Distributes s (s.countParity l frame) b n l :=
    (OnlyLane.bump (laneTouches_own l (by decide)) s 16 _).distributes hl hb hn
  generalize s.countParity l frame = u at hrun hdist
  have hout : ¬ laneTouches l drops := not_laneTouches_of hl (by simp only [Config.dist, Config.cross, drops]; omega)
  have hdrops : u.rd drops = s.rd drops := hdist.own.regs _ hout
  have hleaves (v : State) (hv : Feeds b u v) : OnlyLane l v (v.frameTaken b l (s.lane l)) ∧
      ((v.frameTaken b l (s.lane l)).lane l).fifo = rest :=
    State.frameTaken_leaves hl ((hv.engines hb l).trans ((hdist.own.engines hl l).trans hengines)) hfifo hframes
  refine ⟨fun hlimit hwhole hvalid hsize hcopy => ?stored, fun hlimit hwhole hinvalid => ?misrouted, fun hlimit => ?excess⟩
  case stored =>
    obtain ⟨-, hchan, hindex, hwords, hpoison, -, -⟩ := hdist.msg frame
    have hlen : (u.frameMsg b n l frame).words.length = ws.length := by rw [hwords, List.length_map]
    obtain ⟨q, hfeed, hq, hland, hmark⟩ := hdist.stores (frame := frame) htick hwhole hlimit hvalid (by rw [hlen]; exact hsize) hcopy
    rw [hfeed] at hrun
    obtain ⟨hown, hrest⟩ := hleaves _ (Feeds.landed u b n p q)
    have hpanes (j : Nat) := (State.pane_congr hown.panes j).trans (State.pane_setPane (u.frameSent b n) p j q)
    have hpane := (hpanes p).trans (if_pos rfl)
    refine ⟨_, hrun, hrest, ?_, fun j hj => (hpanes j).trans ((if_neg hj.symm).trans (hdist.pane j)), ?_, fun i => ?_, ?_,
      (hown.regs _ hout).trans hdrops⟩
    · rw [hown.streamF]
      exact (u.sentFrames_frameSent b n).trans (congrArg (fun m => SMap.get (fun _ => 0) m (b * 256 + n) + 1) hdist.own.streamF)
    · rw [hpane]
      rw [hchan] at hq
      exact hq
    · rw [hpane]
      have hi := hland i
      rw [hchan, hindex, hlen, hwords, List.getElem?_map] at hi
      exact hi
    · rw [hpane]
      rw [hchan, hpoison, List.any_map] at hmark
      exact hmark
  case misrouted =>
    rw [hdist.misroutes htick hwhole hlimit hinvalid] at hrun
    obtain ⟨hown, hrest⟩ := hleaves _ (Feeds.edge u b n p (fun q => q.bump 0x828 16 1) 19)
    obtain ⟨hcount, hchan, -⟩ := (u.frameSent b n).counted_receiver p 0x828 1 p 19
    have hothers (j : Nat) (hj : j ≠ p) := ((u.frameSent b n).pane_modPane p j (fun q => q.bump 0x828 16 1)).trans (if_neg hj.symm)
    rw [hdist.pane] at hcount hchan
    refine ⟨_, hrun, hrest, ?_, ?_, fun j hj => (State.pane_congr hown.panes j).trans ((hothers j hj).trans (hdist.pane j))⟩
    · rw [State.pane_congr hown.panes]
      exact hchan
    · rw [State.pane_congr hown.panes]
      exact hcount
  case excess =>
    rw [hdist.exceeds htick hlimit] at hrun
    obtain ⟨hown, hrest⟩ := hleaves _ (Feeds.bump u b)
    refine ⟨_, hrun, hrest, hown.panes.trans hdist.own.panes, ?_⟩
    rw [hown.regs _ hout, ← hdrops]
    exact u.rd_bump_toNat drops (by decide) 1

/-- Settles O41: the lanes of a group take a frame one by one, an entry or a flush touches its own lane alone, and the frame that the
only engine of a lane takes goes to its stream's channel. -/
theorem samplesFlow : Obligations.SamplesFlow := ⟨frameEnters, lanesAreRead, frameIsDistributed⟩

end Sys2Proof.Machine
end

section
/-!
PROOF. Dead routers (R124, R125), and the copy and the log of a takeover (R135, R136).
-/
namespace Sys2Proof.Machine

open Sys2Proof (Instr)

/-! A dead router. -/

theorem neighbourBit_lt {m n b : Nat} (h : neighbourBit m n = some b) : b < 32 := by
  unfold neighbourBit at h
  split_ifs at h <;> cases h <;> decide

/-- Router r is dead, and what must cross it is lost. -/
def State.routerCut (s : State) (r : Nat) : State :=
  { s with deadRouters := s.deadRouters ++ [r], mesh := s.mesh.filter (fun m => !s.crosses m r) }

/-- The state after a neighbour n of router r has reported it dead at its bit b. -/
def State.routerLost (s : State) (r n b : Nat) : State :=
  (((s.routerCut r).modPane n (fun q => q.setCr 0x844 (q.cr 0x844 ||| (1#32 <<< b)))).report (.routerDead r n)).edge allBells 18 r

theorem execRouterDead_lives {r n : PaneNo} {b tm : Nat} {s : State} (hb : neighbourBit n.toNat r.toNat = some b)
    (hr : r.toNat ∉ s.deadRouters) : execRouterDead r n tm s = .next ((s.at tm).routerLost r.toNat n.toNat b) := by
  unfold execRouterDead
  rw [hb]
  dsimp only
  rw [if_neg (by rw [List.contains_eq_mem, decide_eq_true_eq]; exact hr)]
  rfl

theorem State.pane_routerLost (s : State) (r n b j : Nat) : (s.routerLost r n b).pane j =
    if n = j then (s.pane n).setCr 0x844 ((s.pane n).cr 0x844 ||| (1#32 <<< b)) else s.pane j :=
  (s.routerCut r).pane_modPane n j (fun q => q.setCr 0x844 (q.cr 0x844 ||| (1#32 <<< b)))

theorem State.routerLost_reporter (s : State) {r n b : Nat} (hb : b < 32) : (((s.routerLost r n b).pane n).cr 0x844).bit b = true := by
  rw [State.pane_routerLost, if_pos rfl, Pane.cr_setCr, if_pos rfl, Word.bit_or_shift _ hb, decide_eq_true rfl, Bool.or_true]

theorem State.routerLost_arrivals (s : State) {r : Nat} (hr : r < 65536) (n b : Nat) : (s.routerLost r n b).arrivals =
    s.arrivals ++ [{ src := 18, kind := .edge, detail := r, todo := BitVec.allOnes 64 }] := by
  have hdetail : (s.routerLost r n b).arrivals =
      s.arrivals ++ [{ src := 18, kind := .edge, detail := r % 65536, todo := allBells }] := rfl
  rw [hdetail, Nat.mod_eq_of_lt hr]
  rfl

theorem routerDies : Claims.routerDies := by
  intro s r n b tm hb hr
  have hr' : r.toNat < 65536 := Nat.lt_trans r.isLt (by decide)
  exact ⟨_, (exec_routerDead r n tm s).trans (execRouterDead_lives hb hr), rfl, rfl, rfl,
    (s.at tm).routerLost_reporter (neighbourBit_lt hb), rfl, (s.at tm).routerLost_arrivals hr' _ _,
    fun j hj => ((s.at tm).pane_routerLost _ _ _ j).trans (if_neg hj.symm), rfl⟩

/-! The ledger (R586). -/

/-- Of the part only the ledger, the registers and the log's queue differ. -/
abbrev BooksOnly (s t : State) : Prop := t = { s with ledger := t.ledger, reg := t.reg, logq := t.logq }

theorem BooksOnly.trans {s t u : State} (h : BooksOnly s t) (h' : BooksOnly t u) : BooksOnly s u := by
  rw [BooksOnly, h', h]

theorem BooksOnly.wr (s : State) (a : Nat) (v : Word) : BooksOnly s (s.wr a v) := rfl
theorem BooksOnly.setLedger (s : State) (l : List LedgerEntry) : BooksOnly s { s with ledger := l } := rfl

theorem BooksOnly.logEv (s : State) (c : Nat) (l : List Nat) : BooksOnly s (s.logEv c l) := by
  rw [BooksOnly, State.logEv_eq]

theorem BooksOnly.ledgerAdd (s : State) (c x a : Nat) : BooksOnly s (s.ledgerAdd c x a) :=
  (((BooksOnly.setLedger s _).trans (BooksOnly.wr _ _ _)).trans (BooksOnly.wr _ _ _)).trans (BooksOnly.logEv _ _ _)

/-- The newest entry of the ledger. -/
theorem State.ledgerAdd_newest (s : State) (c x a : Nat) :
    (s.ledgerAdd c x a).ledger.getLast? = some { code := c, subject := x, arg := a, tick := s.shownTick } := by
  have hkept : (s.ledgerAdd c x a).ledger = (s.ledger ++
      [({ code := c, subject := x, arg := a, tick := s.shownTick } : LedgerEntry)]).drop (s.ledger.length + 1 - 1024) := by
    simp only [State.ledgerAdd, State.logEv, (State.logAt_desk _ _ _ _).2, State.bump, State.wr_ledger, List.length_append,
      List.length_singleton]
  rw [hkept, List.getLast?_drop, if_neg (by simp only [List.length_append, List.length_singleton]; omega), List.getLast?_concat]

/-! The bytes of a pane. -/

theorem Memory.length_readBytes (m : Memory) (a n : Nat) : (m.readBytes a n).length = n := by
  induction n generalizing a with
  | zero => rfl
  | succ n ih => exact congrArg (· + 1) (ih (a + 1))

theorem Memory.getElem_readBytes (m : Memory) (a n k : Nat) (hk : k < (m.readBytes a n).length) :
    (m.readBytes a n)[k] = m.read (a + k) := by
  induction n generalizing a k with
  | zero => exact absurd hk (Nat.not_lt_zero k)
  | succ n ih =>
    cases k with
    | zero => rfl
    | succ k =>
      have hrest : (m.readBytes a (n + 1))[k + 1] = m.read (a + 1 + k) := ih (a + 1) k (Nat.lt_of_succ_lt_succ hk)
      rw [hrest, Nat.add_assoc, Nat.add_comm 1 k]

/-- Bytes read where they were written. -/
theorem Memory.readBytes_writeBytes (m : Memory) (a : Nat) (l : List (BitVec 8)) : (m.writeBytes a l).readBytes a l.length = l := by
  refine List.ext_getElem (Memory.length_readBytes _ _ _) fun k hk hl => ?_
  rw [Memory.getElem_readBytes, Memory.read_writeBytes, dif_pos ⟨Nat.le_add_right a k, by omega⟩]
  simp only [Nat.add_sub_cancel_left]

theorem leNat_leBytes (n v : Nat) : leNat (leBytes n v) = v % 256 ^ n := by
  induction n generalizing v with
  | zero => rw [Nat.pow_zero, Nat.mod_one]; rfl
  | succ n ih =>
    have hbyte : (BitVec.ofNat 8 v).toNat = v % 256 := BitVec.toNat_ofNat v 8
    rw [leBytes, leNat, ih, hbyte, Nat.pow_succ', Nat.mod_mul]

theorem Pane.peekW_pokeW (q : Pane) (a : Nat) (v : Word) : (q.pokeW a v).peekW a = v := by
  have hbytes : (q.pokeW a v).bytes a 4 = leBytes 4 v.toNat := Memory.readBytes_writeBytes q.sram a (leBytes 4 v.toNat)
  rw [Pane.peekW, Pane.peek, hbytes, leNat_leBytes]
  refine BitVec.eq_of_toNat_eq ?_
  rw [BitVec.toNat_ofNat, show 256 ^ 4 = 2 ^ 32 from rfl, Nat.mod_mod]
  exact Nat.mod_eq_of_lt v.isLt

/-- A word whose bytes stay reads as before. -/
theorem Pane.peekW_congr {q r : Pane} {a : Nat} (h : ∀ b, a ≤ b → b < a + 4 → r.sram.read b = q.sram.read b) :
    r.peekW a = q.peekW a := by
  have hbytes : r.bytes a 4 = q.bytes a 4 := by
    refine List.ext_getElem ((Memory.length_readBytes _ _ _).trans (Memory.length_readBytes _ _ _).symm) fun k hk _ => ?_
    rw [Pane.bytes, Memory.length_readBytes] at hk
    exact (Memory.getElem_readBytes _ _ _ _ _).trans ((h _ (by omega) (by omega)).trans (Memory.getElem_readBytes _ _ _ _ _).symm)
  rw [Pane.peekW, Pane.peekW, Pane.peek, Pane.peek, hbytes]

/-! The copy of the state region (R135). -/

/-- The pane with the words of a region clean, and the region's bytes in place. -/
def Pane.copied (q : Pane) (a n : Nat) (l : List Byte) : Pane :=
  (wordsOf a n).foldl (fun q w => q.setEcc w .clean) { q with sram := Memory.writeBytes q.sram a l }

/-- Clean words leave the bytes. -/
theorem Pane.sram_foldl_setEcc (l : List Nat) (q : Pane) : (l.foldl (fun q w => q.setEcc w .clean) q).sram = q.sram := by
  induction l generalizing q with
  | nil => rfl
  | cons w r ih => exact ih (q.setEcc w .clean)

theorem Pane.read_copied (q : Pane) (a n : Nat) (src : Pane) (b : Nat) : (q.copied a n (src.bytes a n)).sram.read b =
    if a ≤ b ∧ b < a + n then src.sram.read b else q.sram.read b := by
  have hlen : (src.bytes a n).length = n := Memory.length_readBytes _ _ _
  rw [Pane.copied, Pane.sram_foldl_setEcc]
  refine (Memory.read_writeBytes _ _ _ _).trans ?_
  by_cases hb : a ≤ b ∧ b < a + n
  · rw [dif_pos (by rwa [hlen]), if_pos hb]
    refine (Memory.getElem_readBytes _ _ _ _ _).trans (congrArg src.sram.read ?_)
    omega
  · rw [dif_neg (by rwa [hlen]), if_neg hb]

theorem State.takeoverCopy_eq (s : State) (k : Nat) (x : Takeover) : s.takeoverCopy k x =
    (s.modPane x.spare (fun q => q.copied (s.region x).1 (s.region x).2
      ((s.pane x.twin).bytes (s.region x).1 (s.region x).2))).setTakeover k { x with stage := 1 } := rfl

theorem takeoverCopies : Claims.takeoverCopies := by
  intro s k x prim a n hk hstage htick hbase
  have hrun : execTakeoverStateCopy k s = .next (s.takeoverCopy k x) := by
    unfold execTakeoverStateCopy
    rw [hk]
    exact if_pos ⟨hstage, htick, hbase⟩
  have hpane (j : Nat) := s.pane_modPane x.spare j (fun q => q.copied a n ((s.pane x.twin).bytes a n))
  refine ⟨_, (exec_takeoverStateCopy k s).trans (hrun.trans (congrArg _ (s.takeoverCopy_eq k x))), rfl, fun b => ?_,
    fun j hj => ?_, rfl⟩
  · exact (congrArg (fun q : Pane => q.sram.read b) ((hpane x.spare).trans (if_pos rfl))).trans (Pane.read_copied _ _ _ _ _)
  · exact (hpane j).trans (if_neg hj.symm)

/-! The replay of logged writes (R135). -/

/-- The pane after the logged writes, in their order. -/
def Pane.replay (q : Pane) (l : List LoggedWrite) : Pane := l.foldl (fun q w => (q.pokeW w.addr w.word).setEcc w.addr .clean) q

theorem Pane.replay_cons (q : Pane) (w : LoggedWrite) (r : List LoggedWrite) :
    q.replay (w :: r) = ((q.pokeW w.addr w.word).setEcc w.addr .clean).replay r := rfl

/-- A replay changes the memory and its ECC alone. -/
theorem Pane.replay_rest (q : Pane) (l : List LoggedWrite) :
    q.replay l = { q with sram := (q.replay l).sram, ecc := (q.replay l).ecc } := by
  induction l generalizing q with
  | nil => rfl
  | cons w r ih =>
    rw [Pane.replay_cons, ih]
    rfl

/-- A byte that no logged write meets stays. -/
theorem Pane.read_replay_of_apart {b : Nat} {l : List LoggedWrite} (h : ∀ w ∈ l, b < w.addr ∨ w.addr + 4 ≤ b) (q : Pane) :
    (q.replay l).sram.read b = q.sram.read b := by
  induction l generalizing q with
  | nil => rfl
  | cons w r ih =>
    obtain ⟨hw, hr⟩ := List.forall_mem_cons.mp h
    rw [Pane.replay_cons, ih hr]
    exact (Pane.read_poke q w.addr 4 w.word.toNat b).trans (if_neg (by omega))

/-- A logged word stands as its last write left it. -/
theorem Pane.peekW_replay_last {w : LoggedWrite} {r : List LoggedWrite}
    (hr : ∀ y ∈ r, y.addr + 4 ≤ w.addr ∨ w.addr + 4 ≤ y.addr) (q : Pane) (l : List LoggedWrite) :
    (q.replay (l ++ w :: r)).peekW w.addr = w.word := by
  have hsplit : q.replay (l ++ w :: r) = (((q.replay l).pokeW w.addr w.word).setEcc w.addr .clean).replay r := by
    rw [Pane.replay, List.foldl_append]
    rfl
  have hlater : (q.replay (l ++ w :: r)).peekW w.addr = ((q.replay l).pokeW w.addr w.word).peekW w.addr := by
    rw [hsplit]
    refine Pane.peekW_congr fun b hb hb' => Pane.read_replay_of_apart (fun y hy => ?_) _
    have hy' := hr y hy
    omega
  exact hlater.trans (Pane.peekW_pokeW _ _ _)

section
variable {s : State} {x : Takeover} {o : Nat}

/-- A log that is not too long is replayed (R135). -/
theorem State.takeoverReplay_short (k : Nat) (h : (x.log.filter (fun w => decide (w.tick < o))).length ≤ 1024) :
    s.takeoverReplay k x o = (s.modPane x.spare (fun q => q.replay (x.log.filter (fun w => decide (w.tick < o))))).setTakeover k
      { x with log := x.log.filter (fun w => !decide (w.tick < o)) } := if_neg (Nat.not_lt.mpr h)

/-- A longer one restarts the copy (R136). -/
theorem State.takeoverReplay_long (k : Nat) (h : 1024 < (x.log.filter (fun w => decide (w.tick < o))).length) : s.takeoverReplay k x o =
    (s.setTakeover k { x with stage := 0, base := o, log := x.log.filter (fun w => !decide (w.tick < o)) }).ledgerAdd 0x0309 x.spare
      (x.log.filter (fun w => decide (w.tick < o))).length := if_pos h

end

theorem takeoverReplays : Claims.takeoverReplays := by
  intro s k x o old hk hstage
  have hrun : exec (.takeoverLogReplay k) s = .next (s.takeoverReplay k x o) := by
    rw [exec_takeoverLogReplay, execTakeoverLogReplay, hk]
    exact if_neg hstage
  refine ⟨fun hshort => ?_, fun hlong => ?_⟩
  · have hpane (j : Nat) := s.pane_modPane x.spare j (fun q => q.replay old)
    have hspare := (hpane x.spare).trans (if_pos rfl)
    rw [State.takeoverReplay_short k hshort] at hrun
    refine ⟨_, hrun, rfl, fun l w r hold hr => ?_, fun b hb => ?_, fun j hj => (hpane j).trans (if_neg hj.symm)⟩
    · refine (congrArg (fun q : Pane => q.peekW w.addr) hspare).trans ?_
      rw [hold]
      exact Pane.peekW_replay_last hr _ l
    · exact (congrArg (fun q : Pane => q.sram.read b) hspare).trans (Pane.read_replay_of_apart hb _)
  · rw [State.takeoverReplay_long k hlong] at hrun
    refine ⟨_, hrun, ?_, ?_, ?_⟩
    · exact (State.ledgerAdd_desk _ _ _ _).2.1
    · rw [BooksOnly.ledgerAdd]
      rfl
    · rw [State.ledgerAdd_newest]
      rfl

end Sys2Proof.Machine
end

section
/-!
PROOF. New routes at a boundary (R125).
-/
namespace Sys2Proof.Machine

open Sys2Proof (Instr)

/-! A step of the coming boundary. -/

/-- What a step of the coming boundary sees. -/
def State.earlyStart (s : State) : State := { s with tick := s.nextTick, inBnd := true, stamps := s.stamps.set 0 s.nextStamp }

/-- The state that such a step leaves, before BOUNDARY itself. -/
def State.earlyEnd (s r : State) : State := { r with tick := s.tick, inBnd := false, stamps := s.stamps }

theorem State.early_eq (s : State) (f : State → State) : s.early f = s.earlyEnd (f s.earlyStart) := rfl

/-- A step that does nothing leaves the state between boundaries. -/
theorem State.earlyEnd_earlyStart {s : State} (h : s.inBnd = false) : s.earlyEnd s.earlyStart = s :=
  congrArg (fun b => { s with inBnd := b }) h.symm

/-- What the step does to the panes, the takeovers and the events stays. -/
theorem State.earlyEnd_keeps (s r : State) : (∀ n, (s.earlyEnd r).pane n = r.pane n) ∧ (s.earlyEnd r).takeovers = r.takeovers ∧
    (s.earlyEnd r).arrivals = r.arrivals := ⟨fun _ => rfl, rfl, rfl⟩

/-! The routes. -/

/-- The routers that the routes go round, the reports whose routes are due, and the messages under way. -/
def State.routing (s : State) : List Nat × List (Nat × Nat) × List Msg := (s.routedAround, s.routesDue, s.mesh)

theorem State.routing_modPane (s : State) (p : Nat) (f : Pane → Pane) : (s.modPane p f).routing = s.routing := rfl

theorem State.routing_ledgerAdd (s : State) (c x a : Nat) : (s.ledgerAdd c x a).routing = s.routing := by
  rw [BooksOnly.ledgerAdd]
  rfl

theorem State.routing_markDead (s : State) (r : Nat) : (s.markDead r).routing = s.routing := by
  refine foldl_keeps State.routing _ s fun t n _ => ?_
  split
  · exact t.routing_modPane _ _
  · rfl

/-- The lintel's relays lie beside the routes. -/
theorem State.routing_assignRelays (s : State) : s.assignRelays.routing = s.routing := by
  have hset (t : State) (l : SMap Nat) : State.routing { t with relays := l } = t.routing := rfl
  refine (hset _ _).trans ((foldl_keeps State.routing _ _ fun t c _ => ?lost).trans
    ((foldl_keeps State.routing _ _ fun t r _ => t.routing_modPane _ _).trans (foldl_keeps State.routing _ _ fun t p _ => ?clear)))
  case lost =>
    split
    · exact t.routing_ledgerAdd _ _ _
    · rfl
  case clear =>
    split
    · exact t.routing_modPane _ _
    · rfl

/-- The state with the due routes taken into account, before the latches and the relays learn of them. -/
def State.routesTaken (s : State) (c : Nat) : State :=
  { s with routesDue := s.routesDue.filter (fun x => !decide (x.2 + 1000 ≤ c)),
           routedAround := s.routedAround ++ (s.routesDue.filter (fun x => decide (x.2 + 1000 ≤ c))).map Prod.fst }

theorem State.installRoutes_due {s : State} {c : Nat} (h : s.routesDue.any (fun x => decide (x.2 + 1000 ≤ c)) = true) :
    (s.installRoutes c).routing = (s.routesTaken c).routing := by
  have hdue : ¬ (s.routesDue.filter (fun x => decide (x.2 + 1000 ≤ c))).isEmpty = true := by
    rw [List.isEmpty_iff, List.filter_eq_nil_iff]
    obtain ⟨x, hx, hxc⟩ := List.any_eq_true.mp h
    exact fun hnone => hnone x hx hxc
  have hinstall : s.installRoutes c = ((s.routesDue.filter (fun x => decide (x.2 + 1000 ≤ c))).foldl (fun s x => s.markDead x.1)
      (s.routesTaken c)).assignRelays := if_neg hdue
  rw [hinstall, State.routing_assignRelays]
  exact foldl_keeps State.routing _ _ fun t x _ => t.routing_markDead x.1

theorem State.installRoutes_none {s : State} {c : Nat} (h : s.routesDue.any (fun x => decide (x.2 + 1000 ≤ c)) = false) :
    s.installRoutes c = s := by
  refine if_pos ?_
  rw [List.isEmpty_iff, List.filter_eq_nil_iff]
  exact fun x hx hxc => Bool.eq_false_iff.mp h (List.any_eq_true.mpr ⟨x, hx, hxc⟩)

theorem routesInstalled : Claims.routesInstalled := by
  intro s hgen hbnd due
  have hrun : exec .routeInstall s = .next (s.earlyEnd (s.earlyStart.installRoutes s.gen.nextNs)) := by
    rw [exec_routeInstall, execRouteInstall, if_pos hgen]
    rfl
  refine ⟨fun hdue => ⟨_, hrun, ?_⟩, fun hnone => ?_⟩
  · have hrouting : (s.earlyStart.installRoutes s.gen.nextNs).routing = (s.earlyStart.routesTaken s.gen.nextNs).routing :=
      State.installRoutes_due (s := s.earlyStart) hdue
    obtain ⟨haround, hrest⟩ := Prod.mk.inj hrouting
    obtain ⟨hlater, hmesh⟩ := Prod.mk.inj hrest
    exact ⟨haround, hlater, rfl, hmesh⟩
  · rw [hrun, State.installRoutes_none (s := s.earlyStart) hnone, State.earlyEnd_earlyStart hbnd]

end Sys2Proof.Machine
end

section
/-!
PROOF. The outgoing entries that name a pane, changed in every sender's tables (R131, R135).
-/
namespace Sys2Proof.Machine

open Sys2Proof (Instr)

/-! Words that name a pane. -/

theorem Word.ext_bit {w v : Word} (h : ∀ j, w.bit j = v.bit j) : w = v := BitVec.eq_of_getLsbD_eq fun j _ => h j

theorem Word.withBit_true (w : Word) {i : Nat} (hi : i < 32) : w.withBit i true = w ||| (1#32 <<< i) := by
  refine Word.ext_bit fun j => ?_
  rw [Word.bit_withBit w hi, Word.bit_or_shift w hi]
  by_cases hij : i = j
  · rw [if_pos hij, decide_eq_true hij.symm, Bool.or_true]
  · rw [if_neg hij, decide_eq_false (Ne.symm hij), Bool.or_false]

/-- A bit that is set already stays so. -/
theorem Word.withBit_withBit (w : Word) {i : Nat} (hi : i < 32) (b : Bool) : (w.withBit i b).withBit i b = w.withBit i b := by
  refine Word.ext_bit fun j => ?_
  rw [Word.bit_withBit _ hi, Word.bit_withBit _ hi]
  exact ite_eq_right_iff.mpr fun hij => (if_pos hij).symm

/-- A field that holds the value already stays so, and so does a bit above it. -/
theorem Word.renamed_twice (w : Word) (v : Nat) (b : Bool) :
    ((((w.withFld 6 10 v).withBit 22 b).withFld 6 10 v).withBit 22 b) = (w.withFld 6 10 v).withBit 22 b := by
  refine Word.ext_bit fun j => ?_
  simp only [Word.bit_withBit _ (show 22 < 32 by decide), Word.bit_withFld _ (show 6 + 10 ≤ 32 by decide)]
  split
  · rfl
  · split <;> rfl

/-- The entry word names pane p of part dev (R106, R131). -/
def namesPane (dev p : Nat) (w : Word) : Bool := w.bit 31 && !w.bit 19 && w.fld 6 10 == p && w.fld 16 3 == dev

theorem names_eq (s : State) (p : Nat) (w : Word) : Claims.names s p w = namesPane s.partNo p w := rfl

/-- What a change of the entries that name pane p makes of an entry. -/
def entryMap (dev p : Nat) (f : Word → Word) (w : Word) : Word := if namesPane dev p w then f w else w

theorem entryMap_twice {dev p : Nat} {f : Word → Word} (hf : ∀ w, f (f w) = f w) (w : Word) :
    entryMap dev p f (entryMap dev p f w) = entryMap dev p f w := by
  unfold entryMap
  by_cases hw : namesPane dev p w
  · simp only [if_pos hw, hf, ite_self]
  · simp only [if_neg hw]

/-- No entry is named by a pane that never was set up. -/
theorem entryMap_zero (dev p : Nat) (f : Word → Word) : entryMap dev p f 0 = 0 := if_neg Bool.false_ne_true

/-! The entries of one pane. -/

/-- The outgoing entries of pane q become those of pane t by g, and nothing else of the pane differs. -/
structure EntriesMapped (g : Word → Word) (q t : Pane) : Prop where
  rest : t = { q with ctl := t.ctl }
  entry : ∀ e < 64, t.cr (0x200 + 8 * e) = g (q.cr (0x200 + 8 * e))
  other : ∀ a, (∀ e < 64, a ≠ 0x200 + 8 * e) → t.cr a = q.cr a

theorem EntriesMapped.again {g : Word → Word} {q t u : Pane} (hg : ∀ w, g (g w) = g w) (h : EntriesMapped g q t)
    (h' : EntriesMapped g t u) : EntriesMapped g q u := by
  refine ⟨?_, fun e he => ?_, fun a ha => (h'.other a ha).trans (h.other a ha)⟩
  · rw [h'.rest, h.rest]
  · rw [h'.entry e he, h.entry e he, hg]

theorem EntriesMapped.role {g : Word → Word} {q t : Pane} (h : EntriesMapped g q t) : t.role = q.role := by
  rw [Pane.role, Pane.role, h.other 0 (fun e _ => by omega)]

theorem EntriesMapped.phase {g : Word → Word} {q t : Pane} (h : EntriesMapped g q t) : t.phase = q.phase := by rw [h.rest]

/-- One entry of a pane. -/
def Pane.mapEntry (dev p : Nat) (f : Word → Word) (q : Pane) (e : Nat) : Pane :=
  if namesPane dev p (q.cr (0x200 + 8 * e)) then q.setCr (0x200 + 8 * e) (f (q.cr (0x200 + 8 * e))) else q

section
variable (dev p : Nat) (f : Word → Word)

theorem Pane.cr_mapEntry (q : Pane) (e a : Nat) : (q.mapEntry dev p f e).cr a =
    if 0x200 + 8 * e = a then entryMap dev p f (q.cr a) else q.cr a := by
  unfold Pane.mapEntry entryMap
  by_cases hn : namesPane dev p (q.cr (0x200 + 8 * e))
  · rw [if_pos hn, Pane.cr_setCr]
    by_cases ha : 0x200 + 8 * e = a
    · subst ha
      rw [if_pos rfl, if_pos rfl, if_pos hn]
    · rw [if_neg ha, if_neg ha]
  · rw [if_neg hn]
    by_cases ha : 0x200 + 8 * e = a
    · subst ha
      rw [if_pos rfl, if_neg hn]
    · rw [if_neg ha]

theorem Pane.mapEntry_rest (q : Pane) (e : Nat) : q.mapEntry dev p f e = { q with ctl := (q.mapEntry dev p f e).ctl } := by
  unfold Pane.mapEntry
  split <;> rfl

/-- All entries of a pane. -/
def Pane.mapEntries (q : Pane) : Pane := (List.range 64).foldl (Pane.mapEntry dev p f) q

theorem Pane.mapEntries_mapped (q : Pane) : EntriesMapped (entryMap dev p f) q (q.mapEntries dev p f) := by
  have hfirst (k : Nat) : let t := (List.range k).foldl (Pane.mapEntry dev p f) q
      t = { q with ctl := t.ctl } ∧ (∀ e < k, t.cr (0x200 + 8 * e) = entryMap dev p f (q.cr (0x200 + 8 * e))) ∧
        ∀ a, (∀ e < k, a ≠ 0x200 + 8 * e) → t.cr a = q.cr a := by
    induction k with
    | zero => exact ⟨rfl, fun e he => absurd he (Nat.not_lt_zero e), fun _ _ => rfl⟩
    | succ k ih =>
      obtain ⟨hrest, hentry, hother⟩ := ih
      rw [List.range_succ, List.foldl_append, List.foldl_cons, List.foldl_nil]
      refine ⟨?_, fun e he => ?_, fun a ha => ?_⟩
      · rw [Pane.mapEntry_rest, hrest]
      · rw [Pane.cr_mapEntry]
        by_cases hek : e = k
        · rw [if_pos (by rw [hek]), hother _ (by omega)]
        · rw [if_neg (by omega), hentry e (by omega)]
      · rw [Pane.cr_mapEntry, if_neg (ha k (Nat.lt_succ_self k)).symm, hother a fun e he => ha e (by omega)]
  obtain ⟨hrest, hentry, hother⟩ := hfirst 64
  exact ⟨hrest, hentry, hother⟩

end

/-! The entries of every pane. -/

theorem SMap.get_of_not_mem_keys {α : Type} (d : Nat → α) {m : SMap α} {n : Nat} (h : n ∉ SMap.keys m) : SMap.get d m n = d n := by
  have hnone : SMap.at? m n = none := by
    induction m with
    | nil => rfl
    | cons e r ih =>
      obtain ⟨hne, hr⟩ := not_or.mp (mt List.mem_cons.mpr h)
      exact (if_neg (Ne.symm hne)).trans (ih hr)
  rw [SMap.get, hnone]
  rfl

/-- The state with the entries of pane n changed. -/
def State.mapPane (p : Nat) (f : Word → Word) (s : State) (n : Nat) : State := s.setPane n ((s.pane n).mapEntries s.partNo p f)

theorem State.mapEntriesTo_eq (s : State) (p : Nat) (f : Word → Word) :
    s.mapEntriesTo p f = (SMap.keys s.panes).foldl (State.mapPane p f) s := rfl

section
variable {p : Nat} {f : Word → Word}

/-- Every entry that names pane p is changed, and nothing else of the part. -/
theorem foldl_mapPane (hf : ∀ w, f (f w) = f w) (l : List Nat) (s : State) : let t := l.foldl (State.mapPane p f) s
    t = { s with panes := t.panes } ∧ (∀ n ∈ l, EntriesMapped (entryMap s.partNo p f) (s.pane n) (t.pane n)) ∧
      ∀ n, n ∉ l → t.pane n = s.pane n := by
  induction l generalizing s with
  | nil => exact ⟨rfl, fun n hn => absurd hn List.not_mem_nil, fun _ _ => rfl⟩
  | cons x r ih =>
    obtain ⟨hrest, hmapped, hother⟩ := ih (s.mapPane p f x)
    have hpane (n : Nat) : (s.mapPane p f x).pane n = if x = n then (s.pane x).mapEntries s.partNo p f else s.pane n :=
      s.pane_setPane x n _
    have hx : EntriesMapped (entryMap s.partNo p f) (s.pane x) ((s.mapPane p f x).pane x) := by
      rw [hpane, if_pos rfl]
      exact Pane.mapEntries_mapped _ _ _ _
    refine ⟨hrest, fun n hn => ?_, fun n hn => ?_⟩
    · rw [List.foldl_cons]
      by_cases hnr : n ∈ r
      · have hlater : EntriesMapped (entryMap s.partNo p f) ((s.mapPane p f x).pane n) _ := hmapped n hnr
        by_cases hxn : x = n
        · subst hxn
          exact hx.again (entryMap_twice hf) hlater
        · rw [hpane, if_neg hxn] at hlater
          exact hlater
      · obtain rfl : n = x := (List.mem_cons.mp hn).resolve_right hnr
        rw [hother n hnr]
        exact hx
    · obtain ⟨hnx, hnr⟩ := not_or.mp (mt List.mem_cons.mpr hn)
      rw [List.foldl_cons, hother n hnr, hpane, if_neg (Ne.symm hnx)]

/-- Every entry of the part that names pane p is changed. -/
theorem State.mapEntriesTo_mapped (hf : ∀ w, f (f w) = f w) (s : State) (n : Nat) :
    EntriesMapped (entryMap s.partNo p f) (s.pane n) ((s.mapEntriesTo p f).pane n) := by
  obtain ⟨-, hmapped, hother⟩ := foldl_mapPane (p := p) hf (SMap.keys s.panes) s
  by_cases hn : n ∈ SMap.keys s.panes
  · exact hmapped n hn
  · have hreset : s.pane n = Pane.reset := SMap.get_of_not_mem_keys _ hn
    have hsame : (s.mapEntriesTo p f).pane n = s.pane n := hother n hn
    rw [hsame, hreset]
    have hzero (e : Nat) : Pane.reset.cr (0x200 + 8 * e) = 0 := if_neg (by omega)
    exact ⟨rfl, fun e _ => by rw [hzero, entryMap_zero], fun _ _ => rfl⟩

theorem State.mapEntriesTo_rest (hf : ∀ w, f (f w) = f w) (s : State) :
    s.mapEntriesTo p f = { s with panes := (s.mapEntriesTo p f).panes } := by
  rw [State.mapEntriesTo_eq]
  exact (foldl_mapPane hf (SMap.keys s.panes) s).1

end

end Sys2Proof.Machine
end

section
/-!
PROOF. The retirement of a pane (R131, R138).
-/
namespace Sys2Proof.Machine

open Sys2Proof (Instr)

/-! What follows the mark leaves the pane retired. -/

/-- The control registers and the phase of every pane, the retirements that are due, and the panes that FAULT shows stay. -/
structure StandsRetired (s t : State) : Prop where
  pane : ∀ n, (t.pane n).ctl = (s.pane n).ctl ∧ (t.pane n).phase = (s.pane n).phase
  due : t.retireDue = s.retireDue
  shown : ∀ i < 32, t.rd (Config.fault + 0x20 + 4 * i) = s.rd (Config.fault + 0x20 + 4 * i)

/-- A register that does not show retired panes. -/
abbrev notShown (a : Nat) : Prop := a < Config.fault + 0x20 ∨ Config.fault + 0xA0 ≤ a

section
variable {s t u : State}

theorem StandsRetired.refl (s : State) : StandsRetired s s := ⟨fun _ => ⟨rfl, rfl⟩, rfl, fun _ _ => rfl⟩

theorem StandsRetired.trans (h : StandsRetired s t) (h' : StandsRetired t u) : StandsRetired s u := by
  refine ⟨fun n => ?_, h'.due.trans h.due, fun i hi => (h'.shown i hi).trans (h.shown i hi)⟩
  obtain ⟨hctl, hphase⟩ := h.pane n
  obtain ⟨hctl', hphase'⟩ := h'.pane n
  exact ⟨hctl'.trans hctl, hphase'.trans hphase⟩

/-- What touches neither panes nor those registers. -/
theorem StandsRetired.of_same (hpanes : t.panes = s.panes) (hdue : t.retireDue = s.retireDue) (hreg : t.reg = s.reg) :
    StandsRetired s t :=
  ⟨fun n => by rw [State.pane_congr hpanes]; exact ⟨rfl, rfl⟩, hdue, fun _ _ => congrArg (fun m => RegFile.rd devReset m _) hreg⟩

theorem StandsRetired.wr (s : State) {a : Nat} (ha : notShown a) (v : Word) : StandsRetired s (s.wr a v) :=
  ⟨fun _ => ⟨rfl, rfl⟩, rfl, fun i hi => (s.rd_wr _ _ _).trans (if_neg (by omega))⟩

theorem StandsRetired.modPane (s : State) (p : Nat) {f : Pane → Pane} (hf : ∀ q, (f q).ctl = q.ctl ∧ (f q).phase = q.phase) :
    StandsRetired s (s.modPane p f) := by
  refine ⟨fun n => ?_, rfl, fun _ _ => rfl⟩
  rw [State.pane_modPane]
  split
  next heq => subst heq; exact hf _
  next => exact ⟨rfl, rfl⟩

theorem StandsRetired.ite {c : Prop} [Decidable c] (h : StandsRetired s t) (h' : StandsRetired s u) :
    StandsRetired s (if c then t else u) := by
  split
  · exact h
  · exact h'

theorem StandsRetired.foldl {α : Type} {f : State → α → State} (l : List α) (s : State)
    (hf : ∀ t, ∀ x ∈ l, StandsRetired t (f t x)) :
    StandsRetired s (l.foldl f s) := by
  induction l generalizing s with
  | nil => exact StandsRetired.refl s
  | cons x r ih => exact (hf s x List.mem_cons_self).trans (ih _ fun t y hy => hf t y (List.mem_cons_of_mem x hy))

theorem StandsRetired.logEv (s : State) (c : Nat) (l : List Nat) : StandsRetired s (s.logEv c l) :=
  StandsRetired.of_same (s.logEv_panes c l) (State.logAt_desk s s.tick c l).1.2.2.2 (s.logEv_reg c l)

theorem StandsRetired.setLedger (s : State) (l : List LedgerEntry) : StandsRetired s { s with ledger := l } :=
  StandsRetired.of_same rfl rfl rfl

theorem StandsRetired.ledgerAdd (s : State) (c x a : Nat) : StandsRetired s (s.ledgerAdd c x a) :=
  (((StandsRetired.setLedger s _).trans (StandsRetired.wr _ (.inl (by decide)) _)).trans
    (StandsRetired.wr _ (.inl (by decide)) _)).trans (StandsRetired.logEv _ _ _)

end

/-! The parts of a retirement (R128, R312, R382, R484, R585). -/

section
variable (s : State)

theorem State.fatal_reg (c : Cause) : (s.fatal c).reg = s.reg := by
  have hbolt : s.boltFault.reg = s.reg := by
    unfold State.boltFault
    dsimp only
    split <;> rfl
  have hlog (t : State) (k : Nat) (p : PartState) (l : List Nat) : (t.logState k p l).reg = t.reg := by
    rw [State.logState, State.logAt_eq]
  unfold State.fatal
  split
  · rfl
  · dsimp only
    split
    · exact hbolt
    · exact (hlog _ _ _ _).trans hbolt

theorem StandsRetired.fatal (c : Cause) : StandsRetired s (s.fatal c) := by
  obtain ⟨⟨-, hpanes, -, hdue⟩, -⟩ := s.fatal_desk c
  exact StandsRetired.of_same hpanes hdue (s.fatal_reg c)

theorem StandsRetired.notContained (c a : Nat) : StandsRetired s (s.notContained c a) :=
  (StandsRetired.refl s).ite (((StandsRetired.wr s (.inl (by decide)) _).trans (StandsRetired.ledgerAdd _ _ _ _)).trans
    (StandsRetired.fatal _ _))

theorem StandsRetired.contain (c : Nat) : StandsRetired s (s.contain c) := by
  unfold State.contain
  split
  · exact StandsRetired.notContained s _ _
  · split
    · exact StandsRetired.notContained s _ _
    · exact StandsRetired.refl s

theorem notShown_bell {k o : Nat} (hk : k < 64) (ho : o < 0x200) : notShown (Config.bell k + o) := by
  simp only [notShown, Config.bell, Config.fault]
  omega

theorem sashOf_lt {p : Nat} (hp : p < 1024) : sashOf p < 64 := by
  unfold sashOf
  omega

theorem StandsRetired.bellWaits {k : Nat} (hk : k < 64) : StandsRetired s (s.bellWaits k) := by
  have hset (t : State) (b : Bell) : StandsRetired t (t.setBell k b) := StandsRetired.of_same rfl rfl rfl
  exact StandsRetired.foldl _ s fun t j _ => ((hset t _).trans (StandsRetired.wr _ (notShown_bell hk (by decide)) _)).ite
    (StandsRetired.refl t)

/-- A record left in the queue of a retired pane p, with registers as in q, is counted and logged (R312). -/
def Pane.recordDropped (q : Pane) (p : Nat) (s : State) (x : Nat) : State :=
  (s.bump (Config.bell (sashOf p) + 0xE0) 16 1).logEv 0x7F01
    [p, (q.peekW x).fld 0 6, (q.peekW x).fld 16 8, (q.peekW (x + 4)).fld 0 16]

/-- The bit of a retired pane p leaves TARGETS mask j of its bell (R312). -/
def targetDropped (p : Nat) (s : State) (j : Nat) : State :=
  let r := Config.bell (sashOf p) + 8 * j + 4
  let t := s.clrBits r (1#32 <<< posInSash p)
  if (s.rd r).bit (posInSash p) && t.targets (sashOf p) j == 0 then t.logEv 0x7F02 [sashOf p, j] else t

/-- A pane with an empty queue. -/
def Pane.queueCleared (q : Pane) : Pane := { q with evUnclaimed := 0, evUsed := 0, evDone := [], evStack := [] }

/-- The records that the pane has not taken. -/
def Pane.liveRecords (q : Pane) : List Nat :=
  ((List.range q.evUsed).map (fun i => q.evAddr ((q.evFree + i) % max q.evSlots 1))).filter
    (fun x => !q.evDone.any (fun d => q.evAddr d == x))

theorem State.bellRetire_eq (p : Nat) : s.bellRetire p = (((List.range 8).foldl (targetDropped p)
    ((s.pane p).liveRecords.foldl ((s.pane p).recordDropped p) s)).modPane p Pane.queueCleared).bellWaits (sashOf p) := rfl

theorem StandsRetired.bellRetire {p : Nat} (hp : p < 1024) : StandsRetired s (s.bellRetire p) := by
  have hk := sashOf_lt hp
  have hrecord (t : State) (x : Nat) : StandsRetired t ((s.pane p).recordDropped p t x) :=
    (StandsRetired.wr t (notShown_bell hk (by decide)) _).trans (StandsRetired.logEv _ _ _)
  have htarget (t : State) (j : Nat) (hj : j < 8) : StandsRetired t (targetDropped p t j) := by
    have hclear : StandsRetired t (t.clrBits (Config.bell (sashOf p) + 8 * j + 4) (1#32 <<< posInSash p)) :=
      StandsRetired.wr t (by rw [Nat.add_assoc]; exact notShown_bell hk (by omega)) _
    exact (hclear.trans (StandsRetired.logEv _ _ _)).ite hclear
  have hclear (t : State) : StandsRetired t (t.modPane p Pane.queueCleared) := StandsRetired.modPane t p fun _ => ⟨rfl, rfl⟩
  rw [State.bellRetire_eq]
  refine StandsRetired.trans ?_ (StandsRetired.bellWaits _ hk)
  refine StandsRetired.trans ?_ (hclear _)
  exact (StandsRetired.foldl _ s fun t x _ => hrecord t x).trans
    (StandsRetired.foldl _ _ fun t j hj => htarget t j (List.mem_range.mp hj))

/-- A group with root p moves to its backup, and its coming result is held (R128). -/
def rootMoved (p : Nat) (s : State) (g : Nat) : State :=
  let w := s.groupReg g
  if w.bit 31 && w.fld 4 10 == p then
    let b := w.fld 14 10
    let t : State := { s with redHeld := s.redHeld ++ [g] }
    if b = p || (s.pane b).retired then t else (t.wr (Config.transom + 0x100 + 4 * g) (w.withFld 4 10 b)).ledgerAdd 0x030C g b
  else s

theorem State.moveRoots_eq (p : Nat) : s.moveRoots p = (List.range 16).foldl (rootMoved p) s := rfl

theorem StandsRetired.moveRoots (p : Nat) : StandsRetired s (s.moveRoots p) := by
  rw [State.moveRoots_eq]
  refine StandsRetired.foldl _ s fun t g hg => ?_
  have hg16 := List.mem_range.mp hg
  have hheld : StandsRetired t { t with redHeld := t.redHeld ++ [g] } := StandsRetired.of_same rfl rfl rfl
  have hgroup : notShown (Config.transom + 0x100 + 4 * g) := by
    simp only [notShown, Config.transom, Config.fault]
    omega
  exact (hheld.ite ((hheld.trans (StandsRetired.wr _ hgroup _)).trans (StandsRetired.ledgerAdd _ _ _ _))).ite (StandsRetired.refl t)

theorem StandsRetired.dropRequests (p : Nat) : StandsRetired s (s.dropRequests p) := by
  have hset (b : Nat) (l : List KhReq) : StandsRetired s (s.setKeyhole b l) := StandsRetired.of_same rfl rfl rfl
  unfold State.dropRequests
  dsimp only
  split
  · exact StandsRetired.refl s
  · exact (hset _ _).trans (StandsRetired.foldl _ _ fun t _ _ => StandsRetired.logEv t _ _)

theorem StandsRetired.beginTakeover (p prim : Nat) : StandsRetired s (s.beginTakeover p prim) := by
  have hdom (d : Nat) (x : Dom) : StandsRetired s (s.setDom d x) := StandsRetired.of_same rfl rfl rfl
  have hnoted (t : State) (l : List Takeover) (x : Nat) :
      StandsRetired t ((({ t with takeovers := l } : State).ledgerAdd 0x0307 x p).edge allBells 26 x) :=
    (StandsRetired.of_same rfl rfl rfl : StandsRetired t { t with takeovers := l }).trans
      ((StandsRetired.ledgerAdd _ _ _ _).trans (StandsRetired.of_same rfl rfl rfl))
  unfold State.beginTakeover
  split
  · exact ((StandsRetired.refl s).ite (hdom _ _)).trans (hnoted _ _ _)
  · exact StandsRetired.refl s

end

/-! The mark (R131). -/

/-- Pane p is marked retired, and runs no more. -/
def Pane.markRetired (q : Pane) : Pane :=
  { q.setCr 0 ((q.cr 0).withBit 2 true) with phase := if q.phase == .halted then .halted else .idle, entry := none, awaits := false }

theorem Pane.cr_markRetired (q : Pane) (a : Nat) : q.markRetired.cr a = if 0 = a then (q.cr 0).withBit 2 true else q.cr a :=
  q.cr_setCr 0 a _

/-- The state with the mark of pane p, whose retirement is due no more. -/
def State.marked (s : State) (p : Nat) : State :=
  ({ s with retireDue := s.retireDue.filter (fun r => r.1 != p) } : State).modPane p Pane.markRetired

/-- DISCARD of an entry (R131). -/
def discarding (w : Word) : Word := w.withBit 22 true

theorem discarding_twice (w : Word) : discarding (discarding w) = discarding w := Word.withBit_withBit w (by decide) true

/-- The marked state with DISCARD in every entry that names pane p, and its bit in FAULT. -/
def State.markRetired (s : State) (p : Nat) : State :=
  (((s.marked p).mapEntriesTo p discarding).bump (Config.fault + 8) 11 1).setBits (Config.fault + 0x20 + 4 * (p / 32))
    (1#32 <<< (p % 32))

theorem State.retireNow_stands {s : State} {p : Nat} (hp : p < 1024) (hlive : (s.pane p).retired = false) (code : Nat) :
    StandsRetired (s.markRetired p) (s.retireNow p code) := by
  have hgo : s.retireNow p code = _ := if_neg (ne_true_of_eq_false hlive)
  rw [hgo]
  have hlog := (((StandsRetired.ledgerAdd (s.markRetired p) 0x0303 p code).trans (StandsRetired.bellRetire _ hp)).trans
    (StandsRetired.moveRoots _ p)).trans (StandsRetired.dropRequests _ p)
  exact (hlog.trans ((StandsRetired.beginTakeover _ p _).ite (StandsRetired.refl _))).trans (StandsRetired.contain _ code)

/-- The counts and the bits of FAULT stand apart from the panes and from what is due. -/
theorem State.faultShown_keeps (s : State) (a b : Nat) (m : Word) :
    (∀ n, ((s.bump a 11 1).setBits b m).pane n = s.pane n) ∧ ((s.bump a 11 1).setBits b m).retireDue = s.retireDue :=
  ⟨fun _ => rfl, rfl⟩

section
variable (s : State) (p : Nat)

theorem State.pane_marked (n : Nat) : (s.marked p).pane n = if p = n then (s.pane p).markRetired else s.pane n :=
  State.pane_modPane { s with retireDue := s.retireDue.filter (fun r => r.1 != p) } p n Pane.markRetired

/-- The senders' entries of the state with the mark. -/
theorem State.markRetired_mapped (n : Nat) : EntriesMapped (entryMap s.partNo p discarding)
    (if p = n then (s.pane p).markRetired else s.pane n) ((s.markRetired p).pane n) := by
  rw [← State.pane_marked, State.markRetired, (State.faultShown_keeps _ _ _ _).1]
  exact (s.marked p).mapEntriesTo_mapped discarding_twice n

theorem State.markRetired_entry (n : Nat) {e : Nat} (he : e < 64) : ((s.markRetired p).pane n).cr (0x200 + 8 * e) =
    entryMap s.partNo p discarding ((s.pane n).cr (0x200 + 8 * e)) := by
  rw [(s.markRetired_mapped p n).entry e he]
  by_cases hn : p = n
  · subst hn
    rw [if_pos rfl, Pane.cr_markRetired, if_neg (by omega)]
  · rw [if_neg hn]

/-- TASK of the retired pane. -/
theorem State.markRetired_task : ((s.markRetired p).pane p).cr 0 = ((s.pane p).cr 0).withBit 2 true := by
  rw [(s.markRetired_mapped p p).other 0 (fun e _ => by omega), if_pos rfl, Pane.cr_markRetired, if_pos rfl]

theorem State.markRetired_phase :
    ((s.markRetired p).pane p).phase = if (s.pane p).phase == .halted then .halted else .idle := by
  rw [(s.markRetired_mapped p p).phase, if_pos rfl]
  rfl

theorem State.markRetired_due : (s.markRetired p).retireDue = s.retireDue.filter (fun r => r.1 != p) := by
  rw [State.markRetired, (State.faultShown_keeps _ _ _ _).2, State.mapEntriesTo_rest discarding_twice]
  rfl

theorem State.markRetired_shown : ((s.markRetired p).rd (Config.fault + 0x20 + 4 * (p / 32))).bit (p % 32) = true := by
  have hp : p % 32 < 32 := Nat.mod_lt _ (by decide)
  rw [State.markRetired, State.rd_setBits, if_pos rfl, Word.bit_or_shift _ hp, decide_eq_true rfl, Bool.or_true]

end

theorem paneRetires : Claims.paneRetires := by
  intro s p r q hgen hdue hlive
  have hp : p.toNat < 1024 := p.isLt
  obtain ⟨hr, -⟩ := Bool.and_eq_true_iff.mp
    (List.find?_some (p := fun x : Nat × Nat × Nat => x.1 == p.toNat && decide (x.2.2 ≤ s.gen.nextNs)) hdue)
  have hrp : r.1 = p.toNat := beq_iff_eq.mp hr
  have hrun : exec (.paneRetirement p) s = .next (s.earlyEnd (s.earlyStart.retireNow p.toNat r.2.1)) := by
    rw [exec_paneRetirement, execPaneRetirement, if_neg (by rw [hgen]; decide), hdue, ← hrp]
    rfl
  have hstands := State.retireNow_stands (s := s.earlyStart) hp hlive r.2.1
  obtain ⟨hctl, hphase⟩ := hstands.pane p.toNat
  have htask := (Pane.cr_of_ctl hctl 0).trans (s.earlyStart.markRetired_task p.toNat)
  refine ⟨_, hrun, ?_, ?_, ?_, fun n e he => ?_, ?_, fun x hx => ?_, rfl⟩
  · refine (congrArg (fun w : Word => w.bit 2) htask).trans ?_
    rw [Word.bit_withBit _ (by decide), if_pos rfl]
  · refine (congrArg (fun w : Word => w.fld 0 2) htask).trans ?_
    exact Word.fld_withFld_of_disjoint _ (by decide) (.inl (by decide)) _
  · refine (hphase.trans (s.earlyStart.markRetired_phase p.toNat)).trans ?_
    simp only [beq_iff_eq]
    rfl
  · refine ((Pane.cr_of_ctl (hstands.pane n).1 _).trans (s.earlyStart.markRetired_entry p.toNat n he)).trans ?_
    rw [entryMap, discarding, Word.withBit_true _ (by decide), ← names_eq]
    rfl
  · exact (congrArg (fun w : Word => w.bit (p.toNat % 32)) (hstands.shown (p.toNat / 32) (by omega))).trans
      (s.earlyStart.markRetired_shown p.toNat)
  · have hkept : x ∈ s.earlyStart.retireDue.filter (fun r => r.1 != p.toNat) :=
      (hstands.due.trans (s.earlyStart.markRetired_due p.toNat)) ▸ hx
    obtain ⟨-, hne⟩ := List.mem_filter.mp hkept
    exact bne_iff_ne.mp hne

end Sys2Proof.Machine
end

section
/-!
PROOF. The redirection of a takeover (R135, R137).
-/
namespace Sys2Proof.Machine

open Sys2Proof (Instr)

/-! The tables of the retired pane in the spare (R137). -/

section
variable (q : Pane) (a step : Nat) (v : Nat → Word)

/-- The pane with v i in its register at a + step * i, for the first n of them. -/
def Pane.writeRun (n : Nat) : Pane := (List.range n).foldl (fun q i => q.setCr (a + step * i) (v i)) q

theorem Pane.writeRun_succ (n : Nat) : q.writeRun a step v (n + 1) = (q.writeRun a step v n).setCr (a + step * n) (v n) := by
  rw [Pane.writeRun, List.range_succ, List.foldl_append]
  rfl

theorem Pane.cr_writeRun_in {n i : Nat} (hstep : 0 < step) (hi : i < n) : (q.writeRun a step v n).cr (a + step * i) = v i := by
  induction n with
  | zero => exact absurd hi (Nat.not_lt_zero i)
  | succ n ih =>
    rw [Pane.writeRun_succ, Pane.cr_setCr]
    split
    next heq => rw [Nat.eq_of_mul_eq_mul_left hstep (Nat.add_left_cancel heq)]
    next hne => exact ih (Nat.lt_of_le_of_ne (Nat.le_of_lt_succ hi) (fun h => hne (by rw [h])))

theorem Pane.cr_writeRun_out {n b : Nat} (hb : ∀ i < n, a + step * i ≠ b) : (q.writeRun a step v n).cr b = q.cr b := by
  induction n with
  | zero => rfl
  | succ n ih =>
    rw [Pane.writeRun_succ, Pane.cr_setCr, if_neg (hb n (Nat.lt_succ_self n)), ih fun i hi => hb i (Nat.lt_succ_of_lt hi)]

end

section
variable (q src : Pane)

theorem Pane.copyCtl_eq (a n step : Nat) : q.copyCtl src a n step = q.writeRun a step (fun i => src.cr (a + step * i)) n := rfl

/-- The credits of the source's entries, with USED 0. -/
def Pane.copyCredits : Pane := q.writeRun 0x204 8 (fun e => (src.cr (0x204 + 8 * e)) &&& 0x3FF#32) 64

theorem Pane.takeTables_eq : q.takeTables src =
    ((((q.copyCtl src 0x200 64 8).copyCtl src 0x400 256 4).copyCtl src 0x800 1 4).copyCtl src 0x810 16 1).copyCredits src := rfl

theorem Pane.takeTables_entry {e : Nat} (he : e < 64) : (q.takeTables src).cr (0x200 + 8 * e) = src.cr (0x200 + 8 * e) := by
  simp only [Pane.takeTables_eq, Pane.copyCredits, Pane.copyCtl_eq]
  rw [Pane.cr_writeRun_out _ _ _ _ (by omega), Pane.cr_writeRun_out _ _ _ _ (by omega), Pane.cr_writeRun_out _ _ _ _ (by omega),
    Pane.cr_writeRun_out _ _ _ _ (by omega), Pane.cr_writeRun_in _ _ _ _ (by decide) he]

theorem Pane.takeTables_channel {i : Nat} (hi : i < 256) : (q.takeTables src).cr (0x400 + 4 * i) = src.cr (0x400 + 4 * i) := by
  simp only [Pane.takeTables_eq, Pane.copyCredits, Pane.copyCtl_eq]
  rw [Pane.cr_writeRun_out _ _ _ _ (by omega), Pane.cr_writeRun_out _ _ _ _ (by omega), Pane.cr_writeRun_out _ _ _ _ (by omega),
    Pane.cr_writeRun_in _ _ _ _ (by decide) hi]

theorem Word.fld_and_low (w : Word) : (w &&& 0x3FF#32).fld 0 10 = w.fld 0 10 := by
  have hlow : (w &&& 0x3FF#32).toNat = w.toNat % 2 ^ 10 := by
    rw [BitVec.toNat_and]
    exact Nat.and_two_pow_sub_one_eq_mod w.toNat 10
  rw [Word.fld, Word.fld, bitsOf, bitsOf, hlow, Nat.pow_zero, Nat.div_one, Nat.div_one, Nat.mod_mod]

theorem Pane.takeTables_credit {e : Nat} (he : e < 64) :
    ((q.takeTables src).cr (0x204 + 8 * e)).fld 0 10 = (src.cr (0x204 + 8 * e)).fld 0 10 := by
  rw [Pane.takeTables_eq, Pane.copyCredits, Pane.cr_writeRun_in _ _ _ _ (by decide) he, Word.fld_and_low]

end

/-! The step (R135). -/

/-- An entry that names the spare, with DISCARD clear. -/
def redirected (spare : Nat) (w : Word) : Word := (w.withFld 6 10 spare).withBit 22 false

theorem redirected_twice (spare : Nat) (w : Word) : redirected spare (redirected spare w) = redirected spare w :=
  Word.renamed_twice w spare false

/-- The spare's movers have the spare as their owner (R413). -/
def State.moversMove (s : State) (retired spare : Nat) : State :=
  (List.range 32).foldl (fun s i =>
    let a := Config.bay (i / 4) + 0x100 + 0x40 * (i % 4)
    if s.mvEn (i / 4) (i % 4) && s.mvOwner (i / 4) (i % 4) == retired then s.wr a ((s.rd a).withFld 0 10 spare) else s) s

theorem State.moversMove_keeps (s : State) (retired spare : Nat) :
    (s.moversMove retired spare).panes = s.panes ∧ (s.moversMove retired spare).takeovers = s.takeovers := by
  refine ⟨foldl_keeps State.panes _ s fun t i _ => ?_, foldl_keeps State.takeovers _ s fun t i _ => ?_⟩ <;>
    · dsimp only
      split <;> rfl

theorem State.takeoverRedirect_eq (s : State) (k : Nat) (x : Takeover) : s.takeoverRedirect k x =
    (((s.mapEntriesTo x.retired (redirected x.spare)).modPane x.spare
      (fun q => q.takeTables ((s.mapEntriesTo x.retired (redirected x.spare)).pane x.retired))).moversMove
        x.retired x.spare).setTakeover k { x with stage := 2 } := rfl

/-- The panes of the state after a redirection: the spare has the tables of the retired pane, every other pane's entries follow. -/
theorem State.takeoverRedirect_pane (s : State) (k : Nat) (x : Takeover) (n : Nat) :
    let r := s.mapEntriesTo x.retired (redirected x.spare)
    (s.takeoverRedirect k x).pane n = if x.spare = n then (r.pane x.spare).takeTables (r.pane x.retired) else r.pane n := by
  intro r
  have hset (t : State) (y : Takeover) : (t.setTakeover k y).panes = t.panes := rfl
  rw [State.takeoverRedirect_eq, State.pane_congr ((hset _ _).trans (State.moversMove_keeps _ _ _).1)]
  exact r.pane_modPane x.spare n (fun q => q.takeTables (r.pane x.retired))

theorem State.takeoverRedirect_takeovers (s : State) (k : Nat) (x : Takeover) :
    (s.takeoverRedirect k x).takeovers = s.takeovers.set k { x with stage := 2 } := by
  have hset (t : State) (y : Takeover) : (t.setTakeover k y).takeovers = t.takeovers.set k y := rfl
  have hmod (t : State) (f : Pane → Pane) : (t.modPane x.spare f).takeovers = t.takeovers := rfl
  rw [State.takeoverRedirect_eq, hset, (State.moversMove_keeps _ _ _).2, hmod, State.mapEntriesTo_rest (redirected_twice _)]

/-- What is left of the log after the ticks before o are replayed. -/
abbrev Takeover.logFrom (x : Takeover) (o : Nat) : Takeover := { x with log := x.log.filter (fun w => !decide (w.tick < o)) }

/-- The state in which a takeover, whose log of the ticks before o is short, has replayed it. -/
def State.replayed (s : State) (k : Nat) (x : Takeover) (o : Nat) : State :=
  (s.modPane x.spare (fun q => q.replay (x.log.filter (fun w => decide (w.tick < o))))).setTakeover k (x.logFrom o)

theorem State.replayed_cr (s : State) (k : Nat) (x : Takeover) (o n a : Nat) : ((s.replayed k x o).pane n).cr a = (s.pane n).cr a := by
  have hpane : (s.replayed k x o).pane n =
      if x.spare = n then (s.pane x.spare).replay (x.log.filter (fun w => decide (w.tick < o))) else s.pane n :=
    s.pane_modPane x.spare n (fun q => q.replay (x.log.filter (fun w => decide (w.tick < o))))
  rw [hpane]
  split
  next heq =>
    subst heq
    rw [Pane.replay_rest]
    rfl
  next => rfl

theorem State.takeoverReplay_replayed (s : State) (k : Nat) {x : Takeover} {o : Nat} (h : x.log.length ≤ 1024) :
    s.takeoverReplay k x o = s.replayed k x o :=
  State.takeoverReplay_short k (Nat.le_trans (List.length_filter_le _ _) h)

theorem State.replayed_takeover {s : State} {k : Nat} {x : Takeover} (hk : s.takeovers[k]? = some x) (o : Nat) :
    (s.replayed k x o).takeovers[k]? = some (x.logFrom o) := by
  obtain ⟨hlt, -⟩ := List.getElem?_eq_some_iff.mp hk
  exact List.getElem?_set_self hlt

/-- The takeover after a replay, redirected. -/
def State.redirectedTo (s : State) (k : Nat) (x : Takeover) (o : Nat) : State :=
  (s.replayed k x (o - 1)).takeoverRedirect k (x.logFrom (o - 1))

theorem State.redirectStep_due {s : State} {k o : Nat} {x : Takeover} (hk : s.takeovers[k]? = some x) (hstage : x.stage = 1)
    (ho : x.base + 2 ≤ o) (hlog : x.log.length ≤ 1024) : s.redirectStep k o = s.redirectedTo k x o := by
  rw [State.redirectStep, hk]
  refine (if_pos ⟨hstage, ho⟩).trans ?_
  dsimp only
  rw [State.takeoverReplay_replayed s k hlog, State.replayed_takeover hk]
  exact if_pos hstage

/-! The step is one of the coming boundary. -/

/-- The step of the coming boundary sees that boundary's tick number. -/
theorem State.nextTick_earlyStart {s : State} (htick : s.ticking = true) : s.earlyStart.nextTick = s.nextTick := by
  have htick' : s.earlyStart.ticking = true := htick
  rw [State.nextTick, if_pos htick']
  rfl

theorem State.ordinal_earlyStart {s : State} (htick : s.ticking = true) (x : Takeover) :
    s.earlyStart.ordinal (s.earlyStart.takeoverCls x) s.earlyStart.nextTick = s.nextTick / s.mult (s.pane x.retired).cls := by
  rw [State.nextTick_earlyStart htick, State.ordinal, State.mult_of_reg (s := s) (t := s.earlyStart) rfl]
  rfl

theorem exec_takeoverRedirect_due {s : State} {k : Nat} {x : Takeover} (hk : s.takeovers[k]? = some x) (hstage : x.stage = 1)
    (htick : s.ticking = true) (hclass : s.nextTick % s.mult (s.pane x.retired).cls = 0)
    (hbase : x.base + 2 ≤ s.nextTick / s.mult (s.pane x.retired).cls) (hlog : x.log.length ≤ 1024) :
    exec (.takeoverRedirect k) s =
      .next (s.earlyEnd (s.earlyStart.redirectedTo k x (s.nextTick / s.mult (s.pane x.retired).cls))) := by
  have hgo : (s.ticking && s.nextTick % s.mult (s.takeoverCls x) == 0) = true := by
    rw [htick]
    exact beq_iff_eq.mpr hclass
  rw [exec_takeoverRedirect, execTakeoverRedirect, hk]
  refine (if_pos hgo).trans ?_
  rw [State.early_eq, State.ordinal_earlyStart htick, State.redirectStep_due (s := s.earlyStart) hk hstage hbase hlog]

section
variable (s : State) (k : Nat) (x : Takeover) (o : Nat)

/-- The entries of the part with those changed that named the retired pane. -/
theorem State.redirectedTo_mapped (n : Nat) : EntriesMapped (entryMap s.partNo x.retired (redirected x.spare))
    ((s.replayed k x o).pane n) (((s.replayed k x o).mapEntriesTo x.retired (redirected x.spare)).pane n) :=
  (s.replayed k x o).mapEntriesTo_mapped (redirected_twice x.spare) n

theorem State.redirectedTo_other {n : Nat} (hn : n ≠ x.spare) {e : Nat} (he : e < 64) :
    ((s.redirectedTo k x o).pane n).cr (0x200 + 8 * e) =
      entryMap s.partNo x.retired (redirected x.spare) ((s.pane n).cr (0x200 + 8 * e)) := by
  rw [State.redirectedTo, State.takeoverRedirect_pane, if_neg (Ne.symm hn)]
  exact ((s.redirectedTo_mapped k x (o - 1) n).entry e he).trans (congrArg _ (s.replayed_cr k x _ n _))

theorem State.redirectedTo_spare : (s.redirectedTo k x o).pane x.spare =
    (((s.replayed k x (o - 1)).mapEntriesTo x.retired (redirected x.spare)).pane x.spare).takeTables
      (((s.replayed k x (o - 1)).mapEntriesTo x.retired (redirected x.spare)).pane x.retired) := by
  rw [State.redirectedTo, State.takeoverRedirect_pane, if_pos rfl]

theorem State.redirectedTo_entry {e : Nat} (he : e < 64) : ((s.redirectedTo k x o).pane x.spare).cr (0x200 + 8 * e) =
    entryMap s.partNo x.retired (redirected x.spare) ((s.pane x.retired).cr (0x200 + 8 * e)) := by
  rw [State.redirectedTo_spare, Pane.takeTables_entry _ _ he]
  exact ((s.redirectedTo_mapped k x (o - 1) _).entry e he).trans (congrArg _ (s.replayed_cr k x _ _ _))

theorem State.redirectedTo_credit {e : Nat} (he : e < 64) : (((s.redirectedTo k x o).pane x.spare).cr (0x204 + 8 * e)).fld 0 10 =
    ((s.pane x.retired).cr (0x204 + 8 * e)).fld 0 10 := by
  rw [State.redirectedTo_spare, Pane.takeTables_credit _ _ he]
  exact congrArg (fun w : Word => w.fld 0 10)
    (((s.redirectedTo_mapped k x (o - 1) _).other _ (fun i _ => by omega)).trans (s.replayed_cr k x _ _ _))

theorem State.redirectedTo_channel {i : Nat} (hi : i < 256) : ((s.redirectedTo k x o).pane x.spare).cr (0x400 + 4 * i) =
    (s.pane x.retired).cr (0x400 + 4 * i) := by
  rw [State.redirectedTo_spare, Pane.takeTables_channel _ _ hi]
  exact ((s.redirectedTo_mapped k x (o - 1) _).other _ (fun e _ => by omega)).trans (s.replayed_cr k x _ _ _)

end

theorem State.redirectedTo_stage {s : State} {k : Nat} {x : Takeover} (hk : s.takeovers[k]? = some x) (o : Nat) :
    ((s.redirectedTo k x o).takeovers[k]?).map (fun y => y.stage) = some 2 := by
  obtain ⟨hlt, -⟩ := List.getElem?_eq_some_iff.mp (State.replayed_takeover hk (o - 1))
  rw [State.redirectedTo, State.takeoverRedirect_takeovers, List.getElem?_set_self hlt]
  rfl

theorem takeoverRedirects : Claims.takeoverRedirects := by
  intro s k x m named hk hstage htick hclass hbase hlog
  let u := s.earlyStart
  let r := u.redirectedTo k x (s.nextTick / m)
  have hrun := exec_takeoverRedirect_due hk hstage htick hclass hbase hlog
  obtain ⟨hpane, htakeovers, -⟩ := s.earlyEnd_keeps r
  refine ⟨s.earlyEnd r, hrun, ?_, fun n e he hn => ?_, fun e he => ⟨?_, ?_⟩, fun i hi => ?_, rfl⟩
  · rw [htakeovers]
    exact State.redirectedTo_stage (s := u) hk _
  · rw [hpane]
    exact u.redirectedTo_other k x _ hn he
  · rw [hpane]
    exact u.redirectedTo_entry k x _ he
  · rw [hpane]
    exact u.redirectedTo_credit k x _ he
  · rw [hpane]
    exact u.redirectedTo_channel k x _ hi

end Sys2Proof.Machine
end

section
/-!
PROOF. The completion of a takeover (R135, R184, R266).
-/
namespace Sys2Proof.Machine

open Sys2Proof (Instr)

/-! The spare opens. -/

/-- The pane with a role and a task, at TICK_ENTRY in tick n with its registers at 0. -/
def Pane.opens (q : Pane) (role : Nat) (task : Word) (entry ring n : Nat) : Pane :=
  ((q.setCr 0 ((q.cr 0).withFld 0 2 role)).setCr 0x100 task).fresh entry ring n

section
variable (q : Pane) (role : Nat) (task : Word) (entry ring n : Nat)

theorem Pane.cr_fresh (a : Nat) : (q.fresh entry ring n).cr a = q.cr a := rfl

theorem Pane.gr_fresh (r : RegNo) : (q.fresh entry ring n).gr r = 0 := by
  unfold Pane.gr
  split
  · rfl
  · exact Vector.getElem_replicate _

theorem Pane.task_opens : (q.opens role task entry ring n).cr 0x100 = task := by
  rw [Pane.opens, Pane.cr_fresh, Pane.cr_setCr, if_pos rfl]

theorem Pane.role_setCr : (q.setCr 0 ((q.cr 0).withFld 0 2 role)).role = role % 2 ^ 2 := by
  rw [Pane.role, Pane.cr_setCr, if_pos rfl, Word.fld_withFld _ (by decide)]

theorem Pane.role_opens : (q.opens role task entry ring n).role = role % 2 ^ 2 := by
  have hrole : (q.opens role task entry ring n).cr 0 = (q.setCr 0 ((q.cr 0).withFld 0 2 role)).cr 0 := by
    rw [Pane.opens, Pane.cr_fresh, Pane.cr_setCr _ 0x100, if_neg (by decide)]
  rw [← q.role_setCr role, Pane.role, hrole, Pane.role]

end

/-! The takeover is over. -/

/-- The panes, the takeovers and the events under way. -/
def State.standing (s : State) : SMap Pane × List Takeover × List BellEvent := (s.panes, s.takeovers, s.arrivals)

theorem State.standing_wr (s : State) (a : Nat) (v : Word) : (s.wr a v).standing = s.standing := rfl

theorem State.standing_ledgerAdd (s : State) (c x a : Nat) : (s.ledgerAdd c x a).standing = s.standing := by
  rw [BooksOnly.ledgerAdd]
  rfl

theorem State.standing_edge (s : State) (m : BitVec 64) (src d : Nat) : (s.edge m src d).standing =
    (s.standing.1, s.standing.2.1, s.standing.2.2 ++ [{ src := src, kind := .edge, detail := d % 65536, todo := m }]) := rfl

/-- Takeover k is over, and the image and the mailboxes name the new copies. -/
def State.takeoverEnded (s : State) (k : Nat) (img : SMap Nat) (mbs : SMap Mailbox) : State :=
  { s with img := img, mbs := mbs, takeovers := s.takeovers.eraseIdx k }

/-- The state at the end of takeover k: the ledger has the entry, and bell source 26 tells. -/
def State.takeoverOver (s : State) (k spare : Nat) (img : SMap Nat) (mbs : SMap Mailbox) : State :=
  let a := Config.pwr + 0x400 + 4 * sashOf spare
  let t := s.takeoverEnded k img mbs
  ((t.wrFld a 0 7 ((t.rd a).fld 16 7)).ledgerAdd 0x0308 spare 0).edge allBells 26 (spare + 2 ^ 15)

theorem State.takeoverOver_standing (s : State) (k spare : Nat) (img : SMap Nat) (mbs : SMap Mailbox) :
    (s.takeoverOver k spare img mbs).standing = (s.panes, s.takeovers.eraseIdx k,
      s.arrivals ++ [{ src := 26, kind := .edge, detail := (spare + 2 ^ 15) % 65536, todo := BitVec.allOnes 64 }]) := by
  rw [State.takeoverOver, State.standing_edge, State.standing_ledgerAdd, State.wrFld, State.standing_wr]
  rfl

/-- The senders' and the slots' sources after the takeover of a primary. -/
def State.sourcesSwapped (s : State) (x : Takeover) : State :=
  (s.swapIncoming true (s.partNo * 1024 + x.retired) (s.partNo * 1024 + x.twin) (s.partNo * 1024 + x.spare)).swapSlots true
    (s.partNo * 1024 + x.retired) (s.partNo * 1024 + x.twin) (s.partNo * 1024 + x.spare)

/-- The former twin is the primary, and the spare opens with the twin's role. -/
def State.copiesMoved (s : State) (x : Takeover) (n : Nat) : State :=
  ((s.sourcesSwapped x).modPane x.twin (fun q => q.setCr 0 ((q.cr 0).withFld 0 2 0))).modPane x.spare (fun q =>
    q.opens (s.pane x.twin).role ((s.pane x.retired).cr 0x100) (s.fv 2 8 (s.primaryOf x.twin) 0) (s.fv 2 9 (s.primaryOf x.twin) 0) n)

theorem State.takeoverComplete_primary {s : State} {x : Takeover} (h : (s.pane x.retired).role = 0) (k n : Nat) :
    ∃ img mbs, s.takeoverComplete k x n = (s.copiesMoved x n).takeoverOver k x.spare img mbs := by
  have hprim : ((s.pane x.retired).role == 0) = true := beq_iff_eq.mpr h
  unfold State.takeoverComplete
  dsimp only
  rw [hprim]
  exact ⟨_, _, rfl⟩

theorem State.standing_swapIncoming (s : State) (prim : Bool) (a b c : Nat) :
    (s.swapIncoming prim a b c).standing.2 = s.standing.2 := foldl_keeps (fun t : State => t.standing.2) _ s fun _ _ _ => rfl

theorem State.standing_swapSlots (s : State) (prim : Bool) (a b c : Nat) : (s.swapSlots prim a b c).standing = s.standing := by
  have hsources (t : State) (d n : Nat) (l : List Nat) :
      ((List.range n).foldl (fun s k => s.wrFld (slotReg d (4 + 4 * k)) 0 13 (l.getD k 0)) t).standing = t.standing :=
    foldl_keeps State.standing _ t fun u k _ => u.standing_wr _ _
  refine foldl_keeps State.standing _ s fun t d _ => ?_
  dsimp only
  split
  · rfl
  · split
    · split
      · exact (State.standing_wr _ _ _).trans ((State.standing_wr _ _ _).trans (hsources _ _ _ _))
      · exact (State.standing_wr _ _ _).trans (hsources _ _ _ _)
    · exact (State.standing_wr _ _ _).trans (hsources _ _ _ _)

/-! The panes of the completed takeover. -/

section
variable (s : State) (x : Takeover) (n : Nat)

theorem State.copiesMoved_spare : ∃ q : Pane, (s.copiesMoved x n).pane x.spare =
    q.opens (s.pane x.twin).role ((s.pane x.retired).cr 0x100) (s.fv 2 8 (s.primaryOf x.twin) 0) (s.fv 2 9 (s.primaryOf x.twin) 0) n :=
  ⟨_, (State.pane_modPane _ _ _ _).trans (if_pos rfl)⟩

theorem State.copiesMoved_twin (hne : x.spare ≠ x.twin) : ((s.copiesMoved x n).pane x.twin).role = 0 := by
  rw [State.copiesMoved, State.pane_modPane, if_neg hne, State.pane_modPane, if_pos rfl, Pane.role_setCr,
    Nat.zero_mod]

theorem State.copiesMoved_standing : (s.copiesMoved x n).standing.2 = s.standing.2 := by
  have hmod (t : State) (p : Nat) (f : Pane → Pane) : (t.modPane p f).standing.2 = t.standing.2 := rfl
  rw [State.copiesMoved, hmod, hmod, State.sourcesSwapped, State.standing_swapSlots, State.standing_swapIncoming]

end

/-! The step (R135, R136). -/

theorem Takeover.logFrom_length (x : Takeover) (o : Nat) : (x.logFrom o).log.length ≤ x.log.length := List.length_filter_le _ _

/-- The state in which the logs up to the boundary that starts tick o are replayed. -/
def State.logsReplayed (s : State) (k : Nat) (x : Takeover) (o : Nat) : State :=
  (s.replayed k x (o - 1)).replayed k (x.logFrom (o - 1)) o

/-- The step completes the takeover once the twin's WAITT has retired. -/
theorem State.completeStep_due {s : State} {k o n : Nat} {x : Takeover} (hk : s.takeovers[k]? = some x) (hstage : x.stage = 2)
    (ho : x.base + 3 ≤ o) (hlog : x.log.length ≤ 128) (htag : n ≤ (s.pane x.twin).tag) :
    s.completeStep k o n = (s.logsReplayed k x o).takeoverComplete k ((x.logFrom (o - 1)).logFrom o) n := by
  have hlog' : (x.logFrom (o - 1)).log.length ≤ 128 := (x.logFrom_length _).trans hlog
  have hk' := State.replayed_takeover hk (o - 1)
  have hlater : ¬ ((x.logFrom (o - 1)).log.length > 128 ∨ (s.pane x.twin).tag < n) := by omega
  rw [State.completeStep, hk]
  refine (if_pos ⟨hstage, ho⟩).trans ?_
  dsimp only
  rw [State.takeoverReplay_replayed s k (hlog.trans (by decide)), hk']
  refine (if_neg (not_not_intro hstage)).trans ((if_neg hlater).trans ?_)
  rw [State.takeoverReplay_replayed _ k (hlog'.trans (by decide)), State.replayed_takeover hk']
  rfl

section
variable (s : State) (k : Nat) (x : Takeover) (o : Nat)

theorem State.logsReplayed_cr (n a : Nat) : ((s.logsReplayed k x o).pane n).cr a = (s.pane n).cr a :=
  (State.replayed_cr _ k _ _ n a).trans (s.replayed_cr k x _ n a)

theorem State.replayed_fv (sec fld idx sub : Nat) : (s.replayed k x o).fv sec fld idx sub = s.fv sec fld idx sub := rfl

theorem State.logsReplayed_fv (sec fld idx sub : Nat) : (s.logsReplayed k x o).fv sec fld idx sub = s.fv sec fld idx sub :=
  ((s.replayed k x (o - 1)).replayed_fv k (x.logFrom (o - 1)) o sec fld idx sub).trans (s.replayed_fv k x (o - 1) sec fld idx sub)

theorem State.replayed_reg : (s.replayed k x o).reg = s.reg ∧ (s.replayed k x o).img = s.img := ⟨rfl, rfl⟩

theorem State.logsReplayed_primaryOf (p : Nat) : (s.logsReplayed k x o).primaryOf p = s.primaryOf p := by
  obtain ⟨hreg, himg⟩ := s.replayed_reg k x (o - 1)
  obtain ⟨hreg', himg'⟩ := (s.replayed k x (o - 1)).replayed_reg k (x.logFrom (o - 1)) o
  exact State.primaryOf_congr (hreg'.trans hreg) (himg'.trans himg) (s.logsReplayed_cr k x o) p

theorem State.replayed_standing : (s.replayed k x o).standing.2 = (s.takeovers.set k (x.logFrom o), s.arrivals) := rfl

theorem State.logsReplayed_standing : (s.logsReplayed k x o).standing.2 =
    (s.takeovers.set k ((x.logFrom (o - 1)).logFrom o), s.arrivals) := by
  obtain ⟨htakeovers, harrivals⟩ := Prod.mk.inj (s.replayed_standing k x (o - 1))
  rw [State.logsReplayed, State.replayed_standing, htakeovers, harrivals, List.set_set]

end

/-- What the completion leaves of the part, with the panes as after the last replay. -/
structure TakeoverCompleted (s t : State) (k : Nat) (x : Takeover) (n : Nat) : Prop where
  takeovers : t.takeovers = s.takeovers.eraseIdx k
  arrivals : t.arrivals =
    s.arrivals ++ [{ src := 26, kind := .edge, detail := (x.spare + 2 ^ 15) % 65536, todo := BitVec.allOnes 64 }]
  twin : (t.pane x.twin).role = 0
  spare : ∃ q : Pane, t.pane x.spare = q.opens (s.pane x.twin).role ((s.pane x.retired).cr 0x100)
    (s.fv 2 8 (s.primaryOf x.twin) 0) (s.fv 2 9 (s.primaryOf x.twin) 0) n

theorem State.takeoverComplete_completed {s : State} {x : Takeover} (hprim : (s.pane x.retired).role = 0) (hne : x.spare ≠ x.twin)
    (k n : Nat) : TakeoverCompleted s (s.takeoverComplete k x n) k x n := by
  obtain ⟨img, mbs, hover⟩ := State.takeoverComplete_primary hprim k n
  obtain ⟨hpanes, hrest⟩ := Prod.mk.inj ((s.copiesMoved x n).takeoverOver_standing k x.spare img mbs)
  obtain ⟨htakeovers, harrivals⟩ := Prod.mk.inj hrest
  obtain ⟨htakeovers', harrivals'⟩ := Prod.mk.inj (s.copiesMoved_standing x n)
  rw [hover]
  refine ⟨?_, ?_, ?_, ?_⟩
  · rw [htakeovers, htakeovers']
  · rw [harrivals, harrivals']
  · rw [State.pane_congr hpanes]
    exact s.copiesMoved_twin x n hne
  · rw [State.pane_congr hpanes]
    exact s.copiesMoved_spare x n

/-- The completion reads the part as it was before the replays. -/
theorem TakeoverCompleted.of_logsReplayed {s t : State} {k : Nat} {x : Takeover} {o n : Nat}
    (h : TakeoverCompleted (s.logsReplayed k x o) t k ((x.logFrom (o - 1)).logFrom o) n) : TakeoverCompleted s t k x n := by
  obtain ⟨htakeovers, harrivals, htwin, q, hspare⟩ := h
  obtain ⟨hset, hevents⟩ := Prod.mk.inj (s.logsReplayed_standing k x o)
  have hrole : ((s.logsReplayed k x o).pane x.twin).role = (s.pane x.twin).role :=
    congrArg (fun w : Word => w.fld 0 2) (s.logsReplayed_cr k x o _ _)
  refine ⟨?_, ?_, htwin, q, ?_⟩
  · rw [htakeovers, hset, List.eraseIdx_set_eq]
  · rw [harrivals, hevents]
  · rw [State.logsReplayed_primaryOf, State.logsReplayed_cr, State.logsReplayed_fv, State.logsReplayed_fv, hrole] at hspare
    exact hspare

/-- The step of the coming boundary reads the part as it stands. -/
theorem TakeoverCompleted.of_earlyStart {s t : State} {k : Nat} {x : Takeover} {n : Nat}
    (h : TakeoverCompleted s.earlyStart t k x n) : TakeoverCompleted s t k x n := by
  have hprim : s.earlyStart.primaryOf x.twin = s.primaryOf x.twin := State.primaryOf_congr rfl rfl (fun _ _ => rfl) _
  obtain ⟨htakeovers, harrivals, htwin, q, hspare⟩ := h
  rw [hprim] at hspare
  exact ⟨htakeovers, harrivals, htwin, q, hspare⟩

/-- The step of a takeover of a primary, at its boundary. -/
theorem exec_takeoverComplete_due {s : State} {k : Nat} {x : Takeover} (hk : s.takeovers[k]? = some x) (hstage : x.stage = 2)
    (htick : s.ticking = true) (hclass : s.nextTick % s.mult (s.pane x.retired).cls = 0)
    (hbase : x.base + 3 ≤ s.nextTick / s.mult (s.pane x.retired).cls) (hlog : x.log.length ≤ 128)
    (hprim : (s.pane x.retired).role = 0) (hne : x.spare ≠ x.twin) (htag : s.nextTick ≤ (s.pane x.twin).tag) :
    ∃ t, exec (.takeoverComplete k) s = .next (s.earlyEnd t) ∧ TakeoverCompleted s t k x s.nextTick := by
  have hgo : (s.ticking && s.nextTick % s.mult (s.takeoverCls x) == 0 && decide (s.nextTick ≤ (s.pane x.twin).tag)) = true := by
    rw [htick, decide_eq_true htag, Bool.and_true]
    exact beq_iff_eq.mpr hclass
  have hprim' (o : Nat) : ((s.earlyStart.logsReplayed k x o).pane x.retired).role = 0 :=
    (congrArg (fun w : Word => w.fld 0 2) (s.earlyStart.logsReplayed_cr k x o x.retired 0)).trans hprim
  refine ⟨_, ?_, .of_earlyStart (.of_logsReplayed (o := s.nextTick / s.mult (s.pane x.retired).cls)
    (State.takeoverComplete_completed (x := (x.logFrom _).logFrom _) (hprim' _) hne k _))⟩
  rw [exec_takeoverComplete, execTakeoverComplete, hk]
  refine (if_pos hgo).trans ?_
  rw [State.early_eq, State.ordinal_earlyStart htick, State.nextTick_earlyStart htick,
    State.completeStep_due (s := s.earlyStart) hk hstage hbase hlog htag]

/-- The step waits for a twin that overruns (log 136). -/
theorem exec_takeoverComplete_overrun {s : State} {k : Nat} {x : Takeover} (hk : s.takeovers[k]? = some x)
    (htag : (s.pane x.twin).tag < s.nextTick) : exec (.takeoverComplete k) s = .next s := by
  rw [exec_takeoverComplete, execTakeoverComplete, hk]
  refine if_neg ?_
  rw [decide_eq_false (Nat.not_le.mpr htag), Bool.and_false]
  exact Bool.false_ne_true

theorem takeoverCompletes : Claims.takeoverCompletes := by
  intro s k x m hk hstage htick hclass hbase hlog hprim hne _ _
  refine ⟨exec_takeoverComplete_overrun hk, fun htag => ?_⟩
  obtain ⟨t, hrun, htakeovers, harrivals, htwin, q, hspare⟩ :=
    exec_takeoverComplete_due hk hstage htick hclass hbase hlog hprim hne htag
  obtain ⟨hpane, hover, hevents⟩ := s.earlyEnd_keeps t
  have hrole : (s.pane x.twin).role < 2 ^ 2 := Nat.mod_lt _ (by decide)
  refine ⟨_, hrun, hover.trans htakeovers, ?_, ?_, ?_, ?_, ?_, ?_, fun r => ?_, ?_, hevents.trans harrivals⟩
  · rw [hpane]
    exact htwin
  all_goals rw [hpane, hspare]
  · exact (Pane.role_opens _ _ _ _ _ _).trans (Nat.mod_eq_of_lt hrole)
  · exact Pane.task_opens _ _ _ _ _ _
  · rfl
  · rfl
  · rfl
  · exact Pane.gr_fresh _ _ _ _ r
  · rfl

/-- Settles O39: a retirement and a redirection change the entries that name a pane and no other, a replay leaves each logged word as
its last write left it, and a completed takeover opens the spare in its reset state. -/
theorem sparesTakeOver : Obligations.SparesTakeOver :=
  ⟨routerDies, routesInstalled, paneRetires, takeoverCopies, takeoverReplays, takeoverRedirects, takeoverCompletes⟩

end Sys2Proof.Machine
end

section
/-!
PROOF. The checks of the encoding and the guard (R147, R187, R216): every Nirmon instruction issues through one operation.
-/
namespace Sys2Proof.Machine

open Sys2Proof (Instr)

/-- Every Nirmon instruction is issued under its own guard. -/
theorem exec_issues {i : Instr} {p : PaneNo} (h : paneOf i = some p) (s : State) :
    ∃ gd priv srcs body, guardOf i = some gd ∧ exec i s = .next (s.issue i p gd priv srcs body) := by
  cases i <;> simp only [paneOf, Option.some.injEq, reduceCtorEq] at h
  all_goals subst h; exact ⟨_, _, _, _, rfl, rfl⟩

theorem undefCause_of_encodeNat {i : Instr} {w : Nat} (h : encodeNat i = some w) : undefCause i = checkWord w := by
  rw [undefCause, h, Option.bind_some]

theorem wordOf_of_encodeNat {i : Instr} {w : Nat} (h : encodeNat i = some w) : wordOf i = BitVec.ofNat 32 w := by
  rw [wordOf, h, Option.getD_some]

theorem undefinedWordTraps : Claims.undefinedWordTraps := by
  intro i p w c s hw hp hc hissue
  obtain ⟨gd, priv, srcs, body, -, hexec⟩ := exec_issues hp s
  rw [hexec, State.issue_undefined hissue ((undefCause_of_encodeNat hw).trans hc), wordOf_of_encodeNat hw]

/-- A pane that retires with no other effect. -/
theorem Stepped.retire (p : Nat) (s : State) : Stepped p (s.pane p) s (s.modPane p Pane.retire) :=
  ⟨OnlyPane.modPane p s _, (State.pane_modPane s p p _).trans (if_pos rfl)⟩

theorem falseGuardRetires : Claims.falseGuardRetires := by
  intro i p gd s hp hgd hc hissue hguard
  obtain ⟨gd', priv, srcs, body, hgd', hexec⟩ := exec_issues hp s
  obtain rfl : gd = gd' := Option.some.inj (hgd.symm.trans hgd')
  exact ⟨_, by rw [hexec, State.issue_skipped hissue hc hguard], Stepped.retire p.toNat s⟩

/-- Settles O4: every Nirmon instruction goes through `State.issue`, which makes the checks of R216 first and then asks the guard. -/
theorem guardsAndEncodingChecks : Obligations.GuardsAndEncodingChecks := ⟨undefinedWordTraps, falseGuardRetires⟩

end Sys2Proof.Machine
end

section
/-!
PROOF. An instruction that has its effect on its own pane: what is left of a pane that is replaced twice, and how effects complete
(R147, R192).
-/
namespace Sys2Proof.Machine

open Sys2Proof (Instr)

theorem SMap.put_put {α : Type} (m : SMap α) (a : Nat) (v w : α) : (m.put a v).put a w = m.put a w := by
  induction m with
  | nil => simp [SMap.put]
  | cons e r ih =>
    obtain ⟨k, x⟩ := e
    by_cases hlt : a < k
    · simp [SMap.put, hlt]
    · by_cases heq : a = k
      · simp [SMap.put, heq]
      · simp [SMap.put, hlt, heq, ih]

section
variable (s : State) (p : Nat) (q r : Pane)

@[simp] theorem State.pane_setPane_self : (s.setPane p q).pane p = q := (s.pane_setPane p p q).trans (if_pos rfl)

theorem State.pane_setPane_ne {k : Nat} (h : k ≠ p) : (s.setPane p q).pane k = s.pane k :=
  (s.pane_setPane p k q).trans (if_neg h.symm)

/-- Of two replacements of one pane the later one stands. -/
@[simp] theorem State.setPane_setPane : (s.setPane p q).setPane p r = s.setPane p r :=
  congrArg (fun m => { s with panes := m }) (SMap.put_put s.panes p q r)

@[simp] theorem State.modPane_setPane (f : Pane → Pane) : (s.setPane p q).modPane p f = s.setPane p (f q) := by
  rw [State.modPane, State.pane_setPane_self, State.setPane_setPane]

/-! How an effect completes (R147). -/

theorem Effect.finish_done : (Effect.done (s.setPane p q)).finish p = s.setPane p q.retire := s.modPane_setPane p q _

theorem Effect.finish_goto (a : Word) : (Effect.goto (s.setPane p q) a).finish p = s.setPane p { q with pc := a } :=
  s.modPane_setPane p q fun r => { r with pc := a }

end

/-- An instruction that transfers control and does no more. -/
theorem Jumped.finish_goto (p : Nat) (s : State) (a : Word) : Claims.Jumped p a s ((Effect.goto s a).finish p) :=
  ⟨OnlyPane.modPane p s fun q => { q with pc := a }, s.pane_setPane_self p _⟩

end Sys2Proof.Machine
end

section
/-!
PROOF. Branches and LOOP (R145, R191, R193, R194, R245).
-/
namespace Sys2Proof.Machine

open Sys2Proof (Instr)

theorem branchTarget_eq (a : Word) (off : BitVec 21) : branchTarget a off = a + BitVec.ofInt 32 (4 * off.toInt) := by
  rw [BitVec.ofInt_mul]
  rfl

/-- A word is aligned when its low two bits are 0. -/
theorem and_three_eq_zero (v : Word) : v &&& 3#32 = 0 ↔ v.toNat % 4 = 0 := by
  rw [BitVec.toNat_eq, BitVec.toNat_and]
  exact iff_of_eq (congrArg (· = 0) (Nat.and_two_pow_sub_one_eq_mod v.toNat 2))

theorem jumpTo_aligned {s : State} {q : Pane} {v : Word} (h : v.toNat % 4 = 0) : jumpTo s q v = .goto s v :=
  if_pos ((and_three_eq_zero v).mpr h)

theorem jumpTo_misaligned {s : State} {q : Pane} {v : Word} (h : v.toNat % 4 ≠ 0) : jumpTo s q v = .trap s (q.mkTrap 2 1 v) :=
  if_neg (fun hv => h ((and_three_eq_zero v).mp hv))

theorem branchResults : Claims.branchResults := by
  intro s p gd reg off q target
  simp only [exec_b, execB, exec_bl, execBl, exec_br, execBr, exec_ret, execRet]
  refine ⟨fun h => ?b, fun h => ?bl, fun h hv => ?br, fun h hv => ?ret, fun h hv => ?brTraps, fun h hv => ?retTraps⟩ <;>
    rw [State.issue_ready h rfl]
  case b =>
    rw [branchTarget_eq]
    exact ⟨_, rfl, Jumped.finish_goto p.toNat s target⟩
  case bl =>
    rw [branchTarget_eq, Effect.finish_goto]
    exact ⟨_, rfl, OnlyPane.setPane _ _ _, State.pane_setPane_self _ _ _⟩
  case br | ret =>
    rw [jumpTo_aligned hv]
    exact ⟨_, rfl, Jumped.finish_goto p.toNat s _⟩
  case brTraps | retTraps =>
    rw [jumpTo_misaligned hv]
    rfl

/-! LOOP (R191, R194). -/

theorem any_range_three {f : Nat → Bool} : (List.range 3).any f = true ↔ ∃ k : Fin 3, f k.val = true := by
  rw [List.any_eq_true]
  exact ⟨fun ⟨k, hk, hf⟩ => ⟨⟨k, List.mem_range.mp hk⟩, hf⟩, fun ⟨k, hf⟩ => ⟨k.val, List.mem_range.mpr k.isLt, hf⟩⟩

theorem getD_eq_getElem_fin {α : Type} {n : Nat} (v : Vector α n) (k : Fin n) (d : α) : v.getD k.val d = v[k] := by
  simp [Vector.getD]

section
variable (q : Pane) (l : Nat) (le : Word)

/-- A level above `l` is active. -/
def Pane.loopAbove : Prop := ∃ k : Fin 3, k.val > l ∧ q.lc[k] ≠ 0

/-- A level below `l` is active and does not enclose a body that ends at `le`. -/
def Pane.loopOutside : Prop :=
  ∃ k : Fin 3, k.val < l ∧ q.lc[k] ≠ 0 ∧ (q.pc.toNat < q.lb[k].toNat ∨ le.toNat > q.le[k].toNat)

theorem any_loopAbove : (List.range 3).any (fun k => decide (k > l) && q.active k) = true ↔ q.loopAbove l := by
  simp only [any_range_three, Pane.loopAbove, Pane.active, getD_eq_getElem_fin, Bool.and_eq_true, decide_eq_true_eq, bne_iff_ne]

theorem any_loopOutside : (List.range 3).any (fun k => decide (k < l) && q.active k &&
    (q.pc.ult (q.lb.getD k 0) || (q.le.getD k 0).ult le)) = true ↔ q.loopOutside l le := by
  simp only [any_range_three, Pane.loopOutside, Pane.active, getD_eq_getElem_fin, Bool.and_eq_true, Bool.or_eq_true, decide_eq_true_eq,
    bne_iff_ne, BitVec.ult, gt_iff_lt, and_assoc]

end

section
variable {q : Pane} {l : Nat} {le : Word}

theorem loopFault_above (h : q.loopAbove l) : loopFault q l le = some 0 := if_pos ((any_loopAbove q l).mpr h)

theorem loopFault_outside (h : ¬ q.loopAbove l) (h' : q.loopOutside l le) : loopFault q l le = some 1 :=
  (if_neg (mt (any_loopAbove q l).mp h)).trans (if_pos ((any_loopOutside q l le).mpr h'))

theorem loopFault_none (h : ¬ q.loopAbove l) (h' : ¬ q.loopOutside l le) : loopFault q l le = none :=
  (if_neg (mt (any_loopAbove q l).mp h)).trans (if_neg (mt (any_loopOutside q l le).mp h'))

end

/-- The register that holds the count of LOOP is the upper part of its field (R211). -/
theorem ofNat_div_eq_extractLsb (cnt : BitVec 10) : BitVec.ofNat 5 (cnt.toNat / 32) = cnt.extractLsb' 5 5 := by
  rw [BitVec.extractLsb', Nat.shiftRight_eq_div_pow]

theorem loopSrc_eq (r : Bool) (cnt : BitVec 10) : loopSrc r cnt = if r then [cnt.extractLsb' 5 5] else [] := by
  rw [loopSrc, ofNat_div_eq_extractLsb]

theorem Pane.loopCount_eq (q : Pane) (r : Bool) (cnt : BitVec 10) :
    q.loopCount r cnt = if r then q.gr (cnt.extractLsb' 5 5) else cnt.zeroExtend 32 := by
  rw [Pane.loopCount, ofNat_div_eq_extractLsb]
  rfl

/-- The last word of a LOOP's body. -/
def Pane.bodyEnd (q : Pane) (body : BitVec 8) : Word := q.pc + 4 + 4 * zextTo32 body

/-- Level `l` is set for a body that ends at `le`, with count n. -/
def Pane.setLoop (q : Pane) (l : Nat) (le n : Word) : Pane :=
  { q with lb := q.lb.setIfInBounds l (q.pc + 4), le := q.le.setIfInBounds l le, lc := q.lc.setIfInBounds l n }

section
variable {s : State} {p : PaneNo} {gd : BitVec 4} {l : BitVec 2} {r : Bool} {body : BitVec 8} {cnt : BitVec 10} {q : Pane}
  (h : s.ready (.loop p gd l r body cnt) p gd (loopSrc r cnt) = true) (hq : s.pane p.toNat = q)
include h hq

theorem execLoop_sets (hf : loopFault q l.toNat (q.bodyEnd body) = none) : execLoop p gd l r body cnt s =
    .next (s.setPane p.toNat (if q.loopCount r cnt = 0
      then { q.setLoop l.toNat (q.bodyEnd body) (q.loopCount r cnt) with pc := q.bodyEnd body + 4 }
      else (q.setLoop l.toNat (q.bodyEnd body) (q.loopCount r cnt)).retire)) := by
  rw [execLoop, State.issue_ready h rfl, hq]
  dsimp only [Pane.bodyEnd] at hf ⊢
  rw [hf]
  dsimp only
  split
  · exact congrArg _ (Effect.finish_goto _ _ _ _)
  · exact congrArg _ (Effect.finish_done _ _ _)

theorem execLoop_traps {c : Nat} (hf : loopFault q l.toNat (q.bodyEnd body) = some c) : execLoop p gd l r body cnt s =
    .next (s.takeTrap p.toNat { q.mkTrap 7 c q.pc with index := l.toNat }) := by
  rw [execLoop, State.issue_ready h rfl, hq]
  dsimp only [Pane.bodyEnd] at hf ⊢
  rw [hf]
  rfl

end

theorem loopResults : Claims.loopResults := by
  intro s p gd l r body cnt q rc n lb le above outside set h
  rw [← loopSrc_eq] at h
  have hn : q.loopCount r cnt = n := q.loopCount_eq r cnt
  refine ⟨fun ha ho h0 => ?skips, fun ha ho h0 => ?enters, fun ha => ?above, fun ha ho => ?outside⟩ <;> rw [exec_loop]
  case skips =>
    refine ⟨_, execLoop_sets h rfl (loopFault_none ha ho), OnlyPane.setPane _ _ _, ?_⟩
    rw [State.pane_setPane_self, hn, if_pos h0]
    rfl
  case enters =>
    refine ⟨_, execLoop_sets h rfl (loopFault_none ha ho), OnlyPane.setPane _ _ _, ?_⟩
    rw [State.pane_setPane_self, hn, if_neg h0]
    rfl
  case above => exact execLoop_traps h rfl (loopFault_above ha)
  case outside => exact execLoop_traps h rfl (loopFault_outside ha ho)

/-- Settles O13: the branches transfer control, and LOOP by the three cases of its levels. -/
theorem branchesAndLoops : Obligations.BranchesAndLoops := ⟨branchResults, loopResults⟩

end Sys2Proof.Machine
end

section
/-!
PROOF. What a load makes of its registers, and the effect of the loads and the stores (R154, R161, R211, R213, R243).
-/
namespace Sys2Proof.Machine

open Sys2Proof (Instr)

/-! A control register that is written or counts (R173). -/

theorem Pane.setCr_rest (q : Pane) (a : Nat) (v : Word) : q.setCr a v = { q with ctl := (q.setCr a v).ctl } := rfl

theorem Pane.bump_rest (q : Pane) (a n k : Nat) : q.bump a n k = { q with ctl := (q.bump a n k).ctl } := q.setCr_rest a _

/-! Registers written by a load or store (R211, R213, R243). -/

section
variable (q : Pane) (rt ra : RegNo) (m : Bool) (off : BitVec 10)

theorem Pane.setGr_rest (v : Word) : q.setGr rt v = { q with g := (q.setGr rt v).g, wreads := (q.setGr rt v).wreads } := by
  unfold Pane.setGr
  split <;> rfl

theorem Pane.gr_postMod (r : RegNo) :
    (q.postMod ra m off).gr r = if m = true ∧ r = ra ∧ ra ≠ 0 then q.gr ra + off.signExtend 32 else q.gr r := by
  cases m with
  | false => rfl
  | true => simpa [Pane.postMod, sextTo32] using q.gr_setGr ra r _

theorem Pane.postMod_rest :
    q.postMod ra m off = { q with g := (q.postMod ra m off).g, wreads := (q.postMod ra m off).wreads } := by
  cases m with
  | false => rfl
  | true => exact q.setGr_rest ra _

/-- The value of a load in RT is the one R243 gives. -/
theorem extendTo_eq {n : Nat} {sgn : Bool} (h : (n, sgn) ∈ [(1, true), (1, false), (2, true), (2, false), (4, false), (8, false)])
    (v : Nat) : extendTo n sgn v = Claims.regVal n sgn v := by
  simp only [List.mem_cons, Prod.mk.injEq, List.not_mem_nil, or_false] at h
  rcases h with ⟨rfl, rfl⟩ | ⟨rfl, rfl⟩ | ⟨rfl, rfl⟩ | ⟨rfl, rfl⟩ | ⟨rfl, rfl⟩ | ⟨rfl, rfl⟩ <;>
    simp [extendTo, Claims.regVal, sextTo32, BitVec.toNat_eq]

variable (n : Nat) (sgn : Bool) (v : Nat)

/-- The pane after a load's base is updated and RT is written. -/
def Pane.loadedOne : Pane := { (q.postMod ra m off).setGr rt (extendTo n sgn v) with loadWaits := false }

theorem Pane.loaded_eq : q.loaded rt ra m off n sgn v = if n = 8
    then (q.loadedOne rt ra m off n sgn v).setGr (rt + 1) (BitVec.ofNat 32 (v / 2 ^ 32)) else q.loadedOne rt ra m off n sgn v := rfl

theorem Pane.loadedOne_rest : q.loadedOne rt ra m off n sgn v = { q with
    g := (q.loadedOne rt ra m off n sgn v).g, wreads := (q.loadedOne rt ra m off n sgn v).wreads, loadWaits := false } := by
  unfold Pane.loadedOne
  rw [Pane.setGr_rest, Pane.postMod_rest]

/-- A load writes registers, and counts no more as waiting. -/
theorem Pane.loaded_rest : q.loaded rt ra m off n sgn v = { q with
    g := (q.loaded rt ra m off n sgn v).g, wreads := (q.loaded rt ra m off n sgn v).wreads, loadWaits := false } := by
  rw [Pane.loaded_eq]
  split
  · rw [Pane.setGr_rest, Pane.loadedOne_rest]
  · exact q.loadedOne_rest rt ra m off n sgn v

theorem Pane.gr_loadedOne (r : RegNo) : (q.loadedOne rt ra m off n sgn v).gr r =
    if r = rt ∧ rt ≠ 0 then extendTo n sgn v else if m = true ∧ r = ra ∧ ra ≠ 0 then q.gr ra + off.signExtend 32 else q.gr r := by
  rw [← Pane.gr_postMod]
  exact Pane.gr_setGr _ rt r _

section
variable {n : Nat} {sgn : Bool} (hsize : (n, sgn) ∈ [(1, true), (1, false), (2, true), (2, false), (4, false), (8, false)])
  (hpair : n = 8 → rt + 1 ≠ 0)
include hsize hpair

/-- The registers after a load whose pair, if it loads one, does not reach past g31. -/
theorem Pane.gr_loaded (r : RegNo) : (q.loaded rt ra m off n sgn v).gr r = Claims.loadedReg q rt ra m off n sgn v r := by
  rw [Pane.loaded_eq, Claims.loadedReg, ← extendTo_eq hsize]
  split
  next h8 => simp only [Pane.gr_setGr, Pane.gr_loadedOne, h8, hpair h8, ne_eq, not_false_eq_true, and_true, true_and]
  next h8 => simp only [Pane.gr_loadedOne, h8, false_and, if_false]

/-- A load that retires with value v. -/
theorem Loaded.of_loaded (s : State) (p : Nat) :
    Claims.Loaded p rt ra m off n sgn v s (s.setPane p ((s.pane p).loaded rt ra m off n sgn v).retire) := by
  refine ⟨OnlyPane.setPane _ _ _, ?_⟩
  rw [State.pane_setPane_self]
  have hrest := (s.pane p).loaded_rest rt ra m off n sgn v
  have hretire : ((s.pane p).loaded rt ra m off n sgn v).retire.pc = (s.pane p).retire.pc ∧
      ((s.pane p).loaded rt ra m off n sgn v).retire.lc = (s.pane p).retire.lc := by
    rw [hrest]
    exact Pane.retire_congr rfl rfl rfl rfl
  refine ⟨fun r => (s.pane p).gr_loaded rt ra m off v hsize hpair r, hretire.1, hretire.2, ?_⟩
  rw [Pane.retire_eq, hrest]

end

end

/-! The loads and the stores as instructions (R216, R243). -/

theorem registerRestriction_of_checkWord {w : Nat} (h : checkWord w = none) : registerRestriction w = false := by
  rw [← Bool.not_eq_true]
  intro hr
  unfold checkWord at h
  rw [if_pos hr] at h
  split_ifs at h

/-- The fields of a format E word (R210). -/
theorem wordE_fields {gd : BitVec 4} {major rt ra off : Nat} {m : Bool} (hmajor : major < 2 ^ 7) (hrt : rt < 2 ^ 5) (hra : ra < 2 ^ 5)
    (hoff : off < 2 ^ 10) : bitsOf (wordE gd major rt ra m off) 21 7 = major ∧ bitsOf (wordE gd major rt ra m off) 16 5 = rt := by
  have hm : m.toNat ≤ 1 := Bool.toNat_le m
  simp only [wordE, wordHead, bitsOf]
  omega

/-- The word of LWP passes the checks only with an even RT, so that its pair ends at g31 at the most. -/
theorem lwp_pair {p : PaneNo} {gd : BitVec 4} {rt ra : RegNo} {m : Bool} {off : BitVec 10}
    (h : undefCause (.lwp p gd rt ra m off) = none) : rt + 1 ≠ 0 := by
  have hreg := registerRestriction_of_checkWord ((undefCause_of_encodeNat rfl).symm.trans h)
  obtain ⟨hmajor, hrd⟩ := wordE_fields (gd := gd) (m := m) (major := 37) (by decide) rt.isLt ra.isLt off.isLt
  have heven : ¬ rt.toNat % 2 = 1 := by
    intro hodd
    simp [registerRestriction, hmajor, hrd, hodd] at hreg
  bv_omega

section
variable {p : PaneNo} {gd : BitVec 4} {rt ra : RegNo} {m : Bool} {off : BitVec 10}

theorem loads_size {x : Instr × Nat × Bool} (hx : x ∈ Claims.loads p gd rt ra m off) :
    x.2 ∈ [(1, true), (1, false), (2, true), (2, false), (4, false), (8, false)] := List.mem_map_of_mem (f := Prod.snd) hx

theorem loads_size_pos {x : Instr × Nat × Bool} (hx : x ∈ Claims.loads p gd rt ra m off) : 0 < x.2.1 := by
  have h := loads_size hx
  revert h
  generalize x.2 = y
  revert y
  decide

theorem State.ready_undefCause {s : State} {i : Instr} {srcs : List RegNo} (h : s.ready i p gd srcs = true) : undefCause i = none := by
  simp only [State.ready, Bool.and_eq_true, Option.isNone_iff_eq_none] at h
  exact h.1.1.2

theorem loads_pair {x : Instr × Nat × Bool} (hx : x ∈ Claims.loads p gd rt ra m off) {s : State} {srcs : List RegNo}
    (h : s.ready x.1 p gd srcs = true) : x.2.1 = 8 → rt + 1 ≠ 0 := by
  simp only [Claims.loads, List.mem_cons, List.not_mem_nil, or_false] at hx
  rcases hx with rfl | rfl | rfl | rfl | rfl | rfl <;> intro h8
  case inr.inr.inr.inr.inr => exact lwp_pair (State.ready_undefCause h)
  all_goals simp at h8

/-- A load that is ready has the effect of its size. -/
theorem exec_loads {x : Instr × Nat × Bool} (hx : x ∈ Claims.loads p gd rt ra m off) {s : State} (h : s.ready x.1 p gd [ra] = true) :
    exec x.1 s = .next ((loadBody p.toNat x.2.1 x.2.2 rt ra m off s (s.pane p.toNat)).finish p.toNat) := by
  simp only [Claims.loads, List.mem_cons, List.not_mem_nil, or_false] at hx
  rcases hx with rfl | rfl | rfl | rfl | rfl | rfl <;> exact congrArg _ (State.issue_ready h rfl)

/-- A store that is ready has the effect of its size. -/
theorem exec_stores {x : Instr × Nat × List RegNo} (hx : x ∈ Claims.stores p gd rt ra m off) {s : State}
    (h : s.ready x.1 p gd x.2.2 = true) :
    exec x.1 s = .next ((storeBody p.toNat x.2.1 rt ra m off s (s.pane p.toNat)).finish p.toNat) := by
  simp only [Claims.stores, List.mem_cons, List.not_mem_nil, or_false] at hx
  rcases hx with rfl | rfl | rfl | rfl <;> exact congrArg _ (State.issue_ready h rfl)

end

end Sys2Proof.Machine
end

section
/-!
PROOF. Loads of local memory: from memory, from a buffered store, and the load that waits for one (R154, R161, R168, R243).
-/
namespace Sys2Proof.Machine

open Sys2Proof (Instr)

/-- A readable access of local memory has no fault. -/
theorem State.accessFault_readable (s : State) {q : Pane} {a n : Nat} (hn : 0 < n) (h : Claims.readable q a n) :
    s.accessFault q a n false = none ∧ (placeOf a = .sram ∨ placeOf a = .inbox) := by
  rcases h with ⟨hend, hread⟩ | ⟨hlow, hend, halign⟩
  · have ha : a < 0xE000 := by omega
    refine ⟨?_, .inl (placeOf_sram ha)⟩
    rw [State.accessFault_sram _ _ _ ha, Pane.sramFault, if_neg (by omega), Option.map_eq_none_iff, List.find?_eq_none]
    intro k hk
    simp [hread k (List.mem_range.mp hk)]
  · have ha : a < 0xF000 := by omega
    refine ⟨?_, .inr (placeOf_inbox hlow ha)⟩
    rw [State.accessFault_inbox _ _ _ hlow ha, if_neg (not_not.mpr halign)]
    rfl

section
variable {s : State} {q : Pane} {rt ra : RegNo} {m : Bool} {off : BitVec 10} {n : Nat} {sgn : Bool}

/-- The effect of a load of readable local memory. -/
theorem loadBody_readable (p : Nat) (hn : 0 < n) (h : Claims.readable q (Claims.ea q ra m off) n) :
    loadBody p n sgn rt ra m off s q =
      loadLocal p (Claims.ea q ra m off) n (fun q v => q.loaded rt ra m off n sgn v) s q := by
  obtain ⟨hfault, hplace⟩ := s.accessFault_readable hn h
  have hea : (q.ea ra m off).toNat = Claims.ea q ra m off := q.ea_toNat ra m off
  unfold loadBody
  dsimp only
  rw [hea, hfault]
  rcases hplace with hplace | hplace <;> rw [hplace]

variable {p a : Nat} {done : Pane → Nat → Pane}

theorem loadLocal_memory (hlook : q.lookup a n = .memory) (hclean : ∀ w ∈ wordsOf a n, q.eccAt w = .clean) (hq : s.pane p = q) :
    loadLocal p a n done s q = .done (s.setPane p (done q (q.peek a n))) := by
  subst hq
  rw [loadLocal, hlook, Pane.firstUe_clean hclean, State.correctRead_clean hclean]
  rfl

theorem loadLocal_forward {v : Nat} (hlook : q.lookup a n = .forward v) :
    loadLocal p a n done s q = .done (s.setPane p (done q v)) := by
  rw [loadLocal, hlook]

theorem loadLocal_wait (hlook : q.lookup a n = .wait) : loadLocal p a n done s q = .stay (s.setPane p q.waitOn) := by
  rw [loadLocal, hlook]

end

/-- Settles O15: the load finds no store and no error, so it reads the bytes of memory and retires. -/
theorem localLoads : Obligations.LocalLoads := by
  intro s p gd rt ra m off x hx q a hready hread hsb hclean
  have hexec : exec x.1 s = .next (s.setPane p.toNat (q.loaded rt ra m off x.2.1 x.2.2 (Claims.memVal q.sram a x.2.1)).retire) := by
    rw [exec_loads hx hready, loadBody_readable _ (loads_size_pos hx) hread,
      loadLocal_memory (Pane.lookup_memory hsb) (Pane.words_clean hclean) rfl, Effect.finish_done, Pane.peek, Pane.bytes,
      leNat_readBytes]
    rfl
  exact ⟨_, hexec, Loaded.of_loaded rt ra m off _ (loads_size hx) (loads_pair hx hready) s p.toNat⟩

/-! The store buffer (R154). -/

section
variable {q : Pane} {a n : Nat} {older younger : List SbEntry} {e : SbEntry} (hsb : q.sb = older ++ e :: younger)
  (hyoung : ∀ f ∈ younger, ¬ Claims.overlap f a n) (he : Claims.overlap e a n)
include hsb hyoung he

/-- The youngest store that overlaps an aligned load decides. -/
theorem Pane.lookup_youngest (halign : a % n = 0) :
    q.lookup a n = if e.addr = a ∧ e.size = n ∧ !e.split then .forward e.data else .wait := by
  have hnone : younger.reverse.find? (fun e => decide (e.addr < a + n) && decide (a < e.addr + e.size)) = none := by
    rw [List.find?_eq_none]
    intro f hf
    simpa [Claims.overlap] using hyoung f (List.mem_reverse.mp hf)
  have hsome : (decide (e.addr < a + n) && decide (a < e.addr + e.size)) = true := by
    simpa [Claims.overlap] using he
  rw [Pane.lookup, if_pos halign, Pane.sbLook, hsb, List.reverse_append, List.reverse_cons, List.append_assoc, List.find?_append, hnone,
    Option.none_or, List.singleton_append, List.find?_cons, hsome]

end

/-- A load that waits is counted once, and nothing else of its pane changes. -/
theorem Pane.waitOn_counts (q : Pane) : { q.waitOn with loadWaits := q.loadWaits, ctl := q.ctl } = q ∧ q.waitOn.loadWaits = true ∧
    (∀ b, b ≠ 0x54 → q.waitOn.cr b = q.cr b) ∧
    q.waitOn.cr 0x54 = if q.loadWaits then q.cr 0x54 else BitVec.ofNat 32 (min ((q.cr 0x54).toNat + 1) 65535) := by
  unfold Pane.waitOn
  split
  next h => exact ⟨rfl, h, fun _ _ => rfl, rfl⟩
  next h =>
    exact ⟨rfl, rfl, fun b hb => (q.cr_setCr 0x54 b _).trans (if_neg hb.symm), (q.cr_setCr 0x54 0x54 _).trans (if_pos rfl)⟩

/-- Settles O16: the youngest overlapping store is found by the search from the back, and decides. -/
theorem storeBufferDecides : Obligations.StoreBufferDecides := by
  intro s p gd rt ra m off x hx older younger e q a hready hread halign hsb hyoung
  have hn := loads_size_pos hx
  have hexec := (exec_loads hx hready).trans (congrArg (fun o => Host.Outcome.next (Effect.finish p.toNat o)) (loadBody_readable p.toNat hn hread))
  refine ⟨fun ⟨haddr, hsize, hsplit⟩ => ?_, fun ⟨hover, hother⟩ => ?_⟩
  · have hover : Claims.overlap e a x.2.1 := by unfold Claims.overlap; omega
    have hlook : q.lookup a x.2.1 = .forward e.data :=
      (Pane.lookup_youngest hsb hyoung hover halign).trans (if_pos ⟨haddr, hsize, by rw [hsplit]; rfl⟩)
    refine ⟨_, ?_, Loaded.of_loaded rt ra m off e.data (loads_size hx) (loads_pair hx hready) s p.toNat⟩
    rw [hexec, loadLocal_forward hlook, Effect.finish_done]
  · have hlook : q.lookup a x.2.1 = .wait := by
      refine (Pane.lookup_youngest hsb hyoung hover halign).trans (if_neg fun ⟨haddr, hsize, hsplit⟩ => ?_)
      rcases hother with h | h | h
      · exact h haddr
      · exact h hsize
      · rw [h] at hsplit; exact Bool.false_ne_true hsplit
    refine ⟨s.setPane p.toNat q.waitOn, ?_, OnlyPane.setPane _ _ _, ?_⟩
    · rw [hexec, loadLocal_wait hlook]
      rfl
    · rw [State.pane_setPane_self]
      exact q.waitOn_counts

end Sys2Proof.Machine
end

section
/-!
PROOF. Stores enter the store buffer (R152, R153, R157, R159, R213).
-/
namespace Sys2Proof.Machine

open Sys2Proof (Instr)

/-- A store that may go through the buffer has no fault, and is none of a register. -/
theorem State.accessFault_bufferable {s : State} {q : Pane} {a n : Nat} (hn : 0 < n) (h : Claims.bufferable s q a n) :
    s.accessFault q a n true = none ∧ ¬ (placeOf a = .ctl ∨ placeOf a = .dev) := by
  rcases h with ⟨hend, hwrite⟩ | ⟨hlow, hhigh, halign, hring⟩ | ⟨hlow, hhigh, halign, hring, husable⟩
  · have ha : a < 0xE000 := by omega
    refine ⟨?_, by rw [placeOf_sram ha]; decide⟩
    rw [State.accessFault_sram _ _ _ ha, Pane.sramFault, if_neg (by omega), Option.map_eq_none_iff, List.find?_eq_none]
    intro k hk
    simp [hwrite k (List.mem_range.mp hk)]
  · have hplace := placeOf_buf hlow hhigh
    refine ⟨?_, by rw [hplace]; decide⟩
    simp [State.accessFault, hplace, halign, Nat.ne_of_lt hring]
  · have hplace := placeOf_dram hlow hhigh
    have hoff : q.dramOff a < s.bulkSize .dram := husable
    refine ⟨?_, by rw [hplace]; decide⟩
    simp [State.accessFault, hplace, halign, Nat.ne_of_lt hring, hoff]

/-- The parts of a store are the entries that meet at the multiple of its size. -/
theorem sbParts_eq {a n : Nat} (hn : 0 < n) (v : Nat) : sbParts a n v = Claims.entries a n v := by
  have hrest : n - (n - a % n) = a % n := by have := Nat.mod_lt a hn; omega
  rw [sbParts, Claims.entries]
  dsimp only
  rw [hrest]

/-! SNOOPS (R159). -/

section
variable (q : Pane) (a n : Nat)

/-- The pane with SNOOPS counted, where the bytes of a store overlap the fetch window. -/
def Pane.countSnoop : Pane := if q.snooped a n then q.bump 0x50 16 1 else q

/-- The bytes of a store overlap the word at `w`. -/
abbrev storeHits (a n w : Nat) : Prop := a < w + 4 ∧ w < a + n

theorem Pane.snooped_iff :
    q.snooped a n = true ↔ storeHits a n q.retire.pc.toNat ∨ storeHits a n q.retire.retire.pc.toNat := by
  simp only [Pane.snooped, Bool.or_eq_true, Bool.and_eq_true, decide_eq_true_eq]

theorem Pane.countSnoop_rest : q.countSnoop a n = { q with ctl := (q.countSnoop a n).ctl } := by
  unfold Pane.countSnoop
  split <;> rfl

theorem Pane.cr_countSnoop (b : Nat) : (q.countSnoop a n).cr b =
    if b = 0x50 ∧ q.snooped a n then BitVec.ofNat 32 (min ((q.cr 0x50).toNat + 1) 65535) else q.cr b := by
  unfold Pane.countSnoop
  by_cases hs : q.snooped a n = true
  · rw [if_pos hs, Pane.bump, Pane.cr_setCr]
    simp only [hs, and_true, eq_comm]
    rfl
  · rw [if_neg hs, if_neg (fun h => hs h.2)]

end

/-! A store into the buffer. -/

section
variable (q : Pane) (ra : RegNo) (m : Bool) (off : BitVec 10) (a n : Nat) (es : List SbEntry)

/-- The pane after a store has entered the buffer as `es`. -/
def Pane.stored : Pane := { (q.countSnoop a n).postMod ra m off with sb := q.sb ++ es }

theorem Pane.stored_rest : q.stored ra m off a n es = { q with
    g := (q.stored ra m off a n es).g, wreads := (q.stored ra m off a n es).wreads, sb := q.sb ++ es,
    ctl := (q.stored ra m off a n es).ctl } := by
  unfold Pane.stored
  rw [Pane.postMod_rest, Pane.countSnoop_rest]

theorem Pane.gr_stored (r : RegNo) : (q.stored ra m off a n es).gr r =
    if m = true ∧ r = ra ∧ ra ≠ 0 then q.gr ra + off.signExtend 32 else q.gr r := by
  have hgr (k : RegNo) : (q.countSnoop a n).gr k = q.gr k := by rw [Pane.countSnoop_rest]; rfl
  rw [← hgr, ← hgr]
  exact (q.countSnoop a n).gr_postMod ra m off r

theorem Pane.cr_stored (b : Nat) : (q.stored ra m off a n es).cr b = (q.countSnoop a n).cr b :=
  Pane.cr_of_ctl (q := q.countSnoop a n) (by unfold Pane.stored; rw [Pane.postMod_rest]) b

end

section
variable {s : State} {q : Pane} {ra : RegNo} {m : Bool} {off : BitVec 10} {p a n v : Nat}

theorem storeBuffered_enters (h : q.sb.length + (sbParts a n v).length ≤ 4) :
    storeBuffered p a n v ra m off s q = .done (s.setPane p (q.stored ra m off a n (sbParts a n v))) := by
  have hsb : (q.countSnoop a n).sb = q.sb := by rw [Pane.countSnoop_rest]
  rw [Pane.stored, ← hsb]
  exact if_neg (Nat.not_lt.mpr h)

theorem storeBuffered_waits (h : q.sb.length + (sbParts a n v).length > 4) : storeBuffered p a n v ra m off s q = .stay s := if_pos h

theorem storeBody_bufferable {rt : RegNo} (hn : 0 < n) (h : Claims.bufferable s q (Claims.ea q ra m off) n) :
    storeBody p n rt ra m off s q =
      storeBuffered p (Claims.ea q ra m off) n (Claims.storeVal q rt n) ra m off s q := by
  obtain ⟨hfault, hplace⟩ := State.accessFault_bufferable hn h
  have hea : (q.ea ra m off).toNat = Claims.ea q ra m off := q.ea_toNat ra m off
  unfold storeBody
  dsimp only
  rw [hea, hfault]
  exact if_neg hplace

end

theorem stores_size_pos {p : PaneNo} {gd : BitVec 4} {rt ra : RegNo} {m : Bool} {off : BitVec 10} {x : Instr × Nat × List RegNo}
    (hx : x ∈ Claims.stores p gd rt ra m off) : 0 < x.2.1 := by
  simp only [Claims.stores, List.mem_cons, List.not_mem_nil, or_false] at hx
  rcases hx with rfl | rfl | rfl | rfl <;> exact Nat.succ_pos _

/-- Settles O18: a permitted store reaches the buffer, which takes it or makes it wait. -/
theorem storesEnterBuffer : Obligations.StoresEnterBuffer := by
  intro s p gd rt ra m off x hx q a n es hits hready hbuf
  have hn : 0 < n := stores_size_pos hx
  have hparts : sbParts a n (Claims.storeVal q rt n) = es := sbParts_eq hn _
  have hexec : exec x.1 s = .next ((storeBuffered p.toNat a n (Claims.storeVal q rt n) ra m off s q).finish p.toNat) := by
    rw [exec_stores hx hready, storeBody_bufferable hn hbuf]
  refine ⟨fun hroom => ?_, fun hfull => ?_⟩
  · have hretire : (q.stored ra m off a n es).retire.pc = q.retire.pc ∧ (q.stored ra m off a n es).retire.lc = q.retire.lc := by
      rw [Pane.stored_rest]
      exact Pane.retire_congr rfl rfl rfl rfl
    refine ⟨s.setPane p.toNat (q.stored ra m off a n es).retire, ?_, OnlyPane.setPane _ _ _, ?_⟩
    · rw [hexec, storeBuffered_enters (by rwa [hparts]), hparts, Effect.finish_done]
    · rw [State.pane_setPane_self]
      have hcr (b : Nat) : (q.stored ra m off a n es).retire.cr b = (q.countSnoop a n).cr b := q.cr_stored ra m off a n es b
      refine ⟨rfl, fun r => q.gr_stored ra m off a n es r, hretire.1, hretire.2, fun b hb => ?_, ?_, ?_⟩
      · rw [hcr, Pane.cr_countSnoop, if_neg (fun h => hb h.1)]
      · simp only [hcr, Pane.cr_countSnoop, true_and, Pane.snooped_iff]
        rfl
      · rw [Pane.retire_eq, Pane.stored_rest]
  · rw [hexec, storeBuffered_waits (by rwa [hparts])]
    rfl

end Sys2Proof.Machine
end

section
/-!
PROOF. STORE_DRAIN: the oldest store leaves the buffer for memory or for its window (R152, R168, R170).
-/
namespace Sys2Proof.Machine

/-! Corrected words are counted (R168). -/

/-- One single-bit error is counted in ECC_CE. -/
def Pane.countCe (q : Pane) : Pane := { q.bump 0x40 16 1 with ceTotal := q.ceTotal + 1 }

section
variable (q : Pane) (k : Nat)

theorem Pane.countCe_rest :
    Pane.countCe^[k] q = { q with ctl := (Pane.countCe^[k] q).ctl, ceTotal := (Pane.countCe^[k] q).ceTotal } := by
  induction k with
  | zero => rfl
  | succ k ih =>
    rw [Function.iterate_succ_apply', ih]
    rfl

theorem Pane.cr_countCe_ne {a : Nat} (ha : a ≠ 0x40) : (Pane.countCe^[k] q).cr a = q.cr a := by
  induction k with
  | zero => rfl
  | succ k ih =>
    rw [Function.iterate_succ_apply', ← ih]
    exact (Pane.cr_setCr _ 0x40 a _).trans (if_neg ha.symm)

theorem Pane.cr_countCe : (Pane.countCe^[k] q).cr 0x40 =
    if k = 0 then q.cr 0x40 else BitVec.ofNat 32 (min ((q.cr 0x40).toNat + k) 65535) := by
  induction k with
  | zero => rfl
  | succ k ih =>
    have hstep : (Pane.countCe^[k + 1] q).cr 0x40 = BitVec.ofNat 32 (satAdd 16 ((Pane.countCe^[k] q).cr 0x40).toNat 1) := by
      rw [Function.iterate_succ_apply']
      exact (Pane.cr_setCr _ 0x40 0x40 _).trans (if_pos rfl)
    have hbefore : min (((Pane.countCe^[k] q).cr 0x40).toNat + 1) 65535 = min ((q.cr 0x40).toNat + (k + 1)) 65535 := by
      rw [ih]
      split
      next hk => rw [hk]
      next => rw [BitVec.toNat_ofNat, Nat.mod_eq_of_lt (by omega)]; omega
    rw [hstep, if_neg (Nat.succ_ne_zero k), satAdd]
    exact congrArg _ hbefore

end

/-- The single-bit errors of k words of pane p have been counted, and their events have gone out. -/
structure Corrects (p k : Nat) (s t : State) : Prop where
  rest : t = { s with panes := t.panes, arrivals := t.arrivals }
  others : ∀ j, j ≠ p → t.pane j = s.pane j
  pane : t.pane p = Pane.countCe^[k] (s.pane p)

theorem Corrects.corrected {p k : Nat} {s t : State} (h : Corrects p k (s.corrected p) t) : Corrects p (k + 1) s t where
  rest := h.rest
  others j hj := (h.others j hj).trans (State.pane_setPane_ne s p _ hj)
  pane := h.pane.trans (congrArg _ (State.pane_setPane_self s p _))

theorem State.mergeReads_corrects (s : State) (p : Nat) (ws : List Nat) : Corrects p ws.length s (s.mergeReads p ws) := by
  induction ws generalizing s with
  | nil => exact ⟨rfl, fun _ _ => rfl, rfl⟩
  | cons w ws ih => exact Corrects.corrected (ih (s.corrected p))

/-! A pane that waits for nothing (R156). -/

theorem State.poll_of_awake {s : State} {p : Nat} {q : Pane} (h : Claims.awake q) (hphase : (s.pane p).phase = q.phase) :
    s.poll p = s := by
  obtain ⟨hfence, hwaitt, hwaittIn, hevwait⟩ := h
  exact State.poll_awake (hphase ▸ hfence) (hphase ▸ hwaitt) (hphase ▸ hwaittIn) (hphase ▸ hevwait)

/-- A domain that is open needs no wake (R568). -/
theorem State.rouse_open {s : State} {d : Nat} (h : s.domOpen d = true) : s.rouse d = s := if_pos h

/-! The oldest store drains. -/

section
variable {s : State} {p : Nat} {e : SbEntry} {rest : List SbEntry} (hsb : (s.pane p).sb = e :: rest)

/-- A pane whose oldest store has drained into its memory. -/
def Pane.drainsTo (q : Pane) (e : SbEntry) (rest : List SbEntry) : Pane := { q.drainPart e.addr e.size e.data with sb := rest }

theorem Pane.drainsTo_rest (q : Pane) : q.drainsTo e rest = { q with
    sb := rest, sram := (q.drainsTo e rest).sram, ecc := (q.drainsTo e rest).ecc } := by
  unfold Pane.drainsTo
  rw [Pane.drainPart_rest]

include hsb

theorem State.drainOldest_sram (ha : e.addr < 0xE000) : ∃ t, s.drainOldest p = t ∧
    t = { s with panes := t.panes, arrivals := t.arrivals, takeovers := t.takeovers } ∧ (∀ j, j ≠ p → t.pane j = s.pane j) ∧
    t.pane p = (Pane.countCe^[((s.pane p).merges e.addr e.size).length] (s.pane p)).drainsTo e rest := by
  obtain ⟨hrest, hothers, hpane⟩ := s.mergeReads_corrects p ((s.pane p).merges e.addr e.size)
  generalize hu : s.mergeReads p ((s.pane p).merges e.addr e.size) = u at hrest hothers hpane
  have hnote := (u.modPane p (fun q => q.drainsTo e rest)).drained_rest p e.addr e.size
  have hkeep (j : Nat) : ((u.modPane p (fun q => q.drainsTo e rest)).drained p e.addr e.size).pane j =
      (u.modPane p (fun q => q.drainsTo e rest)).pane j := by rw [hnote]; rfl
  refine ⟨(u.modPane p (fun q => q.drainsTo e rest)).drained p e.addr e.size, ?_, ?_, fun j hj => ?_, ?_⟩
  · unfold State.drainOldest
    dsimp only
    rw [hsb]
    exact (if_pos (placeOf_sram ha)).trans (by rw [hu]; rfl)
  · rw [hnote, hrest]
    rfl
  · rw [hkeep, State.modPane, State.pane_setPane_ne _ _ _ hj, hothers j hj]
  · rw [hkeep, State.modPane, State.pane_setPane_self, hpane]

theorem State.drainOldest_buf (hlow : 0x10000000 ≤ e.addr) (hhigh : e.addr < 0x10200000)
    (hreads : ∀ r ∈ (s.pane p).wreads, r.status ≠ .waiting) (hopen : s.domOpen (64 + bayOf p) = true) :
    s.drainOldest p = s.setPane p { s.pane p with
      sb := rest,
      wstores := (s.pane p).wstores ++ [{ addr := e.addr, size := e.size, data := e.data, df := e.df, tag := (s.pane p).tag,
                                          off := e.addr - 0x10000000 }] } := by
  have hplace : ¬ placeOf e.addr = .sram := by rw [placeOf_buf hlow hhigh]; decide
  have hwindow : (s.pane p).window p e.addr = (.buf (bayOf p), e.addr - 0x10000000) := if_pos (by omega)
  have hpass : ¬ ((s.pane p).wreads.any fun r =>
      r.status == .waiting && winShare r.addr r.size r.off e.addr e.size (e.addr - 0x10000000)) = true := by
    rw [List.any_eq_true]
    rintro ⟨r, hr, hshare⟩
    exact hreads r hr (beq_iff_eq.mp (Bool.and_eq_true_iff.mp hshare).1)
  unfold State.drainOldest
  dsimp only
  rw [hsb]
  dsimp only
  rw [if_neg hplace, hwindow, if_neg hpass]
  exact State.rouse_open hopen

end

theorem execStoreDrain_up {s : State} {p : PaneNo} {n : Nat} (hup : s.paneUp p.toNat = true) (hawake : Claims.awake (s.pane p.toNat))
    (hphase : (((s.at n).drainOldest p.toNat).pane p.toNat).phase = (s.pane p.toNat).phase) :
    exec (.storeDrain p n) s = .next ((s.at n).drainOldest p.toNat) :=
  congrArg Host.Outcome.next ((if_pos hup).trans (State.poll_of_awake hawake hphase))

/-- Settles O19: a store to memory changes what `Pane.drainPart` changes, and a store to a window only moves on. -/
theorem storeDrains : Obligations.StoreDrains := by
  intro s p n e rest q hup hawake hsb
  refine ⟨fun hend hsize => ?sram, fun hlow hhigh hopen hreads => ?window⟩
  case sram =>
    obtain ⟨t, hdrain, hrest, hothers, hpane⟩ := State.drainOldest_sram (s := s.at n) hsb (by omega)
    replace hpane : t.pane p.toNat = (Pane.countCe^[(q.merges e.addr e.size).length] q).drainsTo e rest := hpane
    have hcount := Pane.countCe_rest q (q.merges e.addr e.size).length
    have hcr (a : Nat) : (t.pane p.toNat).cr a = (Pane.countCe^[(q.merges e.addr e.size).length] q).cr a := by
      rw [hpane, Pane.drainsTo_rest]
      rfl
    refine ⟨t, hdrain ▸ execStoreDrain_up hup hawake ?_, by rw [hrest]; rfl, ?_, fun b => ?_, ?_, fun a ha => ?_, ?_, hothers,
      by rw [hrest]; rfl, by rw [hrest]; rfl⟩
    · rw [hdrain, hpane, Pane.drainsTo_rest, hcount]
    · rw [hpane]
      rfl
    · rw [hpane]
      refine (Pane.read_drainPart _ _ _ _ b).trans ?_
      rw [hcount]
    · rw [hpane, Pane.drainsTo_rest, hcount]
    · rw [hcr, Pane.cr_countCe_ne _ _ ha]
    · rw [hcr, Pane.cr_countCe]
      simp only [List.length_eq_zero_iff]
  case window =>
    have hdrain : (s.at n).drainOldest p.toNat = _ := State.drainOldest_buf hsb hlow hhigh hreads hopen
    refine ⟨_, execStoreDrain_up hup hawake ?_, ?_⟩ <;> rw [hdrain]
    · rw [State.pane_setPane_self]
      rfl
    · rw [State.pane_setPane_self]
      exact ⟨rfl, rfl, rfl, rfl, fun k hk => State.pane_setPane_ne _ _ _ hk, rfl, rfl⟩

end Sys2Proof.Machine
end

section
/-!
PROOF. Loads of a window go out as requests (R148, R149, R154, R391).
-/
namespace Sys2Proof.Machine

/-- The pane after a load has sent its request. -/
def Pane.requests (q : Pane) (ra : RegNo) (m : Bool) (off : BitVec 10) (old : List WRead) (new : WRead) : Pane :=
  { q.postMod ra m off with wreads := old ++ [new], loadWaits := false }

theorem Pane.requests_rest (q : Pane) (ra : RegNo) (m : Bool) (off : BitVec 10) (old : List WRead) (new : WRead) :
    q.requests ra m off old new = { q with g := (q.postMod ra m off).g, wreads := old ++ [new], loadWaits := false } := by
  unfold Pane.requests
  rw [Pane.postMod_rest]

/-- The request of a load of n bytes at `a` in a bay-buffer window. -/
def bufRequest (a n : Nat) (rt : RegNo) (sgn : Bool) : WRead :=
  { addr := a, size := n, dest := if rt = 0 then none else some rt, dest2 := if n = 8 then some (rt + 1) else none, signed := sgn,
    status := .waiting, df := false, off := a - 0x10000000 }

section
variable {s : State} {q : Pane} {rt ra : RegNo} {m : Bool} {off : BitVec 10} {sgn : Bool} {p a n : Nat}

theorem loadWindow_full (hlook : q.lookup a n = .memory) (hfull : 3 ≤ q.outstanding) :
    loadWindow p a n rt ra m off sgn s q = .stay s := by
  rw [loadWindow, hlook]
  exact if_pos hfull

theorem loadWindow_requests (hlook : q.lookup a n = .memory) (hroom : q.outstanding < 3) (hhigh : a < 0x10200000)
    (hopen : s.domOpen (64 + bayOf p) = true) : ∃ old, old.length = q.wreads.length ∧
      loadWindow p a n rt ra m off sgn s q = .done (s.setPane p (q.requests ra m off old (bufRequest a n rt sgn))) := by
  have hwindow : q.window p a = (.buf (bayOf p), a - 0x10000000) := if_pos (by omega)
  unfold loadWindow
  rw [hlook]
  dsimp only
  rw [if_neg (Nat.not_le.mpr hroom), hwindow]
  exact ⟨_, by rw [List.length_map, List.length_map], congrArg Effect.done (State.rouse_open hopen)⟩

/-- The effect of an aligned load of the bay-buffer window. -/
theorem loadBody_buf (hlow : 0x10000000 ≤ Claims.ea q ra m off) (hhigh : Claims.ea q ra m off < 0x10200000)
    (halign : Claims.ea q ra m off % n = 0) :
    loadBody p n sgn rt ra m off s q = loadWindow p (Claims.ea q ra m off) n rt ra m off sgn s q := by
  have hea : (q.ea ra m off).toNat = Claims.ea q ra m off := q.ea_toNat ra m off
  have hplace := placeOf_buf hlow hhigh
  have hfault : s.accessFault q (Claims.ea q ra m off) n false = none := by simp [State.accessFault, hplace, halign]
  unfold loadBody
  dsimp only
  rw [hea, hfault, hplace]

end

theorem windowLoadsIssue : Claims.windowLoadsIssue := by
  intro s p gd rt ra m off x hx q a n hready hlow hhigh halign hsb hopen
  have hlook : q.lookup a n = .memory := Pane.lookup_memory hsb
  have hexec : exec x.1 s = .next ((loadWindow p.toNat a n rt ra m off x.2.2 s q).finish p.toNat) := by
    rw [exec_loads hx hready, loadBody_buf hlow hhigh halign]
  refine ⟨fun hroom => ?_, fun hfull => by rw [hexec, loadWindow_full hlook hfull]; rfl⟩
  obtain ⟨old, hlength, hissue⟩ := loadWindow_requests (s := s) (rt := rt) (ra := ra) (m := m) (off := off) (sgn := x.2.2)
    hlook hroom hhigh hopen
  have hretire : (q.requests ra m off old (bufRequest a n rt x.2.2)).retire.pc = q.retire.pc := by
    rw [Pane.requests_rest]
    exact (Pane.retire_congr rfl rfl rfl rfl).1
  refine ⟨_, bufRequest a n rt x.2.2, by rw [hexec, hissue, Effect.finish_done], OnlyPane.setPane _ _ _, ?_⟩
  rw [State.pane_setPane_self]
  refine ⟨List.getLast?_concat, ?_, rfl, fun r => q.gr_postMod ra m off r, hretire, ?_, ?_⟩
  · exact List.length_append.trans (congrArg (· + 1) hlength)
  · rw [Pane.requests_rest]
    rfl
  · rw [Pane.requests_rest]
    rfl

end Sys2Proof.Machine
end

section
/-!
PROOF. Window accesses are answered (R149, R150, R391, R402, R404).
-/
namespace Sys2Proof.Machine

theorem bulkAt_buf {p a : Nat} (h : a < 0x40000000) : bulkAt p a = .buf (bayOf p) := if_pos h

/-! Reads (R149, R150). -/

theorem State.pane_wr (s : State) (a : Nat) (v : Word) (p : Nat) : (s.wr a v).pane p = s.pane p := rfl

theorem State.pane_bulkUe_buf (s : State) (bay a p : Nat) : (s.bulkUe (.buf bay) a).pane p = s.pane p :=
  (State.pane_wr _ _ _ p).trans (State.pane_wr s _ _ p)

section
variable {q : Pane} {r : WRead} {v : Nat}

/-- The registers after an answered read: those of the read that no younger instruction has written (log 12). -/
theorem Pane.gr_deliver (d : RegNo) : (q.deliver r v).gr d =
    if d ≠ 0 ∧ r.dest2 = some d then BitVec.ofNat 32 (v / 2 ^ 32)
    else if d ≠ 0 ∧ r.dest = some d then extendTo r.size r.signed v else q.gr d := by
  have hset (q : Pane) (o : RegNo) (w : Word) : (q.setGr o w).gr d = if d ≠ 0 ∧ some o = some d then w else q.gr d := by
    rw [Pane.gr_setGr]
    by_cases hd : d = o
    · subst hd; simp
    · simp [hd, Ne.symm hd]
  unfold Pane.deliver
  cases r.dest2 <;> cases r.dest <;> simp only [hset, reduceCtorEq, and_false, if_false]

theorem Pane.deliver_wreads_length : (q.deliver r v).wreads.length = q.wreads.length := by
  have hset (q : Pane) (o : RegNo) (w : Word) : (q.setGr o w).wreads.length = q.wreads.length := by
    unfold Pane.setGr
    split
    · rfl
    · exact List.length_map _
  unfold Pane.deliver
  cases r.dest2 <;> cases r.dest <;> simp only [hset]

theorem Pane.deliver_phase : (q.deliver r v).phase = q.phase := by
  unfold Pane.deliver
  cases r.dest2 <;> cases r.dest <;> simp only [Pane.setGr_phase]

end

section
variable {s : State} {p k : Nat} {r : WRead} (hk : (s.pane p).wreads[k]? = some r) (hwait : r.status = .waiting)
  (hstores : (s.pane p).wstores = []) (haddr : r.addr < 0x40000000) (hopen : s.domOpen (64 + bayOf p) = true)
include hk hwait hstores haddr hopen

/-- A read of an open bay buffer, which no store holds back, is answered as the buffer reads. -/
theorem State.returnRead_buf : s.returnRead p k = match s.bulkRead (.buf (bayOf p)) r.off r.size with
    | (none, s1) => s1.modPane p (fun q => q.setWread k { r with status := .uncorrectable })
    | (some v, s1) => s1.modPane p (fun q => { q with wreads := q.wreads.eraseIdx k }.deliver r v) := by
  have hpass : ¬ (r.status != .waiting || (s.pane p).wstores.any (fun w => winShare r.addr r.size r.off w.addr w.size w.off)) = true := by
    simp [hwait, hstores]
  have hup : ¬ (!s.domOpen (Bulk.buf (bayOf p)).domain) = true := by
    rw [Bulk.domain, hopen]
    decide
  unfold State.returnRead
  dsimp only
  rw [hk]
  dsimp only
  rw [if_neg hpass, bulkAt_buf haddr, if_neg hup]
  rfl

theorem State.returnRead_clean (hclean : s.bulkEcc (.buf (bayOf p)) r.off = .clean) : s.returnRead p k =
    s.setPane p (Pane.deliver { s.pane p with wreads := (s.pane p).wreads.eraseIdx k } r
      (Claims.memVal (s.buf (bayOf p)) r.off r.size)) := by
  rw [State.returnRead_buf hk hwait hstores haddr hopen, State.bulkRead, hclean]
  dsimp only
  rw [leNat_readBytes]
  rfl

theorem State.returnRead_uncorrectable (hue : s.bulkEcc (.buf (bayOf p)) r.off = .uncorrectable) : s.returnRead p k =
    (s.bulkUe (.buf (bayOf p)) r.off).setPane p ((s.pane p).setWread k { r with status := .uncorrectable }) := by
  rw [State.returnRead_buf hk hwait hstores haddr hopen, State.bulkRead, hue]
  dsimp only
  rw [State.modPane, State.pane_bulkUe_buf]

end

section
variable {s : State} {p : PaneNo} {k n : Nat} (hawake : Claims.awake (s.pane p.toNat))
include hawake

theorem execWindowReadReturn_awake (hphase : (((s.at n).returnRead p.toNat k).pane p.toNat).phase = (s.pane p.toNat).phase) :
    exec (.windowReadReturn p k n) s = .next ((s.at n).returnRead p.toNat k) :=
  congrArg Host.Outcome.next (State.poll_of_awake hawake hphase)

theorem execWindowStoreResult_awake (hphase : (((s.at n).answerStore p.toNat).pane p.toNat).phase = (s.pane p.toNat).phase) :
    exec (.windowStoreResult p n) s = .next ((s.at n).answerStore p.toNat) :=
  congrArg Host.Outcome.next (State.poll_of_awake hawake hphase)

end

/-! Stores (R391, R404). -/

/-- A write of a bay buffer changes its own bytes, and no pane. -/
theorem State.bulkWrite_buf (s : State) (bay a n v : Nat) :
    (s.bulkWrite (.buf bay) a n v).panes = s.panes ∧ (s.bulkWrite (.buf bay) a n v).bufs = (s.bulkPoke (.buf bay) a n v).bufs := by
  unfold State.bulkWrite
  dsimp only
  split
  · exact ⟨rfl, rfl⟩
  · split <;> exact ⟨rfl, rfl⟩

theorem State.read_buf_bulkPoke (s : State) (bay a n v b : Nat) : ((s.bulkPoke (.buf bay) a n v).buf bay).read b =
    if a ≤ b ∧ b < a + n then BitVec.ofNat 8 (v / 2 ^ (8 * (b - a))) else (s.buf bay).read b := by
  have hbuf : (s.bulkPoke (.buf bay) a n v).buf bay = Memory.writeBytes (s.buf bay) a (leBytes n v) :=
    (SMap.get_set _ s.bufs bay bay _).trans (if_pos rfl)
  rw [hbuf]
  exact Pane.read_poke { Pane.reset with sram := s.buf bay } a n v b

theorem State.mvSubmit_rest (s : State) (b w n tag : Nat) : s.mvSubmit b w n tag = { s with movers := (s.mvSubmit b w n tag).movers } := by
  unfold State.mvSubmit
  split
  · rfl
  · generalize List.range 4 = l
    induction l using List.reverseRecOn with
    | nil => rfl
    | append_singleton l x ih =>
      rw [List.foldl_append]
      generalize List.foldl _ s l = u at ih
      rw [ih]
      dsimp only [List.foldl]
      split <;> rfl

section
variable {s : State} {p : Nat} {w : WStore} {rest : List WStore} (hw : (s.pane p).wstores = w :: rest) (haddr : w.addr < 0x40000000)
  (hopen : s.domOpen (64 + bayOf p) = true)
include hw haddr hopen

theorem State.answerStore_buf : s.answerStore p =
    if s.ringForeign (bayOf p) p w.off w.size then
      (s.setPane p { s.pane p with
        wstores := rest, wrefused := (s.pane p).wrefused ++ [{ addr := w.addr, df := w.df }] }).bump (Config.bay (bayOf p) + 0x2C) 16 1
    else ((s.setPane p { s.pane p with wstores := rest }).bulkWrite (.buf (bayOf p)) w.off w.size w.data).mvSubmit
      (bayOf p) w.off w.size w.tag := by
  have hup : ¬ (!s.domOpen (Bulk.buf (bayOf p)).domain) = true := by
    rw [Bulk.domain, hopen]
    decide
  unfold State.answerStore
  dsimp only
  rw [hw]
  dsimp only
  rw [bulkAt_buf haddr, if_neg hup]

/-- A store into the ring of another pane's mover is refused, and the buffer stays. -/
theorem State.answerStore_refused (hring : s.ringForeign (bayOf p) p w.off w.size = true) (b : Nat) :
    (s.answerStore p).buf b = s.buf b ∧ (s.answerStore p).pane p = { s.pane p with
      wstores := rest, wrefused := (s.pane p).wrefused ++ [{ addr := w.addr, df := w.df }] } := by
  rw [State.answerStore_buf hw haddr hopen, if_pos hring]
  exact ⟨rfl, State.pane_setPane_self _ _ _⟩

/-- A store that is accepted changes its own bytes of the buffer. -/
theorem State.answerStore_accepted (hring : s.ringForeign (bayOf p) p w.off w.size = false) :
    (s.answerStore p).pane p = { s.pane p with wstores := rest } ∧ ∀ b, ((s.answerStore p).buf (bayOf p)).read b =
      if w.off ≤ b ∧ b < w.off + w.size then BitVec.ofNat 8 (w.data / 2 ^ (8 * (b - w.off))) else (s.buf (bayOf p)).read b := by
  obtain ⟨hpanes, hbufs⟩ := (s.setPane p { s.pane p with wstores := rest }).bulkWrite_buf (bayOf p) w.off w.size w.data
  rw [State.answerStore_buf hw haddr hopen, hring, State.mvSubmit_rest]
  refine ⟨?_, fun b => ?_⟩
  · exact (congrArg (fun m => SMap.get (fun _ => Pane.reset) m p) hpanes).trans (State.pane_setPane_self _ _ _)
  · exact (congrArg (fun m : SMap Memory => Memory.read (SMap.get (fun _ => []) m (bayOf p)) b) hbufs).trans (State.read_buf_bulkPoke _ _ _ _ _ b)

end

theorem windowAnswers : Claims.windowAnswers := by
  intro s p k n q bay hawake
  refine ⟨fun r hk hwait hstores haddr hopen => ⟨fun hclean => ?clean, fun hue => ?uncorrectable⟩,
    fun w rest hw haddr hopen => ⟨fun hring => ?accepted, fun hring => ?refused⟩⟩
  case clean =>
    have hreturn := State.returnRead_clean (s := s.at n) hk hwait hstores haddr hopen hclean
    have hlt : k < q.wreads.length := (List.getElem?_eq_some_iff.mp hk).1
    refine ⟨_, execWindowReadReturn_awake hawake ?_, ?_⟩ <;> rw [hreturn]
    · rw [State.pane_setPane_self, Pane.deliver_phase]
      rfl
    · rw [State.pane_setPane_self]
      refine ⟨rfl, rfl, ?_, fun d => Pane.gr_deliver d⟩
      rw [Pane.deliver_wreads_length]
      exact List.length_eraseIdx_of_lt hlt
  case uncorrectable =>
    have hreturn := State.returnRead_uncorrectable (s := s.at n) hk hwait hstores haddr hopen hue
    have hpane : ((s.at n).returnRead p.toNat k).pane p.toNat = q.setWread k { r with status := .uncorrectable } := by
      rw [hreturn, State.pane_setPane_self]
      rfl
    exact ⟨_, execWindowReadReturn_awake hawake (congrArg Pane.phase hpane :), hpane⟩
  case accepted =>
    obtain ⟨hpane, hread⟩ := State.answerStore_accepted (s := s.at n) hw haddr hopen hring
    exact ⟨_, execWindowStoreResult_awake hawake (congrArg Pane.phase hpane :), hpane, hread⟩
  case refused =>
    obtain ⟨hbuf, hpane⟩ := State.answerStore_refused (s := s.at n) hw haddr hopen hring bay
    exact ⟨_, execWindowStoreResult_awake hawake (congrArg Pane.phase hpane :), hbuf, hpane⟩

/-- Settles O20: loads of a window ask for their data, and reads and stores are answered by the bay buffer. -/
theorem windowLoadsAnswer : Obligations.WindowLoadsAnswer := ⟨windowLoadsIssue, windowAnswers⟩

end Sys2Proof.Machine
end

section
/-!
PROOF. What an entry makes of its pane: the frame, STATUS, pc and g30 (R270 to R277).
-/
namespace Sys2Proof.Machine

/-- Words with the same bits under a mask. -/
theorem and_mask_congr {w w' mask : Word} (h : ∀ j : Fin 32, mask.getLsbD j = true → w.bit j = w'.bit j) : w &&& mask = w' &&& mask := by
  refine BitVec.eq_of_getLsbD_eq fun j hj => ?_
  rw [BitVec.getLsbD_and, BitVec.getLsbD_and]
  by_cases hm : mask.getLsbD j = true
  · rw [show w.getLsbD j = w'.getLsbD j from h ⟨j, hj⟩ hm]
  · rw [Bool.eq_false_iff.mpr hm, Bool.and_false, Bool.and_false]

section
variable (q : Pane) (n : Nat)

/-- The ring of a handler (R275). -/
def Pane.entryRing : Nat := min q.ring ((q.cr (0xA08 + 16 * n)).fld 0 2)

/-- STATUS after an entry through descriptor `n` (R274, R275). -/
def Pane.entryStatus : Word :=
  ((q.status.withFld 12 2 (q.entryRing n)).withBit 14 ((q.cr (0xA08 + 16 * n)).bit 2)).withFld 16 16 0

theorem Pane.entryRing_lt : q.entryRing n < 4 := lt_of_le_of_lt (Nat.min_le_left _ _) (Nat.mod_lt _ (by decide))

theorem Pane.entryStatus_ring : (q.entryStatus n).fld 12 2 = q.entryRing n := by
  rw [Pane.entryStatus, Word.fld_withFld_of_disjoint _ (by decide) (by decide), Word.withBit,
    Word.fld_withFld_of_disjoint _ (by decide) (by decide), Word.fld_withFld _ (by decide)]
  exact Nat.mod_eq_of_lt (q.entryRing_lt n)

theorem Pane.entryStatus_em : (q.entryStatus n).bit 14 = (q.cr (0xA08 + 16 * n)).bit 2 := by
  rw [Pane.entryStatus, Word.bit_withFld _ (by decide), if_neg (by decide), Word.bit_withBit _ (by decide), if_pos rfl]

theorem Pane.entryStatus_rc : (q.entryStatus n).fld 16 16 = 0 := Word.fld_withFld _ (by decide) 0

/-- The flags and the enables stay. -/
theorem Pane.entryStatus_flags : q.entryStatus n &&& 0x00008FFF#32 = q.status &&& 0x00008FFF#32 := by
  refine and_mask_congr fun j hj => ?_
  have hplace : j.val < 12 ∨ j.val = 15 := by revert j; decide
  rw [Pane.entryStatus, Word.bit_withFld _ (by decide), if_neg (by omega), Word.bit_withBit _ (by decide), if_neg (by omega),
    Word.bit_withFld _ (by decide), if_neg (by omega)]

/-- The stack pointer of a descriptor. -/
def Pane.entrySp : Word := q.cr (0xA04 + 16 * n) &&& 0xFFFFFFF8#32

variable (f : Frame)

/-- An entry saves its frame and goes to its handler; the rest of the pane but g30 stays. -/
theorem Pane.push_rest : q.push n f = { q with
    frames := q.frames.setIfInBounds q.fdepth f, fdepth := q.fdepth + 1, status := q.entryStatus n,
    pc := q.cr (0xA00 + 16 * n) &&& 0xFFFFFFFC#32, phase := .run, loadWaits := false, g := (q.push n f).g,
    wreads := (q.push n f).wreads } := by
  unfold Pane.push
  dsimp only
  split
  · rw [Pane.setGr_rest]
    rfl
  · rfl

theorem Pane.gr_push (k : RegNo) : (q.push n f).gr k =
    if k = 30 ∧ q.entryRing n < q.ring ∧ q.entrySp n ≠ 0 then q.entrySp n else q.gr k := by
  unfold Pane.push
  dsimp only
  split
  next h =>
    rw [Pane.gr_setGr]
    simp only [show (30 : RegNo) ≠ 0 by decide, ne_eq, not_false_eq_true, and_true]
    exact ite_congr (propext ⟨fun hk => ⟨hk, h⟩, And.left⟩) (fun _ => rfl) (fun _ => rfl)
  next h => exact (if_neg fun hk => h hk.2).symm

end

/-! An entry, or a halt (R273, R290 to R292). -/

section
variable {s : State} {p n : Nat} {epc ecause eaddr : Word}

theorem State.enter_enters (hdepth : (s.pane p).fdepth < 4) (hvalid : (s.pane p).descValid n = true) (hn : n ≤ 8) :
    s.enter p n epc ecause eaddr =
      s.setPane p (((s.pane p).push n ((s.pane p).frameFor epc ecause eaddr)).bump 0xE08 16 1) := by
  unfold State.enter
  dsimp only
  rw [if_neg (by simp [hvalid, hdepth]), if_pos hn]

theorem State.enter_halts (h : (s.pane p).fdepth ≥ 4 ∨ (s.pane p).descValid n = false) :
    s.enter p n epc ecause eaddr = s.haltPane p n epc := if_pos (by simpa using h)

end

/-- A trap that nothing holds back enters its own descriptor (R151). -/
theorem State.takeTrap_settled {s : State} {p : Nat} {t : Trap} (hsettled : (s.pane p).settled = true)
    (hfail : (s.pane p).failure = none) (hnum : t.num ≠ 5) :
    s.takeTrap p t = (s.setPane p { s.pane p with entry := none }).enter p t.num t.epc (ecauseOf t) t.eaddr := by
  unfold State.takeTrap
  dsimp only
  rw [if_neg (by rw [hsettled]; decide), hfail]
  dsimp only
  rw [if_neg hnum]

theorem execTrapEntry_waiting {s : State} {p : PaneNo} {t : Trap} (ht : (s.pane p.toNat).entry = some t) (hnum : t.num ≤ 8) :
    exec (.trapEntry p) s = .next (s.takeTrap p.toNat t) := by
  rw [exec_trapEntry, execTrapEntry, ht]
  exact congrArg _ (if_neg (by omega))

/-- A counted entry of a pane, once nothing waits to be entered any more. -/
theorem Entered.of_push (s : State) (p n : Nat) (f : Frame) : Claims.Entered p n f (s.pane p).lc (some 0xE08) s
    (s.setPane p ((Pane.push { s.pane p with entry := none } n f).bump 0xE08 16 1)) := by
  have hrest := Pane.push_rest { s.pane p with entry := none } n f
  have hcr (a : Nat) : (Pane.push { s.pane p with entry := none } n f).cr a = (s.pane p).cr a := by
    rw [hrest]
    rfl
  have hstatus : (Pane.push { s.pane p with entry := none } n f).status = (s.pane p).entryStatus n := by
    rw [hrest]
    rfl
  refine ⟨OnlyPane.setPane _ _ _, ?_⟩
  rw [State.pane_setPane_self]
  refine ⟨?frames, ?fdepth, ?pc, ?ring, ?em, ?rc, ?status, fun k => Pane.gr_push _ n f k, fun a => ?cr, ?_⟩
  case ring => exact (congrArg (fun w : Word => w.fld 12 2) hstatus).trans (Pane.entryStatus_ring _ n)
  case em => exact (congrArg (fun w : Word => w.bit 14) hstatus).trans (Pane.entryStatus_em _ n)
  case rc => exact (congrArg (fun w : Word => w.fld 16 16) hstatus).trans (Pane.entryStatus_rc _ n)
  case status => exact (congrArg (· &&& 0x00008FFF#32) hstatus).trans (Pane.entryStatus_flags _ n)
  case cr =>
    rw [Pane.bump, Pane.cr_setCr, hcr, hcr]
    by_cases ha : a = 0xE08
    · subst ha
      rfl
    · rw [if_neg (Ne.symm ha), if_neg (fun h => ha (Option.some.inj h).symm)]
  all_goals rw [hrest]
  case frames | fdepth | pc => rfl
  exact ⟨rfl, rfl, rfl, rfl, rfl, rfl, rfl, rfl, rfl⟩

theorem trapEntryCompletes : Claims.trapEntryCompletes := by
  intro p s t q ht hsettled hfail hle hne hvalid hdepth
  refine ⟨_, (execTrapEntry_waiting ht hle).trans (congrArg _ ?_), Entered.of_push s p.toNat t.num _⟩
  rw [State.takeTrap_settled hsettled hfail hne]
  refine (State.enter_enters ?_ ?_ hle).trans ?_
  all_goals rw [State.pane_setPane_self]
  · exact hdepth
  · exact hvalid
  · exact State.setPane_setPane _ _ _ _

/-! A halt (R292). -/

/-- The pane after a halt. -/
def Pane.halts (q : Pane) (n : Nat) (epc : Word) : Pane :=
  { (q.setCr 0xE00 (BitVec.ofNat 32 (1 + n % 256 * 256))).setCr 0xE04 epc with phase := .halted, faulty := 15 }

theorem Pane.cr_halts (q : Pane) (n : Nat) (epc : Word) (a : Nat) : (q.halts n epc).cr a =
    if 0xE04 = a then epc else if 0xE00 = a then BitVec.ofNat 32 (1 + n % 256 * 256) else q.cr a :=
  (Pane.cr_setCr _ _ a _).trans (by rw [Pane.cr_setCr])

theorem Pane.halts_rest (q : Pane) (n : Nat) (epc : Word) :
    q.halts n epc = { q with phase := .halted, faulty := 15, ctl := (q.halts n epc).ctl } := by
  unfold Pane.halts
  rw [Pane.setCr_rest, Pane.setCr_rest q]

theorem posInSash_lt (p : Nat) : posInSash p < 65536 := by
  unfold posInSash
  omega

/-- A halt leaves its mark on the pane, reports, and rings its bell. -/
theorem State.haltPane_halts (s : State) (p n : Nat) (epc : Word) : ∃ u, s.haltPane p n epc = u ∧
    u.pane p = (s.pane p).halts n epc ∧ u.latchReps = s.latchReps ++ [{ rep := .halt p, at' := s.now }] ∧
    u.arrivals = s.arrivals ++ [{ src := 23, kind := .edge, detail := posInSash p, todo := oneBell (sashOf p) }] ∧
    u = { s with panes := u.panes, latchReps := u.latchReps, arrivals := u.arrivals } := by
  refine ⟨_, rfl, s.pane_setPane_self p _, rfl, ?_, rfl⟩
  rw [← Nat.mod_eq_of_lt (posInSash_lt p)]
  rfl

theorem entryHalts : Claims.entryHalts := by
  intro p s t q ht hsettled hfail hle hne hhalt
  have hnum : t.num % 256 = t.num := Nat.mod_eq_of_lt (by omega)
  obtain ⟨u, hrun, hpane, hreps, harrivals, hrest⟩ :=
    (s.setPane p.toNat { q with entry := none }).haltPane_halts p.toNat t.num t.epc
  rw [State.pane_setPane_self] at hpane
  refine ⟨u, ?_, ?_, ?_, ?_, ?_, fun a h h' => ?_, hreps, harrivals, hrest⟩
  · rw [execTrapEntry_waiting ht hle, State.takeTrap_settled hsettled hfail hne, State.enter_halts, hrun]
    rw [State.pane_setPane_self]
    exact hhalt
  all_goals rw [hpane]
  · rfl
  · rw [Pane.cr_halts, if_neg (by decide), if_pos rfl, hnum, Nat.mul_comm]
  · exact (Pane.cr_halts _ _ _ _).trans (if_pos rfl)
  · rw [Pane.halts_rest]
  · rw [Pane.cr_halts, if_neg h'.symm, if_neg h.symm]
    rfl

/-- Settles O22: a trap that waited enters its descriptor, or halts the pane. -/
theorem trapsEnterOrHalt : Obligations.TrapsEnterOrHalt := ⟨trapEntryCompletes, entryHalts⟩

end Sys2Proof.Machine
end

section
/-!
PROOF. The latch scrubs and rewrites the memory of its pane (R168, R169, R171).
-/
namespace Sys2Proof.Machine

/-! ECC marks (R168). -/

theorem Pane.eccAt_setEcc (q : Pane) (a b : Nat) (m : EccMark) :
    (q.setEcc a m).eccAt b = if b / 4 = a / 4 then m else q.eccAt b :=
  (SMap.get_set _ q.ecc (a / 4) (b / 4) m).trans (by simp only [eq_comm]; rfl)

theorem Pane.setEcc_rest (q : Pane) (a : Nat) (m : EccMark) : q.setEcc a m = { q with ecc := (q.setEcc a m).ecc } := rfl

theorem Pane.eccAt_congr {q : Pane} {a b : Nat} (h : b / 4 = a / 4) : q.eccAt b = q.eccAt a := by
  rw [Pane.eccAt, h]
  rfl

/-! The rewrite at a stall (R168). -/

/-- The pane with its word `a` written back, where it holds a single-bit error. -/
def Pane.mendWord (q : Pane) (a : Nat) : Pane := if q.eccAt a == .correctable then q.setEcc a .clean else q

theorem Pane.mendWord_rest (q : Pane) (a : Nat) : q.mendWord a = { q with ecc := (q.mendWord a).ecc } := by
  unfold Pane.mendWord
  split <;> rfl

theorem Pane.eccAt_mendWord (q : Pane) (w a : Nat) : (q.mendWord w).eccAt a =
    if q.eccAt a = .correctable ∧ w / 4 = a / 4 then .clean else q.eccAt a := by
  unfold Pane.mendWord
  by_cases hw : w / 4 = a / 4
  · have hmark : q.eccAt a = q.eccAt w := Pane.eccAt_congr hw.symm
    by_cases hce : q.eccAt w = .correctable <;> simp [hce, hmark, hw, Pane.eccAt_setEcc]
  · split <;> simp [hw, Pane.eccAt_setEcc, Ne.symm hw]

/-- The pane with its words `l` written back. -/
def Pane.mend (q : Pane) (l : List Nat) : Pane := l.foldl Pane.mendWord q

section
variable (q : Pane) (l : List Nat)

theorem Pane.mend_rest : q.mend l = { q with ecc := (q.mend l).ecc } := by
  induction l generalizing q with
  | nil => rfl
  | cons w l ih =>
    have hcons : q.mend (w :: l) = (q.mendWord w).mend l := rfl
    rw [hcons, ih, Pane.mendWord_rest]

/-- A single-bit error of a listed word is gone, and every other mark stays. -/
theorem Pane.eccAt_mend (a : Nat) : (q.mend l).eccAt a =
    if q.eccAt a = .correctable ∧ ∃ w ∈ l, w / 4 = a / 4 then .clean else q.eccAt a := by
  induction l generalizing q with
  | nil => simp [Pane.mend]
  | cons w l ih =>
    have hcons : q.mend (w :: l) = (q.mendWord w).mend l := rfl
    rw [hcons, ih, Pane.eccAt_mendWord]
    by_cases hw : w / 4 = a / 4 <;> by_cases hce : q.eccAt a = .correctable <;> simp [hw, hce]

end

theorem latchRewrites : Claims.latchRewrites := by
  intro s p q hstall
  have hexec : exec (.eccRewrite p) s = .next (s.setPane p.toNat { q.mend q.rewrite with rewrite := [] }) :=
    congrArg id (if_neg (by rw [hstall]; decide))
  refine ⟨_, hexec, OnlyPane.setPane _ _ _, ?_⟩
  rw [State.pane_setPane_self]
  have hmark (a : Nat) : Pane.eccAt { q.mend q.rewrite with rewrite := [] } a = (q.mend q.rewrite).eccAt a := rfl
  refine ⟨?_, rfl, fun a ha hce => ?_, fun a ha => ?_⟩
  · rw [Pane.mend_rest]
  · rw [hmark, Pane.eccAt_mend, if_pos ⟨hce, a, ha, rfl⟩]
  · rw [hmark, Pane.eccAt_mend, if_neg fun ⟨_, w, hw, heq⟩ => ha w hw heq]

/-! The walk (R171). -/

/-- The pane after its walk has moved on one word; a round that ends is counted. -/
def Pane.walks (q : Pane) : Pane :=
  let q1 : Pane := { q with scrubPos := (q.scrubPos + 1) % 16384 }
  if decide (q.scrubPos + 1 ≥ 16384) then q1.setCr 0x4C ((q1.cr 0x4C).withFld 16 16 (satAdd 16 ((q1.cr 0x4C).fld 16 16) 1)) else q1

theorem Pane.walks_rest (q : Pane) : q.walks = { q with scrubPos := (q.scrubPos + 1) % 16384, ctl := q.walks.ctl } := by
  unfold Pane.walks
  dsimp only
  split <;> rfl

theorem Pane.cr_walks (q : Pane) {a : Nat} (ha : a ≠ 0x4C) : q.walks.cr a = q.cr a := by
  unfold Pane.walks
  dsimp only
  split
  · exact (Pane.cr_setCr _ 0x4C a _).trans (if_neg ha.symm)
  · rfl

/-- The pane after a single-bit error at `a` is corrected and counted. -/
def Pane.scrubbed (q : Pane) (a : Nat) : Pane :=
  { (q.bump 0x40 16 1).setEcc a .clean with ceTotal := q.ceTotal + 1, rewrite := q.rewrite.erase a }

/-- The pane after an uncorrectable error is found at `a` by a read that is no fetch. -/
def Pane.condemned (q : Pane) (a : Nat) : Pane :=
  { (q.bump 0x44 16 1).setCr 0x48 (BitVec.ofNat 32 (a / 4 * 4 % 65536 + 0 + 2 ^ 31)) with faulty := 15, ueTotal := q.ueTotal + 1 }

theorem Pane.scrubbed_rest (q : Pane) (a : Nat) : q.scrubbed a = { q with
    ctl := (q.scrubbed a).ctl, ecc := (q.scrubbed a).ecc, ceTotal := q.ceTotal + 1, rewrite := q.rewrite.erase a } := by
  unfold Pane.scrubbed
  rw [Pane.setEcc_rest, Pane.bump_rest]

theorem Pane.condemned_rest (q : Pane) (a : Nat) : q.condemned a = { q with
    ctl := (q.condemned a).ctl, faulty := 15, ueTotal := q.ueTotal + 1 } := by
  unfold Pane.condemned
  rw [Pane.setCr_rest, Pane.bump_rest]

/-- A corrected word is clean, and counts in ECC_CE. -/
theorem Pane.eccAt_scrubbed (q : Pane) (a b : Nat) : (q.scrubbed a).eccAt b = if b / 4 = a / 4 then .clean else q.eccAt b :=
  Pane.eccAt_setEcc (q.bump 0x40 16 1) a b .clean

theorem Pane.cr_scrubbed (q : Pane) (a b : Nat) : (q.scrubbed a).cr b =
    if 0x40 = b then BitVec.ofNat 32 (satAdd 16 (q.cr 0x40).toNat 1) else q.cr b := q.cr_setCr 0x40 b _

theorem Pane.cr_with_fault (q : Pane) (f : BitVec 4) (u b : Nat) : Pane.cr { q with faulty := f, ueTotal := u } b = q.cr b := rfl

/-- An uncorrectable word counts in ECC_UE, and ECC_ADDR names it. -/
theorem Pane.cr_condemned (q : Pane) (a b : Nat) : (q.condemned a).cr b =
    if 0x48 = b then BitVec.ofNat 32 (a / 4 * 4 % 65536 + 0 + 2 ^ 31)
    else if 0x44 = b then BitVec.ofNat 32 (satAdd 16 (q.cr 0x44).toNat 1) else q.cr b := by
  rw [Pane.condemned, Pane.cr_with_fault, Pane.cr_setCr, Pane.bump, Pane.cr_setCr]

section
variable {s : State} {p : PaneNo} {q : Pane} (hq : s.pane p.toNat = q) (hup : s.paneUp p.toNat = true)
  (hen : (q.cr 0x4C).bit 0 = true) (hfree : q.phase = .stall ∨ q.hasTask = false)
include hq hup hen hfree

theorem execScrubWord_walks : execScrubWord p s = match q.eccAt (4 * q.scrubPos) with
    | .clean => .next (s.setPane p.toNat q.walks)
    | .correctable => .next ((s.setPane p.toNat (q.walks.scrubbed (4 * q.scrubPos))).paneEdge p.toNat 21)
    | .uncorrectable =>
      .next (((s.setPane p.toNat (q.walks.condemned (4 * q.scrubPos))).report (.sramUe p.toNat)).paneEdge p.toNat 22) := by
  subst hq
  have hgo : ¬ (!((s.pane p.toNat).cr 0x4C).bit 0 || !((s.pane p.toNat).phase == .stall || !(s.pane p.toNat).hasTask) ||
      !s.paneUp p.toNat) = true := by
    rcases hfree with h | h <;> simp [h, hup, hen]
  have hwalk : s.modPane p.toNat Pane.walks = s.setPane p.toNat (s.pane p.toNat).walks := rfl
  refine (if_neg hgo).trans ?_
  cases (s.pane p.toNat).eccAt (4 * (s.pane p.toNat).scrubPos) with
  | clean => rfl
  | correctable =>
    refine congrArg (fun t : State => Host.Outcome.next (t.paneEdge p.toNat 21)) ?_
    exact State.modPane_setPane s p.toNat _ (fun q => q.scrubbed _)
  | uncorrectable =>
    refine congrArg (fun t : State => Host.Outcome.next ((t.report (.sramUe p.toNat)).paneEdge p.toNat 22)) ?_
    exact State.modPane_setPane s p.toNat _ (fun q => q.condemned _)

end

theorem latchScrubs : Claims.latchScrubs := by
  intro s p q a hup hen hfree
  have hexec := execScrubWord_walks (s := s) (p := p) rfl hup hen hfree
  have hothers (r : Pane) (j : Nat) (hj : j ≠ p.toNat) : (s.setPane p.toNat r).pane j = s.pane j := State.pane_setPane_ne _ _ _ hj
  have hself (r : Pane) : (s.setPane p.toNat r).pane p.toNat = r := State.pane_setPane_self _ _ _
  have hecc (b : Nat) : q.walks.eccAt b = q.eccAt b := by rw [Pane.walks_rest]; rfl
  have hce : q.walks.cr 0x40 = q.cr 0x40 := q.cr_walks (by decide)
  have haddr : q.walks.cr 0x48 = q.cr 0x48 := q.cr_walks (by decide)
  rw [exec_scrubWord]
  cases hmark : q.eccAt a with
  | clean =>
    refine ⟨s.setPane p.toNat q.walks, by rw [hexec, hmark], ?_⟩
    rw [hself]
    refine ⟨?_, ?_, ?_, hothers _, (hecc a).trans hmark, fun b _ => hecc b, congrArg _ hce, haddr, (List.append_nil _).symm⟩ <;>
      rw [Pane.walks_rest]
  | correctable =>
    have hpane : ((s.setPane p.toNat (q.walks.scrubbed a)).paneEdge p.toNat 21).pane p.toNat = q.walks.scrubbed a := hself _
    refine ⟨_, by rw [hexec, hmark], ?_⟩
    rw [hpane]
    refine ⟨?_, ?_, ?_, hothers _, ?_, fun b hb => ?_, ?_, ?_, (List.append_nil _).symm⟩
    · rw [Pane.scrubbed_rest, Pane.walks_rest]
    · rw [Pane.scrubbed_rest, Pane.walks_rest]
    · rw [Pane.scrubbed_rest, Pane.walks_rest]
    · exact (Pane.eccAt_scrubbed _ a a).trans (if_pos rfl)
    · rw [Pane.eccAt_scrubbed, if_neg hb, hecc]
    · rw [Pane.cr_scrubbed, if_pos rfl, toNat_satAdd (by decide), hce]
      rfl
    · rw [Pane.cr_scrubbed, if_neg (by decide), haddr]
      rfl
  | uncorrectable =>
    have hpane : (((s.setPane p.toNat (q.walks.condemned a)).report (.sramUe p.toNat)).paneEdge p.toNat 22).pane p.toNat =
      q.walks.condemned a := hself _
    have hkeep (b : Nat) : (q.walks.condemned a).eccAt b = q.eccAt b := by
      rw [Pane.condemned_rest, Pane.walks_rest]
      rfl
    refine ⟨_, by rw [hexec, hmark], ?_⟩
    rw [hpane]
    refine ⟨?_, ?_, ?_, hothers _, (hkeep a).trans hmark, fun b _ => hkeep b, ?_, ?_, rfl⟩
    · rw [Pane.condemned_rest, Pane.walks_rest]
    · rw [Pane.condemned_rest, Pane.walks_rest]
    · rw [Pane.condemned_rest, Pane.walks_rest]
    · rw [Pane.cr_condemned, if_neg (by decide), if_neg (by decide), hce]
      rfl
    · rw [Pane.cr_condemned, if_pos rfl, Nat.add_zero, Nat.div_mul_cancel (Nat.dvd_mul_right 4 _)]
      rfl

/-- Settles O40: the walk of a latch and its rewrites leave marks, and no byte. -/
theorem latchesMendMemory : Obligations.LatchesMendMemory := ⟨latchScrubs, latchRewrites⟩

end Sys2Proof.Machine
end

section
/-!
PROOF. What the movers write and read before a late WAITT goes on: pane memory, its ECC marks and their counter (R168, R408, R411).
-/
namespace Sys2Proof.Machine

/-- The memory of a pane, its ECC marks and the count of its corrections may differ, and nothing else does. -/
structure Pane.Mends (q r : Pane) : Prop where
  rest : r = { q with sram := r.sram, ecc := r.ecc, rewrite := r.rewrite, ceTotal := r.ceTotal, ctl := r.ctl }
  cr : ∀ a, a ≠ 0x40 → r.cr a = q.cr a

section
variable {q r r' : Pane}

theorem Pane.Mends.refl (q : Pane) : q.Mends q := ⟨rfl, fun _ _ => rfl⟩

theorem Pane.Mends.trans (h : q.Mends r) (h' : r.Mends r') : q.Mends r' :=
  ⟨by rw [h'.rest, h.rest], fun a ha => (h'.cr a ha).trans (h.cr a ha)⟩

theorem Pane.Mends.cls (h : q.Mends r) : r.cls = q.cls := by
  rw [Pane.cls, Pane.hasTask, h.cr 0x100 (by decide)]
  rfl

/-- Phase and tag play no part in it. -/
theorem Pane.Mends.at (h : q.Mends r) (x : Phase) (n : Nat) :
    Pane.Mends { q with phase := x, tag := n } { r with phase := x, tag := n } :=
  ⟨by rw [h.rest], h.cr⟩

end

theorem Pane.countCe_mends (q : Pane) : q.Mends q.countCe :=
  ⟨(Pane.countCe_rest q 1).trans rfl, fun _ ha => Pane.cr_countCe_ne q 1 ha⟩

/-- Steps that set marks set no more than marks. -/
theorem foldl_ecc_rest {f : Pane → Nat → Pane} (hf : ∀ q w, f q w = { q with ecc := (f q w).ecc }) (l : List Nat) (q : Pane) :
    l.foldl f q = { q with ecc := (l.foldl f q).ecc } := by
  induction l generalizing q with
  | nil => rfl
  | cons w l ih => rw [List.foldl_cons, ih, hf q w]

/-- Written rows change memory and marks. -/
theorem Pane.writeRows_rest (rows : List (Nat × Nat)) (q : Pane) (l : List Byte) :
    q.writeRows l rows = { q with sram := (q.writeRows l rows).sram, ecc := (q.writeRows l rows).ecc } := by
  induction rows generalizing q l with
  | nil => rfl
  | cons row rows ih =>
    rw [Pane.writeRows, ih, foldl_ecc_rest fun q w => ?_]
    split_ifs <;> rfl

theorem Pane.writeRows_mends (q : Pane) (l : List Byte) (rows : List (Nat × Nat)) : q.Mends (q.writeRows l rows) := by
  have hrest := Pane.writeRows_rest rows q l
  exact ⟨by rw [hrest], fun a _ => by rw [hrest]; rfl⟩

/-- Movers move data of panes: memory, marks and counts, and no more. -/
structure MovesData (s t : State) : Prop where
  rest : t = { s with panes := t.panes, movers := t.movers, arrivals := t.arrivals }
  pane : ∀ p, (s.pane p).Mends (t.pane p)

section
variable {s t u : State}

theorem MovesData.refl (s : State) : MovesData s s := ⟨rfl, fun _ => .refl _⟩

theorem MovesData.trans (h : MovesData s t) (h' : MovesData t u) : MovesData s u :=
  ⟨by rw [h'.rest, h.rest], fun p => (h.pane p).trans (h'.pane p)⟩

theorem MovesData.foldl {α : Type} {f : State → α → State} (l : List α) (s : State) (h : ∀ t x, MovesData t (f t x)) :
    MovesData s (l.foldl f s) := by
  induction l generalizing s with
  | nil => exact .refl s
  | cons x l ih => exact (h s x).trans (ih _)

theorem MovesData.ite {c : Prop} [Decidable c] (h : MovesData s t) (h' : MovesData s u) : MovesData s (if c then t else u) := by
  split
  · exact h
  · exact h'

theorem MovesData.setPane (s : State) (p : Nat) {r : Pane} (h : (s.pane p).Mends r) : MovesData s (s.setPane p r) := by
  refine ⟨rfl, fun k => ?_⟩
  rw [State.pane_setPane]
  split
  next hk => exact hk ▸ h
  next => exact .refl _

theorem MovesData.tickStart (h : MovesData s t) (k n : Nat) : t.tickStart k n = s.tickStart k n := by
  have hreg : t.reg = s.reg := by rw [h.rest]
  rw [State.tickStart, State.tickStart, State.mult_of_reg hreg]

theorem MovesData.holdsClass (h : MovesData s t) (k : Nat) : t.holdsClass k = s.holdsClass k := by
  rw [h.rest]
  rfl

end

theorem State.setMover_moves (s : State) (b m : Nat) (x : Mover) : MovesData s (s.setMover b m x) := ⟨rfl, fun _ => .refl _⟩

theorem State.corrected_moves (s : State) (p : Nat) : MovesData s (s.corrected p) :=
  (MovesData.setPane s p (s.pane p).countCe_mends).trans ⟨rfl, fun _ => .refl _⟩

theorem State.correctRead_moves (s : State) (p a n : Nat) : MovesData s (s.correctRead p a n) :=
  .foldl _ s fun t _ => .ite ((t.corrected_moves p).trans (.setPane _ p ⟨rfl, fun _ _ => rfl⟩)) (.refl t)

theorem State.mvStageRead_moves (s : State) (b m : Nat) : MovesData s (s.mvStageRead b m) := by
  unfold State.mvStageRead
  dsimp only
  split
  · exact .refl s
  · split
    · exact .ite (.refl s) (.trans (.foldl _ s fun t (r : Nat × Nat) => t.correctRead_moves _ r.1 r.2) (State.setMover_moves _ b m _))
    · exact .refl s

theorem State.mvLand_moves (s : State) (b m : Nat) : MovesData s (s.mvLand b m) := by
  unfold State.mvLand
  dsimp only
  split
  · exact .refl s
  · exact .trans (.setPane s _ (Pane.writeRows_mends _ _ _)) (State.setMover_moves _ b m _)

theorem State.lateWrites_moves (s : State) (p : Nat) : MovesData s (s.lateWrites p) := by
  have hlate : MovesData s ((List.range 32).foldl (fun s k =>
      match (s.mover (k / 4) (k % 4)).staged with
      | some g => if g.ready && g.pane == p then s.mvLand (k / 4) (k % 4) else s
      | none => s) s) := by
    refine .foldl _ s fun t k => ?_
    split
    · exact .ite (t.mvLand_moves _ _) (.refl t)
    · exact .refl t
  unfold State.lateWrites
  dsimp only
  generalize List.foldl _ s _ = u at hlate ⊢
  have hstage := MovesData.foldl (List.range 32)
    (u.setPane p { u.pane p with phase := .stall, tag := u.tickStart (u.pane p).cls u.tick })
    fun t k => t.mvStageRead_moves (k / 4) (k % 4)
  generalize List.foldl _ _ _ = t at hstage ⊢
  refine hlate.trans ⟨by rw [hstage.rest]; rfl, fun k => ?_⟩
  have hpane := hstage.pane k
  rw [State.pane_setPane] at hpane
  rw [State.modPane, State.pane_setPane]
  split
  next hk =>
    subst hk
    rw [if_pos rfl] at hpane
    exact hpane.at (u.pane p).phase (u.pane p).tag
  next hk =>
    rwa [if_neg hk] at hpane

end Sys2Proof.Machine
end

section
/-!
PROOF. FENCE and WAITT retire when what they wait for holds, and wait until then (R63, R73, R75, R150, R156, R250).
-/
namespace Sys2Proof.Machine

open Sys2Proof (Instr)

/-! What the two wait for (R63, R156). -/

theorem Pane.drained_iff {q : Pane} : q.drained = true ↔ q.sb = [] ∧ ∀ r ∈ q.wreads, r.status ≠ .waiting := by
  rw [Pane.drained, Bool.and_eq_true, List.isEmpty_iff, List.all_eq_true]
  simp only [bne_iff_ne]

/-- A failed access is there in every phase, with the same trap. -/
theorem Pane.failure_with_phase (q : Pane) (x : Phase) :
    Pane.failure { q with phase := x } = q.failure.map fun f => (f.1, { f.2 with phase := x }) := by
  unfold Pane.failure
  dsimp only
  cases q.wreads.find? fun r => r.status != .waiting with
  | some r => rfl
  | none => cases q.wrefused <;> rfl

section
variable {s : State} {p : Nat} {q : Pane} (hq : s.pane p = q)
include hq

theorem State.poll_fence_waits (hphase : q.phase = .fence) (hd : ¬ q.drained = true) : s.poll p = s := by
  subst hq
  unfold State.poll
  dsimp only
  rw [hphase]
  exact if_pos (by simpa using hd)

theorem State.poll_fence_retires (hphase : q.phase = .fence) (hd : q.drained = true) (hfail : q.failure = none) :
    s.poll p = s.setPane p { q.retire with phase := .run } := by
  subst hq
  unfold State.poll
  dsimp only
  rw [hphase, hfail]
  exact if_neg (by simp [hd])

theorem State.poll_fence_fails (hphase : q.phase = .fence) (hd : q.drained = true) {t : Trap} {q1 : Pane}
    (hfail : q.failure = some (t, q1)) : s.poll p = (s.setPane p { q with phase := .run }).takeTrap p t := by
  subst hq
  unfold State.poll
  dsimp only
  rw [hphase, hfail]
  exact if_neg (by simp [hd])

theorem State.poll_waitt_waits (hphase : q.phase = .waitt ∨ q.phase = .waittIn) (hd : ¬ (q.drained = true ∧ q.unacked = [])) :
    s.poll p = s := by
  subst hq
  have hwaits : (!(s.pane p).drained || !(s.pane p).unacked.isEmpty) = true := by
    simpa only [Bool.or_eq_true, Bool.not_eq_true', ← Bool.not_eq_true, List.isEmpty_iff, Decidable.not_and_iff_or_not] using hd
  unfold State.poll
  dsimp only
  rcases hphase with hphase | hphase <;> rw [hphase] <;> exact if_pos hwaits

variable (hd : q.drained = true) (hacks : q.unacked = []) (hfail : q.failure = none)
include hd hacks hfail

theorem State.poll_waitt_retires (hphase : q.phase = .waitt) : s.poll p = s.retireWaitt p := by
  subst hq
  unfold State.poll
  dsimp only
  rw [hphase, hfail]
  exact if_neg (by simp [hd, hacks])

theorem State.poll_waittIn_retires (hphase : q.phase = .waittIn) : s.poll p = s.setPane p { q.retire with phase := .run } := by
  subst hq
  unfold State.poll
  dsimp only
  rw [hphase, hfail]
  exact if_neg (by simp [hd, hacks])

end

/-- An instruction that waited retires as it would have at once. -/
theorem Pane.retire_awoken {q : Pane} (h : q.phase = .run) (x : Phase) :
    { Pane.retire { q with phase := x } with phase := .run } = { q with pc := q.retire.pc, lc := q.retire.lc } := by
  obtain ⟨hpc, hlc⟩ := Pane.retire_congr (q := q) (r := { q with phase := x }) rfl rfl rfl rfl
  rw [Pane.retire_eq, hpc, hlc, ← h]

theorem State.phase_of_ready {s : State} {i : Instr} {p : PaneNo} {gd : BitVec 4} {srcs : List RegNo}
    (h : s.ready i p gd srcs = true) : (s.pane p.toNat).phase = .run := by
  have hissue := State.ready_canIssue h
  simp only [State.canIssue, Bool.and_eq_true, beq_iff_eq] at hissue
  exact hissue.1.1.1

theorem Pane.with_run {q : Pane} (h : q.phase = .run) : { q with phase := .run } = q := by rw [← h]

/-! FENCE (R150, R156). -/

theorem fenceWaits : Claims.fenceWaits := by
  intro s p gd q settled h
  have hrun : q.phase = .run := State.phase_of_ready h
  have hexec : exec (.fence p gd) s = .next ((s.setPane p.toNat { q with phase := .fence }).poll p.toNat) :=
    congrArg Host.Outcome.next (State.issue_ready h rfl)
  have hself := State.pane_setPane_self s p.toNat { q with phase := .fence }
  refine ⟨fun hd hfail => ?retires, fun hd => ?waits, fun hd tr q1 hfail => ?fails⟩
  case retires =>
    have hnone : Pane.failure { q with phase := .fence } = none := by rw [Pane.failure_with_phase, hfail]; rfl
    rw [hexec, State.poll_fence_retires hself rfl (Pane.drained_iff.mpr hd) hnone, State.setPane_setPane, Pane.retire_awoken hrun]
    exact ⟨_, rfl, OnlyPane.setPane _ _ _, State.pane_setPane_self _ _ _⟩
  case waits =>
    rw [hexec, State.poll_fence_waits hself rfl (fun hd' => hd (Pane.drained_iff.mp hd'))]
    exact ⟨_, rfl, OnlyPane.setPane _ _ _, hself⟩
  case fails =>
    have hsome : Pane.failure { q with phase := .fence } = some (tr, { q1 with phase := .fence }) := by
      rw [Pane.failure_with_phase, hfail]
      rfl
    rw [hexec, State.poll_fence_fails hself rfl (Pane.drained_iff.mpr hd) hsome, State.setPane_setPane]
    exact ⟨_, rfl, OnlyPane.setPane _ _ _, (State.pane_setPane_self _ _ _).trans (Pane.with_run hrun)⟩

/-! The tag moves, and the slack is taken (R73, R75, R108). -/

theorem foldl_ctl_rest {f : Pane → Nat → Pane} (hf : ∀ q n, f q n = { q with ctl := (f q n).ctl }) (l : List Nat) (q : Pane) :
    l.foldl f q = { q with ctl := (l.foldl f q).ctl } := by
  induction l generalizing q with
  | nil => rfl
  | cons n l ih => rw [List.foldl_cons, ih, hf q n]

section
variable (s : State) (q : Pane) (old new : Nat)

theorem State.clearUsed_rest : s.clearUsed q old new = { q with ctl := (s.clearUsed q old new).ctl } := by
  refine foldl_ctl_rest (fun r n => ?_) _ q
  dsimp only
  split
  · rfl
  · exact r.setCr_rest _ _

theorem State.moveTag_rest : s.moveTag q new = { q with tag := new, ctl := (s.moveTag q new).ctl } := by
  unfold State.moveTag
  rw [State.clearUsed_rest]

end

section
variable (q : Pane)

theorem Pane.takeSlack_rest (v : Int) : q.takeSlack v = { q with ctl := (q.takeSlack v).ctl } := by
  unfold Pane.takeSlack
  dsimp only
  split
  · rw [Pane.setCr_rest, Pane.setCr_rest q]
  · exact q.setCr_rest _ _

theorem Pane.cr_takeSlack (v : Int) : (q.takeSlack v).cr 0x104 = satInt32 v := by
  unfold Pane.takeSlack
  dsimp only
  split
  · rw [Pane.cr_setCr, if_neg (by decide), Pane.cr_setCr, if_pos rfl]
  · rw [Pane.cr_setCr, if_pos rfl]

theorem Pane.lateSlack_none {q : Pane} (h : q.overClose = none) (n : Nat) : q.lateSlack n = q := by
  rw [Pane.lateSlack, h]

theorem Pane.lateSlack_rest (n : Nat) : q.lateSlack n = { q with overClose := none, ctl := (q.lateSlack n).ctl } := by
  cases h : q.overClose with
  | none => rw [Pane.lateSlack_none h, ← h]
  | some c =>
    rw [Pane.lateSlack, h]
    exact Pane.takeSlack_rest _ _

theorem Pane.cr_lateSlack {q : Pane} {c : Nat} (h : q.overClose = some c) (n : Nat) :
    (q.lateSlack n).cr 0x104 = satInt32 (-(max 2 ((n - c) / 2 * 2) : Nat)) := by
  rw [Pane.lateSlack, h]
  exact Pane.cr_takeSlack _ _

end

/-! WAITT (R63, R73, R75, R250). -/

section
variable {s : State} {p : Nat} {q : Pane} (hq : s.pane p = q)
include hq

/-- In time, the tag moves to the next tick and the pane stalls. -/
theorem State.retireWaitt_timely (hcur : s.tickStart q.cls s.tick = q.tag) (hover : q.overClose = none) :
    s.retireWaitt p = s.setPane p { s.moveTag q.retire (q.tag + s.mult q.cls) with
      phase := .stall, awaits := true, retireT := s.now } := by
  subst hq
  have hlate : ¬ (decide ((s.pane p).tag < s.tickStart (s.pane p).cls s.tick) && !s.holdsClass (s.pane p).cls) = true := by
    simp [hcur]
  unfold State.retireWaitt
  dsimp only
  rw [if_neg hlate, ← hcur]
  refine (if_pos (Or.inl hcur.le)).trans ?_
  rw [Pane.lateSlack_none]
  · rfl
  · rw [State.moveTag_rest]
    exact hover

/-- After an overrun, the late data moves first; then the task goes on in the tick that has started. -/
theorem State.retireWaitt_late {cur : Nat} (hcur : s.tickStart q.cls s.tick = cur) (htag : q.tag < cur) (hholds : s.holdsClass q.cls = false) :
    ∃ (t : State) (r : Pane), q.Mends r ∧ s.retireWaitt p = t.setPane p
      { (t.moveTag r.retire cur).lateSlack s.now with phase := .run, tks := s.stamps.getD q.cls 0 } := by
  subst hq hcur
  have hlate : (decide ((s.pane p).tag < s.tickStart (s.pane p).cls s.tick) && !s.holdsClass (s.pane p).cls) = true := by
    simp [htag, hholds]
  have hmoves := s.lateWrites_moves p
  unfold State.retireWaitt
  dsimp only
  rw [if_pos hlate]
  generalize s.lateWrites p = t at hmoves ⊢
  have hmends := hmoves.pane p
  have hcls : (t.pane p).retire.cls = (s.pane p).cls := hmends.cls
  have htick : t.tick = s.tick := by rw [hmoves.rest]
  have hnow : t.now = s.now := by rw [hmoves.rest]
  have hstamps : t.stamps = s.stamps := by rw [hmoves.rest]
  have htag' : (t.pane p).retire.tag = (s.pane p).tag := by
    rw [Pane.retire_eq, hmends.rest]
  refine ⟨t, t.pane p, hmends, ?_⟩
  rw [hcls, htick, hmoves.tickStart, hmoves.holdsClass, htag', hnow, hstamps, hholds]
  exact if_neg (by simpa using htag)

end

theorem waittRetires : Claims.waittRetires := by
  intro s p gd k q cur settled h
  have hrun : q.phase = .run := State.phase_of_ready h
  generalize hx : (if q.awaits then Phase.waittIn else Phase.waitt) = x
  have hexec : exec (.waitt p gd k) s = .next (((s.at k).setPane p.toNat { q with phase := x }).poll p.toNat) := by
    rw [← hx]
    exact congrArg Host.Outcome.next (State.issue_ready h rfl)
  have hself := State.pane_setPane_self (s.at k) p.toNat { q with phase := x }
  have hothers (r : Pane) (j : Nat) (hj : j ≠ p.toNat) : ((s.at k).setPane p.toNat r).pane j = s.pane j :=
    State.pane_setPane_ne _ _ _ hj
  have hfailure : q.failure = none → Pane.failure { q with phase := x } = none := fun hfail => by
    rw [Pane.failure_with_phase, hfail]
    rfl
  have hdrained : settled ↔ Pane.drained { q with phase := x } = true ∧ q.unacked = [] := by
    rw [Pane.drained_iff, and_assoc]
  have hmult (j : Nat) : ((s.at k).setPane p.toNat { q with phase := x }).mult j = s.mult j := 
    State.mult_of_reg (s := s) (t := (s.at k).setPane p.toNat _) rfl j
  have hcur : ((s.at k).setPane p.toNat { q with phase := x }).tickStart q.cls s.tick = cur := by
    rw [State.tickStart, hmult]
    rfl
  rw [hexec]
  refine ⟨fun hset hfail hawaits htag hover => ?timely, fun hset hfail hawaits => ?inHandler,
    fun hset hfail hawaits htag hholds => ?late, fun hset => ?waits⟩
  case timely =>
    obtain ⟨hd, hacks⟩ := hdrained.mp hset
    have hphase : x = .waitt := by rw [← hx, hawaits]; rfl
    rw [State.poll_waitt_retires hself hd hacks (hfailure hfail) hphase, State.retireWaitt_timely hself (hcur.trans htag.symm) hover,
      State.setPane_setPane]
    refine ⟨_, rfl, rfl, ?_⟩
    obtain ⟨hpc, hlc⟩ := Pane.retire_congr (q := q) (r := { q with phase := x }) rfl rfl rfl rfl
    rw [State.pane_setPane_self, State.moveTag_rest, Pane.retire_eq, hpc, hlc]
    exact ⟨congrArg₂ (· + ·) htag (hmult q.cls), rfl, rfl, rfl, rfl, rfl, rfl, hothers _⟩
  case inHandler =>
    obtain ⟨hd, hacks⟩ := hdrained.mp hset
    have hphase : x = .waittIn := by rw [← hx, hawaits]; rfl
    rw [State.poll_waittIn_retires hself hd hacks (hfailure hfail) hphase, State.setPane_setPane, Pane.retire_awoken hrun]
    exact ⟨_, rfl, rfl, State.pane_setPane_self _ _ _, hothers _⟩
  case late =>
    obtain ⟨hd, hacks⟩ := hdrained.mp hset
    have hphase : x = .waitt := by rw [← hx, hawaits]; rfl
    obtain ⟨t, r, hmends, hretires⟩ := State.retireWaitt_late hself hcur htag hholds
    rw [State.poll_waitt_retires hself hd hacks (hfailure hfail) hphase, hretires]
    refine ⟨_, rfl, ?_⟩
    rw [State.pane_setPane_self]
    refine ⟨?_, rfl, rfl, ?_, fun c hc => ?_⟩
    · rw [Pane.lateSlack_rest, State.moveTag_rest]
    · rw [Pane.lateSlack_rest]
    · have hover : (t.moveTag r.retire cur).overClose = some c := by
        rw [State.moveTag_rest, Pane.retire_eq, hmends.rest]
        exact hc
      exact Pane.cr_lateSlack hover _
  case waits =>
    have hphase : x = .waitt ∨ x = .waittIn := by
      rw [← hx]
      cases q.awaits
      · exact .inl rfl
      · exact .inr rfl
    rw [State.poll_waitt_waits hself hphase (mt hdrained.mpr hset)]
    exact ⟨_, rfl, rfl, hself, hothers _⟩

/-- Settles O26: both instructions wait in a phase of their own, and `State.poll` retires them. -/
theorem fenceAndWaittRetire : Obligations.FenceAndWaittRetire := ⟨fenceWaits, waittRetires⟩

end Sys2Proof.Machine
end
